-- ==== Sys2Proof/Word.lean ====
section
/-! DEFINITION. Word types and the plain data containers that the state uses. -/

namespace Sys2Proof

/-- One byte. -/
abbrev Byte := BitVec 8
/-- A register or a register field container (R7). -/
abbrev Word64 := BitVec 64
/-- A lane word of the vector engine, an instruction word of the scalar processor. -/
abbrev Word32 := BitVec 32

/-- A sparse table: key and value pairs, looked up by the first match. -/
abbrev Tbl (α : Type) := List (Nat × α)

/-- The entry of a table at a key, or the default where the table lists none. -/
def tget {α : Type} (d : α) : Tbl α → Nat → α
  | [], _ => d
  | (k', v) :: t, k => if k' = k then v else tget d t k

/-- A table with the entry at a key replaced or inserted in rising order of the keys. -/
def tput {α : Type} (k : Nat) (v : α) : Tbl α → Tbl α
  | [] => [(k, v)]
  | (k', v') :: t =>
    if k < k' then (k, v) :: (k', v') :: t
    else if k' = k then (k, v) :: t
    else (k', v') :: tput k v t

/-- A table without its entries at a key. -/
def tdel {α : Type} (k : Nat) : Tbl α → Tbl α
  | [] => []
  | (k', v') :: t => if k' = k then tdel k t else (k', v') :: tdel k t

/-- A table with the entry at a key changed. -/
def tmod {α : Type} (d : α) (k : Nat) (f : α → α) (t : Tbl α) : Tbl α := tput k (f (tget d t k)) t

/-- The numbers `a`, `a + 1`, … below `a + n`. -/
def upTo (a : Nat) : Nat → List Nat
  | 0 => []
  | n + 1 => a :: upTo (a + 1) n

/-- A list with each element changed by a function of its position, counted from `k`. -/
def mapFrom {α β : Type} (k : Nat) (f : Nat → α → β) : List α → List β
  | [] => []
  | x :: xs => f k x :: mapFrom (k + 1) f xs

/-- A list with the element at a position replaced. -/
def setAt {α : Type} : List α → Nat → α → List α
  | [], _, _ => []
  | _ :: xs, 0, v => v :: xs
  | x :: xs, n + 1, v => x :: setAt xs n v

/-- The number of bits of a natural number: 0 for 0, otherwise floor(log2 n) + 1. -/
def bitLen (n : Nat) : Nat := if n = 0 then 0 else n.log2 + 1

/-- Little-endian bytes of a number (R7). -/
def leBytes (x : Nat) : Nat → List Byte
  | 0 => []
  | n + 1 => BitVec.ofNat 8 x :: leBytes (x / 256) n

/-- The number that little-endian bytes hold (R7). -/
def leNat : List Byte → Nat
  | [] => 0
  | b :: bs => b.toNat + 256 * leNat bs

/-- Bits `[lo + w - 1 : lo]` of a number. -/
def bitsOf (x lo w : Nat) : Nat := (x >>> lo) % 2 ^ w

/-- A number read as `w`-bit two's complement. -/
def signedOf (w x : Nat) : Int := if x % 2 ^ w < 2 ^ (w - 1) then (x % 2 ^ w : Nat) else (x % 2 ^ w : Nat) - (2 ^ w : Nat)

/-- The bits that hold an integer in `w`-bit two's complement. -/
def unsignedOf (w : Nat) (x : Int) : Nat := (x % (2 ^ w : Nat)).toNat

end Sys2Proof
end

