-- ==== Sys2Proof/Syntax.lean ====
section
/-! DEFINITION. The commands of the module, one constructor for each row of spec/opcode_table.json, and their operands.
No row of the table gives fields or bits; each operand is what the rule of the row lets its sender choose or its
environment decide. -/

namespace Sys2Proof

/-- A logical core, 0 to 63 (R17). -/
abbrev CoreId := Fin 64
/-- A compute die, 0 to 3 (R14). -/
abbrev DieId := Fin 4
/-- A clock island (R21): 0 to 67 the physical cores, 68 to 89 the network segments (die d segment s at 68 + 5d + s, the
I/O dies at 88 and 89), 90 to 105 the memory groups, 106 to 117 the ports, 118 and 119 the control-processor pairs, 120
the always-on island (log 11). -/
abbrev IslandId := Fin 121
/-- A Bilpo port, 5 to 11 of R16, counted from port 5. -/
abbrev BilpoPort := Fin 7

/-- What a read of protected storage finds (R129, R203): the environment's fact about the cells (log 8). -/
inductive Ecc where
  | ok        -- no error
  | single    -- one correctable error
  | double    -- an uncorrectable error
  | parity    -- a parity error in a word of the array (R99), elsewhere as `ok`
  /-- Errors in symbols of a stacked-memory codeword, numbered as they are sent, data byte 0 first (R202, R203); elsewhere as
  `ok`. -/
  | symbols (p : List (Fin 68 × BitVec 8))
  deriving DecidableEq, Repr

/-- What holds an engine or a transfer back in a core cycle, beside what the model's state shows: the environment's fact
(R24, R125, R158, R260, R385; log 29). -/
inductive Hold where
  | none      -- nothing
  | bank      -- a tile-memory bank served another requester
  | fabric    -- a fabric credit or a full crossing toward a fabric port
  | far       -- a far-tier read that has not answered, or a full crossing toward the far tier
  | ramp      -- the bundle period of a LOADSTEP ramp (R385)
  deriving DecidableEq, Repr

/-- An engine of a core. -/
inductive Eng where
  | ope | ve | mov
  deriving DecidableEq, Repr

/-- The registers of the register maps, by the manual's names; the two words of a 128-bit register have two names, and a
layout shared by several registers has one name for each. -/
inductive RegName where
  | CP_CORE_REMAP | OPE_NUM_CTRL | OPE_NUM_FLAGS | OPE_NUM_STATE | OPE_CTRL | OPE_STATUS
  | OPE_FAULT | OPE_THROTTLE | OPE_CPL_BASE | OPE_SAVE_BASE | OPE_RING | OPE_RING_SCALE
  | OPE_DRAIN | OPE_DRAIN_EXT | OPE_SUMM | VE_CTRL | VE_STATUS | VE_FAULT
  | VE_NUM_FLAGS | VE_PARAM | OPE_STALL | VE_STALL | MOV_STALL | TM_STALL_CTRL
  | MOV_CTRL | MOV_HOLD | MOV_LATE_BUDGET | MOV_Q_BASE | MOV_Q_CFG | MOV_Q_TAIL
  | MOV_Q_HEAD | MOV_Q_ERR | MOV_Q_CANCEL | MOV_Q_CANCEL_TOK | TM_ECC_STATUS | TM_ECC_ADDR
  | PUR_CORE_CFG | PUR_CORE_STATUS | PUR_DIE_CFG | PUR_DIE_STATUS | OPE_PC | VE_PC
  | OPE_PC_END | VE_PC_END | OPE_STREAM | VE_STREAM | VE_GUARD | OPE_LOOPCNT
  | VE_LOOPCNT | OPE_LOOP | VE_LOOP | OPE_LOOP_END | VE_LOOP_END | TOK_CNT_CORE
  | TOK_CNT_CLUSTER | TOK_CNT_REGION | TOK_CNT_DIE | TOK_CNT_MODULE | TOK_SIG_CORE | TOK_SIG_CLUSTER
  | TOK_SIG_REGION | TOK_SIG_DIE | TOK_SIG_MODULE | MOV_CANCEL | HBM_PMAP | HBM_CH_STATE
  | HBM_ARB | HBM_SPARE_STATUS | MSC_CTRL | MSC_STATS | WIN_CTRL | WIN_SCHED
  | WIN_WINDOW | WIN_STATUS | WIN_STEP | WIN_CANCEL | WIN_SLOT_STATUS | WIN_REPLICA
  | WIN_REPLICA_SIZE | WIN_REPLICA_ALT | LNK_CTRL | LNK_STATUS | LNK_CAP | LNK_PEER_CAP
  | LNK_ERR | LNK_HB | LNK_CREDIT | LNK_LANE | LNK_LEVEL | LNK_LEVEL_STEP
  | LNK_ROUTE | LNK_RXWIN | LNK_RXWIN_SIZE | PCI_STATUS | PCI_HOST_WIN | PCI_REG_APERTURE
  | PCI_APERTURE | CXL_STATUS | CXL_CTRL | CXL_ERR | CXL_HDM | CXL_HDM_TGT
  | PCI_MBX_SQ_TAIL | PCI_MBX_SQ_HEAD | PCI_MBX_CQ_BASE | PCI_MBX_CQ_CFG | PCI_MBX_CQ_HEAD | PCI_MBX_EV_BASE
  | PCI_MBX_EV_CFG | PCI_MBX_EV_HEAD | PCI_MBX_EV_STATUS | PCI_MBX_GLOBAL | CP_PAIR_STATUS | CP_SNAPSHOT_STATUS
  | CP_SNAPSHOT_STEP | RST_STATUS | RST_BLOCK | RST_WDOG | RST_FAILOVER | ICU_SRC
  | ICU_CORE_SRC | ICU_GROUP | ICU_GROUP_SCALAR | ICU_PEND | ICU_FW_SET | ICU_ALARM
  | ICU_ALARM_CTL | ICU_THRESHOLD | ICU_CP_THRESHOLD | ICU_CLAIM | ICU_CP_CLAIM | ICU_COMPLETE
  | ICU_CP_COMPLETE | ICU_STATUS | ICU_CP_STATUS | PWR_STATUS | PWR_CTRL | PWR_EXCURSION
  | PWR_TEMP
  deriving DecidableEq, Repr
/-- One register of the register maps: its name, the unit of its window (core, die, port), and its two indices. -/
structure Reg where
  name : RegName
  u : Nat
  i : Nat
  j : Nat
  deriving DecidableEq, Repr

/-- Who makes an access (R205, R285). -/
inductive Requester where
  | move (n : CoreId) (q : Fin 8)
  | scalar (n : CoreId)
  | streamer (d : DieId)
  | host
  | port (p : BilpoPort)
  | firmware
  deriving DecidableEq, Repr

/-- A token of one of the five scopes (R176): the scope, its unit, and the token of the unit. -/
structure Tok where
  scope : Fin 5
  unit : Nat
  k : Nat
  deriving DecidableEq, Repr

/-- A source operand of a vector operation: a vector register or a broadcast parameter register (R109, R167). -/
inductive Src where
  | v (r : Fin 64)
  | s (k : Fin 16)
  deriving DecidableEq, Repr

/-- The operands of a CVT (R168): conversion codes 0 FP32, 1 BF16, 2 FP16, 3 E4M3, 4 E5M2, 5 INT8. -/
structure Conv where
  src : Fin 6
  dst : Fin 6
  sat : Bool
  stoch : Bool
  pos : Fin 4
  deriving DecidableEq, Repr

/-- The operands of a W2F (R169). -/
structure WConv where
  bf16 : Bool
  stoch : Bool
  sat : Bool
  pos : Fin 2
  deriving DecidableEq, Repr

/-- The comparison conditions. -/
inductive Cond where
  | eq | ne | lt | le | gt | ge
  deriving DecidableEq, Repr

/-- The causes of a scalar trap (R173). -/
inductive TrapCause where
  | fetchMisaligned | fetchFault | illegal | breakpoint | loadMisaligned | loadFault | storeMisaligned | storeFault
  | ecall | external
  deriving DecidableEq, Repr

/-- A request to a pseudo-channel (R205, R208, R210): its class, its first address within a 64-byte burst, the bytes of a
write, its cache hint (0 STREAM, 1 KEEP, 2 LAST) and its requester. -/
structure HReq where
  cls : Fin 3
  addr : BitVec 41
  write : Option (List (BitVec 8))
  hint : Fin 3
  who : Requester
  deriving DecidableEq, Repr

/-- A reduction part (R235): the bucket, the tree node of its shard, and either nothing or a count and its elements, an
FP32 element in the low 32 bits; with the epoch and run number of its tag (R327). -/
structure Part where
  bucket : BitVec 12
  shard : BitVec 12
  lo : BitVec 13
  hi : BitVec 13
  epoch : BitVec 32
  run : BitVec 16
  empty : Bool
  count : BitVec 32
  vals : List (BitVec 96)
  deriving DecidableEq, Repr

/-- The step commit record (R239). -/
structure CommitRec where
  step : BitVec 64
  epoch : BitVec 32
  membersM1 : BitVec 12
  level : BitVec 16
  buckets : BitVec 16
  leader : BitVec 16
  refTime : BitVec 64
  digest : BitVec 256
  deriving DecidableEq, Repr

/-- A capability flit (R250). -/
structure Cap where
  id : BitVec 16
  port : BitVec 4
  pairing : Bool
  protoMin : BitVec 8
  protoMax : BitVec 8
  feed : BitVec 16
  levelMask : BitVec 16
  levelNow : BitVec 16
  levelNext : BitVec 16
  switchStep : BitVec 64
  epoch : BitVec 32
  deriving DecidableEq, Repr

/-- A codeword that carries bits of a flit: its symbols in error on each lane, and whether it was counted with an earlier flit
(R243, R244). -/
structure CodeRead where
  wrong : List (BitVec 10)
  again : Bool
  deriving DecidableEq, Repr

/-- A flit as the receiver of a port finds it: the codewords that carry it, and its 528 bytes as decoded and descrambled (R243 to
R245). -/
structure Flit where
  codes : List CodeRead
  bytes : List (BitVec 8)
  deriving DecidableEq, Repr

/-- The fields of a heartbeat (R252). -/
structure Heartbeat where
  counter : BitVec 32
  id : BitVec 16
  epoch : BitVec 32
  levelNow : BitVec 16
  levelNext : BitVec 16
  switchStep : BitVec 64
  deriving DecidableEq, Repr

/-- A LINK_CTRL flit as the receiver of a port finds it (R247): the codewords that carry it, whether it passed the CRC, its
cumulative credit returns for each class and sub-channel (class c, sub-channel s at 2c + s), an optional NAK and an optional
heartbeat. -/
structure LinkCtrl where
  codes : List CodeRead
  ok : Bool
  ack : BitVec 12
  credits : List (BitVec 16)
  nak : Option (BitVec 12)
  hb : Option Heartbeat
  deriving DecidableEq, Repr

/-- The escalations of R249; a run of replays names the lane that carried at least half of the corrected symbols. -/
inductive LaneFault where
  | replays (lane : Option (Fin 8))
  | lockLost (lane : Fin 8)
  | symbols (lane : Fin 8)
  deriving DecidableEq, Repr

/-- A message header (R256) with the class, sub-channel, source and destination of its flits (R245). -/
structure MsgHdr where
  op : BitVec 4
  status : BitVec 4
  wantComplete : Bool
  rsv9 : BitVec 7
  level : BitVec 16
  length : BitVec 32
  addr : BitVec 52
  rsv116 : BitVec 12
  step : BitVec 64
  tag : BitVec 32
  target : BitVec 16
  count : BitVec 16
  cls : Fin 3
  sub : Bool
  src : BitVec 16
  dest : BitVec 16
  deriving DecidableEq, Repr

/-- A host access through BAR2 (R270, R277): a read of some bytes with what the memory's code finds, or a write that may
carry EP. -/
inductive HostAcc where
  | read (len : BitVec 13) (e : Ecc)
  | write (bytes : List (BitVec 8)) (ep : Bool)
  deriving DecidableEq, Repr

/-- A host access of BAR0 (R269, R271): its bytes, a written value, and what hardware sets in the same cycle:
for a read the new values of RC fields, for a write the bits set (R10). -/
structure ApAcc where
  size : BitVec 4
  write : Option (BitVec 64)
  hw : BitVec 64
  deriving DecidableEq, Repr

/-- The completions of R274. -/
inductive HostCpl where
  | ok | poisoned | unsupported | abort
  deriving DecidableEq, Repr

/-- What training finds on a CXL port (R281): the device type, 256-byte flits at 64 GT/s, the width in lanes, the switch
levels, and the capacity in GiB. -/
structure CxlDev where
  type : BitVec 2
  flit256 : Bool
  width : BitVec 5
  switches : BitVec 2
  capacity : BitVec 32
  deriving DecidableEq, Repr

/-- What the host reads from the function's configuration space, by the items of R268 (R270, R274, R278, R279). -/
inductive CfgField where
  | headerType | classCode | sriov | ats | pasid | pri | mpsSupported | mps | mrrs | tagBits | msixVectors | msixEnable | msixMask | msi | intx
  | ptm | ptmEnable | noSoftReset | powerState | aspmL1 | l1pm | l0p | flr | bar0 | bar2 | bar2Sizes | bar2Size | busMaster | cplTimeout
  | cplRanges | cplDisable | aerStatus | aerMask | aerSeverity | aerCorMask
  deriving DecidableEq, Repr

/-- A host access of the function's configuration space (R268, R275, R278, R279), or a write to the MSI-X table beside it in BAR0. -/
inductive CfgWrite where
  | busMaster (on : Bool)
  | d3hot (on : Bool)
  | ptmEnable (on : Bool)
  | cplTimeout (code : BitVec 4)
  | bar0 (base : BitVec 64)
  | bar2 (base : BitVec 64)
  | bar2Size (code : Fin 12)
  | msixEnable (on mask : Bool)
  | msixEntry (v : Fin 64) (addr : BitVec 64) (data : BitVec 32) (mask : Bool)
  | payload (mps mrrs : BitVec 3)
  | aerClear (v : BitVec 32)
  | aerMask (v : BitVec 32)
  | aerSeverity (v : BitVec 32)
  | aerCorMask (v : BitVec 32)
  | read (f : CfgField)
  deriving DecidableEq, Repr

/-- The frost causes 0x01 to 0x09 (R341). -/
inductive FrostCause where
  | criticalState | lockstep | fuseMap | optionArea | supply | junction | regulator | containment | hostEnter
  deriving DecidableEq, Repr

/-- The entries of the release sequence from cycle 10,240 on (R354). -/
inductive Domain where
  | pins | control | hostPort | ioDies
  | memory (stack : Fin 16)
  | die (d : Fin 4)
  | core (p : Fin 68)
  | ports | complete
  deriving DecidableEq, Repr

/-- What the power controller measures and chooses with a sensor reading: the input power and current, and the step period
that each of the causes 2, 3, 4 and 6 needs, 0 or 1 for none (R386). -/
structure Periods where
  watts : BitVec 16
  amps : BitVec 16
  sustained : Fin 17
  peak : Fin 17
  supply : Fin 17
  ramp : Fin 17
  deriving DecidableEq, Repr
/-- The commands of the block: one constructor for each row of spec/opcode_table.json. -/
inductive Instr where
  /-- REGISTER_WRITE (R9): the value, and the bits that hardware sets in the same cycle (R10). -/
  | registerWrite (r : Reg) (v hw : BitVec 64)
  /-- REGISTER_READ_CLEAR (R9): for RC fields that hardware sets in the same cycle, their new values (R10). -/
  | registerReadClear (r : Reg) (hw : BitVec 64)
  /-- DECODE_ERROR_ACCESS (R30). -/
  | decodeErrorAccess (q : Requester) (a : BitVec 52) (write : Bool)
  /-- UNAVAILABLE_TARGET_ACCESS (R20). -/
  | unavailableTargetAccess (q : Requester) (n : CoreId) (write : Bool)
  /-- CROSSING_ENTRY_ARRIVE (R23). -/
  | crossingEntryArrive (src dst : IslandId)
  /-- OPE_NOP (R165). -/
  | opeNop (n : CoreId)
  /-- PASS (R74). -/
  | pass (n : CoreId)
  /-- STEP_ISSUE (R63): what its reads find, and whether one of its lines lost a bank conflict (R127). -/
  | stepIssue (n : CoreId) (e : Ecc) (lost : Bool)
  /-- SPILL (R80). -/
  | spill (n : CoreId)
  /-- DRAIN (R86): what the bias reads of a spill made with it find (R79). -/
  | drain (n : CoreId) (e : Ecc)
  /-- CELLWISE (R87). -/
  | cellwise (n : CoreId)
  /-- CELLWISE_START (R88). -/
  | cellwiseStart (n : CoreId) (e : Ecc)
  /-- CELLWISE_COMPLETE (R88). -/
  | cellwiseComplete (n : CoreId)
  /-- TILE_COPY (R81). -/
  | tileCopy (n : CoreId)
  /-- DRAIN_ROW (R82). -/
  | drainRow (n : CoreId) (e : Ecc)
  /-- SHADOW_RELEASE (R83). -/
  | shadowRelease (n : CoreId)
  /-- DRAIN_COMPLETE (R82). -/
  | drainComplete (n : CoreId)
  /-- SUSPEND (R90). -/
  | suspend (n : CoreId)
  /-- SUSPEND_REQ (R90). -/
  | suspendReq (n : CoreId)
  /-- SUSPEND_TAKE_EFFECT (R90). -/
  | suspendTakeEffect (n : CoreId)
  /-- SAVE_COMPLETE (R91): the bank conflicts the save lost. -/
  | saveComplete (n : CoreId) (lost : BitVec 8)
  /-- RESUME (R93). -/
  | resume (n : CoreId)
  /-- RESUME_REQ (R93). -/
  | resumeReq (n : CoreId)
  /-- RESUME_START (R93). -/
  | resumeStart (n : CoreId)
  /-- REPLAY_BEGIN (R93): the bank conflicts the restore lost. -/
  | replayBegin (n : CoreId) (lost : BitVec 8)
  /-- OPE_DUMP (R96). -/
  | opeDump (n : CoreId)
  /-- OPE_FAULT_CLEAR (R96). -/
  | opeFaultClear (n : CoreId)
  /-- COMPLETION_RECORD_WRITE (R97). -/
  | completionRecordWrite (n : CoreId)
  /-- OPE_LOOP (R182). -/
  | opeLoop (n : CoreId)
  /-- OPE_ENDLOOP (R182). -/
  | opeEndloop (n : CoreId)
  /-- OPE_WAITTOK (R165). -/
  | opeWaittok (n : CoreId)
  /-- OPE_SIGTOK (R181). -/
  | opeSigtok (n : CoreId)
  /-- SIGTOK_PENDING_FIRE (R181). -/
  | sigtokPendingFire (n : CoreId)
  /-- VE_BUNDLE_ISSUE (R103): what holds the engine back in this cycle. -/
  | veBundleIssue (n : CoreId) (h : Hold)
  /-- VE_RESULT_WRITEBACK (R105): what the read of a word written in part finds (R129). -/
  | veResultWriteback (n : CoreId) (e : Ecc) (h : Hold)
  /-- FADD (R110). -/
  | fadd (n : CoreId) (pred : Fin 8) (vd : Fin 64) (va vb : Src)
  /-- FSUB (R110). -/
  | fsub (n : CoreId) (pred : Fin 8) (vd : Fin 64) (va vb : Src)
  /-- FMUL (R110). -/
  | fmul (n : CoreId) (pred : Fin 8) (vd : Fin 64) (va vb : Src)
  /-- FFMA (R109). -/
  | ffma (n : CoreId) (pred : Fin 8) (vd : Fin 64) (va vb vc : Src)
  /-- FMIN (R109). -/
  | fmin (n : CoreId) (pred : Fin 8) (vd : Fin 64) (va vb : Src)
  /-- FMAX (R109). -/
  | fmax (n : CoreId) (pred : Fin 8) (vd : Fin 64) (va vb : Src)
  /-- BADD (R109). -/
  | badd (n : CoreId) (pred : Fin 8) (vd : Fin 64) (va vb : Src)
  /-- BMUL (R109). -/
  | bmul (n : CoreId) (pred : Fin 8) (vd : Fin 64) (va vb : Src)
  /-- BFMA (R109). -/
  | bfma (n : CoreId) (pred : Fin 8) (vd : Fin 64) (va vb vc : Src)
  /-- RECIP (R110). -/
  | recip (n : CoreId) (pred : Fin 8) (vd : Fin 64) (va : Src)
  /-- RSQRT (R110). -/
  | rsqrt (n : CoreId) (pred : Fin 8) (vd : Fin 64) (va : Src)
  /-- CVT (R111). -/
  | cvt (n : CoreId) (pred : Fin 8) (vd : Fin 64) (va : Src) (k : Conv)
  /-- IADD (R109). -/
  | iadd (n : CoreId) (pred : Fin 8) (d : Fin 64) (a b : Src)
  /-- ISUB (R109). -/
  | isub (n : CoreId) (pred : Fin 8) (d : Fin 64) (a b : Src)
  /-- IMUL (R109). -/
  | imul (n : CoreId) (pred : Fin 8) (d : Fin 64) (a b : Src)
  /-- AND (R109). -/
  | andOp (n : CoreId) (pred : Fin 8) (d : Fin 64) (a b : Src)
  /-- OR (R109). -/
  | orOp (n : CoreId) (pred : Fin 8) (d : Fin 64) (a b : Src)
  /-- XOR (R109). -/
  | xorOp (n : CoreId) (pred : Fin 8) (d : Fin 64) (a b : Src)
  /-- SHL (R109). -/
  | shl (n : CoreId) (pred : Fin 8) (d : Fin 64) (a b : Src)
  /-- SHR (R109). -/
  | shr (n : CoreId) (pred : Fin 8) (d : Fin 64) (a b : Src)
  /-- SAR (R109). -/
  | sar (n : CoreId) (pred : Fin 8) (d : Fin 64) (a b : Src)
  /-- MOV (R109). -/
  | mov (n : CoreId) (pred : Fin 8) (d : Fin 64) (a : Src)
  /-- SEL (R109). -/
  | sel (n : CoreId) (pred : Fin 8) (d : Fin 64) (a b : Src) (pk : Fin 8)
  /-- LANEID (R109). -/
  | laneid (n : CoreId) (pred : Fin 8) (d : Fin 64)
  /-- FCMP (R109). -/
  | fcmp (n : CoreId) (pred : Fin 8) (pd : Fin 8) (a b : Src) (cc : Cond)
  /-- ICMP (R109). -/
  | icmp (n : CoreId) (pred : Fin 8) (pd : Fin 8) (a b : Src) (cc : Cond)
  /-- PAND (R109). -/
  | pand (n : CoreId) (pred : Fin 8) (pd pa pb : Fin 8)
  /-- POR (R109). -/
  | por (n : CoreId) (pred : Fin 8) (pd pa pb : Fin 8)
  /-- PNOT (R109). -/
  | pnot (n : CoreId) (pred : Fin 8) (pd pa : Fin 8)
  /-- WADD (R47). -/
  | wadd (n : CoreId) (pred : Fin 8) (wd wa wb : Fin 8)
  /-- F2W (R52). -/
  | f2w (n : CoreId) (pred : Fin 8) (wd : Fin 8) (a : Src)
  /-- W2F (R52). -/
  | w2f (n : CoreId) (pred : Fin 8) (vd : Fin 64) (wa : Fin 8) (k : WConv)
  /-- RND (R116). -/
  | rnd (n : CoreId) (pred : Fin 8) (vd : Fin 64)
  /-- RGET (R118). -/
  | rget (n : CoreId) (pred : Fin 8) (vd : Fin 64) (q : Fin 4)
  /-- RPUT (R118). -/
  | rput (n : CoreId) (pred : Fin 8) (a : Src) (q : Fin 4)
  /-- DRGET (R119). -/
  | drget (n : CoreId) (pred : Fin 8) (vd : Fin 64) (q : Fin 4)
  /-- DRPUT (R119). -/
  | drput (n : CoreId) (pred : Fin 8) (a : Src) (q : Fin 4)
  /-- TF (R113). -/
  | tf (n : CoreId) (pred : Fin 8) (vd : Fin 64) (va : Src) (slot : Fin 16) (bf16 : Bool)
  /-- TD (R113). -/
  | td (n : CoreId) (pred : Fin 8) (vd : Fin 64) (va : Src) (slot : Fin 16) (bf16 : Bool)
  /-- TBLLD (R114). -/
  | tblld (n : CoreId) (slot : Fin 16) (ak : Fin 16)
  /-- TBLLD_READ (R114). -/
  | tblldRead (n : CoreId) (e : Ecc) (h : Hold)
  /-- TBLLD_TAKE_EFFECT (R114). -/
  | tblldTakeEffect (n : CoreId)
  /-- LD (R107). -/
  | ld (n : CoreId) (pred : Fin 8) (vd : Fin 64) (areg : Fin 16) (off : BitVec 8)
  /-- LDB (R107). -/
  | ldb (n : CoreId) (pred : Fin 8) (vd : Fin 64) (areg : Fin 16) (off : BitVec 8) (word : Fin 32)
  /-- WLD (R106). -/
  | wld (n : CoreId) (pred : Fin 8) (wd : Fin 8) (areg : Fin 16) (off : BitVec 8)
  /-- ST (R106). -/
  | st (n : CoreId) (pred : Fin 8) (vs : Fin 64) (areg : Fin 16) (off : BitVec 8)
  /-- WST (R106). -/
  | wst (n : CoreId) (pred : Fin 8) (ws : Fin 8) (areg : Fin 16) (off : BitVec 8)
  /-- VE_LOAD_READ (R107). -/
  | veLoadRead (n : CoreId) (e : Ecc) (h : Hold)
  /-- AADD (R171). -/
  | aadd (n : CoreId) (ad src : Fin 16) (imm : BitVec 19)
  /-- AMOV (R171). -/
  | amov (n : CoreId) (ad k : Fin 16)
  /-- SEED (R117). -/
  | seed (n : CoreId) (drain : Bool) (k : Fin 8) (j : Fin 16)
  /-- VE_LOOP (R182). -/
  | veLoop (n : CoreId)
  /-- VE_ENDLOOP (R182). -/
  | veEndloop (n : CoreId)
  /-- VE_WAITTOK (R171). -/
  | veWaittok (n : CoreId)
  /-- VE_SIGTOK (R108). -/
  | veSigtok (n : CoreId)
  /-- VE_FAULT_CLEAR (R121). -/
  | veFaultClear (n : CoreId)
  /-- OPE_RUN (R163). -/
  | opeRun (n : CoreId)
  /-- VE_RUN (R163). -/
  | veRun (n : CoreId)
  /-- VE_HALT (R163). -/
  | veHalt (n : CoreId)
  /-- CODE_FETCH (R164). -/
  | codeFetch (n : CoreId) (vector : Bool) (e : Ecc)
  /-- MOV_TAIL_WRITE (R131). -/
  | movTailWrite (n : CoreId) (m : Fin 8) (tail : BitVec 16)
  /-- DESCRIPTOR_FETCH (R132). -/
  | descriptorFetch (n : CoreId) (m : Fin 8) (e : Ecc)
  /-- DESCRIPTOR_START (R133). -/
  | descriptorStart (n : CoreId) (m : Fin 8)
  /-- MOVE_NOP (R138). -/
  | moveNop (n : CoreId) (m : Fin 8)
  /-- COPY (R140). -/
  | copy (n : CoreId) (m : Fin 8) (e : Ecc)
  /-- PANEL (R141). -/
  | panel (n : CoreId) (m : Fin 8) (e : Ecc)
  /-- GATHER (R145). -/
  | gather (n : CoreId) (m : Fin 8) (e : Ecc)
  /-- SCATTER (R145). -/
  | scatter (n : CoreId) (m : Fin 8) (e : Ecc)
  /-- CHAIN (R152). -/
  | chain (n : CoreId) (m : Fin 8) (e : Ecc)
  /-- TRANSFER_ISSUE (R134). -/
  | transferIssue (n : CoreId) (m : Fin 8) (e : Ecc) (h : Hold)
  /-- TRANSFER_WRITE_LAND (R137). -/
  | transferWriteLand (n : CoreId) (m : Fin 8) (e : Ecc)
  /-- DESCRIPTOR_RETIRE (R136). -/
  | descriptorRetire (n : CoreId) (m : Fin 8)
  /-- MOV_FAULT_CLEAR (R147). -/
  | movFaultClear (n : CoreId) (m : Fin 8)
  /-- MOV_SKIP_CLEAR (R147). -/
  | movSkipClear (n : CoreId) (m : Fin 8)
  /-- MOV_CANCEL (R190). -/
  | movCancel (n : CoreId) (m : Fin 8)
  /-- CANCEL_ACK (R191). -/
  | cancelAck (n : CoreId) (m : Fin 8)
  /-- CLR_OPE (R157). -/
  | clrOpe (n : CoreId)
  /-- CLR_VE (R157). -/
  | clrVe (n : CoreId)
  /-- CLR_MOV (R157). -/
  | clrMov (n : CoreId)
  /-- LATE_WEIGHTS (R158). -/
  | lateWeights (n : CoreId) (eng : Eng)
  /-- SCRUBBER_READ (R129). -/
  | scrubberRead (n : CoreId) (e : Ecc)
  /-- CHAIN_PAGE_INJECT (R152). -/
  | chainPageInject (d : DieId) (e : Ecc)
  /-- FLIT_HOP (R150). -/
  | flitHop (d : DieId)
  /-- MEMBER_PAGE_ACCEPT (R153). -/
  | memberPageAccept (n : CoreId)
  /-- MEMBER_PAGE_WRITTEN (R153). -/
  | memberPageWritten (n : CoreId)
  /-- PURLIN_CRC_RESEND (R154). -/
  | purlinCrcResend (n : CoreId)
  /-- CHAIN_RECONFIGURE (R155). -/
  | chainReconfigure (d : DieId) (cfg : BitVec 64)
  /-- SCALAR_INSTRUCTION (R172). -/
  | scalarInstruction (n : CoreId) (e : Ecc)
  /-- FENCE (R172). -/
  | fence (n : CoreId)
  /-- WFI (R173). -/
  | wfi (n : CoreId)
  /-- MCYCLE_WRITE (R173). -/
  | mcycleWrite (n : CoreId) (high : Bool) (v : BitVec 32)
  /-- SCALAR_TRAP (R173). -/
  | scalarTrap (n : CoreId) (cause : TrapCause) (tval : BitVec 32)
  /-- NDTOKWAIT (R175). -/
  | ndtokwait (n : CoreId) (v : BitVec 32)
  /-- NDTOKSIG (R175). -/
  | ndtoksig (n : CoreId) (v : BitVec 32)
  /-- NDTOKTRY (R175). -/
  | ndtoktry (n : CoreId) (rd : Fin 32) (v : BitVec 32)
  /-- NDQPUSH (R175). -/
  | ndqpush (n : CoreId) (rd : Fin 32) (v : BitVec 32)
  /-- NDQCANCEL (R175). -/
  | ndqcancel (n : CoreId) (v : BitVec 32)
  /-- TOKEN_SIGNAL (R177). -/
  | tokenSignal (t : Tok) (n : BitVec 16)
  /-- TOKEN_WAIT_SERVE (R178). -/
  | tokenWaitServe (t : Tok)
  /-- TOK_CNT_WRITE (R178). -/
  | tokCntWrite (t : Tok) (v : BitVec 64)
  /-- TOK_SIG_WRITE (R177). -/
  | tokSigWrite (t : Tok) (v : BitVec 64)
  /-- STEP_TOKEN_ARRIVE (R180). -/
  | stepTokenArrive (st : BitVec 15) (n : BitVec 16)
  /-- STACKED_ACCESS (R210). -/
  | stackedAccess (c : Fin 1024) (arrivals : List HReq) (e : Ecc)
  /-- HBM_SCRUB (R206). -/
  | hbmScrub (stack : Fin 16) (e : Ecc)
  /-- RETRAIN_SLICE (R211). -/
  | retrainSlice (c : Fin 1024) (converged : Bool)
  /-- MIGRATION_CHUNK_COPY (R214). -/
  | migrationChunkCopy (c : Fin 1024) (e : Ecc)
  /-- MIGRATION_COMPLETE (R214). -/
  | migrationComplete (c : Fin 1024)
  /-- CHANNEL_SOURCE_FAIL (R215). -/
  | channelSourceFail (c : Fin 1024)
  /-- CHANNEL_FAIL (R216). -/
  | channelFail (c : Fin 1024)
  /-- REPAIR_TEST_DONE (R214). -/
  | repairTestDone (c : Fin 1024) (ok : Bool)
  /-- MSC_FLUSH (R226). -/
  | mscFlush
  /-- WIN_ENABLE (R220). -/
  | winEnable (d : DieId)
  /-- LAYER_FETCH (R220). -/
  | layerFetch (d : DieId)
  /-- WINDOW_PAGE_LAND (R220). -/
  | windowPageLand (d : DieId)
  /-- STREAMER_INJECT (R221). -/
  | streamerInject (d : DieId) (e : Ecc)
  /-- LAYER_RELEASE (R222). -/
  | layerRelease (d : DieId)
  /-- PAGE_POISON (R223). -/
  | pagePoison (d : DieId) (slot : BitVec 16)
  /-- RETRY_SOURCE_ANSWER (R223). -/
  | retrySourceAnswer (d : DieId) (slot : BitVec 16)
  /-- RETRY_SOURCE_TIMEOUT (R223). -/
  | retrySourceTimeout (d : DieId) (slot : BitVec 16)
  /-- WIN_CANCEL (R225). -/
  | winCancel (d : DieId)
  /-- WIN_CANCEL_ACK (R225). -/
  | winCancelAck (d : DieId)
  /-- WIN_FAULT_CLEAR (R226). -/
  | winFaultClear (d : DieId)
  /-- BUCKET_SEAL (R233). -/
  | bucketSeal (b : BitVec 12)
  /-- REDUCTION_PART_RECEIVE (R235). -/
  | reductionPartReceive (p : Part)
  /-- ROOT_DIVIDE: this owner's shard, or the word of the owner at another position that it has reduced its own (R236, R237,
  R328). -/
  | rootDivide (b : BitVec 12) (other : Option (BitVec 12))
  /-- UPDATE_RUN: on this module's own versions, or on the partner's mirror for a step (R238). -/
  | updateRun (tensor : BitVec 32) (b : BitVec 12) (mirror : Option (BitVec 64))
  /-- READY_REPORT (R239). -/
  | readyReport (other : Option (BitVec 12 × BitVec 256))
  /-- COMMIT_RECORD_FORM (R239). -/
  | commitRecordForm
  /-- COMMIT_RECORD_APPLY (R240). -/
  | commitRecordApply (rcd : CommitRec)
  /-- MIRROR_SWITCH (R240). -/
  | mirrorSwitch (tensor : BitVec 32)
  /-- LNK_TRAIN (R250). -/
  | lnkTrain (p : BilpoPort)
  /-- DETECT_ACTIVITY (R250). -/
  | detectActivity (p : BilpoPort) (lanes : BitVec 8)
  /-- EQUALIZE_COMPLETE (R250). -/
  | equalizeComplete (p : BilpoPort) (errors : List (BitVec 32 × BitVec 32)) (farAdmitted : BitVec 8)
  /-- ALIGN_COMPLETE (R250). -/
  | alignComplete (p : BilpoPort)
  /-- CAPABILITY_EXCHANGE (R250). -/
  | capabilityExchange (p : BilpoPort) (cap : Cap) (far : BitVec 8)
  /-- TRAINING_TIMEOUT (R250). -/
  | trainingTimeout (p : BilpoPort)
  /-- FLIT_SLOT (R247). -/
  | flitSlot (p : BilpoPort)
  /-- DATA_FLIT_RECEIVE (R248). -/
  | dataFlitReceive (p : BilpoPort) (f : Flit)
  /-- LINK_CTRL_RECEIVE (R247). -/
  | linkCtrlReceive (p : BilpoPort) (c : LinkCtrl)
  /-- GROUP_FLIT_RECEIVE (R246). -/
  | groupFlitReceive (p : BilpoPort) (f : Flit)
  /-- LANE_FAULT_DETECT (R249). -/
  | laneFaultDetect (p : BilpoPort) (why : LaneFault)
  /-- DEGRADE_REQUEST (R251). -/
  | degradeRequest (p : BilpoPort) (lane : Fin 8)
  /-- DEGRADE_TIMEOUT (R251). -/
  | degradeTimeout (p : BilpoPort)
  /-- HEARTBEAT_SEND (R252). -/
  | heartbeatSend (p : BilpoPort)
  /-- HEARTBEAT_TIMEOUT (R253). -/
  | heartbeatTimeout (p : BilpoPort)
  /-- FENCE_RECOGNIZE (R255). -/
  | fenceRecognize (p : BilpoPort) (seen : List (List Int))
  /-- LNK_FENCE (R253). -/
  | lnkFence (p : BilpoPort)
  /-- LNK_RENEGOTIATE (R265). -/
  | lnkRenegotiate (p : BilpoPort) (peerMin peerMax : BitVec 8) (asked accepted : Bool)
  /-- PUT (R257). -/
  | put (p : BilpoPort) (h : MsgHdr) (data : List (BitVec 8))
  /-- GET (R257). -/
  | get (p : BilpoPort) (h : MsgHdr)
  /-- GET_DATA (R256). -/
  | getData (p : BilpoPort) (h : MsgHdr) (data : List (BitVec 8))
  /-- SIGNAL (R262). -/
  | signal (p : BilpoPort) (h : MsgHdr)
  /-- CONTROL (R256). -/
  | control (p : BilpoPort) (h : MsgHdr) (data : List (BitVec 8))
  /-- COMPLETE (R262). -/
  | complete (p : BilpoPort) (h : MsgHdr)
  /-- MESSAGE_FORWARD (R258). -/
  | messageForward (p : BilpoPort) (h : MsgHdr) (data : List (BitVec 8))
  /-- CREDIT_TIMEOUT (R263). -/
  | creditTimeout (p : BilpoPort) (cls : Fin 3) (sub : Bool)
  /-- BAR2_ACCESS (R270). -/
  | bar2Access (o : BitVec 41) (a : HostAcc)
  /-- REGISTER_APERTURE_ACCESS (R271). -/
  | registerApertureAccess (o : BitVec 24) (a : ApAcc)
  /-- HOST_COMPLETION (R274). -/
  | hostCompletion (n : CoreId) (m : Fin 8) (k : HostCpl)
  /-- HOST_COMPLETION_TIMEOUT (R274). -/
  | hostCompletionTimeout (n : CoreId) (m : Fin 8)
  /-- HOST_LINK_RESET (R280). -/
  | hostLinkReset
  /-- PTM_DIALOGUE (R279). -/
  | ptmDialogue (ok : Bool) (hostTime : BitVec 64)
  /-- FAR_TIER_REQUEST (R282). -/
  | farTierRequest (q : Requester) (a : BitVec 52) (write : Bool) (prio : Fin 3)
  /-- FAR_TIER_RESPONSE (R285). -/
  | farTierResponse (port : Fin 4) (poison : Bool)
  /-- FAR_TIER_TIMEOUT (R285). -/
  | farTierTimeout (port : Fin 4)
  /-- CXL_SURPRISE_REMOVAL (R286). -/
  | cxlSurpriseRemoval (port : Fin 4)
  /-- CXL_REMOVE (R286). -/
  | cxlRemove (port : Fin 4)
  /-- CXL_REMOVE_COMPLETE (R286). -/
  | cxlRemoveComplete (port : Fin 4)
  /-- CXL_TRAIN (R281). -/
  | cxlTrain (port : Fin 4)
  /-- DEVLOAD_REPORT (R284). -/
  | devloadReport (port : Fin 4) (load : BitVec 2)
  /-- MEDIA_EVENT (R285). -/
  | mediaEvent (port : Fin 4) (a : BitVec 52) (kind : BitVec 8)
  /-- SQ_DOORBELL (R289). -/
  | sqDoorbell (m : Fin 16) (tail : BitVec 16) (entries : List (BitVec 512))
  /-- COMMAND_FETCH (R289). -/
  | commandFetch (m : Fin 16)
  /-- COMPLETION_ENTRY_WRITE (R290). -/
  | completionEntryWrite (m : Fin 16)
  /-- CQ_HEAD_WRITE (R290). -/
  | cqHeadWrite (m : Fin 16) (head : BitVec 16)
  /-- RING_RESET (R294). -/
  | ringReset (m : Fin 16)
  /-- EVENT_RECORD_WRITE (R296). -/
  | eventRecordWrite
  /-- BACKGROUND_COMMAND_COMPLETE (R291). -/
  | backgroundCommandComplete (tag : BitVec 32) (status : BitVec 16)
  /-- MAILBOX_OUTAGE_END (R293). -/
  | mailboxOutageEnd
  /-- IDENTIFY (R300). -/
  | identifyCmd (m : Fin 16)
  /-- CAPABILITIES (R300). -/
  | capabilitiesCmd (m : Fin 16)
  /-- IDENTITY_CERT (R300). -/
  | identityCertCmd (m : Fin 16)
  /-- ATTACH (R307). -/
  | attachCmd (m : Fin 16)
  /-- EVENT_BIND (R297). -/
  | eventBindCmd (m : Fin 16)
  /-- EVENT_MASK (R297). -/
  | eventMaskCmd (m : Fin 16)
  /-- PMAP_WRITE (R204). -/
  | pmapWriteCmd (m : Fin 16)
  /-- CACHE_CTRL (R300). -/
  | cacheCtrlCmd (m : Fin 16)
  /-- ARB_SET (R300). -/
  | arbSetCmd (m : Fin 16)
  /-- CHANNEL_ACTION (R214). -/
  | channelActionCmd (m : Fin 16)
  /-- GROUPS_RELEASE (R216). -/
  | groupsReleaseCmd (m : Fin 16)
  /-- REG_APERTURE_SET (R271). -/
  | regApertureSetCmd (m : Fin 16)
  /-- PROGRAM_LOAD (R195). -/
  | programLoadCmd (m : Fin 16)
  /-- ENGINE_CTRL (R300). -/
  | engineCtrlCmd (m : Fin 16)
  /-- CONTEXT_CREATE (R301). -/
  | contextCreateCmd (m : Fin 16)
  /-- CONTEXT_DESTROY (R300). -/
  | contextDestroyCmd (m : Fin 16)
  /-- SLICE_SET (R303). -/
  | sliceSetCmd (m : Fin 16)
  /-- CONTEXT_SWITCH (R302). -/
  | contextSwitchCmd (m : Fin 16)
  /-- JOB_LIMITS (R300). -/
  | jobLimitsCmd (m : Fin 16)
  /-- WIN_CONFIG (R300). -/
  | winConfigCmd (m : Fin 16)
  /-- WIN_CTRL (R225). -/
  | winCtrlCmd (m : Fin 16)
  /-- HDM_WRITE (R283). -/
  | hdmWriteCmd (m : Fin 16)
  /-- CXL_CTRL (R286). -/
  | cxlCtrlCmd (m : Fin 16)
  /-- RETRY_PEER_SET (R223). -/
  | retryPeerSetCmd (m : Fin 16)
  /-- MODULE_ID_SET (R15). -/
  | moduleIdSetCmd (m : Fin 16)
  /-- MEMBERSHIP_SET (R300). -/
  | membershipSetCmd (m : Fin 16)
  /-- PAIR_SET (R318). -/
  | pairSetCmd (m : Fin 16)
  /-- ROUTE_WRITE (R258). -/
  | routeWriteCmd (m : Fin 16)
  /-- RXWIN_WRITE (R257). -/
  | rxwinWriteCmd (m : Fin 16)
  /-- PORT_CTRL (R250). -/
  | portCtrlCmd (m : Fin 16)
  /-- STEP_TOKEN_MAP (R180). -/
  | stepTokenMapCmd (m : Fin 16)
  /-- TRANSFER (R256). -/
  | transferCmd (m : Fin 16)
  /-- MSG_ABANDON (R263). -/
  | msgAbandonCmd (m : Fin 16)
  /-- LEVEL_QUERY (R312). -/
  | levelQueryCmd (m : Fin 16)
  /-- LEVEL_SET (R312). -/
  | levelSetCmd (m : Fin 16)
  /-- BUCKET_TABLE (R232). -/
  | bucketTableCmd (m : Fin 16)
  /-- STEP_PLAN (R300). -/
  | stepPlanCmd (m : Fin 16)
  /-- MB_DROP (R233). -/
  | mbDropCmd (m : Fin 16)
  /-- POLICY_WRITE (R315). -/
  | policyWriteCmd (m : Fin 16)
  /-- REPLAY_REGISTER (R120). -/
  | replayRegisterCmd (m : Fin 16)
  /-- SNAPSHOT_CFG (R322). -/
  | snapshotCfgCmd (m : Fin 16)
  /-- SNAPSHOT_NOW (R322). -/
  | snapshotNowCmd (m : Fin 16)
  /-- RECOMMIT (R237). -/
  | recommitCmd (m : Fin 16)
  /-- RESHARD (R334). -/
  | reshardCmd (m : Fin 16)
  /-- FW_STAGE (R300). -/
  | fwStageCmd (m : Fin 16)
  /-- FW_VERIFY (R309). -/
  | fwVerifyCmd (m : Fin 16)
  /-- FW_ACTIVATE (R311). -/
  | fwActivateCmd (m : Fin 16)
  /-- FW_BOOT_SLOT (R351). -/
  | fwBootSlotCmd (m : Fin 16)
  /-- FW_SVN_COMMIT (R310). -/
  | fwSvnCommitCmd (m : Fin 16)
  /-- ATTEST (R313). -/
  | attestCmd (m : Fin 16)
  /-- TELEMETRY_READ (R300). -/
  | telemetryReadCmd (m : Fin 16)
  /-- COUNTERS_CLEAR (R300). -/
  | countersClearCmd (m : Fin 16)
  /-- THRESHOLD_SET (R300). -/
  | thresholdSetCmd (m : Fin 16)
  /-- READ_STATE (R304). -/
  | readStateCmd (m : Fin 16)
  /-- WRITE_STATE (R306). -/
  | writeStateCmd (m : Fin 16)
  /-- ERRLOG_CLEAR (R300). -/
  | errlogClearCmd (m : Fin 16)
  /-- POWER_LIMIT (R384). -/
  | powerLimitCmd (m : Fin 16)
  /-- POWER_READ (R300). -/
  | powerReadCmd (m : Fin 16)
  /-- THROTTLE_SET (R386). -/
  | throttleSetCmd (m : Fin 16)
  /-- BLOCK_RESET (R359). -/
  | blockResetCmd (m : Fin 16)
  /-- MODULE_RESET (R347). -/
  | moduleResetCmd (m : Fin 16)
  /-- FROST_ENTER (R341). -/
  | frostEnterCmd (m : Fin 16)
  /-- FROST_REPORT (R346). -/
  | frostReportCmd (m : Fin 16)
  /-- BOOT_LOG (R358). -/
  | bootLogCmd (m : Fin 16)
  /-- START_COUNT_CLEAR (R358). -/
  | startCountClearCmd (m : Fin 16)
  /-- OPTION_WRITE (R352). -/
  | optionWriteCmd (m : Fin 16)
  /-- OPTION_READ (R352). -/
  | optionReadCmd (m : Fin 16)
  /-- SLICE_QUANTUM_EXPIRY (R303). -/
  | sliceQuantumExpiry (n : CoreId)
  /-- QUIESCENT_POINT_TEST (R311). -/
  | quiescentPointTest
  /-- STANDBY_LOAD_DONE (R311). -/
  | standbyLoadDone (pass : Bool)
  /-- PAIR_ANNOUNCE (R320). -/
  | pairAnnounce (own partner : BitVec 16) (ovr : Bool)
  /-- PROBE (R326). -/
  | probe (src : BitVec 16) (num : BitVec 32)
  /-- PROBE_REPLY (R326). -/
  | probeReply (num : BitVec 32)
  /-- PROBE_TIMEOUT (R326). -/
  | probeTimeout
  /-- LOSS_NOTICE (R327). -/
  | lossNotice (lost standIn : BitVec 16) (epoch : BitVec 32) (step : BitVec 64)
  /-- STAND_IN_READY (R329). -/
  | standInReady (pos : BitVec 16) (digest : BitVec 256)
  /-- SNAPSHOT_MARK (R322). -/
  | snapshotMark (step : BitVec 64)
  /-- SNAPSHOT_COMPLETE (R323). -/
  | snapshotComplete
  /-- MIRROR_SYNC_START (R321). -/
  | mirrorSyncStart
  /-- CORE_FAULT (R336). -/
  | coreFault (n : CoreId) (node : Bool)
  /-- SPARE_FILL (R337). -/
  | spareFill (n : CoreId)
  /-- SPARE_FILL_COMPLETE (R337). -/
  | spareFillComplete (n : CoreId)
  /-- RESHARD_SWITCH (R335). -/
  | reshardSwitch
  /-- FROST_LATCH (R341). -/
  | frostLatch (cause : FrostCause) (detail : BitVec 128)
  /-- FROST_RAMP_START (R344). -/
  | frostRampStart
  /-- FROST_RAMP_END (R344). -/
  | frostRampEnd (floor : BitVec 16)
  /-- POWER_ON (R347). -/
  | powerOn
  /-- RESET_N_ASSERT (R349). -/
  | resetNAssert (ns : BitVec 32) (takes : Bool)
  /-- PERST_N_ASSERT (R354). -/
  | perstNAssert (ns : BitVec 32) (takes : Bool)
  /-- ALWAYS_ON_STATE_ERROR (R347). -/
  | alwaysOnStateError
  /-- RESET_RELEASE_START (R354). -/
  | resetReleaseStart (fuseOk : Bool)
  /-- OPTION_AREA_LOAD (R351). -/
  | optionAreaLoad
  /-- DOMAIN_RELEASE, with the FEED_ID pins read with pull-downs and with pull-ups (R354, R379). -/
  | domainRelease (dom : Domain) (down up : BitVec 16)
  /-- BOOT_ROM_CHECK (R355). -/
  | bootRomCheck
  /-- BOOT_OK (R356). -/
  | bootOk
  /-- BOOT_WATCHDOG_EXPIRY (R357). -/
  | bootWatchdogExpiry
  /-- RUNTIME_WATCHDOG_EXPIRY (R362). -/
  | runtimeWatchdogExpiry (pair : Fin 2)
  /-- WATCHDOG_HALF_PERIOD (R365). -/
  | watchdogHalfPeriod (pair : Fin 2)
  /-- WATCHDOG_KICK (R362). -/
  | watchdogKick (pair : Fin 2)
  /-- LOCKSTEP_MISMATCH (R361). -/
  | lockstepMismatch (pair : Fin 2)
  /-- STANDBY_RELOAD_DONE (R361). -/
  | standbyReloadDone (ok : Bool)
  /-- BLOCK_ENABLE_WRITE (R360). -/
  | blockEnableWrite (b : Fin 126) (enable : Bool)
  /-- BLOCK_RESET_WRITE (R360). -/
  | blockResetWrite (b : Fin 126)
  /-- BLOCK_SHUTDOWN_COMPLETE (R359). -/
  | blockShutdownComplete (b : Fin 126)
  /-- BLOCK_START_COMPLETE (R359). -/
  | blockStartComplete (b : Fin 126)
  /-- REFCLK_LOSS (R377). -/
  | refclkLoss
  /-- SUPPLY_RANGE_CHANGE (R382). -/
  | supplyRangeChange (mv : BitVec 32)
  /-- SUPPLY_EXCURSION_TIMEOUT (R382). -/
  | supplyExcursionTimeout
  /-- LIVE_FEED_CONNECT (R383). -/
  | liveFeedConnect
  /-- SENSOR_READING (R386). -/
  | sensorReading (temps : List (BitVec 16)) (needed : Periods)
  /-- PEAK_LIMIT (R384). -/
  | peakLimit (period : Fin 17)
  /-- EXCURSION_LIMIT_EXPIRY (R384). -/
  | excursionLimitExpiry (period : Fin 17)
  /-- LOADSTEP_ANNOUNCE (R385). -/
  | loadstepAnnounce (rise : Bool) (target : BitVec 16)
  /-- LOAD_RAMP_START (R385). -/
  | loadRampStart
  /-- LOAD_RAMP_END (R385). -/
  | loadRampEnd (power : BitVec 16)
  /-- SOURCE_EDGE (R366). -/
  | sourceEdge (i : Fin 768)
  /-- LEVEL_LINE_CHANGE (R366). -/
  | levelLineChange (i : Fin 768)
  /-- ICU_CLAIM (R370). -/
  | icuClaim (t : Fin 66)
  /-- ICU_COMPLETE (R370). -/
  | icuComplete (t : Fin 66) (v : BitVec 64)
  /-- HOLDOFF_EXPIRY (R372). -/
  | holdoffExpiry (g : Fin 48)
  /-- ALARM_FIRE (R373). -/
  | alarmFire (k : Fin 16)
  /-- ICU_FW_SET (R373). -/
  | icuFwSet (w : Fin 2) (v : BitVec 64)
  /-- CLAIM_ABANDON (R374). -/
  | claimAbandon (t : Fin 66)
  /-- ENTDAA (R380). -/
  | entdaa (addr : BitVec 7)
  /-- SETDASA (R380). -/
  | setdasa (static7 addr : BitVec 7)
  /-- RSTDAA (R380). -/
  | rstdaa
  /-- ENEC (R380). -/
  | enec
  /-- DISEC (R380). -/
  | disec
  /-- GETPID (R380). -/
  | getpid
  /-- GETBCR (R380). -/
  | getbcr
  /-- GETDCR (R380). -/
  | getdcr
  /-- GETSTATUS (R380). -/
  | getstatus
  /-- GETMXDS (R380). -/
  | getmxds
  /-- MGMT_POINTER_WRITE (R381). -/
  | mgmtPointerWrite (b : BitVec 8)
  /-- MGMT_READ (R381). -/
  | mgmtRead
  /-- UNDEFINED_OPCODE (R66). -/
  | undefinedOpcode (n : CoreId)
  /-- CONFIGURATION_SPACE_WRITE (R275). -/
  | configurationSpaceWrite (f : CfgWrite)
  /-- PCIE_LINK_TRAINED (R268). -/
  | pcieLinkTrained (speed : BitVec 3) (width : BitVec 5)
  /-- CXL_TRAINING_COMPLETE (R281). -/
  | cxlTrainingComplete (port : Fin 4) (dev : CxlDev)
  /-- PASS_BOUNDARY_WAIT_EXPIRY (R303). -/
  | passBoundaryWaitExpiry (n : CoreId)
  deriving DecidableEq, Repr

end Sys2Proof
end

