-- ==== Sys2Proof/Machine/Codes.lean ====
section
/-! DEFINITION. The codes of memory and of the links: finite fields of characteristic 2, Reed–Solomon codes (R203, R243),
CRC-64 (R245), the pseudo-random sequences and PAM4 (R242, R243, R254). -/

namespace Sys2Proof.Machine

/-! Fields GF(2^m), an element being the number whose bits are its coefficients. -/

/-- Multiplication by x in the field of `m` bits with a field polynomial. -/
def gfDouble (m poly a : Nat) : Nat := if (2 * a).testBit m then 2 * a ^^^ poly else 2 * a

/-- Multiplication in the field: the bits of `b` below `k`, highest first. -/
def gfMulN (m poly a b : Nat) : Nat → Nat → Nat
  | 0, acc => acc
  | k + 1, acc => gfMulN m poly a b k (gfDouble m poly acc ^^^ (if b.testBit k then a else 0))
def gfMul (m poly a b : Nat) : Nat := gfMulN m poly a b m 0

/-- The powers of the primitive element x. -/
def gfPow (m poly : Nat) : Nat → Nat
  | 0 => 1
  | k + 1 => gfDouble m poly (gfPow m poly k)

/-! Reed–Solomon codes with check symbols at the roots x^0 to x^(r-1), the highest-degree coefficient first. -/

/-- A polynomial at a point. -/
def gfEval (m poly x : Nat) (p : List Nat) : Nat := p.foldl (fun acc c => gfMul m poly acc x ^^^ c) 0

/-- The product of a polynomial and (y − a). -/
def gfRoot (m poly a : Nat) (p : List Nat) : List Nat :=
  List.zipWith (· ^^^ ·) (p ++ [0]) (0 :: p.map (gfMul m poly a))

/-- The generator with `r` roots, without its leading 1. -/
def rsGen (m poly r : Nat) : List Nat := ((upTo 0 r).foldl (fun p k => gfRoot m poly (gfPow m poly k) p) [1]).drop 1

/-- The check symbols of a message: the remainder of its polynomial, times y^r, by the generator. -/
def rsCheck (m poly r : Nat) (msg : List Nat) : List Nat :=
  let g := rsGen m poly r
  msg.foldl (fun c d =>
    let fb := d ^^^ c.headD 0
    List.zipWith (fun x y => x ^^^ gfMul m poly fb y) (c.drop 1 ++ [0]) g) (List.replicate r 0)

/-- The syndromes of a received word. -/
def rsSyndromes (m poly r : Nat) (word : List Nat) : List Nat :=
  (upTo 0 r).map (fun k => gfEval m poly (gfPow m poly k) word)

/-! Stacked memory: RS(68,64) over GF(2^8) (R203). -/

def memField : Nat := 0x11D
/-- The four check symbols of a 64-byte burst. -/
def burstCheck (bs : List Byte) : List Byte := (rsCheck 8 memField 4 (bs.map (·.toNat))).map (BitVec.ofNat 8)
/-- The poison form of a burst: its codeword with all four check symbols inverted. -/
def burstPoisonForm (bs : List Byte) : List Byte := bs ++ (burstCheck bs).map (~~~ ·)
/-- The poison syndrome. -/
def poisonSyndrome : List Nat := rsSyndromes 8 memField 4 (List.replicate 64 0 ++ List.replicate 4 0xFF)

/-- The single symbol error that syndromes name, if one does: its place and value. -/
def oneSymbol (syn : List Nat) : Option (Nat × Nat) :=
  match syn with
  | s0 :: rest =>
    if s0 = 0 then none else
    ((upTo 0 68).find? (fun i =>
      let x := gfPow 8 memField (67 - i)
      rest == [gfMul 8 memField s0 x, gfMul 8 memField (gfMul 8 memField s0 x) x,
        gfMul 8 memField (gfMul 8 memField (gfMul 8 memField s0 x) x) x])).map (fun i => (i, s0))
  | [] => none

/-- What the decoder of a burst makes of it (R202, R203). -/
inductive Found where
  | good                     -- a codeword
  | corrected                -- a single-symbol error, corrected
  | poisoned                 -- the poison syndrome
  | bad                      -- an error that it cannot correct
  deriving DecidableEq, Repr

/-- The symbols of a codeword that an error changes. -/
def errWord (p : List (Fin 68 × Byte)) : List Nat :=
  (upTo 0 68).map (fun i => (p.filter (fun x => decide (x.1.val = i))).foldl (fun a x => a ^^^ x.2.toNat) 0)

/-- The decode of a codeword with an error, in the class DETECT or CORRECT, and the error that its data keep. The code is
linear, so the data do not matter. An error that the decoder takes for another one, or for none, stays in the data it
returns as good, and nothing is recorded (R202). -/
def burstFind (det : Bool) (p : List (Fin 68 × Byte)) : Found × List Nat :=
  let w := errWord p
  let syn := rsSyndromes 8 memField 4 w
  if syn = poisonSyndrome then (.poisoned, [])
  else if syn.all (· == 0) then (.good, w.take 64)
  else if det then (.bad, [])
  else
    match oneSymbol syn with
    | none => (.bad, [])
    | some (i, v) =>
      let rest := setAt w i ((w.drop i).headD 0 ^^^ v)
      if rest.all (· == 0) then (.corrected, []) else (.good, rest.take 64)

/-! Bit sequences: PRBS31 and PRBS11 (R243, R254), by their states. -/

/-- The next bit and state of a shift register of `n` bits with feedback from bits `a` and `b`, as R254 writes it. -/
def prbsStep (n a b st : Nat) : Nat × Nat :=
  let x := ((st.testBit a) ^^ (st.testBit b)).toNat
  (x, (st * 2 + x) % 2 ^ n)
def prbsBits (n a b : Nat) : Nat → Nat → List Nat × Nat
  | 0, st => ([], st)
  | k + 1, st =>
    let r := prbsStep n a b st
    let t := prbsBits n a b k r.2
    (r.1 :: t.1, t.2)

/-! PAM4 (R242). -/

/-- The levels of the bit pairs 00, 01, 10 and 11, the earlier bit in time the more significant. -/
def pam4 (pair : Nat) : Int :=
  match pair with
  | 0 => -3
  | 1 => -1
  | 3 => 1
  | _ => 3

/-- The bit pair that a level stands for: the inverse of `pam4`. -/
def pam4Pair (level : Int) : Nat := if level = -3 then 0 else if level = -1 then 1 else if level = 1 then 3 else 2

/-! The flit code of the links: PRBS31, RS(544,514) over GF(2^10), two codewords of a pair, lanes (R243). -/

def linkField : Nat := 0x409

/-- The bits of bytes in time: bit 0 of each byte first. -/
def bitsInTime (bs : List Byte) : List Nat := bs.flatMap (fun b => (upTo 0 8).map (fun i => (b.getLsbD i).toNat))
/-- Bits in time gathered `w` at a time, the earlier ones the lower-numbered. -/
def gatherN (w : Nat) : Nat → List Nat → List Nat
  | 0, _ => []
  | k + 1, xs => if xs.isEmpty then [] else (mapFrom 0 (fun i b => b * 2 ^ i) (xs.take w)).sum :: gatherN w k (xs.drop w)
def gatherBits (w : Nat) (xs : List Nat) : List Nat := gatherN w (xs.length / w + 1) xs
/-- The bits of symbols in time. -/
def spreadBits (w : Nat) (xs : List Nat) : List Nat := xs.flatMap (fun x => (upTo 0 w).map (fun i => (x.testBit i).toNat))

/-- The scrambler's state at the first flit after a GROUP flit. -/
def scrambleReset : Nat := 2 ^ 31 - 1

/-- Bytes scrambled, or unscrambled, from a state of PRBS31, and the state after them. -/
def scramble (st : Nat) (bs : List Byte) : List Byte × Nat :=
  let r := prbsBits 31 30 27 (8 * bs.length) st
  (List.zipWith (fun b k => b ^^^ BitVec.ofNat 8 k) bs (gatherBits 8 r.1), r.2)

/-- A codeword of 514 message symbols. -/
def linkCodeword (msg : List Nat) : List Nat := msg ++ rsCheck 10 linkField 30 msg

/-- Every second element. -/
def everySecond {α : Type} : List α → List α
  | x :: _ :: xs => x :: everySecond xs
  | [x] => [x]
  | [] => []

/-- The symbol pairs (A_i, B_i) that 1,028 message symbols are sent as. -/
def codewordPair (msg : List Nat) : List (Nat × Nat) :=
  List.zip (linkCodeword (everySecond msg)) (linkCodeword (everySecond (msg.drop 1)))

/-- The symbols of consecutive codeword pairs, from the symbols of a stream. -/
def codePairs : Nat → List Nat → List (Nat × Nat)
  | 0, _ => []
  | k + 1, xs => if xs.length < 1028 then [] else codewordPair (xs.take 1028) ++ codePairs k (xs.drop 1028)

/-- The PAM4 levels of a symbol. -/
def symbolLevels (x : Nat) : List Int :=
  (upTo 0 5).map (fun i => pam4 (2 * (x.testBit (2 * i)).toNat + (x.testBit (2 * i + 1)).toNat))

/-- The lanes that symbol pairs go to, in ascending round-robin order from turn `k`: each pair's lane and its ten levels. -/
def onLanes (lanes : List Nat) (k : Nat) (ps : List (Nat × Nat)) : List (Nat × List Int) :=
  mapFrom k (fun i p => ((lanes.drop (i % max 1 lanes.length)).headD 0, symbolLevels p.1 ++ symbolLevels p.2)) ps

/-- The correctable and the uncorrectable of a codeword: at most 15 symbols in error are corrected (R243, R244). -/
def codewordOk (wrong : Nat) : Bool := decide (wrong ≤ 15)

/-! CRC-64 of a flit (R245): the ECMA-182 polynomial, bit 0 of each byte first, from all ones, inverted. -/

def crcStep (crc : Nat) (b : Nat) : Nat :=
  (crc * 2 % 2 ^ 64) ^^^ (if crc.testBit 63 != (b == 1) then 0x42F0E1EBA9EA3693 else 0)
/-- The 8 bytes of the CRC, its highest-degree coefficient first in time as the data are (log 30). -/
def crc64 (bs : List Byte) : List Byte :=
  let c := ((bitsInTime bs).foldl crcStep (2 ^ 64 - 1)) ^^^ (2 ^ 64 - 1)
  (gatherBits 8 ((upTo 0 64).map (fun i => (c.testBit (63 - i)).toNat))).map (BitVec.ofNat 8)

/-! The fence pattern (R254). -/

/-- The levels of one period on lane `l`: two periods of PRBS11 and the period marker. -/
def fencePairs : Nat → Nat → List Int
  | 0, _ => []
  | k + 1, st =>
    let h := prbsStep 11 10 8 st
    let l := prbsStep 11 10 8 h.2
    pam4 (2 * h.1 + l.1) :: fencePairs k l.2
def fencePeriod (l : Nat) : List Int := fencePairs 2047 (0x400 ||| l * 16 ||| 0x5) ++ [3]

/-- A lane matches a period of some lane's pattern, from some turn of it, with at most 64 mismatches in 2,048 symbols (R255). -/
def mismatches (xs ys : List Int) : Nat := ((List.zip xs ys).filter (fun p => p.1 != p.2)).length
def fenceMatch (xs : List Int) : Bool :=
  decide (xs.length = 2048) && (upTo 0 8).any (fun l =>
    let p := fencePeriod l
    (upTo 0 2048).any (fun k => decide (mismatches xs (p.drop k ++ p.take k) ≤ 64)))

end Sys2Proof.Machine
end

