-- ==== Sys2Proof/Config.lean ====
section
/-! DEFINITION. What the manual leaves open: free values, and the functions of external standards that it names without
giving them. None has a body, so no proof can lean on a value. -/

namespace Sys2Proof.Config

/-- A fresh free value, applied to the counter `State.freeIdx` (log 10). -/
opaque freeValue : Nat → BitVec 64

/-- ML-DSA-65 verification of FIPS 204: public key, message, signature (log 9). -/
opaque mldsaVerify : List Byte → List Byte → List Byte → Bool

/-- ML-DSA-65 signing with a private key named by a number: key name, message (log 9). -/
opaque mldsaSign : Nat → List Byte → Vector Byte 3309

/-- The set of the memory-side cache that an address maps to (R207), applied to the address of its line (log 10). -/
opaque cacheSet : Nat → Nat

/-- The cycles of a port or control-processor island in a reference cycle, whose rates the manual does not give: island and
reference cycle (R28; log 10). -/
opaque islandCycles : Nat → Nat → Nat

/-- The size of a snapshot slot in a partner area of a given size, which the manual divides without saying how much the step
log takes (R315, R325; log 10). -/
opaque snapshotSlot : Nat → Nat

/-- The payload of a LINK_CTRL flit, whose layout the manual does not give: the credit returns, the NAK, the heartbeat's fields and the
lane of a degrade request (R247, R251, R252; log 30). -/
opaque linkCtrlPayload : List Nat → Option Nat → List Nat → Option Nat → Vector Byte 512

/-- The tag of a reduction message, which holds the membership epoch and a run number in places the manual does not give: epoch and
run (R327; log 17). -/
opaque reductionTag : Nat → Nat → BitVec 32

/-- Where in a tensor's part the elements of a bucket's shard lie, which the manual does not say: tensor and bucket, and their
first byte and number of bytes (R238; log 17). -/
opaque updateSpan : Nat → Nat → Nat × Nat

/-- A byte of what a registered update program writes, from its image, the committed bytes, g, the data of the step's plan, the step
number and the byte's place: the same at the owner and at its partner (R58, R120, R238; log 17). -/
opaque updateByte : List Byte → List Byte → List Byte → List Byte → Nat → Nat → Byte

/-- Where a module keeps the partner's mirror, which the manual does not say: the version of a tensor, and the g received for a
bucket (R238, R318; log 17). -/
opaque mirrorAt : Nat → Bool → Nat
opaque mirrorG : Nat → Nat

/-- The CRC-32 of the option area, whose polynomial the manual does not give (R351; log 9). -/
opaque crc32 : List Byte → BitVec 32

/-- What the fuses hold (R313, R350; log 5): the serial number, the fuse revision, the feed identifier, the digest of each
firmware key and whether it is revoked, and whether each physical core is enabled. -/
opaque fuseSerial : BitVec 64
opaque fuseRevision : BitVec 16
opaque fuseFeed : BitVec 16
opaque fuseKeyDigest : Nat → Vector Byte 32
opaque fuseKeyRevoked : Nat → Bool
opaque fuseCoreEnabled : Nat → Bool
opaque fuseRemap : Nat → BitVec 7
opaque fuseRemapState : Nat → BitVec 2

/-- What the management target answers under I3C that the manual does not give: the high 16 bits of the provisional ID, the bus and
device characteristics, the maximum data speed (R380; log 9). -/
opaque mgmtPidHigh : BitVec 16
opaque mgmtBcr : BitVec 8
opaque mgmtDcr : BitVec 8
opaque mgmtMxds : BitVec 16

/-- The provisioned identity: the public key and the certificate chain (R313). -/
opaque identityKey : Vector Byte 1952
opaque identityCerts : List Byte

/-- The bytes of the firmware slots as provisioned: slot and offset (log 5). -/
opaque flashByte : Nat → Nat → BitVec 8

/-- The bytes of objects outside the manual's layouts: the boot ROM and the fuse map as measured (R313; log 9). -/
opaque bootRom : List Byte
opaque fuseMap : List Byte

end Sys2Proof.Config
end

