-- ==== Sys2Proof/Machine/Operands.lean ====
section
/-! DEFINITION. Number formats and exact values (R32, R34 to R39, R46): decoding every operand format to an exact
value, exponent ceilings, and the exact arithmetic that every rounding starts from. -/

namespace Sys2Proof.Machine

/-- An exact value: NaN, an infinity, or a finite number `(-1)^neg * m * 2^e` (R34). -/
inductive Val where
  | nan
  | inf (neg : Bool)
  | fin (neg : Bool) (m : Nat) (e : Int)
  deriving DecidableEq, Repr

/-- A format of R34: exponent bits, significand bits, bias, and which special values it has. -/
structure FmtSpec where
  eb : Nat
  mb : Nat
  bias : Nat
  infs : Bool   -- all-ones exponent holds infinity and NaN
  e4m3 : Bool   -- NaN only as all ones
  deriving DecidableEq, Repr

def fp32 : FmtSpec := ⟨8, 23, 127, true, false⟩
def bf16 : FmtSpec := ⟨8, 7, 127, true, false⟩
def fp16 : FmtSpec := ⟨5, 10, 15, true, false⟩
def e4m3 : FmtSpec := ⟨4, 3, 7, false, true⟩
def e5m2 : FmtSpec := ⟨5, 2, 15, true, false⟩
def e3m2 : FmtSpec := ⟨3, 2, 3, false, false⟩
def e2m3 : FmtSpec := ⟨2, 3, 1, false, false⟩
def e2m1 : FmtSpec := ⟨2, 1, 1, false, false⟩

/-- The exponent of the last significand bit of a subnormal and of the smallest normal value. -/
def FmtSpec.emin (f : FmtSpec) : Int := 1 - (f.bias : Int) - (f.mb : Int)

/-- The value of a bit pattern in a floating-point format (R34). -/
def decodeFloat (f : FmtSpec) (b : Nat) : Val :=
  let neg := bitsOf b (f.eb + f.mb) 1 = 1
  let ex := bitsOf b f.mb f.eb
  let fr := bitsOf b 0 f.mb
  if f.infs && decide (ex = 2 ^ f.eb - 1) then (if fr = 0 then .inf neg else .nan)
  else if f.e4m3 && decide (ex = 15) && decide (fr = 7) then .nan
  else if ex = 0 then .fin neg fr f.emin
  else .fin neg (fr + 2 ^ f.mb) (f.emin + (ex : Int) - 1)

/-- An integer as an exact value. -/
def valOfInt (x : Int) (e : Int) : Val := .fin (decide (x < 0)) x.natAbs e

/-- The value of an element of an operand format code of R32, without its block scale; 0xB has the factor 2^-6 (R34). -/
def elemVal (code b : Nat) : Val :=
  match code with
  | 0x0 => decodeFloat fp32 b
  | 0x1 => decodeFloat bf16 b
  | 0x2 => decodeFloat fp16 b
  | 0x3 => decodeFloat e4m3 b
  | 0x4 => decodeFloat e5m2 b
  | 0x5 => valOfInt (signedOf 8 b) 0
  | 0x6 => decodeFloat e4m3 b
  | 0x7 => decodeFloat e5m2 b
  | 0x8 => decodeFloat e3m2 (b % 64)
  | 0x9 => decodeFloat e2m3 (b % 64)
  | 0xA => decodeFloat e2m1 (b % 16)
  | 0xB => valOfInt (signedOf 8 b) (-6)
  | _ => .nan

/-- The rank r of an operand format code, none where the code is not a PASS input (R32). -/
def fmtRank (code : Nat) : Option Nat :=
  if code = 0 then some 1 else if code ≤ 2 then some 2 else if code ≤ 9 then some 4
  else if code = 0xA then some 8 else if code = 0xB then some 4 else none

/-- Codes of the MX formats, whose elements share a scale by 32 (R36). -/
def isMx (code : Nat) : Bool := decide (6 ≤ code) && decide (code ≤ 0xB)

/-- Codes accepted as drain output (R32). -/
def isDrainFmt (code : Nat) : Bool := decide (code = 0) || decide (code = 1) || (decide (6 ≤ code) && decide (code ≤ 0xC))

/-- Element width in tile memory, in bits (R32, R37). -/
def elemBits (code : Nat) : Nat :=
  if code = 0 then 32 else if code ≤ 2 then 16 else if code = 0xA then 4 else if code = 0xC then 96 else 8

/-- An element value under an E8M0 scale byte: 0xFF is NaN (R35, R36). -/
def withScale (v : Val) (scale : Nat) : Val :=
  if scale = 0xFF then .nan else
  match v with
  | .fin n m e => .fin n m (e + (scale : Int) - 127)
  | v => v

/-- The ceiling of R38: floor(log2 |v|) + 1 of a finite non-zero value. -/
def Val.ceiling : Val → Option Int
  | .fin _ m e => if m = 0 then none else some (e + (bitLen m : Int))
  | _ => none

/-- The value with its sign as an integer significand. -/
def signedM (neg : Bool) (m : Nat) : Int := if neg then -(m : Int) else (m : Int)

/-- `m * 2^k` for a natural exponent. -/
def shl (m : Int) (k : Nat) : Int := m * (2 ^ k : Nat)

/-- A rounded quotient of magnitude `m / 2^k`, ties to even. -/
def roundNat (m k : Nat) : Nat :=
  let q := m / 2 ^ k
  let r := m % 2 ^ k
  if 2 * r > 2 ^ k ∨ (2 * r = 2 ^ k ∧ q % 2 = 1) then q + 1 else q

/-- `m / 2^k` rounded to an integer with ties to even. -/
def roundNE (m : Int) (k : Nat) : Int := if m < 0 then -(roundNat m.natAbs k : Int) else (roundNat m.natAbs k : Int)

/-- `m * 2^e` rounded to an integer with ties to even (`round_ne_scale` of R41). -/
def scaleNE (m e : Int) : Int := if 0 ≤ e then shl m e.toNat else roundNE m (-e).toNat

/-- The exact product of two finite values as significand and exponent. -/
def mulFin (n1 : Bool) (m1 : Nat) (e1 : Int) (n2 : Bool) (m2 : Nat) (e2 : Int) : Int × Int :=
  (signedM n1 m1 * signedM n2 m2, e1 + e2)

/-- Multiplication of values; the flag says an invalid operation 0 × ∞ (R110). -/
def Val.mul : Val → Val → Val × Bool
  | .nan, _ => (.nan, false)
  | _, .nan => (.nan, false)
  | .inf a, .inf b => (.inf (a != b), false)
  | .inf a, .fin b m _ => if m = 0 then (.nan, true) else (.inf (a != b), false)
  | .fin a m _, .inf b => if m = 0 then (.nan, true) else (.inf (a != b), false)
  | .fin a m e, .fin b m' e' => (.fin (a != b) (m * m') (e + e'), false)

/-- Exact addition; the flag says an invalid operation ∞ − ∞ (R110). An exact zero sum is +0 unless both are −0. -/
def Val.add : Val → Val → Val × Bool
  | .nan, _ => (.nan, false)
  | _, .nan => (.nan, false)
  | .inf a, .inf b => if a = b then (.inf a, false) else (.nan, true)
  | .inf a, .fin _ _ _ => (.inf a, false)
  | .fin _ _ _, .inf b => (.inf b, false)
  | .fin a m e, .fin b m' e' =>
    let x := min e e'
    let t := shl (signedM a m) (e - x).toNat + shl (signedM b m') (e' - x).toNat
    if t = 0 then (.fin (a && b && decide (m = 0)) 0 x, false) else (.fin (decide (t < 0)) t.natAbs x, false)

/-- The value with its sign flipped. -/
def Val.negate : Val → Val
  | .nan => .nan
  | .inf n => .inf !n
  | .fin n m e => .fin (!n) m e

/-- `a` is less than `b` as real numbers, infinities included, zeros of either sign equal; false with a NaN. -/
def Val.lt (a b : Val) : Bool :=
  match a, b with
  | .nan, _ => false
  | _, .nan => false
  | .inf x, .inf y => x && !y
  | .inf x, .fin _ _ _ => x
  | .fin _ _ _, .inf y => !y
  | .fin n m e, .fin n' m' e' =>
    let x := min e e'
    decide (shl (signedM n m) (e - x).toNat < shl (signedM n' m') (e' - x).toNat)

/-- Equality as real numbers; false with a NaN. -/
def Val.eqv (a b : Val) : Bool := a != .nan && b != .nan && !a.lt b && !b.lt a

/-- Whether the value is a NaN. -/
def Val.isNan : Val → Bool
  | .nan => true
  | _ => false

/-- Whether the value is zero. -/
def Val.isZero : Val → Bool
  | .fin _ m _ => decide (m = 0)
  | _ => false

/-- Whether the value is NaN or infinite, which no product accepts (R35). -/
def Val.special : Val → Bool
  | .fin _ _ _ => false
  | _ => true

/-- Integer square root of `n` below `4 ^ k`, one bit at a time. -/
def isqrt (n : Nat) : Nat → Nat → Nat
  | 0, acc => acc
  | k + 1, acc => let c := acc + 2 ^ k; if c * c ≤ n then isqrt n k c else isqrt n k acc

/-- `2^k / d` with a sticky last bit, so that one later rounding is correct: value of the result times 2^-(k+1). -/
def quotSticky (num d k : Nat) : Nat :=
  let q := num * 2 ^ k / d
  2 * q + (if q * d = num * 2 ^ k then 0 else 1)

/-- The exact quotient `a / b` of non-zero magnitudes, as a value that rounds like it (R57, R110). -/
def divFin (neg : Bool) (m : Nat) (e : Int) (m' : Nat) (e' : Int) : Val :=
  let k := bitLen m' + 80
  .fin neg (quotSticky m m' k) (e - e' - (k : Int) - 1)

/-- The exact reciprocal of a non-zero magnitude, as a value that rounds like it (R110). -/
def recipFin (neg : Bool) (m : Nat) (e : Int) : Val := divFin neg 1 0 m e

/-- The exact reciprocal square root of a positive value, as a value that rounds like it (R110). -/
def rsqrtFin (m : Nat) (e : Int) : Val :=
  let m' := if e % 2 = 0 then m else 2 * m
  let e' := if e % 2 = 0 then e else e - 1
  let k := bitLen m' + 40
  let q := isqrt (2 ^ (2 * k) / m') (k + 1) 0
  .fin false (2 * q + (if q * q * m' = 2 ^ (2 * k) then 0 else 1)) (-(e' / 2) - (k : Int) - 1)

end Sys2Proof.Machine
end

