-- ==== Sys2Proof/Machine/Flags.lean ====
section
/-! DEFINITION. Rounding, output conversions and their flags (R46, R47, R52 to R55, R110), and the wide word. -/

namespace Sys2Proof.Machine

/-- The wide word of R46: a signed 80-bit significand and a signed 16-bit exponent; exponent 0x7FFF is NaN. -/
structure Wide where
  m : BitVec 80
  x : BitVec 16
  deriving DecidableEq, Repr

/-- The canonical wide NaN (R46). -/
def Wide.nan : Wide := ⟨0, 0x7FFF⟩
/-- The word of zero bytes. -/
def Wide.zero : Wide := ⟨0, 0⟩
def Wide.isNan (g : Wide) : Bool := decide (g.x = 0x7FFF)
/-- A wide word of an integer significand and exponent. -/
def Wide.of (m x : Int) : Wide := ⟨BitVec.ofInt 80 m, BitVec.ofInt 16 x⟩
/-- The 96 bits of a wide word, significand below (R46). -/
def Wide.toNat (g : Wide) : Nat := g.m.toNat + g.x.toNat * 2 ^ 80
def Wide.ofNat (n : Nat) : Wide := ⟨BitVec.ofNat 80 n, BitVec.ofNat 16 (n / 2 ^ 80)⟩
/-- The exact value of a wide word; a wide zero has no sign (R52). -/
def Wide.val (g : Wide) : Val := if g.isNan then .nan else .fin (decide (g.m.toInt < 0)) g.m.toInt.natAbs g.x.toInt

/-- The wide word of `t * 2^e0` at the smallest exponent from `x0` on at which the rounded significand stays below 2^79
in magnitude; the flag is wide overflow (R47, R87). -/
def wideFit (t e0 x0 : Int) : Wide × Bool :=
  let k0 := (x0 - e0).toNat
  let k1 := max k0 (bitLen t.natAbs - 79)
  let r := roundNE t k1
  let k := if r.natAbs ≥ 2 ^ 79 then k1 + 1 else k1
  let x := e0 + (k : Int)
  if x ≥ 0x7FFF then (.nan, true) else (.of (roundNE t k) x, false)

/-- `wide_add` of R47 with its overflow flag. -/
def wideAdd (g h : Wide) : Wide × Bool :=
  if g.isNan || h.isNan then (.nan, false) else
  let gx := g.x.toInt
  let hx := h.x.toInt
  let x := min gx hx
  let t := shl g.m.toInt (gx - x).toNat + shl h.m.toInt (hx - x).toNat
  wideFit t x x

/-- FP32 to wide, exactly; NaN and infinities give the canonical wide NaN (R52). -/
def wideOfFp32 (b : Nat) : Wide :=
  match decodeFloat fp32 b with
  | .fin n m e => .of (signedM n m) e
  | _ => .nan

/-- A magnitude rounded to `p` significand bits with unit at least `2^emin`: nearest-even, or stochastic by `u` (R55).
The result is significand and exponent. -/
def roundMag (p : Nat) (emin : Int) (u : Option Nat) (m : Nat) (e : Int) : Nat × Int :=
  let ue := max emin (e + (bitLen m : Int) - (p : Int))
  if ue ≤ e then (m * 2 ^ (e - ue).toNat, ue) else
  let k := (ue - e).toNat
  match u with
  | none => (roundNat m k, ue)
  | some u =>
    let lo := m / 2 ^ k
    let t := (m % 2 ^ k) * 2 ^ 16 / 2 ^ k
    (if t + u ≥ 2 ^ 16 then lo + 1 else lo, ue)

/-- `m * 2^e ≤ m' * 2^e'` for magnitudes. -/
def leMag (m : Nat) (e : Int) (m' : Nat) (e' : Int) : Bool :=
  let x := min e e'
  decide (m * 2 ^ (e - x).toNat ≤ m' * 2 ^ (e' - x).toNat)

/-- The largest finite significand of a format and its exponent (R34). -/
def FmtSpec.maxM (f : FmtSpec) : Nat := if f.e4m3 then 14 else 2 ^ (f.mb + 1) - 1
def FmtSpec.maxE (f : FmtSpec) : Int :=
  let top : Int := (2 ^ f.eb : Nat) - 1 - (if f.infs then 1 else 0)
  f.emin + top - 1

/-- Whether a magnitude overflows a destination whose largest magnitude is `mm * 2^me`: in nearest-even mode at and above
it plus half a unit, otherwise when the rounded magnitude exceeds it (R52). -/
def overflows (mm : Nat) (me : Int) (u : Option Nat) (m : Nat) (e : Int) (q : Nat) (ue : Int) : Bool :=
  match u with
  | none => leMag (2 * mm + 1) (me - 1) m e
  | some _ => !leMag q ue mm me

/-- The bits of a rounded finite magnitude in a format. -/
def encodeMag (f : FmtSpec) (neg : Bool) (q : Nat) (ue : Int) : Nat :=
  let s := if neg then 2 ^ (f.eb + f.mb) else 0
  let (q, ue) := if q ≥ 2 ^ (f.mb + 1) then (q / 2, ue + 1) else (q, ue)
  if q < 2 ^ f.mb then s + q else s + (ue - f.emin + 1).toNat * 2 ^ f.mb + (q - 2 ^ f.mb)

/-- The bits of an infinity of a format that has one, the canonical NaN (R53), and the largest finite value. -/
def FmtSpec.infBits (f : FmtSpec) (neg : Bool) : Nat :=
  (if neg then 2 ^ (f.eb + f.mb) else 0) + (2 ^ f.eb - 1) * 2 ^ f.mb
def FmtSpec.nanBits (f : FmtSpec) : Nat := if f.e4m3 then 0x7F else (2 ^ f.eb - 1) * 2 ^ f.mb + 2 ^ (f.mb - 1)
def FmtSpec.maxBits (f : FmtSpec) (neg : Bool) : Nat := encodeMag f neg f.maxM f.maxE

/-- What an overflow gives: INFINITY mode an infinity, or the canonical NaN in E4M3; SATURATE the largest finite (R52). -/
def overBits (f : FmtSpec) (sat neg : Bool) : Nat :=
  if sat then f.maxBits neg else if f.infs then f.infBits neg else f.nanBits

/-- A finite value rounded once to a format; the flag is overflow (R52, R55). -/
def roundTo (f : FmtSpec) (sat : Bool) (u : Option Nat) (neg : Bool) (m : Nat) (e : Int) : Nat × Bool :=
  if m = 0 then (encodeMag f neg 0 0, false) else
  let (q, ue) := roundMag (f.mb + 1) f.emin u m e
  if overflows f.maxM f.maxE u m e q ue then (overBits f sat neg, true) else (encodeMag f neg q ue, false)

/-- A value converted to a format of R52: an infinity follows the infinity row of the table. -/
def cvtFloat (f : FmtSpec) (sat : Bool) (u : Option Nat) : Val → Nat × Bool
  | .nan => (f.nanBits, false)
  | .inf n => if !sat && f.infs then (f.infBits n, false) else (overBits f sat n, true)
  | .fin n m e => roundTo f sat u n m e

/-- A value converted to INT8 (R52): clamped to 127 or −128 with the flag, NaN gives 0 with the flag. -/
def cvtInt8 (u : Option Nat) : Val → Nat × Bool
  | .nan => (0, true)
  | .inf n => (if n then 0x80 else 0x7F, true)
  | .fin n m e =>
    if m = 0 then (0, false) else
    let (q, ue) := if 0 ≤ e then (m * 2 ^ e.toNat, (0 : Int)) else roundMag 4096 0 u m e
    let q := if ue > 0 then q * 2 ^ ue.toNat else q
    let lim := if n then 128 else 127
    if overflows lim 0 u m e q 0 then (if n then 0x80 else 0x7F, true)
    else (unsignedOf 8 (signedM n q), false)

/-- Arithmetic result to FP32 or BF16 under IEEE rules (R110): overflow to an infinity is flagged. -/
def arithTo (f : FmtSpec) : Val → Nat × Bool
  | .nan => (f.nanBits, false)
  | .inf n => (f.infBits n, false)
  | .fin n m e => roundTo f false none n m e

/-- The largest finite significand, its exponent and the emax of an MX element format (R34, R54). -/
def mxSpec (code : Nat) : Option FmtSpec :=
  match code with
  | 0x6 => some e4m3
  | 0x7 => some e5m2
  | 0x8 => some e3m2
  | 0x9 => some e2m3
  | 0xA => some e2m1
  | _ => none

def mxEmax (code : Nat) : Int :=
  match code with
  | 0x6 => 8
  | 0x7 => 15
  | 0x8 => 4
  | 0x9 => 2
  | 0xA => 2
  | _ => 0

/-- One element of an MX block: `v / 2^x` rounded, a result beyond the largest finite value clamped to it (R54). -/
def mxElem (code : Nat) (x : Int) (u : Option Nat) : Val → Nat
  | .fin n m e =>
    match mxSpec code with
    | some f => (roundTo { f with e4m3 := f.e4m3 } true u n m (e - x)).1
    | none =>
      if m = 0 then 0 else
      let e := e - x + 6
      let q := if 0 ≤ e then m * 2 ^ e.toNat else (roundMag 4096 0 u m e).1
      unsignedOf 8 (signedM n (min q 127))
  | _ => 0

/-- The largest of the magnitudes of a list, as floor(log2) + 1; none when all are zero (R54). -/
def maxCeiling (vs : List Val) : Option Int :=
  vs.foldl (fun a v => match a, v.ceiling with
    | none, c => c
    | some x, none => some x
    | some x, some y => some (max x y)) none

/-- An MX block of R54 from the values of its active elements, each with its draw: the scale byte, the elements, and the
out_overflow flag, set only when the scale was clamped at 127. -/
def mxBlock (code : Nat) (vs : List (Val × Option Nat)) : Nat × List Nat × Bool :=
  if vs.any (fun p => p.1.special) then (0xFF, vs.map (fun _ => 0), false) else
  match maxCeiling (vs.map (·.1)) with
  | none => (0, vs.map (fun p => mxElem code 0 p.2 p.1), false)
  | some c =>
    let x0 := c - 1 - mxEmax code
    let x := max (-127) (min 127 x0)
    ((x + 127).toNat, vs.map (fun p => mxElem code x p.2 p.1), decide (x0 > 127))

end Sys2Proof.Machine
end

