-- ==== Sys2Proof/Machine/Parts.lean ====
section
/-! DEFINITION. The state of the parts of the module above a core and its memory: the training step, the membership list,
the Bilpo ports, the host and CXL ports, the mailbox, the firmware, frost state, reset, power and management. -/

namespace Sys2Proof.Machine

/-! The training step (R232 to R240). -/

/-- A drift bucket of the step in progress (R232, R233). -/
structure Bucket where
  base : Nat
  wide : Bool
  elements : Nat
  tok : Nat
  sealCount : Nat
  localCount : Nat
  reducedCount : Nat
  reducedBase : Nat
  closed : Bool                  -- sealed
  reduced : Bool                 -- g is written for this module's shard
  run : Nat                      -- runs of its reduction begun after the first (R327)
  deriving DecidableEq, Repr

/-- The state of the training step. -/
structure Train where
  tables : Tbl (List Bucket)     -- tables supplied, by step; all ones for every step
  plans : Tbl (Nat × List (BitVec 8)) -- step plans: micro-batches planned, sample cursor tokens
  drops : List (Nat × Nat)       -- micro-batches dropped: step and index
  step : Nat                     -- the step in progress
  buckets : List Bucket          -- its bucket table
  parts : List Part              -- reduction parts received and not yet discarded
  updated : List (Nat × Nat)     -- tensor and bucket of the update runs of the step
  ready : Bool                   -- this module's ready report is sent
  reports : Tbl (BitVec 256)     -- ready reports the leader holds, by position
  formed : Option CommitRec      -- the record of the step, once the leader has formed it
  record : Option CommitRec      -- the last record applied
  idx : List Nat                 -- tensors whose committed version is B
  midx : List Nat                -- tensors of the mirror whose committed version is B
  mirrored : List Nat            -- tensors whose mirror index was switched by the last record
  replay : Tbl (List (BitVec 8)) -- registered update programs, by tensor
  retained : List (Nat × Nat)    -- step and bucket whose shard g is kept (R237)
  acked : List (Nat × Nat)       -- step and bucket whose g the partner has acknowledged (R237)
  owners : List (Nat × Nat)      -- bucket and position: the owners that have reduced a bucket of the step (R328)
  freed : List Nat               -- buckets of the step whose bytes are free
  mupdated : List (Nat × Nat × Nat) -- step, tensor and bucket of the updates made on the partner's mirror (R238)
  running : Bool                 -- the step in progress has begun: its token has been signalled (R240, R337)
  barred : List Nat              -- steps whose bucket table was refused; all ones for every step (R232)
  mirrorG : List (Nat × Nat × List (BitVec 8)) -- bucket, position and g of shards formed for a lost member (R329)
  deriving DecidableEq, Repr

/-- A membership list (R234): identifiers in ascending order, its epoch and its first step; members fenced for the epoch,
and the stand-in of each (R327). -/
structure Members where
  ids : List Nat
  epoch : Nat
  first : Nat
  fenced : List Nat
  standIn : Tbl Nat
  deriving DecidableEq, Repr

/-- A step token that waits for its signal: its number and count, and the message that is to be answered then (R262, R293). -/
structure HeldStep where
  st : Nat
  n : Nat
  ans : Option (Nat × MsgHdr)
  deriving DecidableEq, Repr

/-- What the survival of failures keeps (R315 to R338). -/
structure Survive where
  policy : List (BitVec 8)       -- policy header and entries in force
  policyNext : Option (List (BitVec 8)) -- from the next step boundary
  pairs : Tbl (Nat × Bool)       -- pair table: partner and override of each member
  probe : Nat                    -- number of the last probe
  probing : Bool                 -- it has no answer yet
  synced : Bool                  -- the copies of the mirror have landed (R321)
  interval : Nat                 -- firn snapshot interval in minutes
  lastMark : Nat                 -- reference time of the last marked step
  wanted : Bool                  -- a SNAPSHOT_NOW since then
  marks : List Nat               -- SNAPSHOT_MARKs received and not yet acted on
  number : Nat                   -- number of the last snapshot begun
  snapStep : Nat                 -- its step
  copying : Bool
  slot : Nat                     -- the destination slot it is written into
  header : List (BitVec 8)       -- its header, written last
  logUsed : Nat                  -- bytes of the step log since the last snapshot step
  plan : Option (List (BitVec 8))       -- the RESHARD plan accepted
  placed : Nat                   -- steps applied since then
  lostSelf : Bool                -- a loss notice named this module
  jobStopped : Bool              -- the job context is stopped for the rest of the step (R336)
  filling : List Nat             -- logical cores whose spares are being filled
  waitFill : List Nat            -- logical cores that wait for a spare
  deriving DecidableEq, Repr

/-! The Bilpo ports (R241 to R267). -/

/-- A flit in the replay buffer (R248): its sequence number and channel, and for the last flit of a message the number of
the message. -/
structure TxFlit where
  seq : Nat
  cls : Nat
  sub : Nat
  last : Bool
  dest : Nat
  src : Nat
  bytes : List (BitVec 8)
  msg : Option Nat
  deriving DecidableEq, Repr

/-- A message in a virtual channel of a port: the flits already sent, and its number where this module sends it. -/
structure TxMsg where
  h : MsgHdr
  data : List (BitVec 8)
  sent : Nat
  msg : Option Nat
  deriving DecidableEq, Repr

/-- A message of this module that has no final status yet (R256, R262, R263): its port and channel, its destination and tag,
whether a GET_DATA or COMPLETE answers it, the local address of a GET's data, and the TRANSFER it belongs to: the command's
tag and the message's place in it. -/
structure Sent where
  msg : Nat
  port : Nat
  cls : Nat
  dest : Nat
  tag : Nat
  reply : Bool
  loc : Nat
  len : Nat
  job : Option (Nat × Nat)
  shard : Option (Nat × Nat)     -- the step and bucket whose g it carries to the partner
  deriving DecidableEq, Repr

/-- A LINK_CTRL flit sent (R247, R251): its cumulative credit returns by channel, an optional NAK and heartbeat, and the lane of a
degrade request. -/
structure TxCtrl where
  credits : List Nat
  nak : Option Nat
  hb : Option Heartbeat
  degrade : Option Nat
  deriving DecidableEq, Repr

/-- What a transmitter puts into a slot (R247): NULL, GROUP, LINK_CTRL or DATA. -/
inductive Slot where
  | idle
  | group (counter : Nat)
  | ctrl (c : TxCtrl)
  | data (f : TxFlit)
  deriving DecidableEq, Repr

/-- A Bilpo port beyond its registers. -/
structure Port where
  rxSeq : Nat                    -- next sequence number expected
  txSeq : Nat                    -- next sequence number to use
  replay : List TxFlit           -- sent and not acknowledged, oldest first
  resend : Nat                   -- flits of the replay buffer still to be resent
  from_ : Option Nat             -- where the last replay began
  since : Nat                    -- slots since it began
  again : Nat                    -- consecutive replays from there
  rtt : Nat                      -- measured round trip in slots
  nakDue : Option Nat
  asked : Nat                    -- NAKs sent since the last accepted flit
  discarding : Bool
  vc : Tbl (List TxMsg)          -- messages by class * 2 + sub-channel, oldest first
  hist : List Nat                -- classes of the last 64 DATA slots, newest first
  seen : Tbl Nat                 -- cumulative credits returned by the peer, by channel
  open_ : Tbl (MsgHdr × List (BitVec 8)) -- incoming message without its last flit: its header and the data so far, by channel
  held : Tbl Nat                 -- flits in the receive buffer, by channel (R260)
  passed : Tbl Nat               -- cumulative credits returned to the peer, by channel
  returns : Bool                 -- credits or acknowledgements wait
  ctrlAge : Nat                  -- slots since the last LINK_CTRL
  slot : Nat                     -- flit of the group
  group : Nat                    -- group counter
  hbDue : Bool
  hbCount : Nat
  aligned : Bool
  missing : Nat                  -- consecutive GROUP flits missing
  found : Nat                    -- GROUP flits found while aligning
  rxStop : Nat                   -- the receive direction carries no data: the cause when R253 expires, 0 for none (R249, R251)
  txStop : Bool
  degrade : Option Nat           -- lane whose degrade request is being sent
  sevenAt : Option Nat           -- lane that the next group leaves idle
  failed : Option Nat            -- cause of a failed capability check
  farFailed : Nat                -- cause that the far end's check gave, 0 for none
  switchTo : Bool                -- the protocol version changes at the next group boundary (R265)
  told : Option ((Nat × Nat × Nat) × (Nat × Nat × Nat)) -- the level fields of the mismatch reported last: the peer's and its own
  peerLevels : Option (Nat × Nat × Nat) -- level in force, next level, switch step of the last heartbeat
  peerEpoch : Nat
  wire : Slot                    -- what the last slot carried
  scr : Nat                      -- state of the scrambler
  tail : List (BitVec 8)         -- scrambled bytes not yet in a codeword pair
  turn : Nat                     -- place of the next symbol pair in the round-robin of the lanes
  air : List (Nat × List Int)    -- the levels sent in the last slot, by lane; fenced, the period that every lane repeats (R243, R254)
  fencing : Bool                 -- the fence pattern is sent on every lane
  deriving DecidableEq, Repr

/-- The fabric beyond its ports. -/
structure Fabric where
  id : Nat                       -- module identifier (R15)
  ports : Tbl Port
  sent : List Sent
  next : Nat                     -- number of the next message
  deriving DecidableEq, Repr

/-! The host and CXL ports (R268 to R287). -/

/-- An MSI-X table entry (R268). -/
structure Msix where
  addr : Nat
  data : Nat
  mask : Bool
  deriving DecidableEq, Repr

/-- The host port beyond its registers. -/
structure HostSide where
  bar0 : Nat
  bar2 : Nat
  bar2Size : Nat                 -- power of two of GiB
  cplCode : Nat                  -- Device Control 2 completion timeout value
  ptmOn : Bool
  ptmGood : Nat                  -- consecutive successful dialogues
  ptmBad : Nat                   -- consecutive failures
  msixOn : Bool
  msixMask : Bool
  msix : Tbl Msix
  pend : List Nat                -- vectors whose pending bit is set
  told : Tbl Nat                 -- messages sent, by vector
  aer : List Nat                 -- AER uncorrectable errors logged, by bit
  aerMask : Nat                  -- AER masks and severity, as the host sets them (R278)
  aerSev : Nat
  aerCor : Nat
  mps : Nat                      -- Device Control: the codes of Max Payload Size and Max Read Request Size
  mrrs : Nat
  deriving DecidableEq, Repr

/-- A far-tier request outstanding at a CXL port (R284). -/
structure FarReq where
  who : Requester
  addr : Nat
  write : Bool
  cls : Nat
  deriving DecidableEq, Repr

/-- A CXL port beyond its registers. -/
structure Cxl where
  wait : List FarReq             -- not yet issued
  fly : List FarReq              -- outstanding, oldest first
  late : Nat                     -- consecutive timeouts
  load : Nat                     -- DevLoad
  hist : List Nat                -- classes of the last 64 request slots
  deriving DecidableEq, Repr

/-! The mailbox (R288 to R300). -/

/-- A decided completion (R290). -/
structure Done where
  tag : Nat
  opcode : Nat
  status : Nat
  detail : Nat
  head : Nat
  result : List (BitVec 8)
  stamp : Nat
  deriving DecidableEq, Repr

/-- A mailbox ring beyond its registers: the command in its synchronous part, how far it has come, its decided completion,
and the completion index. -/
structure Ring where
  cur : Option Nat               -- the 512 bits of the entry
  phase : Option (Nat × Nat)     -- a command that has begun: the mask and lowest status of the targets that failed
  cpl : Option Done
  idx : Nat
  orphan : Bool                  -- reset since it was fetched (R294)
  deriving DecidableEq, Repr

/-- An accepted command (R291): its ring, tag and opcode, an argument that its end looks at, whether its ring was reset, and
its outcome where that is decided. -/
structure Bg where
  ring : Nat
  tag : Nat
  opcode : Nat
  arg : Nat
  orphan : Bool
  out : Option (Nat × Nat × List (BitVec 8))
  deriving DecidableEq, Repr

/-- The mailbox and its events. -/
structure Mbx where
  sq : Tbl Nat                   -- submission entries by ring * 512 + place, 512 bits each
  rings : Tbl Ring
  bg : List Bg
  session : Nat
  evlog : List (Nat × List (BitVec 8))  -- the last 4,096 events: sequence number and the bytes of the record
  evIdx : Nat                    -- event-ring index
  binds : Tbl Nat                -- vector of each event group
  masks : List (Nat × Nat × Bool) -- EVENT_MASK settings, newest first
  lost : Option (Nat × Nat)      -- events not written since the last EVENT_LOST: count and first
  errlog : List (List (BitVec 8))
  thresholds : Tbl (Nat × Bool)  -- by set * 65,536 + counter: threshold and whether it was crossed
  transfers : Tbl (List (Nat × Nat))    -- TRANSFER by tag: final status of each message
  deriving DecidableEq, Repr

/-! Programs and contexts (R195, R301 to R303). -/

/-- A context: its first line and lines, its save address, and whether an image is loaded. -/
structure Ctx where
  first : Nat
  lines : Nat
  save : Nat
  image : List (BitVec 8)               -- the copy kept at PROGRAM_LOAD; empty for none
  deriving DecidableEq, Repr

/-- Time-slicing of a core (R303). -/
structure Slice where
  cur : Nat                      -- context in force
  ctxs : Tbl Ctx
  quantum : Nat                  -- µs, 0 off
  mid : Bool                     -- mid-pass mode
  mask : Nat
  want : Option (Nat × Bool)     -- context to switch to, and mid-pass
  hold : Option (Nat × Nat × BitVec 64 × Bool) -- engines held by a switch: their states, MOV_CTRL, the scalar held
  deriving DecidableEq, Repr

/-! Firmware and flash (R308 to R313, R350 to R358). -/

/-- A copy of the option area (R351). -/
structure OptArea where
  valid : Bool
  seq : Nat
  bootSlot : Nat
  startLimit : Nat
  autoTrain : Nat
  hbmPreserve : Nat
  wdPeriod : Nat
  rampSlope : Nat
  loadstepLead : Nat
  powerLimit : Nat
  pcieRate : Nat
  deriving DecidableEq, Repr

/-- A boot-log entry (R358). -/
structure BootEnt where
  start : Nat
  cause : Nat
  slot : Nat
  result : Nat
  count : Nat
  cycles : Nat
  checkA : Nat
  checkB : Nat
  deriving DecidableEq, Repr

/-- An activation in progress (R311): its slot, its limit in tests, the tests made, whether the standby has loaded the image,
whether the serving role has moved, and its tag. -/
structure Activation where
  slot : Nat
  limit : Nat
  tests : Nat
  loaded : Bool
  moved : Bool
  tag : Nat
  deriving DecidableEq, Repr

/-- A retirement of a channel (R212, R213, R216): its holders, a value of 1024 or more where the chunks went to released
groups. -/
structure Retire where
  chan : Nat
  slot : Nat
  repair : Bool
  groups : List Nat
  holders : List Nat
  deriving DecidableEq, Repr

/-- The NOR flash, the fused counter and the firmware. -/
structure Firm where
  opt0 : OptArea
  opt1 : OptArea
  inUse : Nat                    -- copy in use
  slotA : List (Nat × BitVec 8)
  slotB : List (Nat × BitVec 8)
  verified : List Nat
  serve : Nat                    -- slot of the serving image
  stand : Nat                    -- slot of the standby image
  svn : Nat                      -- fused counter
  act : Option Activation
  startCount : Nat               -- failed-start count
  starts : Nat                   -- starts since provisioning
  bootLog : List BootEnt         -- newest first, at most 64
  retired : List Retire          -- RETIRED channels of the boot record
  changed : Tbl Nat              -- reference time of the last change, by measurement kind
  deriving DecidableEq, Repr

/-! Frost state and reset (R341 to R363). -/

/-- The frost record (R346) and the state it describes. -/
structure Frost where
  entered : Bool                 -- since power-on
  cause : Nat
  entries : Nat
  secondary : Nat
  flags : Nat
  stamp : Nat
  detail : Nat
  mv : Nat
  p0 : Nat
  hottest : Nat
  times : List Nat               -- six, all ones where not reached
  lastSeq : Nat
  latchedAt : Nat                -- reference cycle of the latch
  ramp : Nat                     -- 0 none, 1 before the ramp, 2 ramping
  deriving DecidableEq, Repr

/-- Reset (R347 to R358). -/
structure Rst where
  waiting : Bool                 -- a reset is applied and the sequence has not started
  seq : Option Nat               -- entries of the release sequence done, while it runs
  source : Nat                   -- the reset being applied
  strap : Nat                    -- feed identifier as sampled
  lost : Bool                    -- stacked-memory contents were lost
  booted : Bool                  -- an image runs
  timer : Bool                   -- the BOOT_OK timer runs
  faultLow : Bool                -- FAULT_N driven low
  opt : OptArea                  -- the values in force
  responder : Bool               -- the always-on responder serves
  startedAt : Nat                -- reference cycle of the release of the control processors
  check : Nat × Nat              -- first failed check of each slot
  loaded : Bool                  -- a PROGRAM_LOAD since reset (R360)
  waitAck : List Nat             -- streamer blocks whose cancel is being waited for
  failover : Bool                -- the outage in progress is that of a failover
  deriving DecidableEq, Repr

/-- A power-controlled input (R382 to R386). -/
structure Power where
  hot : Bool                     -- line of source 609
  need : Tbl Nat                 -- step period that each throttle cause needs
  hostMin : Tbl Nat              -- THROTTLE_SET minimum by logical core
  mv : Nat
  amps : Nat
  target : Option Nat            -- end of the announced load ramp
  ramping : Bool
  toldAt : Tbl Nat               -- reference time of the last THROTTLE report, by cause
  warned : List Nat              -- sensors above the warning point
  out : Bool                     -- the input is out of range
  inrush : Bool                  -- inrush is being limited
  refresh2 : List Nat            -- stacks at twice the refresh rate
  deriving DecidableEq, Repr

/-- The management target (R380, R381). -/
structure Mgmt where
  dyn : Option Nat
  events : Bool                  -- in-band interrupts enabled
  ptr : Nat
  sample : List (BitVec 8)              -- the rest of the field being read
  ibi : Option Nat               -- in-band interrupt waiting, with its data byte
  alert : Bool                   -- MGMT_ALERT_N driven low
  last : Nat × Nat               -- mode and cause last seen
  deriving DecidableEq, Repr

end Sys2Proof.Machine
end

