-- ==== Sys2Proof/Machine/Bits.lean ====
section
/-! DEFINITION. Bit fields of registers and of words in memory. -/

namespace Sys2Proof.Machine

/-- The mask of `w` bits from bit `lo`. -/
def fieldMask (lo w : Nat) : BitVec 64 := BitVec.ofNat 64 (2 ^ w - 1) <<< lo

/-- Bits `[lo + w - 1 : lo]` of a register value. -/
def getBits (v : BitVec 64) (lo w : Nat) : Nat := bitsOf v.toNat lo w

/-- A register value with bits `[lo + w - 1 : lo]` replaced by the low bits of `x`. -/
def setBits (v : BitVec 64) (lo w x : Nat) : BitVec 64 :=
  (v &&& ~~~ fieldMask lo w) ||| ((BitVec.ofNat 64 x <<< lo) &&& fieldMask lo w)

end Sys2Proof.Machine
end

