-- ==== Sys2Proof/Machine/RegMap.lean ====
section
/-! DEFINITION. The register maps of the manual as data: for each register its window, offset and strides (R30 and the
register sections R20, R51, R100, R122, R160, R196, R226, R267, R287, R294, R340, R363, R375, R389), the bits under each
access code of R9, and its value after a power-on reset (R11). -/

namespace Sys2Proof

/-- A bit field of a register: its lowest bit and its width (R7). -/
structure Fld where
  lo : Nat
  w : Nat
  deriving DecidableEq, Repr

/-- The bits of a register under each writable or clearing access code of R9; every other bit is RO or reserved (R8). -/
structure Masks where
  rw : BitVec 64
  w1c : BitVec 64
  w1s : BitVec 64
  rc : BitVec 64
  wo : BitVec 64
  deriving DecidableEq, Repr

/-- Where a register lies: window base, stride and count (R30), offset, and the strides of its two indices. -/
structure Place where
  base : Nat
  stride : Nat
  count : Nat
  off : Nat
  n1 : Nat
  s1 : Nat
  n2 : Nat
  s2 : Nat
  deriving DecidableEq, Repr

/-- The place of each register. Ports keep their number of R16; BAR0 registers (R288) are keyed above the 52-bit device space. -/
def RegName.place : RegName → Place
  | .CP_CORE_REMAP => Place.mk 0x301001000000 0x1000000 1 0x1000 64 8 1 0
  | .OPE_NUM_CTRL => Place.mk 0x300000000000 0x10000 64 0x400 1 0 1 0
  | .OPE_NUM_FLAGS => Place.mk 0x300000000000 0x10000 64 0x408 1 0 1 0
  | .OPE_NUM_STATE => Place.mk 0x300000000000 0x10000 64 0x410 1 0 1 0
  | .OPE_CTRL => Place.mk 0x300000000000 0x10000 64 0x0 1 0 1 0
  | .OPE_STATUS => Place.mk 0x300000000000 0x10000 64 0x8 1 0 1 0
  | .OPE_FAULT => Place.mk 0x300000000000 0x10000 64 0x10 1 0 1 0
  | .OPE_THROTTLE => Place.mk 0x300000000000 0x10000 64 0x18 1 0 1 0
  | .OPE_CPL_BASE => Place.mk 0x300000000000 0x10000 64 0x20 1 0 1 0
  | .OPE_SAVE_BASE => Place.mk 0x300000000000 0x10000 64 0x28 1 0 1 0
  | .OPE_RING => Place.mk 0x300000000000 0x10000 64 0x100 8 16 1 0
  | .OPE_RING_SCALE => Place.mk 0x300000000000 0x10000 64 0x108 8 16 1 0
  | .OPE_DRAIN => Place.mk 0x300000000000 0x10000 64 0x200 8 16 1 0
  | .OPE_DRAIN_EXT => Place.mk 0x300000000000 0x10000 64 0x208 8 16 1 0
  | .OPE_SUMM => Place.mk 0x300000000000 0x10000 64 0x800 8 32 4 8
  | .VE_CTRL => Place.mk 0x300000000000 0x10000 64 0x1000 1 0 1 0
  | .VE_STATUS => Place.mk 0x300000000000 0x10000 64 0x1008 1 0 1 0
  | .VE_FAULT => Place.mk 0x300000000000 0x10000 64 0x1010 1 0 1 0
  | .VE_NUM_FLAGS => Place.mk 0x300000000000 0x10000 64 0x1018 1 0 1 0
  | .VE_PARAM => Place.mk 0x300000000000 0x10000 64 0x1100 16 8 1 0
  | .OPE_STALL => Place.mk 0x300000000000 0x10000 64 0xc00 12 8 1 0
  | .VE_STALL => Place.mk 0x300000000000 0x10000 64 0x1800 12 8 1 0
  | .MOV_STALL => Place.mk 0x300000000000 0x10000 64 0x2400 12 8 1 0
  | .TM_STALL_CTRL => Place.mk 0x300000000000 0x10000 64 0x2480 1 0 1 0
  | .MOV_CTRL => Place.mk 0x300000000000 0x10000 64 0x2000 1 0 1 0
  | .MOV_HOLD => Place.mk 0x300000000000 0x10000 64 0x2010 1 0 1 0
  | .MOV_LATE_BUDGET => Place.mk 0x300000000000 0x10000 64 0x2018 1 0 1 0
  | .MOV_Q_BASE => Place.mk 0x300000000000 0x10000 64 0x2100 8 64 1 0
  | .MOV_Q_CFG => Place.mk 0x300000000000 0x10000 64 0x2108 8 64 1 0
  | .MOV_Q_TAIL => Place.mk 0x300000000000 0x10000 64 0x2110 8 64 1 0
  | .MOV_Q_HEAD => Place.mk 0x300000000000 0x10000 64 0x2118 8 64 1 0
  | .MOV_Q_ERR => Place.mk 0x300000000000 0x10000 64 0x2120 8 64 1 0
  | .MOV_Q_CANCEL => Place.mk 0x300000000000 0x10000 64 0x2128 8 64 1 0
  | .MOV_Q_CANCEL_TOK => Place.mk 0x300000000000 0x10000 64 0x2130 8 64 1 0
  | .TM_ECC_STATUS => Place.mk 0x300000000000 0x10000 64 0x3000 1 0 1 0
  | .TM_ECC_ADDR => Place.mk 0x300000000000 0x10000 64 0x3008 1 0 1 0
  | .PUR_CORE_CFG => Place.mk 0x300000000000 0x10000 64 0x3800 1 0 1 0
  | .PUR_CORE_STATUS => Place.mk 0x300000000000 0x10000 64 0x3808 1 0 1 0
  | .PUR_DIE_CFG => Place.mk 0x301000200000 0x100000 4 0x1000 1 0 1 0
  | .PUR_DIE_STATUS => Place.mk 0x301000200000 0x100000 4 0x1008 1 0 1 0
  | .OPE_PC => Place.mk 0x300000000000 0x10000 64 0x30 1 0 1 0
  | .VE_PC => Place.mk 0x300000000000 0x10000 64 0x1020 1 0 1 0
  | .OPE_PC_END => Place.mk 0x300000000000 0x10000 64 0x38 1 0 1 0
  | .VE_PC_END => Place.mk 0x300000000000 0x10000 64 0x1028 1 0 1 0
  | .OPE_STREAM => Place.mk 0x300000000000 0x10000 64 0x40 1 0 1 0
  | .VE_STREAM => Place.mk 0x300000000000 0x10000 64 0x1030 1 0 1 0
  | .VE_GUARD => Place.mk 0x300000000000 0x10000 64 0x1038 1 0 1 0
  | .OPE_LOOPCNT => Place.mk 0x300000000000 0x10000 64 0x60 8 8 1 0
  | .VE_LOOPCNT => Place.mk 0x300000000000 0x10000 64 0x1060 8 8 1 0
  | .OPE_LOOP => Place.mk 0x300000000000 0x10000 64 0xa0 4 16 1 0
  | .VE_LOOP => Place.mk 0x300000000000 0x10000 64 0x10a0 4 16 1 0
  | .OPE_LOOP_END => Place.mk 0x300000000000 0x10000 64 0xa8 4 16 1 0
  | .VE_LOOP_END => Place.mk 0x300000000000 0x10000 64 0x10a8 4 16 1 0
  | .TOK_CNT_CORE => Place.mk 0x300000000000 0x10000 64 0x4000 64 8 1 0
  | .TOK_CNT_CLUSTER => Place.mk 0x301000000000 0x10000 16 0x0 16 8 1 0
  | .TOK_CNT_REGION => Place.mk 0x301000100000 0x10000 8 0x0 16 8 1 0
  | .TOK_CNT_DIE => Place.mk 0x301000200000 0x100000 4 0x0 16 8 1 0
  | .TOK_CNT_MODULE => Place.mk 0x301001000000 0x1000000 1 0x0 16 8 1 0
  | .TOK_SIG_CORE => Place.mk 0x300000000000 0x10000 64 0x4200 64 8 1 0
  | .TOK_SIG_CLUSTER => Place.mk 0x301000000000 0x10000 16 0x200 16 8 1 0
  | .TOK_SIG_REGION => Place.mk 0x301000100000 0x10000 8 0x200 16 8 1 0
  | .TOK_SIG_DIE => Place.mk 0x301000200000 0x100000 4 0x200 16 8 1 0
  | .TOK_SIG_MODULE => Place.mk 0x301001000000 0x1000000 1 0x200 16 8 1 0
  | .MOV_CANCEL => Place.mk 0x300000000000 0x10000 64 0x2008 1 0 1 0
  | .HBM_PMAP => Place.mk 0x301001000000 0x1000000 1 0x100000 4096 8 1 0
  | .HBM_CH_STATE => Place.mk 0x301001000000 0x1000000 1 0x108000 1024 8 1 0
  | .HBM_ARB => Place.mk 0x301001000000 0x1000000 1 0x10a000 1 0 1 0
  | .HBM_SPARE_STATUS => Place.mk 0x301001000000 0x1000000 1 0x10a008 1 0 1 0
  | .MSC_CTRL => Place.mk 0x301001000000 0x1000000 1 0x110000 1 0 1 0
  | .MSC_STATS => Place.mk 0x301001000000 0x1000000 1 0x110100 16 8 1 0
  | .WIN_CTRL => Place.mk 0x301000200000 0x100000 4 0x2000 1 0 1 0
  | .WIN_SCHED => Place.mk 0x301000200000 0x100000 4 0x2008 1 0 1 0
  | .WIN_WINDOW => Place.mk 0x301000200000 0x100000 4 0x2010 1 0 1 0
  | .WIN_STATUS => Place.mk 0x301000200000 0x100000 4 0x2018 1 0 1 0
  | .WIN_STEP => Place.mk 0x301000200000 0x100000 4 0x2020 1 0 1 0
  | .WIN_CANCEL => Place.mk 0x301000200000 0x100000 4 0x2028 1 0 1 0
  | .WIN_SLOT_STATUS => Place.mk 0x301000200000 0x100000 4 0x3000 8192 8 1 0
  | .WIN_REPLICA => Place.mk 0x301000200000 0x100000 4 0x2100 4 16 1 0
  | .WIN_REPLICA_SIZE => Place.mk 0x301000200000 0x100000 4 0x2108 4 16 1 0
  | .WIN_REPLICA_ALT => Place.mk 0x301000200000 0x100000 4 0x2200 4 8 1 0
  | .LNK_CTRL => Place.mk 0x301002000000 0x100000 12 0x0 1 0 1 0
  | .LNK_STATUS => Place.mk 0x301002000000 0x100000 12 0x8 1 0 1 0
  | .LNK_CAP => Place.mk 0x301002000000 0x100000 12 0x10 1 0 1 0
  | .LNK_PEER_CAP => Place.mk 0x301002000000 0x100000 12 0x18 1 0 1 0
  | .LNK_ERR => Place.mk 0x301002000000 0x100000 12 0x20 1 0 1 0
  | .LNK_HB => Place.mk 0x301002000000 0x100000 12 0x28 1 0 1 0
  | .LNK_CREDIT => Place.mk 0x301002000000 0x100000 12 0x30 3 8 1 0
  | .LNK_LANE => Place.mk 0x301002000000 0x100000 12 0x100 8 8 1 0
  | .LNK_LEVEL => Place.mk 0x301001000000 0x1000000 1 0x409000 1 0 1 0
  | .LNK_LEVEL_STEP => Place.mk 0x301001000000 0x1000000 1 0x409008 1 0 1 0
  | .LNK_ROUTE => Place.mk 0x301001000000 0x1000000 1 0x400000 4096 8 1 0
  | .LNK_RXWIN => Place.mk 0x301001000000 0x1000000 1 0x408000 16 16 1 0
  | .LNK_RXWIN_SIZE => Place.mk 0x301001000000 0x1000000 1 0x408008 16 16 1 0
  | .PCI_STATUS => Place.mk 0x301002000000 0x100000 1 0x0 1 0 1 0
  | .PCI_HOST_WIN => Place.mk 0x301002000000 0x100000 1 0x8 1 0 1 0
  | .PCI_REG_APERTURE => Place.mk 0x301002000000 0x100000 1 0x10 1 0 1 0
  | .PCI_APERTURE => Place.mk 0x301002000000 0x100000 1 0x100 4 8 1 0
  | .CXL_STATUS => Place.mk 0x301002000000 0x100000 5 0x0 1 0 1 0
  | .CXL_CTRL => Place.mk 0x301002000000 0x100000 5 0x8 1 0 1 0
  | .CXL_ERR => Place.mk 0x301002000000 0x100000 5 0x10 1 0 1 0
  | .CXL_HDM => Place.mk 0x301001000000 0x1000000 1 0x410000 16 16 1 0
  | .CXL_HDM_TGT => Place.mk 0x301001000000 0x1000000 1 0x410008 16 16 1 0
  | .PCI_MBX_SQ_TAIL => Place.mk 0x10000000000000 0x0 1 0x80000 16 64 1 0
  | .PCI_MBX_SQ_HEAD => Place.mk 0x10000000000000 0x0 1 0x80008 16 64 1 0
  | .PCI_MBX_CQ_BASE => Place.mk 0x10000000000000 0x0 1 0x80010 16 64 1 0
  | .PCI_MBX_CQ_CFG => Place.mk 0x10000000000000 0x0 1 0x80018 16 64 1 0
  | .PCI_MBX_CQ_HEAD => Place.mk 0x10000000000000 0x0 1 0x80020 16 64 1 0
  | .PCI_MBX_EV_BASE => Place.mk 0x10000000000000 0x0 1 0x80400 1 0 1 0
  | .PCI_MBX_EV_CFG => Place.mk 0x10000000000000 0x0 1 0x80408 1 0 1 0
  | .PCI_MBX_EV_HEAD => Place.mk 0x10000000000000 0x0 1 0x80410 1 0 1 0
  | .PCI_MBX_EV_STATUS => Place.mk 0x10000000000000 0x0 1 0x80418 1 0 1 0
  | .PCI_MBX_GLOBAL => Place.mk 0x10000000000000 0x0 1 0x80800 1 0 1 0
  | .CP_PAIR_STATUS => Place.mk 0x301001000000 0x1000000 1 0x420000 1 0 1 0
  | .CP_SNAPSHOT_STATUS => Place.mk 0x301001000000 0x1000000 1 0x420008 1 0 1 0
  | .CP_SNAPSHOT_STEP => Place.mk 0x301001000000 0x1000000 1 0x420010 1 0 1 0
  | .RST_STATUS => Place.mk 0x301001000000 0x1000000 1 0x430000 1 0 1 0
  | .RST_BLOCK => Place.mk 0x301001000000 0x1000000 1 0x431000 126 8 1 0
  | .RST_WDOG => Place.mk 0x301001000000 0x1000000 1 0x432000 2 8 1 0
  | .RST_FAILOVER => Place.mk 0x301001000000 0x1000000 1 0x432010 1 0 1 0
  | .ICU_SRC => Place.mk 0x301001000000 0x1000000 1 0x440000 768 8 1 0
  | .ICU_CORE_SRC => Place.mk 0x300000000000 0x10000 64 0x5040 8 8 1 0
  | .ICU_GROUP => Place.mk 0x301001000000 0x1000000 1 0x442000 48 8 1 0
  | .ICU_GROUP_SCALAR => Place.mk 0x301001000000 0x1000000 1 0x442400 16 8 1 0
  | .ICU_PEND => Place.mk 0x301001000000 0x1000000 1 0x443000 12 8 1 0
  | .ICU_FW_SET => Place.mk 0x301001000000 0x1000000 1 0x443100 2 8 1 0
  | .ICU_ALARM => Place.mk 0x301001000000 0x1000000 1 0x443200 16 16 1 0
  | .ICU_ALARM_CTL => Place.mk 0x301001000000 0x1000000 1 0x443208 16 16 1 0
  | .ICU_THRESHOLD => Place.mk 0x300000000000 0x10000 64 0x5000 1 0 1 0
  | .ICU_CP_THRESHOLD => Place.mk 0x301001000000 0x1000000 1 0x444000 2 64 1 0
  | .ICU_CLAIM => Place.mk 0x300000000000 0x10000 64 0x5008 1 0 1 0
  | .ICU_CP_CLAIM => Place.mk 0x301001000000 0x1000000 1 0x444008 2 64 1 0
  | .ICU_COMPLETE => Place.mk 0x300000000000 0x10000 64 0x5010 1 0 1 0
  | .ICU_CP_COMPLETE => Place.mk 0x301001000000 0x1000000 1 0x444010 2 64 1 0
  | .ICU_STATUS => Place.mk 0x300000000000 0x10000 64 0x5018 1 0 1 0
  | .ICU_CP_STATUS => Place.mk 0x301001000000 0x1000000 1 0x444018 2 64 1 0
  | .PWR_STATUS => Place.mk 0x301001000000 0x1000000 1 0x450000 1 0 1 0
  | .PWR_CTRL => Place.mk 0x301001000000 0x1000000 1 0x450008 1 0 1 0
  | .PWR_EXCURSION => Place.mk 0x301001000000 0x1000000 1 0x450010 1 0 1 0
  | .PWR_TEMP => Place.mk 0x301001000000 0x1000000 1 0x450100 64 8 1 0

/-- The access codes of each register, by bits (R9). -/
def RegName.masks : RegName → Masks
  | .CP_CORE_REMAP => Masks.mk 0x0 0x0 0x0 0x0 0x0
  | .OPE_NUM_CTRL => Masks.mk 0x7 0x0 0x0 0x0 0x0
  | .OPE_NUM_FLAGS => Masks.mk 0x0 0xffffffffffffffff 0x0 0x0 0x0
  | .OPE_NUM_STATE => Masks.mk 0x0 0x0 0x0 0x0 0x0
  | .OPE_CTRL => Masks.mk 0xa 0x0 0x35 0x0 0x0
  | .OPE_STATUS => Masks.mk 0x0 0x0 0x0 0x0 0x0
  | .OPE_FAULT => Masks.mk 0x0 0x0 0x0 0x0 0x0
  | .OPE_THROTTLE => Masks.mk 0x0 0x0 0x0 0x0 0x0
  | .OPE_CPL_BASE => Masks.mk 0x3fffff 0x0 0x0 0x0 0x0
  | .OPE_SAVE_BASE => Masks.mk 0x3ffe0 0x0 0x0 0x0 0x0
  | .OPE_RING => Masks.mk 0x1ffffffffffff8 0x0 0x0 0x0 0x0
  | .OPE_RING_SCALE => Masks.mk 0x3fffe 0x0 0x0 0x0 0x0
  | .OPE_DRAIN => Masks.mk 0x3fffffffffffff 0x0 0x0 0x0 0x0
  | .OPE_DRAIN_EXT => Masks.mk 0x1ffffff 0x0 0x0 0x0 0x0
  | .OPE_SUMM => Masks.mk 0xffffffffffffffff 0x0 0x0 0x0 0x0
  | .VE_CTRL => Masks.mk 0x0 0x0 0x1 0x0 0x0
  | .VE_STATUS => Masks.mk 0x0 0x0 0x0 0x0 0x0
  | .VE_FAULT => Masks.mk 0x0 0x0 0x0 0x0 0x0
  | .VE_NUM_FLAGS => Masks.mk 0x0 0xf 0x0 0x0 0x0
  | .VE_PARAM => Masks.mk 0xffffffff 0x0 0x0 0x0 0x0
  | .OPE_STALL => Masks.mk 0x0 0x0 0x0 0x0 0x0
  | .VE_STALL => Masks.mk 0x0 0x0 0x0 0x0 0x0
  | .MOV_STALL => Masks.mk 0x0 0x0 0x0 0x0 0x0
  | .TM_STALL_CTRL => Masks.mk 0x8 0x0 0x7 0x0 0x0
  | .MOV_CTRL => Masks.mk 0xff 0x0 0x0 0x0 0x0
  | .MOV_HOLD => Masks.mk 0x0 0x0 0x0 0x0 0x0
  | .MOV_LATE_BUDGET => Masks.mk 0xffffffff 0x0 0x0 0x0 0x0
  | .MOV_Q_BASE => Masks.mk 0x3ffff8 0x0 0x0 0x0 0x0
  | .MOV_Q_CFG => Masks.mk 0x3ff 0x0 0xc00 0x0 0x0
  | .MOV_Q_TAIL => Masks.mk 0xffff 0x0 0x0 0x0 0x0
  | .MOV_Q_HEAD => Masks.mk 0x0 0x0 0x0 0x0 0x0
  | .MOV_Q_ERR => Masks.mk 0x0 0x0 0x0 0x0 0x0
  | .MOV_Q_CANCEL => Masks.mk 0x0 0x0 0x0 0x0 0x0
  | .MOV_Q_CANCEL_TOK => Masks.mk 0x7ff 0x0 0x0 0x0 0x0
  | .TM_ECC_STATUS => Masks.mk 0x0 0x0 0x0 0xffffffffffff 0x0
  | .TM_ECC_ADDR => Masks.mk 0x0 0x0 0x0 0x0 0x0
  | .PUR_CORE_CFG => Masks.mk 0x3ffffff80 0x0 0x0 0x0 0x0
  | .PUR_CORE_STATUS => Masks.mk 0x0 0x0 0x0 0x0 0x0
  | .PUR_DIE_CFG => Masks.mk 0xffff003f 0x0 0x0 0x0 0x0
  | .PUR_DIE_STATUS => Masks.mk 0x0 0x0 0x0 0x0 0x0
  | .OPE_PC => Masks.mk 0x1ffffff 0x0 0x0 0x0 0x0
  | .VE_PC => Masks.mk 0x1ffffff 0x0 0x0 0x0 0x0
  | .OPE_PC_END => Masks.mk 0x1ffffff 0x0 0x0 0x0 0x0
  | .VE_PC_END => Masks.mk 0x1ffffff 0x0 0x0 0x0 0x0
  | .OPE_STREAM => Masks.mk 0x0 0x0 0x1 0x0 0x0
  | .VE_STREAM => Masks.mk 0x4 0x0 0x3 0x0 0x0
  | .VE_GUARD => Masks.mk 0x0 0x0 0x0 0x0 0x0
  | .OPE_LOOPCNT => Masks.mk 0xffffffff 0x0 0x0 0x0 0x0
  | .VE_LOOPCNT => Masks.mk 0xffffffff 0x0 0x0 0x0 0x0
  | .OPE_LOOP => Masks.mk 0x0 0x0 0x0 0x0 0x0
  | .VE_LOOP => Masks.mk 0x0 0x0 0x0 0x0 0x0
  | .OPE_LOOP_END => Masks.mk 0x0 0x0 0x0 0x0 0x0
  | .VE_LOOP_END => Masks.mk 0x0 0x0 0x0 0x0 0x0
  | .TOK_CNT_CORE => Masks.mk 0xffff 0x10000 0x0 0x0 0x0
  | .TOK_CNT_CLUSTER => Masks.mk 0xffff 0x10000 0x0 0x0 0x0
  | .TOK_CNT_REGION => Masks.mk 0xffff 0x10000 0x0 0x0 0x0
  | .TOK_CNT_DIE => Masks.mk 0xffff 0x10000 0x0 0x0 0x0
  | .TOK_CNT_MODULE => Masks.mk 0xffff 0x10000 0x0 0x0 0x0
  | .TOK_SIG_CORE => Masks.mk 0x0 0x0 0x0 0x0 0xffff
  | .TOK_SIG_CLUSTER => Masks.mk 0x0 0x0 0x0 0x0 0xffff
  | .TOK_SIG_REGION => Masks.mk 0x0 0x0 0x0 0x0 0xffff
  | .TOK_SIG_DIE => Masks.mk 0x0 0x0 0x0 0x0 0xffff
  | .TOK_SIG_MODULE => Masks.mk 0x0 0x0 0x0 0x0 0xffff
  | .MOV_CANCEL => Masks.mk 0x0 0x0 0xff 0x0 0x0
  | .HBM_PMAP => Masks.mk 0xffffffffff7fffff 0x0 0x0 0x0 0x0
  | .HBM_CH_STATE => Masks.mk 0x0 0x0 0x0 0xffffffff00000000 0x0
  | .HBM_ARB => Masks.mk 0xfff 0x0 0x0 0x0 0x0
  | .HBM_SPARE_STATUS => Masks.mk 0x0 0x0 0x0 0x0 0x0
  | .MSC_CTRL => Masks.mk 0x1f 0x0 0x20 0x0 0x0
  | .MSC_STATS => Masks.mk 0x0 0x0 0x0 0xffffffffffffffff 0x0
  | .WIN_CTRL => Masks.mk 0x3fffff 0x0 0x400000 0x0 0x0
  | .WIN_SCHED => Masks.mk 0xffffffffffffffff 0x0 0x0 0x0 0x0
  | .WIN_WINDOW => Masks.mk 0xffff001fffff 0x0 0x0 0x0 0x0
  | .WIN_STATUS => Masks.mk 0x0 0x0 0x0 0x0 0x0
  | .WIN_STEP => Masks.mk 0x0 0x0 0x0 0x0 0x0
  | .WIN_CANCEL => Masks.mk 0xfff0000 0x0 0x1 0x0 0x0
  | .WIN_SLOT_STATUS => Masks.mk 0x0 0x0 0x0 0x0 0x0
  | .WIN_REPLICA => Masks.mk 0x1fffffffffff 0x0 0x0 0x0 0x0
  | .WIN_REPLICA_SIZE => Masks.mk 0x1fffffffffff 0x0 0x0 0x0 0x0
  | .WIN_REPLICA_ALT => Masks.mk 0x1fffffffffff 0x0 0x0 0x0 0x0
  | .LNK_CTRL => Masks.mk 0xff008 0x0 0x7 0x0 0x0
  | .LNK_STATUS => Masks.mk 0x0 0x0 0x0 0x0 0x0
  | .LNK_CAP => Masks.mk 0x0 0x0 0x0 0x0 0x0
  | .LNK_PEER_CAP => Masks.mk 0x0 0x0 0x0 0x0 0x0
  | .LNK_ERR => Masks.mk 0x0 0x0 0x0 0xffffffffffffffff 0x0
  | .LNK_HB => Masks.mk 0x0 0x0 0x0 0x0 0x0
  | .LNK_CREDIT => Masks.mk 0x0 0x0 0x0 0xffff00000000 0x0
  | .LNK_LANE => Masks.mk 0x0 0x0 0x0 0xffffffff 0x0
  | .LNK_LEVEL => Masks.mk 0xffffffff 0x0 0x0 0x0 0x0
  | .LNK_LEVEL_STEP => Masks.mk 0xffffffffffffffff 0x0 0x0 0x0 0x0
  | .LNK_ROUTE => Masks.mk 0xffffffffffffffff 0x0 0x0 0x0 0x0
  | .LNK_RXWIN => Masks.mk 0x3fffffffffffff 0x0 0x0 0x0 0x0
  | .LNK_RXWIN_SIZE => Masks.mk 0xfffffffffffff 0x0 0x0 0x0 0x0
  | .PCI_STATUS => Masks.mk 0x0 0x0 0x0 0x0 0x0
  | .PCI_HOST_WIN => Masks.mk 0xfffffffffffff 0x0 0x0 0x0 0x0
  | .PCI_REG_APERTURE => Masks.mk 0xfffffff800000 0x0 0x0 0x0 0x0
  | .PCI_APERTURE => Masks.mk 0xfffffc0000000 0x0 0x0 0x0 0x0
  | .CXL_STATUS => Masks.mk 0x0 0x0 0x0 0x0 0x0
  | .CXL_CTRL => Masks.mk 0xf 0x0 0x30 0x0 0x0
  | .CXL_ERR => Masks.mk 0x0 0x0 0x0 0xffffffffffff 0x0
  | .CXL_HDM => Masks.mk 0xffffff0001ffff 0x0 0x0 0x0 0x0
  | .CXL_HDM_TGT => Masks.mk 0xff 0x0 0x0 0x0 0x0
  | .PCI_MBX_SQ_TAIL => Masks.mk 0xffff 0x0 0x0 0x0 0x0
  | .PCI_MBX_SQ_HEAD => Masks.mk 0x0 0x0 0x0 0x0 0x0
  | .PCI_MBX_CQ_BASE => Masks.mk 0xffffffffffffffc0 0x0 0x0 0x0 0x0
  | .PCI_MBX_CQ_CFG => Masks.mk 0x3f 0x0 0x40 0x0 0x0
  | .PCI_MBX_CQ_HEAD => Masks.mk 0xffff 0x0 0x0 0x0 0x0
  | .PCI_MBX_EV_BASE => Masks.mk 0xffffffffffffffc0 0x0 0x0 0x0 0x0
  | .PCI_MBX_EV_CFG => Masks.mk 0x3f 0x0 0x40 0x0 0x0
  | .PCI_MBX_EV_HEAD => Masks.mk 0xffff 0x0 0x0 0x0 0x0
  | .PCI_MBX_EV_STATUS => Masks.mk 0x0 0x0 0x0 0xffff00000000 0x0
  | .PCI_MBX_GLOBAL => Masks.mk 0x0 0x0 0x0 0x0 0x0
  | .CP_PAIR_STATUS => Masks.mk 0x0 0x0 0x0 0x0 0x0
  | .CP_SNAPSHOT_STATUS => Masks.mk 0x0 0x0 0x0 0x0 0x0
  | .CP_SNAPSHOT_STEP => Masks.mk 0x0 0x0 0x0 0x0 0x0
  | .RST_STATUS => Masks.mk 0x0 0x0 0x40 0x0 0x0
  | .RST_BLOCK => Masks.mk 0x1 0x0 0x2 0x0 0x0
  | .RST_WDOG => Masks.mk 0x0 0x0 0x1 0x0 0x0
  | .RST_FAILOVER => Masks.mk 0x0 0x0 0x0 0x0 0x0
  | .ICU_SRC => Masks.mk 0x7f 0x800 0x0 0x0 0x0
  | .ICU_CORE_SRC => Masks.mk 0x7f 0x800 0x0 0x0 0x0
  | .ICU_GROUP => Masks.mk 0xffff 0x0 0x0 0x0 0x0
  | .ICU_GROUP_SCALAR => Masks.mk 0xffffffffffffffff 0x0 0x0 0x0 0x0
  | .ICU_PEND => Masks.mk 0x0 0x0 0x0 0x0 0x0
  | .ICU_FW_SET => Masks.mk 0x0 0x0 0xffffffffffffffff 0x0 0x0
  | .ICU_ALARM => Masks.mk 0xffffffffffffffff 0x0 0x0 0x0 0x0
  | .ICU_ALARM_CTL => Masks.mk 0x1 0x0 0x0 0x0 0x0
  | .ICU_THRESHOLD => Masks.mk 0xf 0x0 0x0 0x0 0x0
  | .ICU_CP_THRESHOLD => Masks.mk 0xf 0x0 0x0 0x0 0x0
  | .ICU_CLAIM => Masks.mk 0x0 0x0 0x0 0xf07ff 0x0
  | .ICU_CP_CLAIM => Masks.mk 0x0 0x0 0x0 0xf07ff 0x0
  | .ICU_COMPLETE => Masks.mk 0x0 0x0 0x0 0x0 0x3ff
  | .ICU_CP_COMPLETE => Masks.mk 0x0 0x0 0x0 0x0 0x3ff
  | .ICU_STATUS => Masks.mk 0x0 0x200 0x0 0x0 0x0
  | .ICU_CP_STATUS => Masks.mk 0x0 0x200 0x0 0x0 0x0
  | .PWR_STATUS => Masks.mk 0x0 0x0 0x0 0x0 0x0
  | .PWR_CTRL => Masks.mk 0xffffffff 0x0 0x0 0x0 0x0
  | .PWR_EXCURSION => Masks.mk 0x0 0x0 0x0 0xffffffffffffffff 0x0
  | .PWR_TEMP => Masks.mk 0x0 0x0 0x0 0xffff0000 0x0

/-- The value after a power-on reset that the map gives for every index of the register alike (R11); `Reg.reset` adds
the ones that depend on the index, the fuses or the option area. -/
def RegName.resetBase : RegName → BitVec 64
  | .OPE_THROTTLE => 0x1
  | .OPE_CPL_BASE => 0x100000
  | .OPE_SUMM => 0x8000800080008000
  | .MOV_LATE_BUDGET => 0x186a00
  | .MOV_Q_BASE => 0x100000
  | .MOV_Q_CFG => 0x3cf
  | .PUR_DIE_CFG => 0xffff0000
  | .HBM_ARB => 0x108
  | .MSC_CTRL => 0xc
  | .LNK_CTRL => 0xff000
  | .LNK_STATUS => 0xffff00000000
  | .LNK_CAP => 0x20101
  | .LNK_LEVEL => 0x10001
  | .LNK_LEVEL_STEP => 0xffffffffffffffff
  | .LNK_ROUTE => 0x7777777777777777
  | .PCI_REG_APERTURE => 0x300000000000
  | .CXL_CTRL => 0x4
  | .PCI_MBX_CQ_CFG => 0x4
  | .PCI_MBX_EV_CFG => 0x4
  | .CP_PAIR_STATUS => 0xffff0000ffff
  | .CP_SNAPSHOT_STEP => 0xffffffffffffffff
  | .RST_BLOCK => 0x1
  | .ICU_SRC => 0x7f0000
  | .ICU_CORE_SRC => 0x7f0000
  | .PWR_STATUS => 0x4000000000000
  | _ => 0

/-- Every register name, in the order of the manual. -/
def RegName.all : List RegName := List.flatten [
  [RegName.CP_CORE_REMAP, RegName.OPE_NUM_CTRL, RegName.OPE_NUM_FLAGS, RegName.OPE_NUM_STATE, RegName.OPE_CTRL, RegName.OPE_STATUS],
  [RegName.OPE_FAULT, RegName.OPE_THROTTLE, RegName.OPE_CPL_BASE, RegName.OPE_SAVE_BASE, RegName.OPE_RING, RegName.OPE_RING_SCALE],
  [RegName.OPE_DRAIN, RegName.OPE_DRAIN_EXT, RegName.OPE_SUMM, RegName.VE_CTRL, RegName.VE_STATUS, RegName.VE_FAULT],
  [RegName.VE_NUM_FLAGS, RegName.VE_PARAM, RegName.OPE_STALL, RegName.VE_STALL, RegName.MOV_STALL, RegName.TM_STALL_CTRL],
  [RegName.MOV_CTRL, RegName.MOV_HOLD, RegName.MOV_LATE_BUDGET, RegName.MOV_Q_BASE, RegName.MOV_Q_CFG, RegName.MOV_Q_TAIL],
  [RegName.MOV_Q_HEAD, RegName.MOV_Q_ERR, RegName.MOV_Q_CANCEL, RegName.MOV_Q_CANCEL_TOK, RegName.TM_ECC_STATUS, RegName.TM_ECC_ADDR],
  [RegName.PUR_CORE_CFG, RegName.PUR_CORE_STATUS, RegName.PUR_DIE_CFG, RegName.PUR_DIE_STATUS, RegName.OPE_PC, RegName.VE_PC],
  [RegName.OPE_PC_END, RegName.VE_PC_END, RegName.OPE_STREAM, RegName.VE_STREAM, RegName.VE_GUARD, RegName.OPE_LOOPCNT],
  [RegName.VE_LOOPCNT, RegName.OPE_LOOP, RegName.VE_LOOP, RegName.OPE_LOOP_END, RegName.VE_LOOP_END, RegName.TOK_CNT_CORE],
  [RegName.TOK_CNT_CLUSTER, RegName.TOK_CNT_REGION, RegName.TOK_CNT_DIE, RegName.TOK_CNT_MODULE, RegName.TOK_SIG_CORE, RegName.TOK_SIG_CLUSTER],
  [RegName.TOK_SIG_REGION, RegName.TOK_SIG_DIE, RegName.TOK_SIG_MODULE, RegName.MOV_CANCEL, RegName.HBM_PMAP, RegName.HBM_CH_STATE],
  [RegName.HBM_ARB, RegName.HBM_SPARE_STATUS, RegName.MSC_CTRL, RegName.MSC_STATS, RegName.WIN_CTRL, RegName.WIN_SCHED],
  [RegName.WIN_WINDOW, RegName.WIN_STATUS, RegName.WIN_STEP, RegName.WIN_CANCEL, RegName.WIN_SLOT_STATUS, RegName.WIN_REPLICA],
  [RegName.WIN_REPLICA_SIZE, RegName.WIN_REPLICA_ALT, RegName.LNK_CTRL, RegName.LNK_STATUS, RegName.LNK_CAP, RegName.LNK_PEER_CAP],
  [RegName.LNK_ERR, RegName.LNK_HB, RegName.LNK_CREDIT, RegName.LNK_LANE, RegName.LNK_LEVEL, RegName.LNK_LEVEL_STEP],
  [RegName.LNK_ROUTE, RegName.LNK_RXWIN, RegName.LNK_RXWIN_SIZE, RegName.PCI_STATUS, RegName.PCI_HOST_WIN, RegName.PCI_REG_APERTURE],
  [RegName.PCI_APERTURE, RegName.CXL_STATUS, RegName.CXL_CTRL, RegName.CXL_ERR, RegName.CXL_HDM, RegName.CXL_HDM_TGT],
  [RegName.PCI_MBX_SQ_TAIL, RegName.PCI_MBX_SQ_HEAD, RegName.PCI_MBX_CQ_BASE, RegName.PCI_MBX_CQ_CFG, RegName.PCI_MBX_CQ_HEAD, RegName.PCI_MBX_EV_BASE],
  [RegName.PCI_MBX_EV_CFG, RegName.PCI_MBX_EV_HEAD, RegName.PCI_MBX_EV_STATUS, RegName.PCI_MBX_GLOBAL, RegName.CP_PAIR_STATUS, RegName.CP_SNAPSHOT_STATUS],
  [RegName.CP_SNAPSHOT_STEP, RegName.RST_STATUS, RegName.RST_BLOCK, RegName.RST_WDOG, RegName.RST_FAILOVER, RegName.ICU_SRC],
  [RegName.ICU_CORE_SRC, RegName.ICU_GROUP, RegName.ICU_GROUP_SCALAR, RegName.ICU_PEND, RegName.ICU_FW_SET, RegName.ICU_ALARM],
  [RegName.ICU_ALARM_CTL, RegName.ICU_THRESHOLD, RegName.ICU_CP_THRESHOLD, RegName.ICU_CLAIM, RegName.ICU_CP_CLAIM, RegName.ICU_COMPLETE],
  [RegName.ICU_CP_COMPLETE, RegName.ICU_STATUS, RegName.ICU_CP_STATUS, RegName.PWR_STATUS, RegName.PWR_CTRL, RegName.PWR_EXCURSION],
  [RegName.PWR_TEMP]]

/-- The register-space address of a register (R30). -/
def Reg.addr (r : Reg) : Nat :=
  let p := r.name.place
  p.base + r.u * p.stride + p.off + r.i * p.s1 + r.j * p.s2

/-- The indices of a register lie in its map: the unit in its window, each index below its count; RST_BLOCK 116 to 119
do not exist (R363), and LNK_ and CXL_ ports are 5 to 11 and 1 to 4 (R16). -/
def Reg.valid (r : Reg) : Bool :=
  let p := r.name.place
  let portOk := if p.base = 0x301002000000 then
      (if p.count = 12 then decide (5 ≤ r.u) else if p.count = 5 then decide (1 ≤ r.u) else true) else true
  decide (r.u < p.count) && decide (r.i < p.n1) && decide (r.j < p.n2) && portOk &&
    !(decide (r.name = .RST_BLOCK) && decide (116 ≤ r.i) && decide (r.i < 120))

/-- The register of one name at an 8-byte aligned register address, if any. -/
def RegName.at? (nm : RegName) (a : Nat) : Option Reg :=
  let p := nm.place
  if a < p.base then none else
  let u := if p.stride = 0 then 0 else (a - p.base) / p.stride
  let o := a - p.base - u * p.stride
  if o < p.off then none else
  let i := if p.s1 = 0 then 0 else (o - p.off) / p.s1
  let j := if p.s2 = 0 then 0 else (o - p.off - i * p.s1) / p.s2
  let r : Reg := ⟨nm, u, i, j⟩
  if r.valid && decide (r.addr = a) then some r else none

/-- The register at an address of register space (R30), none outside the registers a block defines. -/
def regAt (a : Nat) : Option Reg := RegName.all.findSome? (fun nm => nm.at? a)

end Sys2Proof
end

