-- ==== Sys2Proof/Machine/Fields.lean ====
section
/-! DEFINITION. The fields of the register maps, named by register and field as the manual names them (R7, R9). -/

namespace Sys2Proof.Machine.F

/-! CP_CORE_REMAP -/
def CP_CORE_REMAP_phys_core : Fld := ⟨0, 7⟩
def CP_CORE_REMAP_state : Fld := ⟨8, 2⟩
def CP_CORE_REMAP_borrowed : Fld := ⟨10, 1⟩
def CP_CORE_REMAP_remap_count : Fld := ⟨32, 16⟩
/-! OPE_NUM_CTRL -/
def OPE_NUM_CTRL_bound_trap : Fld := ⟨0, 1⟩
def OPE_NUM_CTRL_range_trap : Fld := ⟨1, 1⟩
def OPE_NUM_CTRL_nan_trap : Fld := ⟨2, 1⟩
/-! OPE_NUM_FLAGS -/
def OPE_NUM_FLAGS_flags : Fld := ⟨0, 64⟩
/-! OPE_NUM_STATE -/
def OPE_NUM_STATE_spill_count_0 : Fld := ⟨0, 16⟩
def OPE_NUM_STATE_spill_count_1 : Fld := ⟨16, 16⟩
def OPE_NUM_STATE_segment_length : Fld := ⟨32, 16⟩
/-! OPE_CTRL -/
def OPE_CTRL_suspend_req : Fld := ⟨0, 1⟩
def OPE_CTRL_save_gutter : Fld := ⟨1, 1⟩
def OPE_CTRL_resume_req : Fld := ⟨2, 1⟩
def OPE_CTRL_restore_gutter : Fld := ⟨3, 1⟩
def OPE_CTRL_dump : Fld := ⟨4, 1⟩
def OPE_CTRL_fault_clear : Fld := ⟨5, 1⟩
/-! OPE_STATUS -/
def OPE_STATUS_state : Fld := ⟨0, 2⟩
def OPE_STATUS_tile_open : Fld := ⟨2, 1⟩
def OPE_STATUS_open_slot : Fld := ⟨3, 1⟩
def OPE_STATUS_open_shape : Fld := ⟨4, 2⟩
def OPE_STATUS_shadow_busy : Fld := ⟨6, 1⟩
def OPE_STATUS_slot0_busy : Fld := ⟨7, 1⟩
def OPE_STATUS_slot1_busy : Fld := ⟨8, 1⟩
def OPE_STATUS_steps_issued : Fld := ⟨16, 16⟩
def OPE_STATUS_drain_rows_left : Fld := ⟨32, 9⟩
/-! OPE_FAULT -/
def OPE_FAULT_cause : Fld := ⟨0, 8⟩
def OPE_FAULT_step_reached : Fld := ⟨8, 16⟩
def OPE_FAULT_fault_pc : Fld := ⟨32, 32⟩
/-! OPE_THROTTLE -/
def OPE_THROTTLE_period : Fld := ⟨0, 5⟩
/-! OPE_CPL_BASE -/
def OPE_CPL_BASE_base_line : Fld := ⟨0, 18⟩
def OPE_CPL_BASE_size : Fld := ⟨18, 4⟩
/-! OPE_SAVE_BASE -/
def OPE_SAVE_BASE_save_line_hi : Fld := ⟨5, 13⟩
/-! OPE_RING -/
def OPE_RING_base_row : Fld := ⟨3, 15⟩
def OPE_RING_len_rows : Fld := ⟨18, 16⟩
def OPE_RING_feed_en : Fld := ⟨34, 1⟩
def OPE_RING_feed_tok : Fld := ⟨35, 6⟩
def OPE_RING_grant_m1 : Fld := ⟨41, 12⟩
/-! OPE_RING_SCALE -/
def OPE_RING_SCALE_scale_line_hi : Fld := ⟨1, 17⟩
/-! OPE_DRAIN -/
def OPE_DRAIN_dest_line : Fld := ⟨0, 18⟩
def OPE_DRAIN_stride_lines : Fld := ⟨18, 10⟩
def OPE_DRAIN_fmt_out : Fld := ⟨28, 4⟩
def OPE_DRAIN_round : Fld := ⟨32, 1⟩
def OPE_DRAIN_ovf : Fld := ⟨33, 1⟩
def OPE_DRAIN_bias_mode : Fld := ⟨34, 2⟩
def OPE_DRAIN_bias_line : Fld := ⟨36, 18⟩
/-! OPE_DRAIN_EXT -/
def OPE_DRAIN_EXT_scale_line : Fld := ⟨0, 18⟩
def OPE_DRAIN_EXT_tok_en : Fld := ⟨18, 1⟩
def OPE_DRAIN_EXT_drain_tok : Fld := ⟨19, 6⟩
/-! OPE_SUMM -/
def OPE_SUMM_s0 : Fld := ⟨0, 16⟩
def OPE_SUMM_s1 : Fld := ⟨16, 16⟩
def OPE_SUMM_s2 : Fld := ⟨32, 16⟩
def OPE_SUMM_s3 : Fld := ⟨48, 16⟩
/-! VE_CTRL -/
def VE_CTRL_fault_clear : Fld := ⟨0, 1⟩
/-! VE_STATUS -/
def VE_STATUS_state : Fld := ⟨0, 2⟩
def VE_STATUS_slot_loading : Fld := ⟨8, 16⟩
/-! VE_FAULT -/
def VE_FAULT_cause : Fld := ⟨0, 8⟩
def VE_FAULT_slot : Fld := ⟨8, 3⟩
def VE_FAULT_fault_pc : Fld := ⟨32, 32⟩
/-! VE_NUM_FLAGS -/
def VE_NUM_FLAGS_invalid : Fld := ⟨0, 1⟩
def VE_NUM_FLAGS_divzero : Fld := ⟨1, 1⟩
def VE_NUM_FLAGS_overflow : Fld := ⟨2, 1⟩
def VE_NUM_FLAGS_out_overflow : Fld := ⟨3, 1⟩
/-! VE_PARAM -/
def VE_PARAM_value : Fld := ⟨0, 32⟩
/-! OPE_STALL -/
def OPE_STALL_cycles : Fld := ⟨0, 64⟩
/-! TM_STALL_CTRL -/
def TM_STALL_CTRL_clr_ope : Fld := ⟨0, 1⟩
def TM_STALL_CTRL_clr_ve : Fld := ⟨1, 1⟩
def TM_STALL_CTRL_clr_mov : Fld := ⟨2, 1⟩
def TM_STALL_CTRL_freeze : Fld := ⟨3, 1⟩
/-! MOV_CTRL -/
def MOV_CTRL_enable : Fld := ⟨0, 8⟩
/-! MOV_HOLD -/
def MOV_HOLD_hold : Fld := ⟨0, 64⟩
/-! MOV_LATE_BUDGET -/
def MOV_LATE_BUDGET_budget : Fld := ⟨0, 32⟩
/-! MOV_Q_BASE -/
def MOV_Q_BASE_base_row : Fld := ⟨3, 15⟩
def MOV_Q_BASE_size : Fld := ⟨18, 4⟩
/-! MOV_Q_CFG -/
def MOV_Q_CFG_max_out_m1 : Fld := ⟨0, 6⟩
def MOV_Q_CFG_burst_m1 : Fld := ⟨6, 4⟩
def MOV_Q_CFG_fault_clear : Fld := ⟨10, 1⟩
def MOV_Q_CFG_skip_clear : Fld := ⟨11, 1⟩
def MOV_Q_CFG_epoch : Fld := ⟨16, 32⟩
/-! MOV_Q_TAIL -/
def MOV_Q_TAIL_tail : Fld := ⟨0, 16⟩
/-! MOV_Q_HEAD -/
def MOV_Q_HEAD_head : Fld := ⟨0, 16⟩
def MOV_Q_HEAD_start : Fld := ⟨16, 16⟩
def MOV_Q_HEAD_done : Fld := ⟨32, 16⟩
def MOV_Q_HEAD_outstanding : Fld := ⟨48, 7⟩
def MOV_Q_HEAD_state : Fld := ⟨55, 2⟩
/-! MOV_Q_ERR -/
def MOV_Q_ERR_cause : Fld := ⟨0, 8⟩
def MOV_Q_ERR_index : Fld := ⟨8, 16⟩
def MOV_Q_ERR_entry : Fld := ⟨24, 16⟩
/-! MOV_Q_CANCEL -/
def MOV_Q_CANCEL_epoch : Fld := ⟨0, 32⟩
def MOV_Q_CANCEL_descriptors : Fld := ⟨32, 16⟩
def MOV_Q_CANCEL_transfers : Fld := ⟨48, 16⟩
/-! MOV_Q_CANCEL_TOK -/
def MOV_Q_CANCEL_TOK_tok_en : Fld := ⟨0, 1⟩
def MOV_Q_CANCEL_TOK_tok : Fld := ⟨1, 9⟩
def MOV_Q_CANCEL_TOK_event : Fld := ⟨10, 1⟩
/-! TM_ECC_STATUS -/
def TM_ECC_STATUS_corrected : Fld := ⟨0, 32⟩
def TM_ECC_STATUS_uncorrectable : Fld := ⟨32, 16⟩
/-! TM_ECC_ADDR -/
def TM_ECC_ADDR_line : Fld := ⟨0, 18⟩
/-! PUR_CORE_CFG -/
def PUR_CORE_CFG_frame_hi : Fld := ⟨7, 11⟩
def PUR_CORE_CFG_frames_m1 : Fld := ⟨18, 3⟩
def PUR_CORE_CFG_rx_tok : Fld := ⟨21, 6⟩
def PUR_CORE_CFG_free_tok : Fld := ⟨27, 6⟩
def PUR_CORE_CFG_keep : Fld := ⟨33, 1⟩
/-! PUR_CORE_STATUS -/
def PUR_CORE_STATUS_pages_kept : Fld := ⟨0, 32⟩
def PUR_CORE_STATUS_crc_retries : Fld := ⟨32, 16⟩
/-! PUR_DIE_CFG -/
def PUR_DIE_CFG_enable : Fld := ⟨0, 1⟩
def PUR_DIE_CFG_source : Fld := ⟨1, 1⟩
def PUR_DIE_CFG_head : Fld := ⟨2, 4⟩
def PUR_DIE_CFG_members : Fld := ⟨16, 16⟩
/-! PUR_DIE_STATUS -/
def PUR_DIE_STATUS_next_seq : Fld := ⟨0, 32⟩
def PUR_DIE_STATUS_mode : Fld := ⟨32, 2⟩
/-! OPE_PC -/
def OPE_PC_pc : Fld := ⟨0, 25⟩
/-! OPE_PC_END -/
def OPE_PC_END_end : Fld := ⟨0, 25⟩
/-! OPE_STREAM -/
def OPE_STREAM_run : Fld := ⟨0, 1⟩
def OPE_STREAM_loop_depth : Fld := ⟨8, 3⟩
def OPE_STREAM_pending_sig : Fld := ⟨11, 3⟩
def OPE_STREAM_queued : Fld := ⟨32, 9⟩
/-! VE_STREAM -/
def VE_STREAM_run : Fld := ⟨0, 1⟩
def VE_STREAM_halt : Fld := ⟨1, 1⟩
def VE_STREAM_guard : Fld := ⟨2, 1⟩
def VE_STREAM_loop_depth : Fld := ⟨8, 3⟩
def VE_STREAM_queued : Fld := ⟨32, 10⟩
/-! VE_GUARD -/
def VE_GUARD_kind : Fld := ⟨0, 3⟩
def VE_GUARD_reg_class : Fld := ⟨3, 3⟩
def VE_GUARD_reg_index : Fld := ⟨6, 6⟩
def VE_GUARD_producer_pc : Fld := ⟨32, 32⟩
/-! OPE_LOOPCNT -/
def OPE_LOOPCNT_count : Fld := ⟨0, 32⟩
/-! OPE_LOOP -/
def OPE_LOOP_remaining : Fld := ⟨0, 32⟩
def OPE_LOOP_start_pc : Fld := ⟨32, 25⟩
def OPE_LOOP_active : Fld := ⟨63, 1⟩
/-! OPE_LOOP_END -/
def OPE_LOOP_END_end_pc : Fld := ⟨0, 25⟩
/-! TOK_CNT_CORE -/
def TOK_CNT_count : Fld := ⟨0, 16⟩
def TOK_CNT_ovf : Fld := ⟨16, 1⟩
/-! TOK_SIG_CORE -/
def TOK_SIG_n : Fld := ⟨0, 16⟩
/-! MOV_CANCEL -/
def MOV_CANCEL_cancel : Fld := ⟨0, 8⟩
/-! HBM_PMAP -/
def HBM_PMAP_base_page : Fld := ⟨0, 23⟩
def HBM_PMAP_count : Fld := ⟨24, 23⟩
def HBM_PMAP_class : Fld := ⟨47, 1⟩
def HBM_PMAP_mb_tag : Fld := ⟨48, 16⟩
/-! HBM_CH_STATE -/
def HBM_CH_STATE_state : Fld := ⟨0, 4⟩
def HBM_CH_STATE_slot : Fld := ⟨4, 4⟩
def HBM_CH_STATE_copy_ptr : Fld := ⟨8, 20⟩
def HBM_CH_STATE_extended : Fld := ⟨28, 1⟩
def HBM_CH_STATE_corrected : Fld := ⟨32, 16⟩
def HBM_CH_STATE_uncorrectable : Fld := ⟨48, 16⟩
/-! HBM_ARB -/
def HBM_ARB_min1 : Fld := ⟨0, 6⟩
def HBM_ARB_min2 : Fld := ⟨6, 6⟩
/-! HBM_SPARE_STATUS -/
def HBM_SPARE_STATUS_retirements : Fld := ⟨0, 5⟩
def HBM_SPARE_STATUS_groups_needed : Fld := ⟨16, 10⟩
def HBM_SPARE_STATUS_groups_released : Fld := ⟨32, 20⟩
/-! MSC_CTRL -/
def MSC_CTRL_keep_ways : Fld := ⟨0, 5⟩
def MSC_CTRL_flush : Fld := ⟨5, 1⟩
/-! MSC_STATS -/
def MSC_STATS_hits : Fld := ⟨0, 32⟩
def MSC_STATS_misses : Fld := ⟨32, 32⟩
/-! WIN_CTRL -/
def WIN_CTRL_enable : Fld := ⟨0, 1⟩
def WIN_CTRL_lookahead_m1 : Fld := ⟨1, 3⟩
def WIN_CTRL_ready_tok : Fld := ⟨4, 9⟩
def WIN_CTRL_rel_tok : Fld := ⟨13, 9⟩
def WIN_CTRL_fault_clear : Fld := ⟨22, 1⟩
/-! WIN_SCHED -/
def WIN_SCHED_sched_base : Fld := ⟨0, 52⟩
def WIN_SCHED_sched_count : Fld := ⟨52, 12⟩
/-! WIN_WINDOW -/
def WIN_WINDOW_base_hi : Fld := ⟨0, 21⟩
def WIN_WINDOW_pages : Fld := ⟨32, 16⟩
/-! WIN_STATUS -/
def WIN_STATUS_state : Fld := ⟨0, 3⟩
def WIN_STATUS_cause : Fld := ⟨3, 5⟩
def WIN_STATUS_record : Fld := ⟨8, 12⟩
def WIN_STATUS_unreleased : Fld := ⟨20, 4⟩
def WIN_STATUS_outstanding : Fld := ⟨24, 8⟩
def WIN_STATUS_next_q : Fld := ⟨32, 32⟩
/-! WIN_STEP -/
def WIN_STEP_step_count : Fld := ⟨0, 32⟩
def WIN_STEP_epoch : Fld := ⟨32, 32⟩
/-! WIN_CANCEL -/
def WIN_CANCEL_cancel : Fld := ⟨0, 1⟩
def WIN_CANCEL_restart_at : Fld := ⟨16, 12⟩
def WIN_CANCEL_discarded : Fld := ⟨32, 32⟩
/-! WIN_SLOT_STATUS -/
def WIN_SLOT_STATUS_slots : Fld := ⟨0, 32⟩
/-! WIN_REPLICA -/
def WIN_REPLICA_base : Fld := ⟨0, 45⟩
/-! WIN_REPLICA_SIZE -/
def WIN_REPLICA_SIZE_size : Fld := ⟨0, 45⟩
/-! WIN_REPLICA_ALT -/
def WIN_REPLICA_ALT_alt_offset : Fld := ⟨0, 45⟩
/-! LNK_CTRL -/
def LNK_CTRL_train : Fld := ⟨0, 1⟩
def LNK_CTRL_fence : Fld := ⟨1, 1⟩
def LNK_CTRL_renegotiate : Fld := ⟨2, 1⟩
def LNK_CTRL_pair_override : Fld := ⟨3, 1⟩
def LNK_CTRL_lane_mask : Fld := ⟨12, 8⟩
/-! LNK_STATUS -/
def LNK_STATUS_state : Fld := ⟨0, 4⟩
def LNK_STATUS_cause : Fld := ⟨4, 8⟩
def LNK_STATUS_rx_lanes : Fld := ⟨12, 8⟩
def LNK_STATUS_tx_lanes : Fld := ⟨20, 8⟩
def LNK_STATUS_proto : Fld := ⟨28, 4⟩
def LNK_STATUS_peer_id : Fld := ⟨32, 16⟩
def LNK_STATUS_peer_port : Fld := ⟨48, 4⟩
/-! LNK_CAP -/
def LNK_CAP_proto_min : Fld := ⟨0, 8⟩
def LNK_CAP_proto_max : Fld := ⟨8, 8⟩
def LNK_CAP_level_mask : Fld := ⟨16, 16⟩
def LNK_CAP_feed_id : Fld := ⟨32, 16⟩
/-! LNK_ERR -/
def LNK_ERR_uncorrectable : Fld := ⟨0, 16⟩
def LNK_ERR_crc_fail : Fld := ⟨16, 16⟩
def LNK_ERR_replays : Fld := ⟨32, 16⟩
def LNK_ERR_naks_sent : Fld := ⟨48, 16⟩
/-! LNK_HB -/
def LNK_HB_missed : Fld := ⟨0, 2⟩
def LNK_HB_last_hb : Fld := ⟨32, 32⟩
/-! LNK_CREDIT -/
def LNK_CREDIT_credits_0 : Fld := ⟨0, 11⟩
def LNK_CREDIT_credits_1 : Fld := ⟨16, 11⟩
def LNK_CREDIT_timeouts : Fld := ⟨32, 16⟩
/-! LNK_LANE -/
def LNK_LANE_corrected : Fld := ⟨0, 32⟩
def LNK_LANE_rx_active : Fld := ⟨32, 1⟩
def LNK_LANE_tx_active : Fld := ⟨33, 1⟩
def LNK_LANE_rx_snr : Fld := ⟨40, 8⟩
/-! LNK_LEVEL -/
def LNK_LEVEL_level_now : Fld := ⟨0, 16⟩
def LNK_LEVEL_level_next : Fld := ⟨16, 16⟩
/-! LNK_LEVEL_STEP -/
def LNK_LEVEL_STEP_switch_step : Fld := ⟨0, 64⟩
/-! LNK_ROUTE -/
def LNK_ROUTE_routes : Fld := ⟨0, 64⟩
/-! LNK_RXWIN -/
def LNK_RXWIN_base : Fld := ⟨0, 52⟩
def LNK_RXWIN_enable : Fld := ⟨52, 1⟩
def LNK_RXWIN_get_allowed : Fld := ⟨53, 1⟩
/-! LNK_RXWIN_SIZE -/
def LNK_RXWIN_SIZE_size : Fld := ⟨0, 52⟩
/-! PCI_STATUS -/
def PCI_STATUS_speed : Fld := ⟨0, 3⟩
def PCI_STATUS_width : Fld := ⟨3, 5⟩
def PCI_STATUS_bus_master : Fld := ⟨8, 1⟩
def PCI_STATUS_d3hot : Fld := ⟨9, 1⟩
def PCI_STATUS_ptm_locked : Fld := ⟨10, 1⟩
/-! PCI_HOST_WIN -/
def PCI_HOST_WIN_limit : Fld := ⟨0, 51⟩
def PCI_HOST_WIN_enable : Fld := ⟨51, 1⟩
/-! PCI_REG_APERTURE -/
def PCI_REG_APERTURE_base_hi : Fld := ⟨23, 29⟩
/-! PCI_APERTURE -/
def PCI_APERTURE_base_hi : Fld := ⟨30, 22⟩
/-! CXL_STATUS -/
def CXL_STATUS_state : Fld := ⟨0, 3⟩
def CXL_STATUS_width : Fld := ⟨3, 5⟩
def CXL_STATUS_switch : Fld := ⟨8, 1⟩
def CXL_STATUS_cause : Fld := ⟨9, 7⟩
def CXL_STATUS_capacity_gib : Fld := ⟨32, 16⟩
def CXL_STATUS_undecoded_gib : Fld := ⟨48, 16⟩
/-! CXL_CTRL -/
def CXL_CTRL_cpl_timeout : Fld := ⟨0, 4⟩
def CXL_CTRL_remove : Fld := ⟨4, 1⟩
def CXL_CTRL_train : Fld := ⟨5, 1⟩
/-! CXL_ERR -/
def CXL_ERR_poisoned : Fld := ⟨0, 16⟩
def CXL_ERR_timeouts : Fld := ⟨16, 16⟩
def CXL_ERR_crc_retries : Fld := ⟨32, 16⟩
/-! CXL_HDM -/
def CXL_HDM_base_hi : Fld := ⟨0, 17⟩
def CXL_HDM_size_hi : Fld := ⟨32, 18⟩
def CXL_HDM_ways : Fld := ⟨50, 2⟩
def CXL_HDM_gran : Fld := ⟨52, 3⟩
def CXL_HDM_enable : Fld := ⟨55, 1⟩
/-! CXL_HDM_TGT -/
def CXL_HDM_TGT_targets : Fld := ⟨0, 8⟩
/-! PCI_MBX_SQ_TAIL -/
def PCI_MBX_SQ_TAIL_tail : Fld := ⟨0, 16⟩
/-! PCI_MBX_SQ_HEAD -/
def PCI_MBX_SQ_HEAD_head : Fld := ⟨0, 16⟩
def PCI_MBX_SQ_HEAD_ring_error : Fld := ⟨16, 1⟩
def PCI_MBX_SQ_HEAD_paused : Fld := ⟨17, 1⟩
/-! PCI_MBX_CQ_BASE -/
def PCI_MBX_CQ_BASE_base_hi : Fld := ⟨6, 58⟩
/-! PCI_MBX_CQ_CFG -/
def PCI_MBX_CQ_CFG_size : Fld := ⟨0, 4⟩
def PCI_MBX_CQ_CFG_int_en : Fld := ⟨4, 1⟩
def PCI_MBX_CQ_CFG_enable : Fld := ⟨5, 1⟩
def PCI_MBX_CQ_CFG_reset : Fld := ⟨6, 1⟩
/-! PCI_MBX_CQ_HEAD -/
def PCI_MBX_CQ_HEAD_head : Fld := ⟨0, 16⟩
/-! PCI_MBX_EV_STATUS -/
def PCI_MBX_EV_STATUS_next_seq : Fld := ⟨0, 32⟩
def PCI_MBX_EV_STATUS_lost : Fld := ⟨32, 16⟩
/-! PCI_MBX_GLOBAL -/
def PCI_MBX_GLOBAL_mode : Fld := ⟨0, 3⟩
def PCI_MBX_GLOBAL_serving_die : Fld := ⟨3, 1⟩
def PCI_MBX_GLOBAL_standby_ready : Fld := ⟨4, 1⟩
def PCI_MBX_GLOBAL_fw_version : Fld := ⟨32, 32⟩
/-! CP_PAIR_STATUS -/
def CP_PAIR_STATUS_partner_id : Fld := ⟨0, 16⟩
def CP_PAIR_STATUS_mirror_state : Fld := ⟨16, 2⟩
def CP_PAIR_STATUS_override : Fld := ⟨18, 1⟩
def CP_PAIR_STATUS_feed_mismatch : Fld := ⟨19, 1⟩
def CP_PAIR_STATUS_stand_in : Fld := ⟨20, 1⟩
def CP_PAIR_STATUS_stood_for : Fld := ⟨32, 16⟩
/-! CP_SNAPSHOT_STATUS -/
def CP_SNAPSHOT_STATUS_last_complete : Fld := ⟨0, 32⟩
def CP_SNAPSHOT_STATUS_state : Fld := ⟨32, 2⟩
def CP_SNAPSHOT_STATUS_log_full : Fld := ⟨34, 1⟩
def CP_SNAPSHOT_STATUS_partner_copy : Fld := ⟨35, 1⟩
/-! CP_SNAPSHOT_STEP -/
def CP_SNAPSHOT_STEP_step : Fld := ⟨0, 64⟩
/-! RST_STATUS -/
def RST_STATUS_reset_cause : Fld := ⟨0, 4⟩
def RST_STATUS_frost : Fld := ⟨4, 1⟩
def RST_STATUS_snowbound : Fld := ⟨5, 1⟩
def RST_STATUS_boot_ok : Fld := ⟨6, 1⟩
def RST_STATUS_seq_done : Fld := ⟨7, 1⟩
def RST_STATUS_start_count : Fld := ⟨8, 4⟩
def RST_STATUS_start_limit : Fld := ⟨12, 4⟩
def RST_STATUS_opt_copy : Fld := ⟨16, 1⟩
def RST_STATUS_ramp_active : Fld := ⟨17, 1⟩
def RST_STATUS_frost_cause : Fld := ⟨24, 8⟩
/-! RST_BLOCK -/
def RST_BLOCK_enable : Fld := ⟨0, 1⟩
def RST_BLOCK_reset : Fld := ⟨1, 1⟩
def RST_BLOCK_state : Fld := ⟨2, 2⟩
def RST_BLOCK_pending : Fld := ⟨4, 2⟩
/-! RST_WDOG -/
def RST_WDOG_kick : Fld := ⟨0, 1⟩
def RST_WDOG_running : Fld := ⟨1, 1⟩
def RST_WDOG_remaining_ms : Fld := ⟨32, 32⟩
/-! RST_FAILOVER -/
def RST_FAILOVER_serving : Fld := ⟨0, 1⟩
def RST_FAILOVER_standby_ready : Fld := ⟨1, 1⟩
def RST_FAILOVER_failovers : Fld := ⟨16, 16⟩
def RST_FAILOVER_last_outage_ns : Fld := ⟨32, 32⟩
/-! ICU_SRC -/
def ICU_SRC_prio : Fld := ⟨0, 4⟩
def ICU_SRC_to_cp : Fld := ⟨4, 1⟩
def ICU_SRC_to_scalar : Fld := ⟨5, 1⟩
def ICU_SRC_to_standby : Fld := ⟨6, 1⟩
def ICU_SRC_trigger : Fld := ⟨8, 1⟩
def ICU_SRC_pending : Fld := ⟨9, 1⟩
def ICU_SRC_in_service : Fld := ⟨10, 1⟩
def ICU_SRC_overrun : Fld := ⟨11, 1⟩
def ICU_SRC_holder : Fld := ⟨16, 7⟩
/-! ICU_GROUP -/
def ICU_GROUP_holdoff : Fld := ⟨0, 16⟩
def ICU_GROUP_remaining : Fld := ⟨16, 16⟩
def ICU_GROUP_claims : Fld := ⟨32, 16⟩
/-! ICU_GROUP_SCALAR -/
def ICU_GROUP_SCALAR_cores : Fld := ⟨0, 64⟩
/-! ICU_PEND -/
def ICU_PEND_pending : Fld := ⟨0, 64⟩
/-! ICU_FW_SET -/
def ICU_FW_SET_set : Fld := ⟨0, 64⟩
/-! ICU_ALARM -/
def ICU_ALARM_time_ns : Fld := ⟨0, 64⟩
/-! ICU_ALARM_CTL -/
def ICU_ALARM_CTL_armed : Fld := ⟨0, 1⟩
/-! ICU_THRESHOLD -/
def ICU_THRESHOLD_threshold : Fld := ⟨0, 4⟩
/-! ICU_CLAIM -/
def ICU_CLAIM_source : Fld := ⟨0, 10⟩
def ICU_CLAIM_valid : Fld := ⟨10, 1⟩
def ICU_CLAIM_prio : Fld := ⟨16, 4⟩
/-! ICU_COMPLETE -/
def ICU_COMPLETE_source : Fld := ⟨0, 10⟩
/-! ICU_STATUS -/
def ICU_STATUS_level : Fld := ⟨0, 4⟩
def ICU_STATUS_depth : Fld := ⟨4, 4⟩
def ICU_STATUS_request : Fld := ⟨8, 1⟩
def ICU_STATUS_complete_err : Fld := ⟨9, 1⟩
def ICU_STATUS_levels : Fld := ⟨16, 16⟩
/-! PWR_STATUS -/
def PWR_STATUS_input_mv : Fld := ⟨0, 16⟩
def PWR_STATUS_input_w : Fld := ⟨16, 16⟩
def PWR_STATUS_hottest : Fld := ⟨32, 16⟩
def PWR_STATUS_loadstep : Fld := ⟨48, 2⟩
def PWR_STATUS_period : Fld := ⟨50, 5⟩
def PWR_STATUS_cause : Fld := ⟨55, 3⟩
def PWR_STATUS_refclk_lost : Fld := ⟨58, 1⟩
/-! PWR_CTRL -/
def PWR_CTRL_sustained_w : Fld := ⟨0, 16⟩
def PWR_CTRL_ramp_slope : Fld := ⟨16, 9⟩
def PWR_CTRL_loadstep_lead : Fld := ⟨25, 7⟩
/-! PWR_EXCURSION -/
def PWR_EXCURSION_rides : Fld := ⟨0, 16⟩
def PWR_EXCURSION_low : Fld := ⟨16, 16⟩
def PWR_EXCURSION_high : Fld := ⟨32, 16⟩
def PWR_EXCURSION_peaks : Fld := ⟨48, 16⟩
/-! PWR_TEMP -/
def PWR_TEMP_temp : Fld := ⟨0, 16⟩
def PWR_TEMP_max : Fld := ⟨16, 16⟩

end Sys2Proof.Machine.F
end

