-- ==== Sys2Proof/Machine/RegReset.lean ====
section
/-! DEFINITION. The value of every register after a reset (R11), with the values that depend on the index, the fuses or
the option area (log 5). -/

namespace Sys2Proof

/-- Interrupt sources that are level sources (R365); the rest of the defined ones are edges. -/
def levelSource (i : Nat) : Bool :=
  if i < 512 then (i % 8 = 0 || i % 8 = 1 || i % 8 = 2 || i % 8 = 6)
  else i = 529 || (544 ≤ i && i < 560 && i % 4 = 3) || (560 ≤ i && i < 576 && i % 4 = 1) || i = 590 || i = 602 ||
    i = 609 || i = 610

/-- Reserved interrupt sources, never asserted (R364, R365). -/
def reservedSource (i : Nat) : Bool :=
  (532 ≤ i && i < 544) || i = 591 || (604 ≤ i && i < 608) || (612 ≤ i && i < 624) || (629 ≤ i && i < 640) ||
    (645 ≤ i && i < 656) || 768 ≤ i

/-- The default physical core of a logical core (R17). -/
def defaultPhys (n : Nat) : Nat := n / 16 * 17 + n % 16

/-- A register's value after reset. -/
def Reg.reset (r : Reg) : BitVec 64 :=
  match r.name with
  | .CP_CORE_REMAP => BitVec.ofNat 64 (defaultPhys r.i)
  | .ICU_SRC => r.name.resetBase ||| (if levelSource r.i || reservedSource r.i then 0 else 0x100)
  | .RST_STATUS => 0x3000
  | .PWR_CTRL => BitVec.ofNat 64 (3600 + 100 * 2 ^ 16 + 20 * 2 ^ 25)
  | nm => nm.resetBase

end Sys2Proof
end

