-- ==== Sys2Proof/Machine/State.lean ====
section
/-! DEFINITION. The state of the module: every register of the register maps in one register file, and the state the
manual names beside them, as plain data. -/

namespace Sys2Proof.Machine

/-- Why the machine stops. The manual names no act at which the module stops: every command answers a next state. -/
inductive Fault where
  deriving DecidableEq, Repr

/-- Why a command is refused. -/
inductive Refusal where
  /-- Raised by an arm of `exec` that has no meaning yet. Safe: nothing is claimed of the command. -/
  | notModelled (mnemonic : String)
  deriving DecidableEq, Repr

/-- The status an access or a firmware action completes with (R20, R25, R30, R129). -/
inductive Status where
  | ok
  | unavailableTarget
  | fenced
  | uncorrectable
  | poisoned
  | decodeError
  | waiting
  | refused
  deriving DecidableEq, Repr

/-- The main window or shadow word of a cell with its two flag bits (R50, R61). -/
structure Win where
  s : BitVec 64
  range : Bool
  nan : Bool
  deriving DecidableEq, Repr

def Win.zero : Win := ⟨0, false, false⟩

/-- A random generator's 128 bits (R116). -/
structure Gen where
  x : BitVec 32
  y : BitVec 32
  z : BitVec 32
  w : BitVec 32
  deriving DecidableEq, Repr

/-- An instruction captured in an engine queue: its address, its bytes, and the fault cause it carries, 0 for none
(R162, R184). -/
structure QEnt where
  pc : Nat
  bytes : List Byte
  fault : Nat
  deriving DecidableEq, Repr

/-- A loop level as the fetcher follows it (R185). -/
structure FLoop where
  left : Nat
  start : Nat
  fin : Nat
  deriving DecidableEq, Repr

/-- The fetcher and queue of the outer-product or the vector engine (R161 to R164). -/
structure Stream where
  q : List QEnt
  fpc : Nat                -- next byte to fetch
  bpc : Nat                -- first byte of the instruction being assembled
  part : List Byte         -- its bytes so far
  loops : List FLoop       -- innermost first
  skip : Option Nat        -- looking for the ENDLOOP at this address, of a LOOP of count zero
  stop : Bool              -- nothing more to fetch until an instruction issues
  deriving DecidableEq, Repr

/-- The open tile (R45, R76). -/
structure Tile where
  id : Nat                       -- identifier of the PASS that opened it
  slot : Nat
  shape : Nat
  fmtL : Nat
  fmtR : Nat
  bias : Option (Nat × Nat)      -- bias mode and line, as sampled (R77)
  anchors : List Int             -- of the segment in effect
  prev : List Int                -- of the segment before it
  needAnchor : Bool              -- the next step begins a segment
  clearDue : Bool                -- the next step is step 0 of the begin PASS
  spillDue : Nat                 -- spills due before the next step
  numCtrl : BitVec 64            -- OPE_NUM_CTRL as the last PASS sampled it (R51)
  mAct : Nat
  nAct : Nat
  deriving DecidableEq, Repr

/-- The pass whose steps are issuing (R62, R70). -/
structure Run where
  id : Nat
  pc : Nat
  word : BitVec 128
  t : Nat                  -- steps issued
  steps : Nat              -- steps of the pass, 1 for an empty step
  empty : Bool             -- K = 0
  ringL : BitVec 64
  ringR : BitVec 64
  scaleL : BitVec 64
  scaleR : BitVec 64
  groupsL : Nat
  groupsR : Nat
  flags : BitVec 64        -- numeric flag word so far
  bp : Nat
  feed : Nat
  thr : Nat
  deriving DecidableEq, Repr

/-- A completion record requested and not yet written (R97, R98). -/
structure Cpl where
  id : Nat
  stepReached : Nat
  cause : Nat
  kind : Nat
  shape : Nat
  drained : Bool
  slot : Nat
  flags : BitVec 64
  spill : Nat
  bp : Nat
  feed : Nat
  thr : Nat
  deriving DecidableEq, Repr

/-- A closed tile on its way through the shadow set, with its drain set as sampled (R81, R85). Until its copy it keeps the
windows it closed with, since the next tile may already be entering the array behind it. -/
structure Drain where
  dset : BitVec 64
  dext : BitVec 64
  tile : Tile
  spilled : Bool
  rows : Nat               -- rows still to leave
  cpl : Cpl
  pc : Nat                 -- address of the instruction that closed it
  last : Nat               -- engine cycle in which its last step issued
  wins : List Win          -- its windows until the copy
  deriving DecidableEq, Repr

/-- An issue that may not have reached every cell yet (R63): a step, an empty step, or a spill made alone. The operand
registers of the cells (R61) hold its operands as they pass. -/
structure Flight where
  cyc : Nat                -- engine cycle of issue
  step : Bool              -- a step or an empty step
  run : Option Run         -- the pass and the number of its step, for a step with operands
  tile : Tile              -- the tile as it applies
  clear : Bool             -- it clears the cells of a new tile (R77)
  spill : Option Bool      -- it spills first (R79): whether the tile had spilled before
  left : List (List Val)   -- the operands of the row lanes, then of the column lanes
  right : List (List Val)
  main : List Win          -- the main set and the gutter slots before it
  gut0 : List Wide
  gut1 : List Wide
  deriving DecidableEq, Repr

/-- A save or a resume: its area, whether it includes the gutter, and whether it came from the queue (R90, R93). -/
structure Save where
  line : Nat
  gutter : Bool
  queued : Bool
  dump : Bool
  id : Nat
  pc : Nat                 -- address of its word; of the engine's next word where it is a request
  deriving DecidableEq, Repr

/-- A SIGTOK with when = 1: it signals once every record with an identifier below `upto` is written (R181). -/
structure PSig where
  ref : Nat
  n : Nat
  upto : Nat
  deriving DecidableEq, Repr

/-- What a save leaves in the engine, because the save area of R92 has no place for it (log 14): the open tile, the
running pass, the draining tile, the closed tiles that wait for their copy, and the steps that the freeze discarded, each
with its bit of the issue history. -/
structure Parked where
  tile : Option Tile
  run : Option Run
  drain : Option Drain
  closed : List Drain
  hist : List (Nat × Flight)
  deriving DecidableEq, Repr

/-- What the instruction at the head of the stream has waited for, and the flags of the spills made for it (R98). -/
structure Waited where
  bp : Nat
  thr : Nat
  flags : BitVec 64
  deriving DecidableEq, Repr

/-- The outer-product engine of a core. -/
structure Ope where
  cyc : Nat                      -- engine cycle count
  st : Stream
  main : List Win                -- cell (i, j) at 256 i + j
  shadow : List Win
  gut0 : List Wide
  gut1 : List Wide
  tile : Option Tile
  run : Option Run
  closed : List Drain            -- wait for their copy cycles, oldest first
  flights : List Flight          -- issues of the last 512 engine cycles, oldest first
  waited : Waited                -- of a DRAIN or a CELLWISE that has not started
  drain : Option Drain           -- in the shadow set
  fin : List Drain               -- released, its last rows on their way to tile memory
  cw : Option QEnt               -- a CELLWISE that has not started
  cwRun : Option Cpl             -- a CELLWISE that has started
  susp : Option Save
  saving : Option Save
  resume : Option Save
  replay : Option Save           -- restored, replay not begun
  sigs : List PSig
  cpls : List Cpl
  nextId : Nat
  out : List Nat                 -- identifiers of instructions whose records are not yet written
  seq : BitVec 32
  nextAt : Nat                   -- engine cycle from which the shape's pattern allows the next step
  lastIssue : Nat
  lastShape : Option Nat
  lastSpill : Option Nat
  gens : List Gen                -- drain-path generators
  hist : List (Nat × Flight)     -- issue history of a frozen or restored array, oldest first
  parked : Tbl Parked            -- by save line, what the save area does not hold (log 14)
  late : Nat                     -- core cycles of the running code-2 wait
  lateRaised : Bool
  deriving DecidableEq, Repr

/-- What an operation in flight in the vector engine will do at its cycle (R103, R105, R106, R114, R118). -/
inductive VAct where
  | v (r : Nat) (mask : List Bool) (bits : BitVec 32) (vals : List (BitVec 32)) (flags : Nat)
  | w (r : Nat) (mask : List Bool) (vals : List Wide) (flags : Nat)
  | p (r : Nat) (mask : List Bool) (vals : List Bool)
  | a (r : Nat) (val : BitVec 32)
  | rput (drain : Bool) (q : Nat) (mask : List Bool) (vals : List (BitVec 32))
  | seed (drain : Bool) (gens : List Gen)
  | store (line : Nat) (bytes : List (Option Byte)) (derr : Bool)
  | loadRead (id off len : Nat) (derr : Bool)
  | loadV (id r : Nat) (mask : List Bool)
  | loadB (id r : Nat) (mask : List Bool)
  | loadW (id r : Nat) (mask : List Bool)
  | tblRead (id line part : Nat)
  | tblEffect (id slot : Nat)
  deriving DecidableEq, Repr

/-- An operation in flight: the engine cycle of its effect, its order of issue, its bundle and slot. -/
structure Pend where
  due : Nat
  seq : Nat
  pc : Nat
  slot : Nat
  act : VAct
  deriving DecidableEq, Repr

/-- The vector engine of a core (R101). -/
structure Ve where
  cyc : Nat
  seq : Nat
  st : Stream
  v : Tbl (List (BitVec 32))
  w : Tbl (List Wide)
  p : Tbl (List Bool)
  a : Tbl (BitVec 32)
  gens : List Gen
  slots : Tbl (List Byte)
  pend : List Pend               -- in the order they take effect
  data : Tbl (List Byte)         -- bytes read by loads in flight
  dead : List Nat                -- loads in flight that will write nothing
  wld : Nat                      -- bundles for which a WLD still occupies the LOAD path
  wst : Nat
  stored : Nat                   -- the cycle after that of the last store written (R108)
  guard : Bool                   -- guard mode of this run
  halted : Bool                  -- stopped by the halt bit
  sliced : Bool                  -- held by time-slicing
  late : Nat
  lateRaised : Bool
  deriving DecidableEq, Repr

/-- A transfer in flight: its place in its descriptor, the index entry it serves, its writes, its epoch, and whether its
source is a host read still outstanding (R134, R274). -/
structure Xfer where
  i : Nat
  j : Nat
  row : Nat
  p : Nat                        -- pieces of a PANEL's lane and step read before it
  writes : List (Nat × List Byte)
  epoch : Nat
  host : Bool
  d : Nat                        -- its descriptor
  deriving DecidableEq, Repr

/-- A started descriptor: its ring index, its 512 bits, the position of its next transfer, the index entry read for it, and
its transfers in flight. -/
structure MDesc where
  idx : Nat
  d : Nat
  i : Nat
  j : Nat
  p : Nat                        -- pieces of a PANEL's lane and step read so far, and their bytes
  got : List Byte
  row : Option Nat               -- index entry of a GATHER or SCATTER, as read
  fly : List Xfer
  maxes : Tbl Int                -- MX: largest ceiling by lane * 4096 + block, before the scale
  scales : Tbl Nat               -- MX: the scale bytes by the same key
  summ : Tbl Int                 -- largest ceiling by sub-array, not MX
  badEntry : Option Nat          -- entry whose index is out of range
  held : List (Nat × Nat)        -- the window slots, by die, whose poisoned pages it waits for
  deriving DecidableEq, Repr

/-- A move queue (R131 to R136). -/
structure MQueue where
  fetched : List (Nat × Nat)     -- ring index and 512 bits
  bad : List Nat                 -- fetched entries whose read found an uncorrectable error
  started : List MDesc
  old : List Xfer                -- transfers of stopped or cancelled descriptors still outstanding
  cut : Nat                      -- transfers cut off by the running cancel
  cancelTail : Nat
  undone : Nat                   -- entries the running cancel left unretired
  held : List (Nat × Nat)        -- the same for the next descriptor to start
  deriving DecidableEq, Repr

/-- The scalar processor of a core (R172 to R175). -/
structure Scalar where
  x : Tbl (BitVec 32)
  pc : BitVec 32
  mie : Bool
  mpie : Bool
  meie : Bool
  mtvec : BitVec 32
  mepc : BitVec 32
  mcause : BitVec 32
  mtval : BitVec 32
  mscratch : BitVec 32
  cycleOff : BitVec 64
  instret : BitVec 64
  toksel : BitVec 32
  qsel : BitVec 32
  imem : List Host.Cell
  dmem : List Host.Cell
  held : Bool
  waiting : Bool                 -- in WFI
  deriving DecidableEq, Repr

/-- One logical core. -/
structure Core where
  ope : Ope
  ve : Ve
  mov : Tbl MQueue
  movLate : Nat                  -- core cycles of the move engine's running code-2 wait
  movLateRaised : Bool
  sca : Scalar
  scrub : Nat                    -- next line of the tile-memory scrubber (R129)
  deriving DecidableEq, Repr

/-- What a context that is not in force left at its switch: its part of the core, its registers, and whether its open tile is in
the save area of its partition (R302). -/
structure Saved where
  core : Core
  regs : Tbl (BitVec 64)
  mid : Bool
  deriving DecidableEq, Repr

/-- A page in the purlin chain: its sequence number, its bytes, whether the window streamer sent it, and for each member in
chain order the flits received (R151 to R153). -/
structure ChainPage where
  seq : Nat
  cells : List Host.Cell
  stream : Bool
  flits : List (Nat × Nat)
  accepted : List Nat
  written : List Nat
  deriving DecidableEq, Repr

/-- A layer of the window streamer, unreleased (R218 to R222). -/
structure WLayer where
  layer : Nat                    -- layer_id
  chain : Bool
  first : Nat                    -- q of its first page
  runs : List (Nat × Nat)        -- address and pages
  asked : Nat                    -- pages requested
  sent : Nat                     -- pages injected into the chain
  signalled : Bool
  deriving DecidableEq, Repr

/-- The window streamer of a die (R218 to R225). -/
structure WinSt where
  base : Nat                     -- window_base, as sampled at enable
  pages : Nat                    -- window_pages, 0 before the first enable
  layers : List WLayer           -- oldest first
  fly : List (Nat × Nat)         -- fetches outstanding: window sequence number and address
  old : List Nat                 -- fetches of a cancelled epoch still outstanding
  retry : Tbl Nat                -- slot: source being tried, 1 to 4, or 5 when all failed
  prior : Nat                    -- state before FAULTED
  next : Option (Option Nat × Bool) -- while the pages of WIN_STATUS.record are being asked for: the record that follows it, and
                                 -- whether it is a wrap record
  ended : Bool                   -- the schedule has ended
  deriving DecidableEq, Repr

/-- One compute die. -/
structure Die where
  chain : List ChainPage
  fails : Tbl Nat                -- consecutive failed sends into each member (R154)
  win : WinSt
  deriving DecidableEq, Repr

/-- A line of the memory-side cache (R207 to R209): its line number, its mark, and for a dirty line the 128 bytes that
memory holds behind it. -/
structure CLine where
  line : Nat
  keep : Bool
  dirty : Option (List Byte)
  deriving DecidableEq, Repr

/-- What the failure of a channel's source took (R215, R216): from which chunk, the chunks it did not take, and the bursts
written whole since. -/
structure ChanLoss where
  first : Nat
  keep : List Nat
  healed : List Nat
  deriving DecidableEq, Repr

/-- A logical pseudo-channel (R206, R210, R211, R215). -/
structure HChan where
  q : List HReq
  hist : List Nat                -- class of the last 64 slots, newest first; 3 for none
  written : List Nat             -- chunk positions written during a migration, held ones among them
  tries : Nat                    -- slices without convergence
  corrs : List Nat               -- times of the last corrected symbols, newest first
  lost : List ChanLoss           -- the losses of its chunks that may still read as poison
  deriving DecidableEq, Repr

/-- Stacked memory behind its addresses (R199 to R216). -/
structure Hbm where
  sets : Tbl (List CLine)        -- by stack and set, most recently used first
  chans : Tbl HChan
  retires : List Retire
  queue : List (Nat × Bool)      -- channels QUEUED, and whether for repair
  released : List Nat            -- groups of 8 pages released by the host, in order of release
  degraded : List (Nat × Nat)    -- DEGRADED channels in order, and the groups each still needs (R216)
  granted : Tbl (List Nat)       -- by channel: the released groups that its retirement is to use
  scrub : Tbl Nat                -- next position of each stack's scrubber
  deriving DecidableEq, Repr

/-- The island cycle counters, the reference time and the islands that are stopped (R25, R28, R29). -/
structure Clocks where
  cycles : Tbl Nat
  refTime : Nat
  refCyc : Nat
  stopped : List Nat
  hold : Nat                     -- nanoseconds for which the reference time is still held back (R29)
  waits : Bool                   -- held until the host's time catches up, its offset having exceeded 10 ms (R29)
  deriving DecidableEq, Repr

/-- A token wait: the token, who waits (log 12), and for how many counts (R178). -/
structure Wait where
  tok : Tok
  req : Nat
  n : Nat
  deriving DecidableEq, Repr

/-- An entry of an asynchronous handshake FIFO (R23). -/
inductive CrossEntry where
  | signal (t : Tok) (n : Nat)
  | wait (w : Wait)
  | grant (w : Wait)
  | drop (w : Wait)              -- the requester withdraws its wait
  | dropped (w : Wait)           -- it was still pending and is gone
  deriving DecidableEq, Repr

/-- An event raised and not yet written to the event log: its code, its payload and its stamp (R27, R296). -/
structure EvRec where
  code : Nat
  payload : List Byte
  stamp : Nat
  deriving DecidableEq, Repr

/-- The state of the module. -/
structure State where
  pending : List Instr
  regs : Tbl (BitVec 64)
  mem : List Host.Cell
  badWords : List Nat            -- tile-memory words that decode as a double-bit error (R129)
  poison : List Nat              -- 64-byte bursts in poison form (R203)
  hbm : Hbm
  retryPeer : Tbl (Nat × Nat)    -- retry source 4 of each die: the peer and the offset of its copy (R223)
  hdmLost : List Nat             -- HDM decoders disabled by a removal (R286)
  rdata : BitVec 64
  rbytes : List Byte             -- data of the last memory read answered
  rstatus : Status
  cores : Tbl Core
  dies : Tbl Die
  claims : Tbl (List Nat)        -- per interrupt target, the sources in service, innermost first (R370)
  pwr : Power
  stepMap : Tbl Nat              -- module token of each mapped system step token (R180)
  heldSteps : List HeldStep      -- step tokens held back (R240, R293, R337)
  train : Train
  members : Members                 -- the membership list in force
  membersNext : Option Members          -- the list that takes effect at its first step
  surv : Survive
  fab : Fabric
  host : HostSide
  cxl : Tbl Cxl
  mbx : Mbx
  slices : Tbl Slice
  saved : Tbl Saved              -- by core * 8 + context
  firm : Firm
  frost : Frost
  rst : Rst
  mgmt : Mgmt
  clk : Clocks
  cross : Tbl (List CrossEntry)  -- per crossing, source * 128 + destination
  waits : List Wait
  grants : List Wait
  withdrawn : List Wait          -- waits withdrawn whose answer has not come back (R190)
  evq : List EvRec
  freeIdx : Nat
  deriving DecidableEq, Repr

/-- `mix64` of R117. -/
def mix64 (z : BitVec 64) : BitVec 64 :=
  let z := (z ^^^ (z >>> 30)) * 0xBF58476D1CE4E5B9
  let z := (z ^^^ (z >>> 27)) * 0x94D049BB133111EB
  z ^^^ (z >>> 31)

/-- A generator whose 128 bits are never all zero (R117, R118). -/
def Gen.fix (g : Gen) : Gen := if g.x ||| g.y ||| g.z ||| g.w = 0 then { g with w := 1 } else g

/-- `seed` of R117. -/
def seedGen (sd id : BitVec 64) : Gen :=
  let a := mix64 (sd + id * 0x9E3779B97F4A7C15)
  let b := mix64 (a ^^^ 0xD6E8FEB86659FD93)
  Gen.fix ⟨a.setWidth 32, (a >>> 32).setWidth 32, b.setWidth 32, (b >>> 32).setWidth 32⟩

/-- An idle fetcher with an empty queue. -/
def Stream.reset : Stream := ⟨[], 0, 0, [], [], none, false⟩

/-- The outer-product engine of logical core `n` after reset (R117, R347). -/
def Ope.reset (n : Nat) : Ope :=
  { cyc := 0, st := .reset, main := List.replicate 65536 .zero, shadow := List.replicate 65536 .zero
    gut0 := List.replicate 65536 .zero, gut1 := List.replicate 65536 .zero, tile := none, run := none, closed := []
    flights := [], waited := ⟨0, 0, 0⟩, drain := none, fin := [], cw := none, cwRun := none, susp := none, saving := none, resume := none, replay := none, sigs := []
    cpls := [], nextId := 0, out := [], seq := 0, nextAt := 0, lastIssue := 0, lastShape := none, lastSpill := none
    gens := (upTo 0 256).map (fun j => seedGen 0 (BitVec.ofNat 64 (n * 512 + 256 + j))), hist := [], parked := [], late := 0
    lateRaised := false }

/-- The vector engine of logical core `n` after reset (R101, R117). -/
def Ve.reset (n : Nat) : Ve :=
  { cyc := 0, seq := 0, st := .reset, v := [], w := [], p := [], a := []
    gens := (upTo 0 256).map (fun l => seedGen 0 (BitVec.ofNat 64 (n * 512 + l))), slots := [], pend := [], data := []
    dead := [], wld := 0, wst := 0, stored := 0, guard := false, halted := false, sliced := false, late := 0
    lateRaised := false }

/-- A move queue after reset. -/
def MQueue.reset : MQueue := ⟨[], [], [], [], 0, 0, 0, []⟩

/-- A scalar processor after reset, held (R195; log 5). -/
def Scalar.reset : Scalar :=
  { x := [], pc := 0, mie := false, mpie := false, meie := false, mtvec := 0, mepc := 0, mcause := 0, mtval := 0
    mscratch := 0, cycleOff := 0, instret := 0, toksel := 0, qsel := 0, imem := [], dmem := [], held := true
    waiting := false }

/-- Logical core `n` after reset. -/
def Core.reset (n : Nat) : Core :=
  { ope := .reset n, ve := .reset n, mov := [], movLate := 0, movLateRaised := false, sca := .reset, scrub := 0 }

/-- A die after reset. -/
def WinSt.reset : WinSt := ⟨0, 0, [], [], [], [], 0, none, false⟩
def Die.reset : Die := ⟨[], [], .reset⟩
def HChan.reset : HChan := ⟨[], [], [], 0, [], []⟩
def Hbm.reset : Hbm := ⟨[], [], [], [], [], [], [], []⟩

def Train.reset : Train :=
  { tables := [], plans := [], drops := [], step := 0, buckets := [], parts := [], updated := [], ready := false, reports := []
    formed := none, record := none, idx := [], midx := [], mirrored := [], replay := [], retained := [], acked := [], owners := [], freed := [], mupdated := []
    running := false, barred := [], mirrorG := [] }

def Members.none : Members := ⟨[], 0, 0, [], []⟩

def Survive.reset : Survive :=
  { policy := [], policyNext := Option.none, pairs := [], probe := 0, probing := false, synced := false, interval := 4
    lastMark := 0, wanted := false, marks := [], number := 0, snapStep := 0, copying := false, slot := 0, header := [], logUsed := 0
    plan := Option.none, placed := 0, lostSelf := false, jobStopped := false, filling := [], waitFill := [] }

def Port.reset : Port :=
  { rxSeq := 0, txSeq := 0, replay := [], resend := 0, from_ := none, since := 0, again := 0, rtt := 0, nakDue := none, asked := 0
    discarding := false, vc := [], hist := [], seen := [], open_ := [], held := [], passed := [], returns := false, ctrlAge := 0, slot := 0
    group := 0, hbDue := false, hbCount := 0, aligned := false, missing := 0, found := 0, rxStop := 0, txStop := false
    degrade := none, sevenAt := none, failed := none, farFailed := 0, switchTo := false, told := none, peerLevels := none, peerEpoch := 0
    wire := .idle, scr := 2 ^ 31 - 1, tail := [], turn := 0, air := [], fencing := false }

/-- The fabric after reset: the module has no identifier (R15). -/
def Fabric.reset : Fabric := ⟨0xFFFF, [], [], 0⟩

/-- The host port after reset: BAR2 of 64 GiB (R270), completion timeout 10 ms (R274); the values of the AER and Device Control registers
are those of the PCI Express specification (R278; log 13). -/
def HostSide.reset : HostSide :=
  { bar0 := 0, bar2 := 0, bar2Size := 6, cplCode := 0, ptmOn := false, ptmGood := 0, ptmBad := 0, msixOn := false
    msixMask := false, msix := [], pend := [], told := [], aer := [], aerMask := 0x400000, aerSev := 0x462030, aerCor := 0x6000, mps := 0, mrrs := 2 }

def Cxl.reset : Cxl := ⟨[], [], 0, 0, []⟩
def Ring.reset : Ring := ⟨none, none, none, 0, false⟩

def Mbx.reset : Mbx :=
  { sq := [], rings := [], bg := [], session := 0, evlog := [], evIdx := 0, binds := [], masks := [], lost := none
    errlog := [], thresholds := [], transfers := [] }

/-- The contexts of a core after reset: context 0 owns the whole tile memory (R301). -/
def Slice.reset : Slice := ⟨0, [(0, ⟨0, 196608, 0, []⟩)], 0, false, 0, none, none⟩

/-- The defaults of the option area (R351). -/
def OptArea.default : OptArea :=
  { valid := true, seq := 0, bootSlot := 0, startLimit := 3, autoTrain := 0, hbmPreserve := 1, wdPeriod := 500
    rampSlope := 100, loadstepLead := 20, powerLimit := 3600, pcieRate := 6 }

/-- The flash and the fused counter as provisioned (log 5). -/
def Firm.reset : Firm :=
  { opt0 := .default, opt1 := .default, inUse := 0, slotA := [], slotB := [], verified := [], serve := 0, stand := 0
    svn := 0, act := none, startCount := 0, starts := 0, bootLog := [], retired := [], changed := [] }

def Frost.reset : Frost :=
  { entered := false, cause := 0, entries := 0, secondary := 0, flags := 0, stamp := 0, detail := 0, mv := 0, p0 := 0
    hottest := 0, times := List.replicate 6 0xFFFFFFFF, lastSeq := 0, latchedAt := 0, ramp := 0 }

def Rst.reset : Rst :=
  { waiting := true, seq := none, source := 0, strap := 0xFFFF, lost := true, booted := false, timer := false
    faultLow := true, opt := .default, responder := false, startedAt := 0, check := (0, 0), loaded := false, waitAck := [], failover := false }

/-- Every island but the always-on one waits for its release (R354). -/
def Clocks.reset : Clocks := ⟨[], 0, 0, upTo 0 120, 0, false⟩

def Power.reset : Power :=
  { hot := false, need := [], hostMin := [], mv := 0, amps := 0, target := none, ramping := false, toldAt := [], warned := []
    out := false, inrush := false, refresh2 := [] }

def Mgmt.reset : Mgmt := ⟨none, false, 0, [], none, false, (0, 0)⟩

/-- The machine right after reset. -/
def State.reset : State :=
  { pending := [], regs := [], mem := [], badWords := [], poison := [], hbm := .reset, retryPeer := [], hdmLost := [], rdata := 0, rbytes := [], rstatus := .ok, cores := [], dies := []
    claims := [], pwr := .reset
    stepMap := [], heldSteps := [], train := .reset, members := .none, membersNext := none, surv := .reset, fab := .reset
    host := .reset, cxl := [], mbx := .reset, slices := [], saved := [], firm := .reset, frost := .reset, rst := .reset, mgmt := .reset
    clk := .reset, cross := [], waits := [], grants := [], withdrawn := [], evq := [], freeIdx := 0 }

end Sys2Proof.Machine
end

