-- ==== Sys2Proof/Machine/Ops.lean ====
section
/-! DEFINITION. The named operations that the meanings share: memory, the register file, cores and islands, stall
counters, events and interrupt sources, tokens. -/

namespace Sys2Proof.Machine

/-! Memory (R7, R197): a sorted list of the bytes that differ from zero. -/

/-- The byte at an address; an unlisted address reads as zero (log 6). -/
def cget : List Host.Cell → Nat → Byte
  | [], _ => 0
  | (a, b) :: m, k => if a = k then b else cget m k

/-- The non-zero bytes of a list with their positions, counted from `k`. -/
def cellsFrom (k : Nat) : List Byte → List Host.Cell
  | [] => []
  | b :: bs => if b = 0 then cellsFrom (k + 1) bs else (k, b) :: cellsFrom (k + 1) bs

/-- Memory with the range of `len` bytes from `a` replaced by the cells, whose keys count from `a`. -/
def lay (m : List Host.Cell) (a len : Nat) (cs : List Host.Cell) : List Host.Cell :=
  m.filter (fun c => decide (c.1 < a)) ++ (cs.filter (fun c => decide (c.1 < len))).map (fun c => (a + c.1, c.2)) ++
    m.filter (fun c => decide (a + len ≤ c.1))

/-- The cells of the range of `len` bytes from `a`, their keys counted from `a`. -/
def grab (m : List Host.Cell) (a len : Nat) : List Host.Cell :=
  (m.filter (fun c => decide (a ≤ c.1) && decide (c.1 < a + len))).map (fun c => (c.1 - a, c.2))

/-- `n` bytes read from an address. -/
def readBytes (m : List Host.Cell) (a n : Nat) : List Byte := (upTo a n).map (cget m)

/-- Bytes written from an address. -/
def writeBytes (m : List Host.Cell) (a : Nat) (bs : List Byte) : List Host.Cell := lay m a bs.length (cellsFrom 0 bs)

/-- One byte written. -/
def writeByte (m : List Host.Cell) (a : Nat) (b : Byte) : List Host.Cell := writeBytes m a [b]

/-- Single bytes written, in order. -/
def writeCells (m : List Host.Cell) : List Host.Cell → List Host.Cell
  | [] => m
  | c :: cs => writeCells (writeByte m c.1 c.2) cs

/-- The canonical form of memory: addresses strictly rising and no byte equal to what an unlisted address reads as. -/
abbrev Memory.wf (m : List Host.Cell) : Prop := m.Pairwise (fun x y => x.1 < y.1) ∧ ∀ c ∈ m, c.2 ≠ 0

/-- The base of a logical core's tile-memory slot (R197). -/
def slotBase (n : Nat) : Nat := 0x200000000000 + n * 0x2000000
/-- The bytes of a slot that exist (R30, R123). -/
def slotSize : Nat := 0x1800000

/-- The range of the address map an address lies in (R197). -/
inductive Region where
  | stacked | reserve | slot (n off : Nat) | regs | far | host | unmapped
  deriving DecidableEq, Repr

def region (a : Nat) : Region :=
  if a < 0x13B00000000 then .stacked
  else if a < 0x14000000000 then .reserve
  else if a < 0x200000000000 then .unmapped
  else if a < 0x200080000000 then .slot ((a - 0x200000000000) / 0x2000000) ((a - 0x200000000000) % 0x2000000)
  else if a < 0x300000000000 then .unmapped
  else if a < 0x301002C00000 then .regs
  else if a < 0x1000000000000 then .unmapped
  else if a < 0x1200000000000 then .far
  else if a < 0x8000000000000 then .unmapped
  else if a < 0x10000000000000 then .host
  else .unmapped

/-! Registers. -/

/-- The value a register holds. -/
def State.rd (s : State) (r : Reg) : BitVec 64 := tget r.reset s.regs r.addr

/-- The time at which a measured object last changed (R313). -/
def State.changed (s : State) (kind : Nat) : State :=
  { s with firm := { s.firm with changed := tput kind s.clk.refTime s.firm.changed } }

/-- The state with a register set. -/
def State.wr (s : State) (r : Reg) (v : BitVec 64) : State := { s with regs := tput r.addr v s.regs }

/-- A field of a register value. -/
def fget (v : BitVec 64) (f : Fld) : Nat := getBits v f.lo f.w

/-- A register value with a field set. -/
def fset (v : BitVec 64) (f : Fld) (x : Nat) : BitVec 64 := setBits v f.lo f.w x

/-- A field of a register. -/
def State.fld (s : State) (r : Reg) (f : Fld) : Nat := fget (s.rd r) f

/-- The state with a field of a register set. -/
def State.setF (s : State) (r : Reg) (f : Fld) (x : Nat) : State := s.wr r (fset (s.rd r) f x)

/-- A register of a unit with no further index. -/
def reg0 (nm : RegName) (u : Nat) : Reg := ⟨nm, u, 0, 0⟩
/-- A register of a unit with one index. -/
def reg1 (nm : RegName) (u i : Nat) : Reg := ⟨nm, u, i, 0⟩

/-- A counter field raised by one, holding its largest value (the saturating counters of the register maps). -/
def State.bumpF (s : State) (r : Reg) (f : Fld) : State := s.setF r f (min (s.fld r f + 1) (2 ^ f.w - 1))

/-! Cores, islands, clocks. -/

def State.core (s : State) (n : Nat) : Core := tget (Core.reset n) s.cores n
def State.setCore (s : State) (n : Nat) (c : Core) : State := { s with cores := tput n c s.cores }
def State.ope (s : State) (n : Nat) : Ope := (s.core n).ope
def State.setOpe (s : State) (n : Nat) (o : Ope) : State := s.setCore n { s.core n with ope := o }
def State.ve (s : State) (n : Nat) : Ve := (s.core n).ve
def State.setVe (s : State) (n : Nat) (v : Ve) : State := s.setCore n { s.core n with ve := v }
def State.que (s : State) (n m : Nat) : MQueue := tget .reset (s.core n).mov m
def State.setQue (s : State) (n m : Nat) (q : MQueue) : State :=
  s.setCore n { s.core n with mov := tput m q (s.core n).mov }
def State.sca (s : State) (n : Nat) : Scalar := (s.core n).sca
def State.setSca (s : State) (n : Nat) (x : Scalar) : State := s.setCore n { s.core n with sca := x }
def State.die (s : State) (d : Nat) : Die := tget .reset s.dies d
def State.setDie (s : State) (d : Nat) (x : Die) : State := { s with dies := tput d x s.dies }
def State.setMem (s : State) (m : List Host.Cell) : State := { s with mem := m }

/-- The physical core that serves a logical core (R17). -/
def State.phys (s : State) (n : Nat) : Nat := s.fld (reg1 .CP_CORE_REMAP 0 n) F.CP_CORE_REMAP_phys_core

/-- The remap state of a logical core: 0 MAPPED, 1 FILLING, 2 UNAVAILABLE, 3 RETIRED (R20). -/
def State.remap (s : State) (n : Nat) : Nat := s.fld (reg1 .CP_CORE_REMAP 0 n) F.CP_CORE_REMAP_state

/-- A logical core runs: it is MAPPED and its island's clock runs (R19, R25). -/
def State.alive (s : State) (n : Nat) : Bool := decide (s.remap n = 0) && !s.clk.stopped.contains (s.phys n)

/-- What happens in an island whose clock runs; in a stopped one nothing does (R25). -/
def State.runsOn (s : State) (isl : Nat) (t : State) : State := if s.clk.stopped.contains isl then s else t

/-- What a service of the module does; in frost state it does nothing (R342). -/
def State.inService (s : State) (t : State) : State := if s.fld (reg0 .RST_STATUS 0) F.RST_STATUS_frost = 1 then s else t

/-- An island's cycle counter (R28). -/
def State.cycles (s : State) (isl : Nat) : Nat := tget 0 s.clk.cycles isl

/-- The class of an island in a stamp, and its index within the class (R27, log 11). -/
def islandClass (i : Nat) : Nat × Nat :=
  if i < 68 then (0, i) else if i < 90 then (1, i - 68) else if i < 106 then (2, i - 90)
  else if i < 118 then (3, i - 106) else if i < 120 then (4, i - 118) else (5, 0)

/-- The event stamp of an event at an island (R27). -/
def State.stamp (s : State) (isl : Nat) : Nat :=
  let c := islandClass isl
  s.clk.refTime % 2 ^ 64 + (s.cycles isl % 2 ^ 48) * 2 ^ 64 + c.2 * 2 ^ 112 + c.1 * 2 ^ 122 +
    s.fld (reg0 .PCI_STATUS 0) F.PCI_STATUS_ptm_locked * 2 ^ 127

/-- Little-endian payload fields: value and bytes each (R298 gives the contents, not their places; log 13). -/
def payload (fs : List (Nat × Nat)) : List Byte :=
  let bs := fs.flatMap (fun p => leBytes p.1 p.2)
  (bs ++ List.replicate 32 0).take 32

/-- An event raised at an island: firmware will write its record (R296). -/
def State.event (s : State) (isl code : Nat) (pl : List (Nat × Nat)) : State :=
  { s with evq := s.evq ++ [⟨code, payload pl, s.stamp isl⟩] }

/-- An edge of an interrupt source: pending, or overrun when already pending (R366). -/
def State.edge (s : State) (i : Nat) : State :=
  if reservedSource i || levelSource i then s else
  let r := reg1 .ICU_SRC 0 i
  if s.fld r F.ICU_SRC_pending = 1 then s.setF r F.ICU_SRC_overrun 1 else s.setF r F.ICU_SRC_pending 1

/-! Stall counters (R157, R158). -/

/-- The stall counter of an engine for a code (R160). -/
def stallReg (e : Eng) (n c : Nat) : Reg :=
  match e with
  | .ope => reg1 .OPE_STALL n c
  | .ve => reg1 .VE_STALL n c
  | .mov => reg1 .MOV_STALL n c

/-- The running code-2 wait of an engine of a core, `k` cycles longer or ended (R158). -/
def State.lateStep (s : State) (e : Eng) (n k : Nat) (wait : Bool) : State :=
  let c := s.core n
  match e with
  | .ope => s.setCore n { c with ope := { c.ope with
      late := if wait then c.ope.late + k else 0, lateRaised := wait && c.ope.lateRaised } }
  | .ve => s.setCore n { c with ve := { c.ve with
      late := if wait then c.ve.late + k else 0, lateRaised := wait && c.ve.lateRaised } }
  | .mov => s.setCore n { c with
      movLate := if wait then c.movLate + k else 0, movLateRaised := wait && c.movLateRaised }

/-- `k` core cycles counted under a stall code, unless the counters are frozen (R157). -/
def State.stalls (s : State) (e : Eng) (n c k : Nat) : State :=
  let s := s.lateStep e n k (decide (c = 2))
  if s.fld (reg0 .TM_STALL_CTRL n) F.TM_STALL_CTRL_freeze = 1 then s else
  s.wr (stallReg e n c) (s.rd (stallReg e n c) + BitVec.ofNat 64 k)

/-- One core cycle counted under a stall code (R157). -/
def State.stall (s : State) (e : Eng) (n c : Nat) : State := s.stalls e n c 1

/-! Tokens (R176 to R179). -/

/-- The token that a 9-bit reference of a core names; none for a reserved scope or an index beyond its scope (R138). -/
def tokRef (n ref : Nat) : Option Tok :=
  let k := ref % 64
  match ref / 64 % 8 with
  | 0 => some ⟨0, n, k⟩
  | 1 => if k < 16 then some ⟨1, n / 4, k⟩ else none
  | 2 => if k < 16 then some ⟨2, n / 8, k⟩ else none
  | 3 => if k < 16 then some ⟨3, n / 16, k⟩ else none
  | 4 => if k < 16 then some ⟨4, 0, k⟩ else none
  | _ => none

/-- The count register of a token. -/
def tokReg (t : Tok) : Reg :=
  match t.scope with
  | 0 => reg1 .TOK_CNT_CORE t.unit t.k
  | 1 => reg1 .TOK_CNT_CLUSTER t.unit t.k
  | 2 => reg1 .TOK_CNT_REGION t.unit t.k
  | 3 => reg1 .TOK_CNT_DIE t.unit t.k
  | 4 => reg1 .TOK_CNT_MODULE t.unit t.k

/-- The network node island of a cluster, or the central segment of a die (R21, log 11). -/
def clusterIsland (c : Nat) : Nat := 68 + c / 4 * 5 + c % 4
def dieIsland (d : Nat) : Nat := 68 + 5 * d + 4

/-- The island that holds a token (R176). -/
def State.tokIsland (s : State) (t : Tok) : Nat :=
  match t.scope with
  | 0 => s.phys t.unit
  | 1 => clusterIsland t.unit
  | 2 => 90 + 2 * t.unit
  | 3 => dieIsland t.unit
  | 4 => 88

/-- A token's count. -/
def State.tokCount (s : State) (t : Tok) : Nat := s.fld (tokReg t) F.TOK_CNT_count

/-- `n` counts added to a token: saturation sets ovf and raises the token-overflow event (R177). -/
def State.tokAdd (s : State) (t : Tok) (n : Nat) : State :=
  let c := s.tokCount t + n
  if c ≤ 65535 then s.setF (tokReg t) F.TOK_CNT_count c else
  ((s.setF (tokReg t) F.TOK_CNT_count 65535).setF (tokReg t) F.TOK_CNT_ovf 1).event (s.tokIsland t) 0x0205
    [(t.scope.val, 1), (t.k, 1), (t.unit, 2)]

/-- A token with `n` counts subtracted, where the count covers them (R177). -/
def State.tokTake (s : State) (t : Tok) (n : Nat) : Option State :=
  if n ≤ s.tokCount t then some (s.setF (tokReg t) F.TOK_CNT_count (s.tokCount t - n)) else none

/-- An entry sent into the crossing between two islands (R23). -/
def State.send (s : State) (src dst : Nat) (e : CrossEntry) : State :=
  { s with cross := tput (src * 128 + dst) (tget [] s.cross (src * 128 + dst) ++ [e]) s.cross }

/-- Whether a wait stands in a crossing to its token's island. -/
def State.crossing (s : State) (src dst : Nat) (e : CrossEntry) : Bool := (tget [] s.cross (src * 128 + dst)).contains e

/-- A signal of a token by a core: at once for a core token, through the crossing for a wider scope (R179). -/
def State.signal (s : State) (n : Nat) (t : Tok) (k : Nat) : State :=
  if t.scope = 0 then s.tokAdd t k else s.send (s.phys n) (s.tokIsland t) (.signal t k)

/-- The order number of a requester of tokens: core, then the order of R178 within it (log 12). -/
def reqId (n k : Nat) : Nat := n * 16 + k

/-- The island of the serving control-processor pair (R361), and the requester number of its firmware (log 12). -/
def State.cpIsland (s : State) : Nat := 118 + s.fld (reg0 .PCI_MBX_GLOBAL 0) F.PCI_MBX_GLOBAL_serving_die
def cpReq : Nat := 2000

/-- The island of a requester of tokens (log 12). -/
def State.reqIsland (s : State) (r : Nat) : Nat :=
  if r < 1024 then s.phys (r / 16) else if r < 2000 then dieIsland (r - 1024) else s.cpIsland

/-- A wait put in its place in requester order. -/
def orderWait (w : Wait) : List Wait → List Wait
  | [] => [w]
  | x :: xs => if w.req < x.req then w :: x :: xs else x :: orderWait w xs

/-- Waits in requester order (R178). -/
def inOrder (ws : List Wait) : List Wait := ws.foldl (fun a w => orderWait w a) []

/-- One pending wait at its turn: served if the count covers it; its requester learns of it at once in the token's own
island, through the crossing elsewhere (R178, R179). -/
def State.serveWait (s : State) (w : Wait) : State :=
  match s.tokTake w.tok w.n with
  | none => s
  | some s =>
    let s := { s with waits := s.waits.erase w }
    let src := s.tokIsland w.tok
    if s.reqIsland w.req = src then { s with grants := s.grants ++ [w] } else s.send src (s.reqIsland w.req) (.grant w)

/-- The pending waits of a token served in requester order (R178). -/
def State.serveToken (s : State) (t : Tok) : State :=
  (inOrder (s.waits.filter (fun w => decide (w.tok = t)))).foldl State.serveWait s

/-- One attempt of a wait by a requester at an island: the state, and whether the wait is served. A wait of zero counts
passes at once; one on a token of the requester's own island is pending and takes its turn among the token's pending waits in
requester order; any other is asked through the crossing and served by its grant (R177 to R179). -/
def State.tokWaitAt (s : State) (isl req : Nat) (t : Tok) (c : Nat) : State × Bool :=
  let w : Wait := ⟨t, req, c⟩
  let dst := s.tokIsland t
  if c = 0 then (s, true)
  else if s.withdrawn.contains w then (s, false)
  else if s.grants.contains w then ({ s with grants := s.grants.erase w }, true)
  else if dst = isl then
    let s := (if s.waits.contains w then s else { s with waits := s.waits ++ [w] }).serveToken t
    if s.grants.contains w then ({ s with grants := s.grants.erase w }, true) else (s, false)
  else if s.waits.contains w || s.crossing isl dst (.wait w) || s.crossing dst isl (.grant w) then (s, false)
  else (s.send isl dst (.wait w), false)

/-- One attempt of a wait by requester `k` of core `n`. -/
def State.tokWait (s : State) (n k : Nat) (t : Tok) (c : Nat) : State × Bool := s.tokWaitAt (s.phys n) (reqId n k) t c

/-- A wait withdrawn (R175, R190). One on a token of the requester's own island goes at once; a grant that has reached the
requester is returned by a signal of the same count; any other wait is followed by a withdrawal through the crossing to the
token's island, and stands as withdrawn until that island's answer or a grant already made comes back. -/
def State.tokDrop (s : State) (n k : Nat) (t : Tok) (c : Nat) : State :=
  let w : Wait := ⟨t, reqId n k, c⟩
  let src := s.phys n
  let dst := s.tokIsland t
  if s.grants.contains w then ({ s with grants := s.grants.erase w }).signal n t c
  else if src = dst then { s with waits := s.waits.erase w }
  else if s.waits.contains w || s.crossing src dst (.wait w) || s.crossing dst src (.grant w) then
    ({ s with withdrawn := s.withdrawn ++ [w] }).send src dst (.drop w)
  else s

/-- Whether a token is a page token of a core: a feed token in use, the member's rx_tok, the streamer's ready_tok (R158). -/
def State.pageTok (s : State) (n : Nat) (t : Tok) : Bool :=
  let ready := s.fld (reg0 .WIN_CTRL (n / 16)) F.WIN_CTRL_ready_tok
  let feed := t.scope = 0 && (upTo 0 8).any (fun m =>
    decide (s.fld (reg1 .OPE_RING n m) F.OPE_RING_feed_en = 1) && decide (s.fld (reg1 .OPE_RING n m) F.OPE_RING_feed_tok = t.k))
  let rx := t.scope = 0 && decide (s.fld (reg0 .PUR_CORE_CFG n) F.PUR_CORE_CFG_keep = 1) &&
    decide (s.fld (reg0 .PUR_CORE_CFG n) F.PUR_CORE_CFG_rx_tok = t.k)
  feed || rx || (decide (3 ≤ ready / 64) && decide (tokRef n ready = some t))

/-- The stall code of a wait on a token (R158, R159). -/
def State.waitCode (s : State) (n : Nat) (t : Tok) : Nat :=
  if t.scope = 0 && (s.rd (reg0 .MOV_HOLD n)).getLsbD t.k then 11 else if s.pageTok n t then 2 else 1

/-! Tile memory (R129, R30). -/

/-- Bytes of a core's slot; bytes at 24 MiB and above read zero (R30). -/
def State.tmRead (s : State) (n off len : Nat) : List Byte :=
  (upTo off len).map (fun o => if o < slotSize then cget s.mem (slotBase n + o) else 0)

/-- The 8-byte words that a write of `len` bytes from `a` covers whole lose any error they held (R129). -/
def clearWords (bad : List Nat) (a len : Nat) : List Nat :=
  bad.filter (fun w => !(decide (a ≤ w) && decide (w + 8 ≤ a + len)))

/-- Words with an uncorrectable error that a write covers in part: each is counted and its line latched (R129). -/
def State.partWords (s : State) (ws : List Nat) : State :=
  ws.foldl (fun s w =>
    let n := (w - 0x200000000000) / 0x2000000
    (s.bumpF (reg0 .TM_ECC_STATUS n) F.TM_ECC_STATUS_uncorrectable).setF (reg0 .TM_ECC_ADDR n) F.TM_ECC_ADDR_line
      ((w - 0x200000000000) % 0x2000000 / 128)) s

/-- Bytes written to a core's slot; bytes at 24 MiB and above are discarded (R30). A word written whole loses its error, a
word written in part keeps it, counted and latched (R129). -/
def State.tmWrite (s : State) (n off : Nat) (bs : List Byte) : State :=
  let bs := bs.take (slotSize - off)
  let a := slotBase n + off
  let left := clearWords s.badWords a bs.length
  let part := left.filter (fun w => decide (a < w + 8) && decide (w < a + bs.length))
  ({ s with mem := writeBytes s.mem a bs, badWords := left }).partWords part

/-- Single bytes of the address map written, in order; the error state of every tile-memory word they touch follows R129: a
word written whole loses its error, a word written in part keeps it, counted and latched. -/
def State.putCells (s : State) (cs : List Host.Cell) : State :=
  let cover (w : Nat) : Nat := ((upTo w 8).filter (fun a => cs.any (fun c => decide (c.1 = a)))).length
  let part := s.badWords.filter (fun w => decide (cover w ≠ 0) && decide (cover w ≠ 8))
  let s := { s with mem := writeCells s.mem cs, badWords := s.badWords.filter (fun w => decide (cover w ≠ 8)) }
  s.partWords part

/-- A decode error of a requester of a core (R30): source 8n + 7 and DECODE_ERROR. -/
def State.decodeErr (s : State) (n a : Nat) : State :=
  (s.edge (8 * n + 7)).event (s.phys n) 0x0105 [(n, 2), (a, 8)]

/-- What a read of `len` bytes of a slot from `off` finds: a single-bit error, which is corrected and counted, and
uncorrectable words, each counted, the lowest one's line latched (R129). The answer says whether the read is uncorrectable. -/
def State.tmCheck (s : State) (n off len : Nat) (e : Ecc) : State × Bool :=
  let a := slotBase n + off
  let hit := s.badWords.filter (fun w => decide (a < w + 8) && decide (w < a + len))
  let all := ((if e = .double then [a / 8 * 8] else []) ++ hit).eraseDups
  if off ≥ slotSize then (s, false)
  else
    let s := if e = .single then s.bumpF (reg0 .TM_ECC_STATUS n) F.TM_ECC_STATUS_corrected else s
    if all.isEmpty then (s, false) else
    let s := all.foldl (fun (s : State) _ => s.bumpF (reg0 .TM_ECC_STATUS n) F.TM_ECC_STATUS_uncorrectable) s
    let w := all.foldl min (all.headD 0)
    let s := s.setF (reg0 .TM_ECC_ADDR n) F.TM_ECC_ADDR_line ((w - slotBase n) / 128)
    let s := { s with badWords := all.filter (fun w => !s.badWords.contains w) ++ s.badWords }
    (s.edge (8 * n + 7), true)

/-- What the read of the first of some words written in part finds: a single-bit error is corrected and counted, an
uncorrectable word stays so (R129). -/
def State.partErr (s : State) (e : Ecc) (ws : List Nat) : State :=
  match ws.filter (fun w => !s.badWords.contains w) with
  | [] => s
  | w :: _ =>
    match e with
    | .single => s.bumpF (reg0 .TM_ECC_STATUS ((w - 0x200000000000) / 0x2000000)) F.TM_ECC_STATUS_corrected
    | .double => { s with badWords := w :: s.badWords }
    | _ => s

/-- Bytes and single bytes written to tile memory, with what the read of a word written in part finds (R129). -/
def State.tmWriteE (s : State) (n off : Nat) (bs : List Byte) (e : Ecc) : State :=
  let a := slotBase n + off
  let k := (bs.take (slotSize - off)).length
  let ws := if e = .ok ∨ k = 0 then [] else
    ([a / 8 * 8, (a + k - 1) / 8 * 8].eraseDups).filter (fun w => !(decide (a ≤ w) && decide (w + 8 ≤ a + k)))
  (s.partErr e ws).tmWrite n off bs
def State.putCellsE (s : State) (cs : List Host.Cell) (e : Ecc) : State :=
  let ws := if e = .ok then [] else
    ((cs.map (fun c => c.1 / 8 * 8)).eraseDups).filter (fun w =>
      !(upTo w 8).all (fun a => cs.any (fun c => decide (c.1 = a))))
  (s.partErr e ws).putCells cs

end Sys2Proof.Machine
end

