-- ==== Sys2Proof/Machine/Streams.lean ====
section
/-! DEFINITION. What the outer-product and vector engines share as instruction streams: their registers, loop levels,
fetchers and queues (R161 to R171, R182 to R185). -/

namespace Sys2Proof.Machine

/-- The stream registers of an engine: program counter, end, loop counts, loop levels (R196). -/
def pcReg (ve : Bool) (n : Nat) : Reg := reg0 (if ve then .VE_PC else .OPE_PC) n
def endReg (ve : Bool) (n : Nat) : Reg := reg0 (if ve then .VE_PC_END else .OPE_PC_END) n
def loopCntReg (ve : Bool) (n k : Nat) : Reg := reg1 (if ve then .VE_LOOPCNT else .OPE_LOOPCNT) n k
def loopReg (ve : Bool) (n j : Nat) : Reg := reg1 (if ve then .VE_LOOP else .OPE_LOOP) n j
def loopEndReg (ve : Bool) (n j : Nat) : Reg := reg1 (if ve then .VE_LOOP_END else .OPE_LOOP_END) n j
def stateReg (ve : Bool) (n : Nat) : Reg := reg0 (if ve then .VE_STATUS else .OPE_STATUS) n

def State.pc (s : State) (ve : Bool) (n : Nat) : Nat := s.fld (pcReg ve n) F.OPE_PC_pc
def State.setPc (s : State) (ve : Bool) (n x : Nat) : State := s.setF (pcReg ve n) F.OPE_PC_pc x
def State.pcEnd (s : State) (ve : Bool) (n : Nat) : Nat := s.fld (endReg ve n) F.OPE_PC_END_end
/-- A program counter and its end register stored: their low bits are cleared, 4 of the outer-product engine and 1 of the vector
engine (R163). -/
def State.setProgram (s : State) (ve : Bool) (n pc fin : Nat) : State :=
  let k := if ve then 2 else 16
  (s.setPc ve n (pc / k * k)).setF (endReg ve n) F.OPE_PC_END_end (fin / k * k)
/-- The engine state field: 0 IDLE, 1 RUNNING, 2 SUSPENDED, 3 FAULTED (R100, R122). -/
def State.engSt (s : State) (ve : Bool) (n : Nat) : Nat := s.fld (stateReg ve n) F.OPE_STATUS_state
def State.setEngSt (s : State) (ve : Bool) (n x : Nat) : State := s.setF (stateReg ve n) F.OPE_STATUS_state x

/-- The number of loop levels entered (R182). -/
def State.loopDepth (s : State) (ve : Bool) (n : Nat) : Nat :=
  ((upTo 0 4).filter (fun j => decide (s.fld (loopReg ve n j) F.OPE_LOOP_active = 1))).length

/-- A loop level entered (R182). -/
def State.pushLoop (s : State) (ve : Bool) (n count start fin : Nat) : State :=
  let j := s.loopDepth ve n
  let v := fset (fset (fset 0 F.OPE_LOOP_remaining count) F.OPE_LOOP_start_pc start) F.OPE_LOOP_active 1
  (s.wr (loopReg ve n j) v).setF (loopEndReg ve n j) F.OPE_LOOP_END_end_pc fin

/-- The loop levels as the fetcher follows them, innermost first (R185). -/
def State.archLoops (s : State) (ve : Bool) (n : Nat) : List FLoop :=
  ((upTo 0 (s.loopDepth ve n)).map (fun j =>
    (⟨s.fld (loopReg ve n j) F.OPE_LOOP_remaining, s.fld (loopReg ve n j) F.OPE_LOOP_start_pc,
      s.fld (loopEndReg ve n j) F.OPE_LOOP_END_end_pc⟩ : FLoop))).reverse

/-- The 128-bit word of an outer-product queue entry. -/
def QEnt.word (q : QEnt) : Nat := leNat q.bytes

/-- A fetcher placed at an address with an empty queue. -/
def Stream.at (pc : Nat) (loops : List FLoop) : Stream := ⟨[], pc, pc, [], loops, none, false⟩

/-- The words of an outer-product code line taken into the queue in the order they will execute, up to the end register,
a taken branch, or a LOOP whose count is not known (R164, R185). -/
def opeWalk (fin : Nat) : Nat → List Byte → Stream → Stream
  | 0, _, st => st
  | k + 1, bs, st =>
    let pc := st.bpc
    if pc ≥ fin ∨ bs.length < 16 then { st with fpc := pc } else
    let w := leNat (bs.take 16)
    let ent : QEnt := ⟨pc, bs.take 16, 0⟩
    let go (x : Nat) (st : Stream) : Stream := { st with q := st.q ++ [ent], bpc := x, fpc := x }
    let rest := bs.drop 16
    if w % 256 = 0x10 then
      let off := bitsOf w 64 25
      let e := pc + off
      if off = 0 ∨ off % 16 ≠ 0 ∨ e ≥ fin ∨ bitsOf w 8 1 = 1 then go (pc + 16) { st with stop := true }
      else if bitsOf w 32 32 = 0 then go (e + 16) st
      else if st.loops.length ≥ 4 then go (pc + 16) { st with stop := true }
      else opeWalk fin k rest (go (pc + 16) { st with loops := ⟨bitsOf w 32 32, pc + 16, e⟩ :: st.loops })
    else if w % 256 = 0x11 then
      match st.loops with
      | l :: ls =>
        if l.fin ≠ pc then go (pc + 16) { st with stop := true }
        else if l.left ≤ 1 then opeWalk fin k rest (go (pc + 16) { st with loops := ls })
        else go l.start { st with loops := { l with left := l.left - 1 } :: ls }
      | [] => go (pc + 16) { st with stop := true }
    else opeWalk fin k rest (go (pc + 16) st)

/-- The number of set bits among the low `k` bits. -/
def popCount (x : Nat) : Nat → Nat
  | 0 => 0
  | k + 1 => x % 2 + popCount (x / 2) k

/-- The bytes of a bundle by its header (R166). -/
def bundleSize (h : Nat) : Nat := 2 + 4 * bitsOf h 6 3

/-- The CONTROL syllable of a bundle, where its header is consistent and sets bit 5 (R166). -/
def controlSyl (bs : List Byte) : Option Nat :=
  let h := leNat (bs.take 2)
  let len := bitsOf h 6 3
  if bitsOf h 5 1 = 1 ∧ popCount h 6 = len then some (leNat ((bs.drop (2 + 4 * (len - 1))).take 4)) else none

/-- The bundles that begin in the bytes taken so far, in the order they will execute (R164, R184, R185). -/
def veWalk (fin : Nat) : Nat → List Byte → Stream → Stream
  | 0, bs, st => { st with part := bs }
  | k + 1, bs, st =>
    let pc := st.bpc
    let size := bundleSize (leNat (bs.take 2))
    if pc ≥ fin then { st with part := [] }
    else if bs.length < 2 ∨ bs.length < size then { st with part := bs }
    else
    let b := bs.take size
    let c := controlSyl b
    let op := (c.getD 0) % 32
    let ent (f : Nat) : QEnt := ⟨pc, b, f⟩
    let rest := bs.drop size
    let next := pc + size
    let jump (x : Nat) (st : Stream) : Stream := { st with bpc := x, fpc := x, part := [] }
    match st.skip with
    | some e =>
      if next ≤ e then veWalk fin k rest { st with bpc := next }
      else if pc = e ∧ c.isSome ∧ op = 5 then veWalk fin k rest { st with skip := none, bpc := next }
      else { jump next st with q := st.q ++ [ent 1], stop := true }
    | none =>
    let q := { st with q := st.q ++ [ent 0] }
    match st.loops with
    | l :: ls =>
      if pc ≤ l.fin ∧ l.fin < next ∧ ¬(pc = l.fin ∧ c.isSome ∧ op = 5) then
        { jump next st with q := st.q ++ [ent 1], stop := true }
      else if pc = l.fin then
        if l.left ≤ 1 then veWalk fin k rest { q with loops := ls, bpc := next }
        else jump l.start { q with loops := { l with left := l.left - 1 } :: ls }
      else if c.isSome ∧ op = 5 then { jump next q with stop := true }
      else if c.isSome ∧ op = 4 then
        let syl := c.getD 0
        let e := pc + 2 * bitsOf syl 16 16
        if e ≥ fin ∨ bitsOf syl 5 1 = 1 then { jump next q with stop := true }
        else if bitsOf syl 6 10 = 0 then veWalk fin k rest { q with skip := some e, bpc := next }
        else if st.loops.length ≥ 4 then { jump next q with stop := true }
        else veWalk fin k rest { q with loops := ⟨bitsOf syl 6 10, next, e⟩ :: st.loops, bpc := next }
      else veWalk fin k rest { q with bpc := next }
    | [] =>
      if c.isSome ∧ op = 5 then { jump next q with stop := true }
      else if c.isSome ∧ op = 4 then
        let syl := c.getD 0
        let e := pc + 2 * bitsOf syl 16 16
        if e ≥ fin ∨ bitsOf syl 5 1 = 1 then { jump next q with stop := true }
        else if bitsOf syl 6 10 = 0 then veWalk fin k rest { q with skip := some e, bpc := next }
        else veWalk fin k rest { q with loops := [⟨bitsOf syl 6 10, next, e⟩], bpc := next }
      else veWalk fin k rest { q with bpc := next }

/-- The fetcher after its line is served: the bytes from its place to the end of the line captured (R162, R164). -/
def Stream.fetchLine (st : Stream) (ve bad : Bool) (fin : Nat) (bs : List Byte) : Stream :=
  if bad then { st with q := st.q ++ [⟨st.bpc, [], 0x20⟩], stop := true }
  else if ve then
    let st := { st with fpc := st.fpc + bs.length }
    veWalk fin 128 (st.part ++ bs) st
  else opeWalk fin 8 bs st

/-- The address of the next instruction to issue (R163). -/
def Stream.nextPc (st : Stream) : Nat :=
  match st.q with
  | q :: _ => q.pc
  | [] => st.skip.getD st.bpc

/-- The stream without its head. -/
def Stream.pop (st : Stream) : Stream := { st with q := st.q.tail }

/-- The stream after a LOOP with a register count issued: the fetcher goes on knowing the count (R185). -/
def Stream.resume (st : Stream) (pc : Nat) (loops : List FLoop) (skip : Option Nat) : Stream :=
  { st with fpc := pc, bpc := pc, part := [], loops := loops, skip := skip, stop := false }

end Sys2Proof.Machine
end

