-- ==== Sys2Proof/Machine/OpeArray.lean ====
section
/-! DEFINITION. The array of the outer-product engine: shapes, operands, one step of every cell, spills, the combine and
conversion of a drained row, CELLWISE, and the save area (R40 to R50, R61 to R69, R75 to R93). -/

namespace Sys2Proof.Machine

/-- A packed shape (R64): sub-array height and width, sub-arrays per array row, ring widths of the two edges (R67). -/
structure Shape where
  h : Nat
  w : Nat
  cols : Nat
  wl : Nat
  wr : Nat
  deriving DecidableEq, Repr

def shapeOf (code : Nat) : Shape :=
  match code with
  | 0 => ⟨256, 256, 1, 1, 1⟩
  | 1 => ⟨256, 128, 2, 2, 1⟩
  | 2 => ⟨128, 128, 2, 2, 2⟩
  | _ => ⟨64, 64, 4, 4, 4⟩

/-- The number of sub-arrays of a shape. -/
def Shape.subs (g : Shape) : Nat := g.cols * (256 / g.h)

/-- The sub-array of physical cell (i, j), and its local row and column (R48). -/
def Shape.sub (g : Shape) (i j : Nat) : Nat := i / g.h * g.cols + j / g.w
def Shape.la (g : Shape) (i : Nat) : Nat := i % g.h
def Shape.lb (g : Shape) (j : Nat) : Nat := j % g.w

/-- The issue cycles from one step of a pass to the next: the pattern of R64, with `t` the step just issued. -/
def stepGap (code t : Nat) : Nat :=
  match code with
  | 0 => 1
  | 1 => if t % 2 = 1 then 2 else 1
  | 2 => 2
  | _ => 4

/-- The fields of a PASS word (R74). -/
structure PassW where
  shape : Nat
  fmtL : Nat
  fmtR : Nat
  begins : Bool
  ends : Bool
  bias : Bool
  slot : Nat
  k : Nat
  spillL : Nat
  ringL : Nat
  ringR : Nat
  startL : Nat
  startR : Nat
  dset : Nat
  mAct : Nat
  nAct : Nat
  deriving DecidableEq, Repr

def passOf (w : Nat) : PassW :=
  { shape := bitsOf w 8 2, fmtL := bitsOf w 10 4, fmtR := bitsOf w 14 4, begins := bitsOf w 18 1 = 1
    ends := bitsOf w 19 1 = 1, bias := bitsOf w 20 1 = 1, slot := bitsOf w 21 1, k := bitsOf w 24 16
    spillL := bitsOf w 40 16, ringL := bitsOf w 56 3, ringR := bitsOf w 59 3, startL := bitsOf w 64 16
    startR := bitsOf w 80 16, dset := bitsOf w 96 3, mAct := bitsOf w 104 8, nAct := bitsOf w 112 8 }

/-- The anchor of R40 from two summary entries, 0x8000 standing for SUM_ZERO. -/
def anchorOf (cl cr : Nat) : Int :=
  if cl = 0x8000 ∨ cr = 0x8000 then 0 else signedOf 16 cl + signedOf 16 cr - 1

/-- Where the logical byte `b` of the panel row at slot offset `a` is stored: the skew of R130. -/
def skewAddr (a b : Nat) : Nat := a + 128 * ((b / 128 + a / 1024 % 8) % 8) + b % 128

/-- One edge of a step: its ring and scale registers as sampled, its format, ring width, start row and step. -/
structure Edge where
  ring : BitVec 64
  scale : BitVec 64
  fmt : Nat
  w : Nat
  start : Nat
  t : Nat
  deriving DecidableEq, Repr

/-- The panel row of ring position `u` of the step (R67), and its byte offset in the slot. -/
def Edge.row (e : Edge) (u : Nat) : Nat := (e.start + e.t * e.w + u) % max 1 (fget e.ring F.OPE_RING_len_rows)
def Edge.rowAddr (e : Edge) (u : Nat) : Nat := (fget e.ring F.OPE_RING_base_row + e.row u) * 1024
/-- The byte offset of the 256 scales of ring position `u` (R69). -/
def Edge.scaleAddr (e : Edge) (r u : Nat) : Nat :=
  fget e.scale F.OPE_RING_SCALE_scale_line_hi * 256 + (e.row u / e.w * r / 32 * e.w + u) * 256

/-- The r elements of a lane at the step: inactive lanes and padding k-indices are exact zeros (R41, R62, R75). -/
def Edge.lane (e : Edge) (tm : Nat → Nat) (r k lane : Nat) (active : Bool) : List Val :=
  let u := lane / 256
  let l := lane % 256
  let a := e.rowAddr u
  let word := leNat ((upTo 0 4).map (fun p => BitVec.ofNat 8 (tm (skewAddr a (4 * l + p)))))
  let bits := 32 / r
  (upTo 0 r).map (fun p =>
    if !active || decide (e.t * r + p ≥ k) then .fin false 0 0 else
    let v := elemVal e.fmt (bitsOf word (p * bits) bits)
    if isMx e.fmt then withScale v (tm (e.scaleAddr r u + l)) else v)

/-- One product onto the window grid: the rounded product, a range event, a NaN event (R35, R41, R43). -/
def product (anchor : Int) (a b : Val) : Int × Bool × Bool :=
  match a, b with
  | .fin n m e, .fin n' m' e' =>
    let p := mulFin n m e n' m' e'
    let x := scaleNE p.1 (p.2 - (anchor - 46))
    if x.natAbs ≥ 2 ^ 47 then ((if x > 0 then 1 else -1) * ((2 ^ 47 : Nat) - 1 : Int), true, false) else (x, false, false)
  | _, _ => (0, false, true)

/-- The sum of the r products of a cell in one step, with its events (R41). -/
def stepSum (anchor : Int) : List Val → List Val → Int × Bool × Bool
  | a :: as, b :: bs =>
    let p := product anchor a b
    let q := stepSum anchor as bs
    (p.1 + q.1, p.2.1 || q.2.1, p.2.2 || q.2.2)
  | _, _ => (0, false, false)

/-- A cell after one step (R41). -/
def Win.step (c : Win) (p : Int × Bool × Bool) : Win := ⟨c.s + BitVec.ofInt 64 p.1, c.range || p.2.1, c.nan || p.2.2⟩

/-- The wide word of a window under an anchor; a NaN cell gives the canonical wide NaN (R47). -/
def Win.wide (c : Win) (anchor : Int) : Wide := if c.nan then .nan else .of c.s.toInt (anchor - 46)

/-- The bias of cell (i, j): its FP32 bits by the bias mode (R79). -/
def biasBits (tm : Nat → Nat) (mode line i j : Nat) : Nat :=
  let o := match mode with
    | 0 => 4 * j
    | 1 => 4 * i
    | _ => 4 * (256 * i + j)
  leNat ((upTo 0 4).map (fun p => BitVec.ofNat 8 (tm (line * 128 + o + p))))

/-- The wide word that stands for a cell's earlier sum: the gutter word once the tile has spilled, else its bias, else
none (R48, R79). -/
def Tile.base (t : Tile) (tm : Nat → Nat) (spilled : Bool) (g : Wide) (i j : Nat) : Option Wide :=
  if spilled then some g else t.bias.map (fun b => wideOfFp32 (biasBits tm b.1 b.2 i j))

/-- A cell's value so far: the base with the window added by R47; with no base the window's own wide word (R48). -/
def Tile.sum (t : Tile) (base : Option Wide) (c : Win) (i j : Nat) : Wide × Bool :=
  let x := c.wide (t.anchors.getD ((shapeOf t.shape).sub i j) 0)
  match base with
  | none => (x, false)
  | some g => wideAdd g x

/-- A spill of one cell: its gutter word and its cleared window; a NaN in the sum, or a wide overflow, sets the cell's
NaN bit (R47, R52). -/
def Tile.spillCell (t : Tile) (base : Option Wide) (c : Win) (i j : Nat) : Wide × Win :=
  let r := t.sum base c i j
  (r.1, ⟨0, c.range, c.nan || r.1.isNan⟩)

/-- T = v × x + y of CELLWISE, rounded once; NaN for a special operand or an exponent beyond the word (R87). -/
def cellwiseCell (v : Wide) (x y : Nat) : Wide :=
  match v.val, decodeFloat fp32 x, decodeFloat fp32 y with
  | .fin n m e, .fin n' m' e', .fin n'' m'' e'' =>
    let p := mulFin n m e n' m' e'
    let x0 := min p.2 e''
    let t := shl p.1 (p.2 - x0).toNat + shl (signedM n'' m'') (e'' - x0).toNat
    if x0 ≥ -32768 then (wideFit t x0 x0).1 else (wideFit t x0 (-32768)).1
  | _, _, _ => .nan

/-- The flag word bits of events by sub-array: bit 4s + k for every cell with the event (R51). -/
def flagBits (g : Shape) (k : Nat) (i : Nat) : List Bool → BitVec 64 → BitVec 64
  | [], acc => acc
  | b :: bs, acc => flagBits g k (i + 1) bs (if b then acc ||| (1 <<< (4 * g.sub (i / 256) (i % 256) + k)) else acc)

/-- The flag bit k of every sub-array of a shape. -/
def allFlags (g : Shape) (k : Nat) : BitVec 64 :=
  (upTo 0 g.subs).foldl (fun acc s => acc ||| (1 <<< (4 * s + k))) 0

/-- A draw of a generator: the draw and the advanced generator (R116). -/
def Gen.draw (g : Gen) : BitVec 32 × Gen :=
  let t := g.x ^^^ (g.x <<< 11)
  let w := g.w ^^^ (g.w >>> 19) ^^^ t ^^^ (t >>> 8)
  let m := w * 0xA54F2C69
  (m ^^^ (m >>> 16), ⟨g.y, g.z, g.w, w⟩)

/-- The 16 rounding bits u of a draw (R55). -/
def drawU (d : BitVec 32) : Nat := d.toNat / 65536

/-- One element drained to a format that has no block: its bits and its out_overflow (R52, R82). -/
def drainElem (fmt : Nat) (sat : Bool) (u : Option Nat) (v : Wide) : Nat × Bool :=
  match fmt with
  | 0x0 => cvtFloat fp32 sat u v.val
  | 0x1 => cvtFloat bf16 sat u v.val
  | _ => (v.toNat, false)

/-- The fields of a sampled drain set (R85, R100). -/
structure DSet where
  dest : Nat
  stride : Nat
  fmt : Nat
  stoch : Bool
  sat : Bool
  scaleLine : Nat
  tokEn : Bool
  tok : Nat
  deriving DecidableEq, Repr

def dsetOf (d x : BitVec 64) : DSet :=
  { dest := fget d F.OPE_DRAIN_dest_line, stride := fget d F.OPE_DRAIN_stride_lines, fmt := fget d F.OPE_DRAIN_fmt_out
    stoch := fget d F.OPE_DRAIN_round = 1, sat := fget d F.OPE_DRAIN_ovf = 1
    scaleLine := fget x F.OPE_DRAIN_EXT_scale_line, tokEn := fget x F.OPE_DRAIN_EXT_tok_en = 1
    tok := fget x F.OPE_DRAIN_EXT_drain_tok }

/-- The bytes of one drained row as slot offsets and bytes, with the flag word of its out_overflow bits. `vs` gives per
physical column the combined value, whether the combine overflowed, whether the element is active, and its draw (R54,
R82, R85). -/
def drainRow (d : DSet) (g : Shape) (i : Nat) (vs : List (Wide × Bool × Bool × Nat)) : List (Nat × Byte) × BitVec 64 :=
  let base := d.dest * 128 + i * d.stride * 128
  let u (x : Nat) : Option Nat := if d.stoch then some x else none
  if isMx d.fmt then
    (upTo 0 8).foldl (fun acc b =>
      let blk := (vs.drop (32 * b)).take 32
      let act := blk.filter (fun p => p.2.2.1)
      let r := mxBlock d.fmt (act.map (fun p => (p.1.val, u p.2.2.2)))
      if act.isEmpty then acc else
      let el := (mapFrom 0 (fun c p => (c, p.2.2.1)) blk).foldl (fun (st : List (Nat × Option Nat) × List Nat) p =>
          if p.2 then (st.1 ++ [(p.1, some (st.2.headD 0))], st.2.tail) else (st.1 ++ [(p.1, none)], st.2)) ([], r.2.1)
      let bytes := if d.fmt = 0xA then
          (upTo 0 16).filterMap (fun h =>
            let lo := (el.1.getD (2 * h) (0, none)).2
            let hi := (el.1.getD (2 * h + 1) (0, none)).2
            if lo.isNone ∧ hi.isNone then none
            else some (base + 16 * b + h, BitVec.ofNat 8 (lo.getD 0 % 16 + hi.getD 0 % 16 * 16)))
        else el.1.filterMap (fun p => p.2.map (fun x => (base + 32 * b + p.1, BitVec.ofNat 8 x)))
      let ov := r.2.2 || act.any (fun p => p.2.1)
      (acc.1 ++ bytes ++ [(d.scaleLine * 128 + 8 * i + b, BitVec.ofNat 8 r.1)],
        if ov then acc.2 ||| (1 <<< (4 * g.sub i (32 * b) + 3)) else acc.2)) ([], 0)
  else
    let e := elemBits d.fmt / 8
    let cells := mapFrom 0 (fun j p => (j, p)) vs
    (cells.flatMap (fun c => if c.2.2.2.1 then
        mapFrom 0 (fun k b => (base + c.1 * e + k, b)) (leBytes (drainElem d.fmt d.sat (u c.2.2.2.2) c.2.1).1 e) else []),
      cells.foldl (fun acc c =>
        if c.2.2.2.1 && (c.2.2.1 || (drainElem d.fmt d.sat (u c.2.2.2.2) c.2.1).2) then
          acc ||| (1 <<< (4 * g.sub i c.1 + 3)) else acc) 0)

/-- The flag bits of a set as a bit string, range then NaN per cell (R92). -/
def flagBytes : List Win → List Byte
  | a :: b :: c :: d :: ws =>
    BitVec.ofNat 8 (a.range.toNat + 2 * a.nan.toNat + 4 * b.range.toNat + 8 * b.nan.toNat + 16 * c.range.toNat +
      32 * c.nan.toNat + 64 * d.range.toNat + 128 * d.nan.toNat) :: flagBytes ws
  | _ => []

/-- Windows from their stored words and flag bytes (R92, R93). -/
def winsOf (words flags : List Byte) (w : Nat) : Nat → List Win
  | 0 => []
  | n + 1 =>
    let f := (flags.headD 0).toNat >>> (2 * (w % 4))
    ⟨BitVec.ofNat 64 (leNat (words.take 8)), f % 2 = 1, f / 2 % 2 = 1⟩ ::
      winsOf (words.drop 8) (if w % 4 = 3 then flags.tail else flags) (w + 1) n

/-- The 12 bytes of each wide word (R46, R92). -/
def wideBytes (ws : List Wide) : List Byte := ws.flatMap (fun g => leBytes g.toNat 12)
def widesOf (bs : List Byte) : Nat → List Wide
  | 0 => []
  | n + 1 => Wide.ofNat (leNat (bs.take 12)) :: widesOf (bs.drop 12) n

/-- The 16 bytes of a generator: x, y, z, w (R119). -/
def Gen.bytes (g : Gen) : List Byte :=
  leBytes g.x.toNat 4 ++ leBytes g.y.toNat 4 ++ leBytes g.z.toNat 4 ++ leBytes g.w.toNat 4
def Gen.ofBytes (bs : List Byte) : Gen :=
  let w (k : Nat) : BitVec 32 := BitVec.ofNat 32 (leNat ((bs.drop (4 * k)).take 4))
  ⟨w 0, w 1, w 2, w 3⟩

/-- Sixteen s16 anchors, SUM_ZERO beyond the list (R92). -/
def anchorBytes (as : List Int) : List Byte :=
  (upTo 0 16).flatMap (fun s => leBytes (match as[s]? with
    | some a => unsignedOf 16 a
    | none => 0x8000) 2)
def anchorsOf (bs : List Byte) : List Int :=
  (upTo 0 16).map (fun s =>
    let x := leNat ((bs.drop (2 * s)).take 2)
    if x = 0x8000 then 0 else signedOf 16 x)

end Sys2Proof.Machine
end

