-- ==== Sys2Proof/Machine/OuterProduct.lean ====
section
/-! DEFINITION. The commands of the outer-product engine (R61 to R100, R161 to R165, R181, R182). Each is one act; a
command whose act is not due leaves the state as it is (log 2). -/

namespace Sys2Proof.Machine

/-- Byte read of a core's slot as a number; zero at 24 MiB and above (R30). -/
def State.tm (s : State) (n : Nat) (o : Nat) : Nat := if o < slotSize then (cget s.mem (slotBase n + o)).toNat else 0

/-- OPE_STATUS and OPE_STREAM follow the engine (R100, R196). -/
def State.syncOpe (s : State) (n : Nat) : State :=
  let o := s.ope n
  let v := s.rd (reg0 .OPE_STATUS n)
  let cnt (b : Nat) : Nat := s.fld (reg0 .OPE_NUM_STATE n)
    (if b = 0 then F.OPE_NUM_STATE_spill_count_0 else F.OPE_NUM_STATE_spill_count_1)
  let busy (b : Nat) : Nat :=
    if (o.tile.any (fun t => decide (t.slot = b)) && decide (cnt b ≠ 0)) ||
      o.closed.any (fun d => d.spilled && decide (d.tile.slot = b)) ||
      o.drain.any (fun d => d.spilled && decide (d.tile.slot = b)) then 1 else 0
  let v := fset v F.OPE_STATUS_tile_open o.tile.isSome.toNat
  let v := fset v F.OPE_STATUS_open_slot (o.tile.elim 0 (·.slot))
  let v := fset v F.OPE_STATUS_open_shape (o.tile.elim 0 (·.shape))
  let v := fset v F.OPE_STATUS_shadow_busy o.drain.isSome.toNat
  let v := fset (fset v F.OPE_STATUS_slot0_busy (busy 0)) F.OPE_STATUS_slot1_busy (busy 1)
  let v := fset v F.OPE_STATUS_drain_rows_left (o.drain.elim 0 (·.rows))
  let x := s.rd (reg0 .OPE_STREAM n)
  let x := fset x F.OPE_STREAM_loop_depth (s.loopDepth false n)
  let x := fset x F.OPE_STREAM_pending_sig (min 7 o.sigs.length)
  let x := fset x F.OPE_STREAM_queued o.st.q.length
  (s.wr (reg0 .OPE_STATUS n) v).wr (reg0 .OPE_STREAM n) x

/-- The engine replaced, with its status registers. -/
def State.putOpe (s : State) (n : Nat) (o : Ope) : State := (s.setOpe n o).syncOpe n

/-- The spill-count field of a gutter slot (R51). -/
def spillFld (slot : Nat) : Fld := if slot = 0 then F.OPE_NUM_STATE_spill_count_0 else F.OPE_NUM_STATE_spill_count_1
def State.spills (s : State) (n slot : Nat) : Nat := s.fld (reg0 .OPE_NUM_STATE n) (spillFld slot)
def State.setSpills (s : State) (n slot x : Nat) : State := s.setF (reg0 .OPE_NUM_STATE n) (spillFld slot) x
def State.segLen (s : State) (n : Nat) : Nat := s.fld (reg0 .OPE_NUM_STATE n) F.OPE_NUM_STATE_segment_length
def State.setSegLen (s : State) (n x : Nat) : State := s.setF (reg0 .OPE_NUM_STATE n) F.OPE_NUM_STATE_segment_length x

/-- The gutter of a slot. -/
def Ope.gut (o : Ope) (slot : Nat) : List Wide := if slot = 0 then o.gut0 else o.gut1
def Ope.setGut (o : Ope) (slot : Nat) (g : List Wide) : Ope := if slot = 0 then { o with gut0 := g } else { o with gut1 := g }

/-- OPE_NUM_FLAGS accumulates the flag words of all passes (R51). -/
def State.addNumFlags (s : State) (n : Nat) (f : BitVec 64) : State :=
  s.wr (reg0 .OPE_NUM_FLAGS n) (s.rd (reg0 .OPE_NUM_FLAGS n) ||| f)

/-- The engine can take the next word of its stream: it is RUNNING and no pass, CELLWISE, save or resume holds issue. -/
def Ope.free (o : Ope) : Bool :=
  o.run.isNone && o.cw.isNone && o.cwRun.isNone && o.susp.isNone && o.saving.isNone && o.resume.isNone && o.replay.isNone

def State.opeReady (s : State) (n : Nat) : Bool := s.alive n && decide (s.engSt false n = 1) && (s.ope n).free

/-- The engine returns to IDLE once its last instruction before the end has issued (R163). -/
def State.opeEnd (s : State) (n : Nat) : State :=
  if s.engSt false n = 1 ∧ s.pc false n ≥ s.pcEnd false n ∧ (s.ope n).free then s.setEngSt false n 0 else s

/-- The head of the queue has issued: the program counter moves on (R163). -/
def State.opePop (s : State) (n : Nat) : State :=
  let o := s.ope n
  let st := o.st.pop
  (s.putOpe n { o with st := st }).setPc false n st.nextPc

/-- A completion record requested (R97). -/
def State.reqCpl (s : State) (n : Nat) (c : Cpl) : State :=
  let o := s.ope n
  s.putOpe n { o with cpls := o.cpls ++ [c] }

/-- The engine faults (R95, R100): state, cause, record, event. -/
def State.opeFault (s : State) (n pc : Nat) (c : Cpl) : State :=
  let f := fset (fset (fset 0 F.OPE_FAULT_cause c.cause) F.OPE_FAULT_step_reached c.stepReached) F.OPE_FAULT_fault_pc pc
  let s := s.wr (reg0 .OPE_FAULT n) f
  let o := s.ope n
  let s := s.setOpe n { o with run := none, cw := none, cwRun := none, susp := none, resume := none, waited := ⟨0, 0, 0⟩ }
  let s := (s.setF (reg0 .OPE_CTRL n) F.OPE_CTRL_suspend_req 0).setF (reg0 .OPE_CTRL n) F.OPE_CTRL_resume_req 0
  ((s.reqCpl n c).setEngSt false n 3).event (s.phys n) 0x0200 [(n, 2), (s.phys n, 2), (0, 1), (c.cause, 1), (pc, 4)]

/-- The record of an instruction that faults at issue (R95, R98). -/
def cplOf (id cause kind shape slot spill : Nat) : Cpl :=
  ⟨id, 0, cause, kind, shape, false, slot, 0, spill, 0, 0, 0⟩

/-- A word faults at issue before it takes any effect (R66, R76, R95). -/
def State.wordFault (s : State) (n : Nat) (q : QEnt) (cause : Nat) : State :=
  let o := s.ope n
  let w := q.word
  let shape := if w % 256 = 1 then bitsOf w 8 2 else o.tile.elim 0 (·.shape)
  let slot := if w % 256 = 1 then bitsOf w 21 1 else o.tile.elim 0 (·.slot)
  let s := s.setOpe n { o with nextId := o.nextId + 1, out := o.out ++ [o.nextId] }
  s.opeFault n q.pc (cplOf o.nextId cause (w % 16) shape slot (s.spills n slot))

/-- Core cycles of the engine, counted under a stall code (R157). -/
def State.opeCycles (s : State) (n code k : Nat) : State :=
  let o := s.ope n
  (s.setOpe n { o with cyc := o.cyc + k }).stalls .ope n code k
def State.opeCycle (s : State) (n code : Nat) : State := s.opeCycles n code 1

/-- The word at the head of the queue, if the engine can take it and its opcode is the one asked for; a line that was not
readable faults in place of its first word (R162); an empty queue short of the end counts code 3 (R164). -/
def State.opeWord (s : State) (n op : Nat) (f : State → QEnt → Nat → State) : State :=
  if !s.opeReady n then s else
  match (s.ope n).st.q with
  | [] => if s.pc false n < s.pcEnd false n then s.opeCycle n 3 else s
  | q :: _ =>
    if q.fault ≠ 0 then s.wordFault n q q.fault
    else if q.word % 256 = op then f s q q.word else s

/-- NOP takes one core cycle (R165). -/
def execOpeNop (n : CoreId) (s : State) : Host.Outcome State Fault Refusal :=
  .next (s.opeWord n 0x00 (fun s _ _ => ((s.opeCycle n 0).opePop n).opeEnd n))

/-- Ring geometry of R68. -/
def ringBad (ring : BitVec 64) (start w fmt r : Nat) : Bool :=
  let len := fget ring F.OPE_RING_len_rows
  decide (len = 0) || decide (fget ring F.OPE_RING_base_row * 8 + 8 * len > 196608) || decide (start % w ≠ 0) ||
    decide (len % w ≠ 0) || (isMx fmt && decide (len / w % (32 / r) ≠ 0))

/-- The first check of a PASS that fails, in the order of R76; 0 when none does. The feed check of R68 cannot fail:
grant_m1 + 1 is at least one (R100). -/
def State.passCheck (s : State) (n : Nat) (p : PassW) : Nat :=
  let g := shapeOf p.shape
  let d := s.rd (reg1 .OPE_DRAIN n p.dset)
  let rl := s.rd (reg1 .OPE_RING n p.ringL)
  let rr := s.rd (reg1 .OPE_RING n p.ringR)
  match fmtRank p.fmtL, fmtRank p.fmtR with
  | some r, some r' =>
    if r ≠ r' ∨ (p.ends ∧ !isDrainFmt (fget d F.OPE_DRAIN_fmt_out)) then 0x01
    else if p.spillL = 0 ∨ p.spillL > 32768 ∨ p.spillL % r ≠ 0 then 0x02
    else if (p.begins ∧ p.bias ∧ fget d F.OPE_DRAIN_bias_mode = 3) ∨ p.mAct ≥ g.h ∨ p.nAct ≥ g.w then 0x03
    else if !p.begins && !(s.ope n).tile.any (fun t => decide (t.slot = p.slot) && decide (t.shape = p.shape) &&
        (decide (t.fmtL = 16) || (decide (t.fmtL = p.fmtL) && decide (t.fmtR = p.fmtR)))) then 0x04
    else if ringBad rl p.startL g.wl p.fmtL r ∨ ringBad rr p.startR g.wr p.fmtR r ∨
        (p.ends ∧ fget d F.OPE_DRAIN_stride_lines = 0) then 0x05
    else 0
  | _, _ => 0x01

/-- The tile that a begin PASS opens, its bias sampled at issue (R76, R77). -/
def State.newTile (s : State) (n : Nat) (p : PassW) : Tile :=
  let d := s.rd (reg1 .OPE_DRAIN n p.dset)
  { id := (s.ope n).nextId, slot := p.slot, shape := p.shape, fmtL := p.fmtL, fmtR := p.fmtR
    bias := if p.bias then some (fget d F.OPE_DRAIN_bias_mode, fget d F.OPE_DRAIN_bias_line) else none
    anchors := [], prev := [], needAnchor := true, clearDue := true, spillDue := 0
    numCtrl := s.rd (reg0 .OPE_NUM_CTRL n), mAct := p.mAct, nAct := p.nAct }

/-- A PASS that passes its checks begins its steps (R74, R76, R77). It leaves its m_active and n_active with the open tile, so
the drain uses those of the tile's last PASS (log 14). -/
def State.passStart (s : State) (n : Nat) (q : QEnt) (p : PassW) : State :=
  let o := s.ope n
  let r := (fmtRank p.fmtL).getD 1
  let tile := if p.begins then s.newTile n p else
    match o.tile with
    | some t => { t with fmtL := p.fmtL, fmtR := p.fmtR, mAct := p.mAct, nAct := p.nAct,
                         numCtrl := s.rd (reg0 .OPE_NUM_CTRL n) }
    | none => s.newTile n p
  let run : Run :=
    { id := o.nextId, pc := q.pc, word := BitVec.ofNat 128 q.word, t := 0
      steps := if p.k = 0 then 1 else (p.k + r - 1) / r, empty := p.k = 0
      ringL := s.rd (reg1 .OPE_RING n p.ringL), ringR := s.rd (reg1 .OPE_RING n p.ringR)
      scaleL := s.rd (reg1 .OPE_RING_SCALE n p.ringL), scaleR := s.rd (reg1 .OPE_RING_SCALE n p.ringR)
      groupsL := 0, groupsR := 0, flags := 0, bp := 0, feed := 0, thr := 0 }
  let s := if p.begins then (s.setSpills n p.slot 0).setSegLen n 0 else s
  let s := s.setF (reg0 .OPE_STATUS n) F.OPE_STATUS_steps_issued 0
  let s := s.setOpe n { o with
    tile := some tile, run := some run, waited := ⟨0, 0, 0⟩, nextId := o.nextId + 1, out := o.out ++ [o.nextId] }
  s.opePop n

/-- PASS at issue (R74, R76). -/
def execPass (n : CoreId) (s : State) : Host.Outcome State Fault Refusal :=
  .next (s.opeWord n 0x01 (fun s q w =>
    let p := passOf w
    let c := s.passCheck n p
    if c ≠ 0 then s.wordFault n q c else s.passStart n q p))

/-- A spill of the whole open tile into its gutter slot (R47, R49, R79): none where bound_trap faults instead. The flags count
for the running pass, or for the DRAIN that makes the spill (R51, R98). -/
def State.doSpill (s : State) (n : Nat) (t : Tile) : Option State :=
  let cnt := s.spills n t.slot
  if cnt = 0xFFFF ∧ fget t.numCtrl F.OPE_NUM_CTRL_bound_trap = 1 then none else
  let o := s.ope n
  let tm := s.tm n
  let gut := o.gut t.slot
  let cells := mapFrom 0 (fun w (p : Win × Wide) =>
    t.spillCell (t.base tm (cnt != 0) p.2 (w / 256) (w % 256)) p.1 (w / 256) (w % 256)) (o.main.zip gut)
  let g := shapeOf t.shape
  let fl := flagBits g 1 0 ((o.main.zip cells).map (fun p => !p.1.nan && p.2.2.nan)) 0 |||
    (if cnt = 0xFFFF then allFlags g 2 else 0)
  let t' := { t with prev := t.anchors, needAnchor := true, spillDue := t.spillDue - 1 }
  let o := { o.setGut t.slot (cells.map (·.1)) with
    main := cells.map (·.2), tile := some t', lastSpill := some o.cyc, run := o.run.map (fun r => { r with flags := r.flags ||| fl })
    waited := { o.waited with flags := o.waited.flags ||| fl } }
  some ((((s.setOpe n o).setSpills n t.slot (min (cnt + 1) 0xFFFF)).setSegLen n 0).addNumFlags n fl)

/-- The ranges that the bias reads of a tile that has not spilled take in (R79). -/
def Tile.biasRanges (t : Tile) (spilled : Bool) : List (Nat × Nat) :=
  if spilled then [] else
  match t.bias with
  | some (m, l) => [(l * 128, if m ≤ 1 then 1024 else 262144)]
  | none => []

/-- The bias reads of a spill due before the next step: those of a tile's first spill (R79). -/
def State.spillReads (s : State) (n : Nat) (t : Tile) : List (Nat × Nat) :=
  if t.spillDue = 0 then [] else t.biasRanges (s.spills n t.slot != 0)

/-- A due spill is withheld: within 256 core cycles of the previous one, or while a drain reads the slot (R80). -/
def Ope.spillBlocked (o : Ope) (slot : Nat) : Bool :=
  o.lastSpill.any (fun c => decide (o.cyc < c + 256)) || o.drain.any (fun d => d.spilled && decide (d.tile.slot = slot)) ||
    o.closed.any (fun d => d.spilled && decide (d.tile.slot = slot))

/-- The record of a running pass. -/
def Run.cpl (r : Run) (t : Tile) (spill cause : Nat) : Cpl :=
  ⟨r.id, if r.empty then 0 else r.t, cause, 1, t.shape, false, t.slot, r.flags, spill, r.bp, r.feed, r.thr⟩

/-- A core cycle in which the running pass issues no step, or a DRAIN or CELLWISE waits, counted under a code (R98, R157). -/
def State.withhold (s : State) (n code : Nat) : State :=
  let o := s.ope n
  let up (b : Bool) (x : Nat) : Nat := if b then min (x + 1) (2 ^ 32 - 1) else x
  let run := o.run.map (fun r => { r with bp := up (code = 5) r.bp, feed := up (code = 2 || code = 11) r.feed,
                                          thr := up (code = 6) r.thr })
  let w := { o.waited with bp := up (code = 5) o.waited.bp, thr := up (code = 6) o.waited.thr }
  (s.setOpe n { o with run := run, waited := w }).opeCycle n code

/-- An issue recorded in its engine cycle; `b` is the engine before it (R63). -/
def Ope.launch (o b : Ope) (step : Bool) (run : Option Run) (t : Tile) (clear : Bool) (spill : Option Bool)
    (ops : List (List Val) × List (List Val)) : Ope :=
  { o with flights := o.flights.filter (fun f => decide (o.cyc < f.cyc + 512)) ++
      [⟨o.cyc, step, run, t, clear, spill, ops.1, ops.2, b.main, b.gut0, b.gut1⟩] }

/-- The left and right operand registers of cell (i, j): the operands of the step it applied in the last core cycle, which
pass on to the next cells (R61, R63); none where no step reached it. -/
def Ope.operands (o : Ope) (i j : Nat) : Option (List Val × List Val) :=
  (o.flights.find? (fun f => f.run.isSome &&
    decide (f.cyc + (shapeOf f.tile.shape).la i + (shapeOf f.tile.shape).lb j + 1 = o.cyc))).map (fun f =>
    let g := shapeOf f.tile.shape
    let sb := g.sub i j
    (f.left.getD (sb * g.h + g.la i) [], f.right.getD (sb * g.w + g.lb j) []))

/-- One feeder's token for a step: how many groups it has taken, and whether the step may issue (R70). -/
def State.feed (s : State) (n : Nat) (ring : BitVec 64) (t taken : Nat) : State × Nat × Option Nat :=
  if fget ring F.OPE_RING_feed_en = 0 then (s, taken, none) else
  let need := t / (fget ring F.OPE_RING_grant_m1 + 1) + 1
  if need ≤ taken then (s, taken, none) else
  let tok : Tok := ⟨0, n, fget ring F.OPE_RING_feed_tok⟩
  match s.tokTake tok 1 with
  | some s' => (s', taken + 1, none)
  | none => (s, taken, some (if s.waitCode n tok = 11 then 11 else 2))

/-- Reads of a slot checked for errors and for bytes beyond its end (R30, R129): whether some word is uncorrectable. -/
def State.readsBad (s : State) (n : Nat) (e : Ecc) : List (Nat × Nat) → State × Bool
  | [] => (s, false)
  | (a, len) :: rs =>
    let s := if a + len > slotSize then s.decodeErr n (slotBase n + a) else s
    let c := s.tmCheck n a len e
    let r := c.1.readsBad n .ok rs
    (r.1, c.2 || r.2)

/-- The lanes' elements of one edge, by lane number. -/
def Edge.lanes (e : Edge) (tm : Nat → Nat) (r k per act count : Nat) : Array (List Val) :=
  ((upTo 0 count).map (fun l => e.lane tm r k l (decide (l % per ≤ act)))).toArray

/-- The ranges a step reads on one edge: its panel rows and scale groups. -/
def Edge.ranges (e : Edge) (r : Nat) : List (Nat × Nat) :=
  (upTo 0 e.w).map (fun u => (e.rowAddr u, 1024)) ++
    (if isMx e.fmt then (upTo 0 e.w).map (fun u => (e.scaleAddr r u, 256)) else [])

/-- The two edges of step `t` of a running pass (R67). -/
def Run.edges (r : Run) (t : Nat) : Edge × Edge :=
  let p := passOf r.word.toNat
  let g := shapeOf p.shape
  (⟨r.ringL, r.scaleL, p.fmtL, g.wl, p.startL, t⟩, ⟨r.ringR, r.scaleR, p.fmtR, g.wr, p.startR, t⟩)

/-- The operands that the two feeders present at step `t` of a pass, by lane (R62, R64, R67). -/
def Run.operands (r : Run) (t : Nat) (tm : Nat → Nat) : Array (List Val) × Array (List Val) :=
  let p := passOf r.word.toNat
  let g := shapeOf p.shape
  let rank := (fmtRank p.fmtL).getD 1
  let es := r.edges t
  (es.1.lanes tm rank p.k g.h p.mAct (256 * g.wl), es.2.lanes tm rank p.k g.w p.nAct (256 * g.wr))

/-- Every cell after step `t` of a pass, with the range and NaN events of each; a cell at local (a, b) with
a + b ≤ `after` is left as it is (R41, R63, R93). -/
def stepCells (r : Run) (t : Nat) (after : Option Nat) (tm : Nat → Nat) (tile : Tile) (main : List Win) :
    List (Win × Bool × Bool) :=
  let g := shapeOf (passOf r.word.toNat).shape
  let ops := r.operands t tm
  let ls := ops.1
  let rs := ops.2
  mapFrom 0 (fun w c =>
    let i := w / 256
    let j := w % 256
    let sb := g.sub i j
    if after.any (fun d => decide (g.la i + g.lb j ≤ d)) then (c, false, false) else
    let x := stepSum (tile.anchors.getD sb 0) (ls.getD (sb * g.h + g.la i) []) (rs.getD (sb * g.w + g.lb j) [])
    (c.step x, x.2.1, x.2.2)) main

/-- The anchors a segment takes from the ring summaries (R73). -/
def State.takeAnchors (s : State) (n : Nat) (p : PassW) : List Int :=
  (upTo 0 (shapeOf p.shape).subs).map (fun k =>
    let e (m : Nat) : Nat := getBits (s.rd ⟨.OPE_SUMM, n, m, k / 4⟩) (16 * (k % 4)) 16
    anchorOf (e p.ringL) (e p.ringR))

/-- The tile closes: it waits for its copy cycle with its windows and its drain set as sampled (R81, R85). -/
def State.closeTile (s : State) (n : Nat) (t : Tile) (dset pc : Nat) (c : Cpl) : State :=
  let o := s.ope n
  (s.setSegLen n 0).setOpe n { o with
    tile := none
    closed := o.closed ++ [⟨s.rd (reg1 .OPE_DRAIN n dset), s.rd (reg1 .OPE_DRAIN_EXT n dset), t, s.spills n t.slot != 0, 256,
      { c with drained := true }, pc, o.lastIssue, o.main⟩] }

/-- The pass ends after its last step: it closes its tile, or its record is requested (R78, R81, R97). -/
def State.endPass (s : State) (n : Nat) (t : Tile) (r : Run) : State :=
  let p := passOf r.word.toNat
  let c := r.cpl t (s.spills n t.slot) 0
  let s := s.setOpe n { s.ope n with run := none }
  if p.ends then ((s.closeTile n t p.dset r.pc c).syncOpe n).opeEnd n else (s.reqCpl n c).opeEnd n

/-- The step issues: it clears the cells of a new tile, takes anchors at a segment's start, multiplies, counts, traps, and
ends the pass after its last step (R41, R43, R45, R73, R77, R78, R80). `b` is the engine before the step and the spill made
with it, `spill` that spill. -/
def State.issueStep (s : State) (n : Nat) (t : Tile) (r : Run) (b : Ope) (spill : Option Bool) : State :=
  let p := passOf r.word.toNat
  let g := shapeOf p.shape
  let rank := (fmtRank p.fmtL).getD 1
  let o := s.ope n
  let clear := t.clearDue
  let main := if clear then o.main.map (fun _ => Win.zero) else o.main
  let t := { t with anchors := if t.needAnchor then s.takeAnchors n p else t.anchors, needAnchor := false, clearDue := false }
  let ops := if r.empty then (#[], #[]) else r.operands r.t (s.tm n)
  let o := o.launch b true (some r) t clear spill (ops.1.toList, ops.2.toList)
  let res := if r.empty then main.map (fun c => (c, false, false)) else stepCells r r.t none (s.tm n) t main
  let fl := flagBits g 0 0 (res.map (·.2.1)) 0 ||| flagBits g 1 0 (res.map (·.2.2)) 0
  let last := r.t + 1 = r.steps
  let seg := s.segLen n + (if r.empty then 0 else rank)
  let t := { t with spillDue := t.spillDue + (if !r.empty && decide (seg ≥ p.spillL) && !(last && p.ends) then 1 else 0) }
  let r := { r with t := r.t + 1, flags := r.flags ||| fl }
  let o := { o with main := res.map (·.1), tile := some t, run := some r, lastIssue := o.cyc, lastShape := some p.shape
                    nextAt := o.cyc + stepGap p.shape (r.t - 1) }
  let s := ((s.setOpe n o).setSegLen n seg).addNumFlags n fl
  let s := if r.empty then s else s.setF (reg0 .OPE_STATUS n) F.OPE_STATUS_steps_issued r.t
  let s := s.opeCycle n 0
  let cnt := s.spills n t.slot
  let anyRange := res.any (·.2.1)
  let anyNan := res.any (·.2.2)
  if anyRange ∧ fget t.numCtrl F.OPE_NUM_CTRL_range_trap = 1 then (s.opeFault n r.pc (r.cpl t cnt 0x10)).syncOpe n
  else if anyNan ∧ fget t.numCtrl F.OPE_NUM_CTRL_nan_trap = 1 then (s.opeFault n r.pc (r.cpl t cnt 0x11)).syncOpe n
  else if !last then s.syncOpe n
  else s.endPass n t r

/-- The cycle from which a pass of another shape than the one before may issue its first step (R65). -/
def Ope.shapeReady (o : Ope) (shape : Nat) : Bool :=
  match o.lastShape with
  | none => true
  | some k => decide (k = shape) || decide (o.lastIssue + (shapeOf k).h + (shapeOf k).w - 1 ≤ o.cyc)

/-- Every issued step has reached every cell (R65, R88, R93). -/
def Ope.settled (o : Ope) : Bool :=
  o.lastShape.all (fun k => decide (o.lastIssue + (shapeOf k).h + (shapeOf k).w - 1 ≤ o.cyc))

/-- The engine cycle in which the shadow set is released by every tile ahead of the open one: a row leaves in each core cycle,
in every third of a wide drain, after the tile's copy cycle (R81 to R83). -/
def Ope.release (o : Ope) : Nat :=
  let wide (d : Drain) : Bool := (dsetOf d.dset d.dext).fmt = 0xC
  let a := o.cyc + o.drain.elim 0 (fun d => if wide d then 3 * d.rows - 2 else d.rows)
  o.closed.foldl (fun a d =>
    let g := shapeOf d.tile.shape
    max (d.last + g.h + g.w - 1) a + (if wide d then 766 else 256)) a

/-- A closing step of a shape that issues now is copied no earlier than the shadow set is released (R84). -/
def Ope.copyReady (o : Ope) (shape : Nat) : Bool :=
  decide (o.release ≤ o.cyc + (shapeOf shape).h + (shapeOf shape).w - 1)

/-- The throttle alone withholds a step (R89). -/
def State.throttled (s : State) (n : Nat) : Bool :=
  let o := s.ope n
  o.lastShape.isSome && decide (o.cyc < o.lastIssue + s.fld (reg0 .OPE_THROTTLE n) F.OPE_THROTTLE_period)

/-- STEP_ISSUE: one core cycle of a running pass. It issues the next step, or withholds it and counts the stall code, in
the order of R157: feed tokens (R70), spill and drain backpressure (R80, R84), a lost bank conflict (R127), throttle (R89);
the shape's pattern and the settling of another shape count as busy (R64, R65). -/
def execStepIssue (n : CoreId) (e : Ecc) (lost : Bool) (s : State) : Host.Outcome State Fault Refusal :=
  .next (
    let o := s.ope n
    match o.run, o.tile with
    | some r, some t =>
      if !(s.alive n && decide (s.engSt false n = 1) && o.susp.isNone && o.saving.isNone && o.resume.isNone &&
          o.replay.isNone) then s
      else
      let p := passOf r.word.toNat
      let rank := (fmtRank p.fmtL).getD 1
      if o.cyc < o.nextAt ∨ (r.t = 0 ∧ !o.shapeReady p.shape) then s.withhold n 0 else
      let f1 := if r.empty then (s, r.groupsL, none) else s.feed n r.ringL r.t r.groupsL
      let f2 := if r.empty then (f1.1, r.groupsR, none) else f1.1.feed n r.ringR r.t r.groupsR
      let r := { r with groupsL := f1.2.1, groupsR := f2.2.1 }
      let s := f2.1.setOpe n { f2.1.ope n with run := some r }
      match f1.2.2, f2.2.2 with
      | some c, some c' => s.withhold n (max c c')
      | some c, none => s.withhold n c
      | none, some c => s.withhold n c
      | none, none =>
        if t.spillDue > 0 ∧ o.spillBlocked t.slot then s.withhold n 5
        else if p.ends ∧ r.t + 1 = r.steps ∧ !o.copyReady p.shape then s.withhold n 5
        else if lost then s.withhold n 4
        else if s.throttled n then s.withhold n 6
        else
        let es := r.edges r.t
        let c := s.readsBad n e (s.spillReads n t ++ (if r.empty then [] else es.1.ranges rank ++ es.2.ranges rank))
        let s := c.1
        let b := s.ope n
        let was := s.spills n t.slot != 0
        if c.2 then (s.opeFault n r.pc (r.cpl t (s.spills n t.slot) 0x20)).syncOpe n
        else if e = .parity then (s.opeFault n r.pc (r.cpl t (s.spills n t.slot) 0x21)).syncOpe n
        else if t.spillDue = 0 then s.issueStep n t r b none
        else
          match s.doSpill n t with
          | none => (s.opeFault n r.pc (r.cpl t (s.spills n t.slot) 0x12)).syncOpe n
          | some s =>
            match (s.ope n).tile, (s.ope n).run with
            | some t, some r => if t.spillDue = 0 then s.issueStep n t r b (some was) else
              ((s.setOpe n ((s.ope n).launch b false none t false (some was) ([], []))).opeCycle n 0).syncOpe n
            | _, _ => s
    | _, _ => s)

/-- SPILL: the open tile spills at the next step boundary (R80). -/
def execSpill (n : CoreId) (s : State) : Host.Outcome State Fault Refusal :=
  .next (s.opeWord n 0x02 (fun s q _ =>
    match (s.ope n).tile with
    | none => s.wordFault n q 0x04
    | some t => (((s.setOpe n { s.ope n with tile := some { t with spillDue := t.spillDue + 1 } }).opeCycle n 0).opePop n).opeEnd n))

/-- DRAIN: closes the open tile as an empty step with end would, after the spills that are due, and waits as that step would
(R84 to R86, R89). A tile that no step has followed since a spill drains its empty window under the anchors of the segment
before (log 27). -/
def execDrain (n : CoreId) (e : Ecc) (s : State) : Host.Outcome State Fault Refusal :=
  .next (s.opeWord n 0x03 (fun s q w =>
    let d := bitsOf w 8 3
    let dv := s.rd (reg1 .OPE_DRAIN n d)
    if !isDrainFmt (fget dv F.OPE_DRAIN_fmt_out) then s.wordFault n q 0x01 else
    match (s.ope n).tile with
    | none => s.wordFault n q 0x04
    | some t =>
      if fget dv F.OPE_DRAIN_stride_lines = 0 then s.wordFault n q 0x05 else
      let b := s.ope n
      if b.cyc < b.nextAt ∨ !b.shapeReady t.shape then s.withhold n 0
      else if (t.spillDue > 0 ∧ b.spillBlocked t.slot) ∨ !b.copyReady t.shape then s.withhold n 5
      else if s.throttled n then s.withhold n 6
      else
      let x := s.readsBad n e (s.spillReads n t)
      let s := x.1
      if x.2 then s.wordFault n q 0x20
      else if e = .parity then s.wordFault n q 0x21
      else
      let was := s.spills n t.slot != 0
      match (if t.spillDue = 0 then some s else s.doSpill n t) with
      | none => s.wordFault n q 0x12
      | some s =>
        let o := s.ope n
        let t' := o.tile.getD t
        let sp := if t.spillDue = 0 then none else some was
        if t.spillDue > 1 then ((s.setOpe n (o.launch b false none t' false sp ([], []))).opeCycle n 0).syncOpe n else
        let c : Cpl := ⟨o.nextId, 0, 0, 3, t'.shape, true, t'.slot, o.waited.flags, s.spills n t'.slot, o.waited.bp, 0,
          o.waited.thr⟩
        let s := s.setOpe n { o.launch b true none t' false sp ([], []) with
          nextId := o.nextId + 1, out := o.out ++ [o.nextId], waited := ⟨0, 0, 0⟩, lastIssue := o.cyc
          lastShape := some t'.shape, nextAt := o.cyc + stepGap t'.shape 0 }
        ((((s.closeTile n t' d q.pc c).opeCycle n 0).opePop n).syncOpe n).opeEnd n))

/-- CELLWISE at issue: it waits for its start; with no tile open it faults (R87). -/
def execCellwise (n : CoreId) (s : State) : Host.Outcome State Fault Refusal :=
  .next (s.opeWord n 0x04 (fun s q _ =>
    match (s.ope n).tile with
    | none => s.wordFault n q 0x04
    | some _ => (s.setOpe n { s.ope n with cw := some q }).opePop n))

/-- An x or y operand of CELLWISE for cell (i, j): FP32 bits by its mode (R87). -/
def cwOperand (tm : Nat → Nat) (mode src i j : Nat) : Nat :=
  let line := src % 2 ^ 18
  let rd (o : Nat) : Nat := leNat ((upTo 0 4).map (fun p => BitVec.ofNat 8 (tm (o + p))))
  match mode with
  | 0 => rd ((line + 8 * i) * 128 + 4 * j)
  | 1 => rd (line * 128 + 4 * i)
  | 2 => rd (line * 128 + 4 * j)
  | _ => src

/-- The ranges an operand of CELLWISE reads. -/
def cwRanges (mode src : Nat) : List (Nat × Nat) :=
  let a := src % 2 ^ 18 * 128
  match mode with
  | 0 => [(a, 262144)]
  | 1 => [(a, 1024)]
  | 2 => [(a, 1024)]
  | _ => []

/-- CELLWISE_START: v × x + y into every gutter word of the open tile, once the array has settled, the shadow set is
released and the slot is not being drained; a spill still due is this fold (R79, R87, R88). -/
def execCellwiseStart (n : CoreId) (e : Ecc) (s : State) : Host.Outcome State Fault Refusal :=
  .next (
    let o := s.ope n
    match o.cw, o.tile with
    | some q, some t =>
      if !(s.alive n && decide (s.engSt false n = 1) && o.susp.isNone && o.saving.isNone) then s
      else if !o.settled then s.withhold n 0
      else if o.closed ≠ [] ∨ o.drain.isSome then s.withhold n 5
      else
      let w := q.word
      let bp := o.waited.bp
      let cnt := s.spills n t.slot
      let s := s.setOpe n { o with cw := none, waited := ⟨0, 0, 0⟩, nextId := o.nextId + 1, out := o.out ++ [o.nextId] }
      if cnt = 0xFFFF ∧ fget t.numCtrl F.OPE_NUM_CTRL_bound_trap = 1 then
        (s.opeFault n q.pc (cplOf o.nextId 0x12 4 t.shape t.slot cnt)).syncOpe n else
      let xm := bitsOf w 8 2
      let ym := bitsOf w 10 2
      let xs := bitsOf w 32 32
      let ys := bitsOf w 64 32
      let c := s.readsBad n e (t.biasRanges (cnt != 0) ++ cwRanges xm xs ++ cwRanges ym ys)
      let s := c.1
      if c.2 then (s.opeFault n q.pc (cplOf o.nextId 0x20 4 t.shape t.slot cnt)).syncOpe n
      else if e = .parity then (s.opeFault n q.pc (cplOf o.nextId 0x21 4 t.shape t.slot cnt)).syncOpe n
      else
      let tm := s.tm n
      let g := shapeOf t.shape
      let cells := mapFrom 0 (fun k (p : Win × Wide) =>
        let i := k / 256
        let j := k % 256
        let v := (t.sum (t.base tm (cnt != 0) p.2 i j) p.1 i j).1
        let r := cellwiseCell v (cwOperand tm xm xs i j) (cwOperand tm ym ys i j)
        (r, Win.mk 0 p.1.range (p.1.nan || r.isNan))) (o.main.zip (o.gut t.slot))
      let fl := flagBits g 1 0 ((o.main.zip cells).map (fun p => !p.1.nan && p.2.2.nan)) 0 |||
        (if cnt = 0xFFFF then allFlags g 2 else 0)
      let t' := { t with prev := t.anchors, needAnchor := true, spillDue := 0 }
      let o := s.ope n
      let cnt' := min (cnt + 1) 0xFFFF
      let o := { o.setGut t.slot (cells.map (·.1)) with
        main := cells.map (·.2), tile := some t',
        cwRun := some ⟨o.nextId - 1, 0, 0, 4, t.shape, false, t.slot, fl, cnt', bp, 0, 0⟩ }
      ((((s.setOpe n o).setSpills n t.slot cnt').setSegLen n 0).addNumFlags n fl).syncOpe n
    | _, _ => s)

/-- CELLWISE_COMPLETE: after its 262 core cycles its record is requested (R88, R97). -/
def execCellwiseComplete (n : CoreId) (s : State) : Host.Outcome State Fault Refusal :=
  .next (
    match (s.ope n).cwRun with
    | some c => (((s.setOpe n { s.ope n with cwRun := none }).opeCycles n 0 262).reqCpl n c).opeEnd n
    | none => s)

/-- TILE_COPY: the oldest closed tile stands in the shadow set, once that is free (R81, R83). -/
def execTileCopy (n : CoreId) (s : State) : Host.Outcome State Fault Refusal :=
  .next (
    let o := s.ope n
    match o.closed, o.drain with
    | d :: ds, none =>
      if o.saving.isSome ∨ o.replay.isSome then s
      else s.putOpe n { o with shadow := d.wins, closed := ds, drain := some { d with wins := [] } }
    | _, _ => s)

/-- DRAIN_ROW: the bottom row of the shadow set leaves, is combined, converted once and written (R48, R50, R52 to R55,
R82, R85). -/
def execDrainRow (n : CoreId) (e : Ecc) (s : State) : Host.Outcome State Fault Refusal :=
  .next (
    let o := s.ope n
    match o.drain with
    | some d =>
      if d.rows = 0 ∨ o.saving.isSome ∨ o.replay.isSome ∨ !s.alive n then s else
      let i := d.rows - 1
      let t := d.tile
      let g := shapeOf t.shape
      let ds := dsetOf d.dset d.dext
      let c := s.readsBad n e (if d.spilled then [] else
        match t.bias with
        | some (0, l) => [(l * 128, 1024)]
        | some (1, l) => [(l * 128 + 4 * i, 4)]
        | some (_, l) => [(l * 128 + 1024 * i, 1024)]
        | none => [])
      let s := c.1
      let s := if (c.2 ∨ e = .parity) ∧ s.engSt false n ≠ 3 then
          s.opeFault n d.pc { d.cpl with cause := if c.2 then 0x20 else 0x21, drained := false } else s
      let stoch := ds.stoch && ds.fmt != 0xC
      let draws : List (BitVec 32 × Gen) := o.gens.map Gen.draw
      let row := (o.shadow.drop (256 * i)).take 256
      let gut := ((o.gut t.slot).drop (256 * i)).take 256
      let vs := mapFrom 0 (fun j (p : (Win × Wide) × (BitVec 32 × Gen)) =>
        let r := t.sum (t.base (s.tm n) d.spilled p.1.2 i j) p.1.1 i j
        (r.1, r.2, decide (g.la i ≤ t.mAct) && decide (g.lb j ≤ t.nAct), drawU p.2.1)) ((row.zip gut).zip draws)
      let out := drainRow ds g i vs
      let writes : List Host.Cell := out.1.map (fun p => (p.1 % 0x2000000, p.2))
      let keep := writes.filter (fun p => decide (p.1 < slotSize))
      let s := if keep.length < writes.length then s.decodeErr n (slotBase n + (writes.headD (0, 0)).1) else s
      let nanFl := if d.spilled then 0 else
        flagBits g 1 (256 * i) (mapFrom 0 (fun j (p : Win × (Wide × Bool × Bool × Nat)) =>
          !p.1.nan && ((t.base (s.tm n) false .zero i j).any (·.isNan))) (row.zip vs)) 0
      let s := s.putCells (keep.map (fun (p : Host.Cell) => (slotBase n + p.1, p.2)))
      let s := s.addNumFlags n (out.2 ||| nanFl)
      s.putOpe n { s.ope n with
        gens := if stoch then draws.map (·.2) else o.gens
        drain := some { d with rows := i, cpl := { d.cpl with flags := d.cpl.flags ||| out.2 ||| nanFl } } }
    | none => s)

/-- SHADOW_RELEASE: after its last row has left, the shadow set and the gutter slot are released (R83). -/
def execShadowRelease (n : CoreId) (s : State) : Host.Outcome State Fault Refusal :=
  .next (
    let o := s.ope n
    match o.drain with
    | some d =>
      if d.rows = 0 ∧ o.saving.isNone ∧ o.replay.isNone then s.putOpe n { o with drain := none, fin := o.fin ++ [d] } else s
    | none => s)

/-- The bit of the issue history that a step has: `c` for one issued c + 1 core cycles ago (R92). -/
def Flight.age (f : Flight) (cyc : Nat) : Nat := cyc - 1 - f.cyc

/-- A cell that an issue of age `c` has not reached (R63, R93). -/
def Flight.ahead (f : Flight) (c w : Nat) : Bool :=
  let g := shapeOf f.tile.shape
  decide (g.la (w / 256) + g.lb (w % 256) > c)

/-- What each cell holds when the issues that have not reached it are left out: what it held before the oldest of them. -/
def before {α : Type} (cyc : Nat) (get : Flight → List α) (x : List α) : List Flight → List α
  | [] => x
  | f :: fs => mapFrom 0 (fun w (p : α × α) => if f.ahead (f.age cyc) w then p.2 else p.1) ((before cyc get x fs).zip (get f))

/-- The array frozen in place: issue stops, and what has not reached a cell is left out of it, to be replayed (R90). -/
def Ope.freeze (o : Ope) : Ope :=
  { o with
    main := before o.cyc (·.main) o.main o.flights
    gut0 := before o.cyc (·.gut0) o.gut0 o.flights
    gut1 := before o.cyc (·.gut1) o.gut1 o.flights
    closed := o.closed.map (fun d => { d with
      wins := before o.cyc (·.main) d.wins (o.flights.filter (fun f => decide (f.tile.id = d.tile.id))) })
    hist := (o.flights.map (fun f => (f.age o.cyc, f))).filter (fun p => decide (p.1 < 512))
    flights := [], lastShape := none }

/-- The issue history of R92: a bit for each step, by its age. -/
def histBits (h : List (Nat × Flight)) : BitVec 512 :=
  h.foldl (fun b p => if p.2.step then b ||| (1 <<< p.1) else b) 0

/-- The pass that the header shows: the running one, else the one whose closing step was in flight (log 14). -/
def Ope.savedRun (o : Ope) : Option Run :=
  match o.run, o.closed.getLast? with
  | some r, _ => some r
  | none, some d => (o.hist.reverse.findSome? (fun p => p.2.run.filter (fun r => decide (r.id = d.cpl.id)))).map
      (fun r => { r with t := r.steps })
  | none, none => none
def Ope.savedTile (o : Ope) : Option Tile := o.tile <|> o.closed.getLast?.map (·.tile)

/-- The bytes of the save area of R92 for the engine as it stands. -/
def State.saveArea (s : State) (n : Nat) (sv : Save) : List (Nat × List Byte) :=
  let o := s.ope n
  let t := o.savedTile
  let run := o.savedRun
  let an (x : Option Tile) (f : Tile → List Int) : List Byte := anchorBytes (x.elim [] f)
  let ns := (s.rd (reg0 .OPE_NUM_STATE n)).toNat
  let rows := o.drain.elim 0 (·.rows)
  let b := t.bind (·.bias)
  let h8 := rows + t.isSome.toNat * 2 ^ 9 + t.elim 0 (·.slot) * 2 ^ 10 + t.elim 0 (·.shape) * 2 ^ 11 +
    run.isSome.toNat * 2 ^ 13 + sv.gutter.toNat * 2 ^ 14 + b.isSome.toNat * 2 ^ 15 + (b.getD (0, 0)).1 * 2 ^ 16 +
    (b.getD (0, 0)).2 * 2 ^ 18 + run.elim 0 (·.groupsL) % 2 ^ 16 * 2 ^ 36
  let h9 := run.elim 0 (·.groupsR) % 2 ^ 16 + o.seq.toNat * 2 ^ 16
  let spilt := o.hist.any (fun p => p.2.spill.isSome && t.any (fun t => decide (t.id = p.2.tile.id)))
  let hdr := leBytes (run.elim 0 (·.word.toNat)) 16 ++
    leBytes (o.drain.elim 0 (fun d => d.dset.toNat + d.dext.toNat * 2 ^ 64)) 16 ++ an t (·.anchors) ++
    leBytes (histBits o.hist).toNat 64 ++
    leBytes (s.fld (reg0 .OPE_STATUS n) F.OPE_STATUS_steps_issued + bitsOf ns 32 16 * 2 ^ 16 + bitsOf ns 0 16 * 2 ^ 32 +
      bitsOf ns 16 16 * 2 ^ 48) 8 ++ leBytes h8 8 ++ leBytes h9 8 ++ (if spilt then an t (·.prev) else anchorBytes []) ++
    an (o.drain.map (·.tile)) (·.anchors) ++ List.replicate (40 + 3840) 0
  let words (l : List Win) : List Byte := l.flatMap (fun c => leBytes c.s.toNat 8)
  [(0, hdr), (0x1000, o.gens.flatMap Gen.bytes), (0x2000, words o.shadow), (0x82000, words o.main),
    (0x102000, flagBytes o.main), (0x106000, flagBytes o.shadow)] ++
    (if sv.gutter then [(0x10A000, wideBytes o.gut0), (0x1CA000, wideBytes o.gut1)] else [])

/-- The save area written, and the shadow set, the path of the save, holding the main set (R91). -/
def State.writeSave (s : State) (n : Nat) (sv : Save) : State :=
  let s := (s.saveArea n sv).foldl (fun s p => s.tmWrite n (sv.line * 128 + p.1) p.2) s
  let o := s.ope n
  s.putOpe n { o with
    shadow := o.main, drain := none, closed := [], hist := []
    parked := tput sv.line ⟨o.tile, o.run, o.drain, o.closed, o.hist⟩ o.parked }

/-- A dump: the save area written at OPE_SAVE_BASE, the state of the engine unchanged (R96). Every step has reached every cell
by then, so its issue history is empty (log 14). -/
def State.doDump (s : State) (n : Nat) : State :=
  let sv : Save := ⟨s.fld (reg0 .OPE_SAVE_BASE n) F.OPE_SAVE_BASE_save_line_hi * 32,
    s.fld (reg0 .OPE_CTRL n) F.OPE_CTRL_save_gutter = 1, false, true, 0, 0⟩
  (s.writeSave n sv).setF (reg0 .OPE_CTRL n) F.OPE_CTRL_dump 0

/-- DRAIN_COMPLETE: the completion record and the drain token follow; a dump that waited for the drain starts (R82, R96). -/
def execDrainComplete (n : CoreId) (s : State) : Host.Outcome State Fault Refusal :=
  .next (
    let o := s.ope n
    match o.fin with
    | d :: ds =>
      let s := (s.setOpe n { o with fin := ds }).reqCpl n d.cpl
      let x := dsetOf d.dset d.dext
      let s := if x.tokEn then s.tokAdd ⟨0, n, x.tok⟩ 1 else s
      if s.fld (reg0 .OPE_CTRL n) F.OPE_CTRL_dump = 1 ∧ s.engSt false n = 3 ∧ ds = [] ∧ o.drain.isNone ∧ o.closed = [] then
        s.doDump n else s
    | [] => s)

/-- SUSPEND: requests a suspend with its save line and save_gutter bit (R90). -/
def execSuspend (n : CoreId) (s : State) : Host.Outcome State Fault Refusal :=
  .next (s.opeWord n 0x05 (fun s q w =>
    let o := s.ope n
    let sv : Save := ⟨bitsOf w 32 18 / 32 * 32, bitsOf w 8 1 = 1, true, false, o.nextId, q.pc⟩
    ((s.setOpe n { o with susp := some sv, nextId := o.nextId + 1, out := o.out ++ [o.nextId] }).opeCycle n 0).opePop n))

/-- SUSPEND_REQ: suspend_req written in OPE_CTRL (R90); it reads 1 until the save completes. A request needs an engine that
is not FAULTED and not already suspended. -/
def State.suspendReq (s : State) (n : Nat) : State :=
  let o := s.ope n
  if !s.alive n || decide (s.engSt false n ≥ 2) || o.susp.isSome || o.saving.isSome then s else
  let sv : Save := ⟨s.fld (reg0 .OPE_SAVE_BASE n) F.OPE_SAVE_BASE_save_line_hi * 32,
    s.fld (reg0 .OPE_CTRL n) F.OPE_CTRL_save_gutter = 1, false, false, o.nextId, s.pc false n⟩
  (s.putOpe n { o with susp := some sv, nextId := o.nextId + 1, out := o.out ++ [o.nextId] }).setF (reg0 .OPE_CTRL n)
    F.OPE_CTRL_suspend_req 1
def execSuspendReq (n : CoreId) (s : State) : Host.Outcome State Fault Refusal := .next (s.suspendReq n)

/-- SUSPEND_TAKE_EFFECT: at the step boundary issue stops, the array freezes and the save begins (R90, R91). A started
CELLWISE completes first, since no step issues until then (R88), and so does a restore. -/
def execSuspendTakeEffect (n : CoreId) (s : State) : Host.Outcome State Fault Refusal :=
  .next (
    let o := s.ope n
    match o.susp with
    | some sv =>
      if o.cwRun.isSome ∨ o.replay.isSome ∨ !s.alive n ∨ s.engSt false n = 3 then s
      else (s.putOpe n { o.freeze with susp := none, saving := some sv }).setEngSt false n 2
    | none => s)

/-- SAVE_COMPLETE: the save area is written and a record with cause 0x30 requested; after a SUSPEND word the stream
continues, after suspend_req the engine stays SUSPENDED (R91). The save took 595 core cycles, 1,363 with the gutter, and one
more for each bank conflict it lost. -/
def execSaveComplete (n : CoreId) (lost : BitVec 8) (s : State) : Host.Outcome State Fault Refusal :=
  .next (
    let o := s.ope n
    match o.saving with
    | some sv =>
      let shape := o.tile.elim 0 (·.shape)
      let slot := o.tile.elim 0 (·.slot)
      let c : Cpl := ⟨sv.id, s.fld (reg0 .OPE_STATUS n) F.OPE_STATUS_steps_issued, 0x30, 5, shape, false, slot, 0,
        s.spills n slot, 0, 0, 0⟩
      let s := ((s.writeSave n sv).opeCycles n 0 (if sv.gutter then 1363 else 595)).opeCycles n 4 lost.toNat
      let s := (s.setOpe n { s.ope n with saving := none }).reqCpl n c
      if sv.queued then (s.setEngSt false n 1).opeEnd n else s.setF (reg0 .OPE_CTRL n) F.OPE_CTRL_suspend_req 0
    | none => s)

/-- RESUME: requests a restore from the named save area (R93). -/
def execResume (n : CoreId) (s : State) : Host.Outcome State Fault Refusal :=
  .next (s.opeWord n 0x06 (fun s q w =>
    let o := s.ope n
    let sv : Save := ⟨bitsOf w 32 18 / 32 * 32, bitsOf w 8 1 = 1, true, false, o.nextId, q.pc⟩
    ((s.setOpe n { o with resume := some sv }).opeCycle n 0).opePop n))

/-- RESUME_REQ: resume_req written in OPE_CTRL; it reads 1 until replay begins (R93). -/
def State.resumeReq (s : State) (n : Nat) : State :=
  let o := s.ope n
  if !s.alive n || decide (s.engSt false n = 3) || o.saving.isSome || o.resume.isSome then s else
  let sv : Save := ⟨s.fld (reg0 .OPE_SAVE_BASE n) F.OPE_SAVE_BASE_save_line_hi * 32,
    s.fld (reg0 .OPE_CTRL n) F.OPE_CTRL_restore_gutter = 1, false, false, o.nextId, s.pc false n⟩
  (s.putOpe n { o with resume := some sv }).setF (reg0 .OPE_CTRL n) F.OPE_CTRL_resume_req 1
def execResumeReq (n : CoreId) (s : State) : Host.Outcome State Fault Refusal := .next (s.resumeReq n)

/-- Whether a save-area header holds a reserved encoding (R92, R93): an invalid PASS word of a running pass, more than 256
rows, a reserved bias mode, or in the drain set of a draining tile an output format of R32 that no drain accepts or a reserved
bias mode. -/
def headerBad (pass dset rows biasMode : Nat) (active hasBias : Bool) : Bool :=
  let p := passOf pass
  let d := BitVec.ofNat 64 dset
  decide (rows > 256) || (hasBias && decide (biasMode = 3)) ||
    (decide (rows ≠ 0) && (!isDrainFmt (fget d F.OPE_DRAIN_fmt_out) || decide (fget d F.OPE_DRAIN_bias_mode = 3))) ||
    (active && (decide (pass % 256 ≠ 1) || (fmtRank p.fmtL).isNone || decide (fmtRank p.fmtL ≠ fmtRank p.fmtR)))

/-- The steps that an issue history shows, as the header alone lets them be replayed: bit c is a step issued c + 1 core cycles
before the freeze. The last of them are steps of the saved pass; the step with which the segment in effect began spilled
first, and step 0 of a begin PASS cleared the cells (R92, R93). -/
def headHist (h : BitVec 512) (r : Run) (t : Tile) (seg spills : Nat) : List (Nat × Flight) :=
  let cs := ((upTo 0 512).filter (fun c => h.getLsbD c)).reverse
  let cs := cs.drop (cs.length - r.t)
  let since := seg / (fmtRank (passOf r.word.toNat).fmtL).getD 1
  mapFrom 0 (fun i c =>
    -- `k` steps are left, this one included
    let k := cs.length - i
    (c, { cyc := 0, step := true, run := some { r with t := r.t - k }, tile := { t with anchors := if k > since then t.prev else t.anchors }
          clear := decide (r.t = k) && (passOf r.word.toNat).begins
          spill := if since = k ∧ spills ≠ 0 then some (decide (spills > 1)) else none
          left := [], right := [], main := [], gut0 := [], gut1 := [] })) cs

/-- The anchors of a restored history, newest step first: those of the header for the steps of the open tile's last two
segments (R93). `k` counts the spills passed. -/
def headAnchors (t : Tile) : Nat → List (Nat × Flight) → List (Nat × Flight)
  | _, [] => []
  | k, (c, f) :: fs =>
    let a := if k = 0 then t.anchors else if k = 1 then t.prev else f.tile.anchors
    let f' := if f.tile.id ≠ t.id then f else { f with tile := { f.tile with anchors := a, prev := if k = 0 then t.prev else f.tile.prev } }
    (c, f') :: headAnchors t (k + f.spill.isSome.toNat) fs

/-- The restored tile, pass and drain of a save area; what the area does not hold comes from the engine's note of the save
at the same line, else from the header and the registers (log 14). A header whose gutter_saved is 0 leaves the gutter as it
stands even with restore_gutter (log 14). -/
def State.restore (s : State) (n : Nat) (sv : Save) (rd : Nat → Nat → Nat) : State :=
  let o := s.ope n
  let base := sv.line * 128
  let bytes (off len : Nat) : List Byte := s.tmRead n (base + off) len
  let note := tget (⟨none, none, none, [], []⟩ : Parked) o.parked sv.line
  let pass := rd 0 16
  let p := passOf pass
  let h8 := rd 0x88 8
  let h9 := rd 0x90 8
  let st := rd 0x80 8
  let active := bitsOf h8 13 1 = 1
  let shape := bitsOf h8 11 2
  let g := shapeOf shape
  let an (off : Nat) : List Int := anchorsOf (bytes off 32)
  -- a closed tile that the note keeps is not opened again
  let shut := note.tile.isNone && !note.closed.isEmpty
  let seg := bitsOf st 16 16
  let tile : Option Tile := if bitsOf h8 9 1 = 0 || shut then none else
    let old := note.tile
    some { id := old.elim o.nextId (·.id), slot := bitsOf h8 10 1, shape := shape
           fmtL := if active then p.fmtL else old.elim 16 (·.fmtL), fmtR := if active then p.fmtR else old.elim 16 (·.fmtR)
           bias := if bitsOf h8 15 1 = 1 then some (bitsOf h8 16 2, bitsOf h8 18 18) else none
           anchors := an 0x20, prev := an 0x98, needAnchor := old.elim (decide (seg = 0)) (·.needAnchor)
           clearDue := old.elim (active && p.begins && decide (bitsOf st 0 16 = 0)) (·.clearDue)
           spillDue := old.elim (active && decide (p.spillL ≤ seg)).toNat (·.spillDue)
           numCtrl := old.elim (s.rd (reg0 .OPE_NUM_CTRL n)) (·.numCtrl)
           mAct := if active then p.mAct else old.elim (g.h - 1) (·.mAct)
           nAct := if active then p.nAct else old.elim (g.w - 1) (·.nAct) }
  let rank := (fmtRank p.fmtL).getD 1
  let run : Option Run := if !active || shut then none else
    some { id := note.run.elim o.nextId (·.id), pc := note.run.elim (s.pc false n) (·.pc), word := BitVec.ofNat 128 pass
           t := bitsOf st 0 16, steps := if p.k = 0 then 1 else (p.k + rank - 1) / rank, empty := p.k = 0
           ringL := note.run.elim (s.rd (reg1 .OPE_RING n p.ringL)) (·.ringL)
           ringR := note.run.elim (s.rd (reg1 .OPE_RING n p.ringR)) (·.ringR)
           scaleL := note.run.elim (s.rd (reg1 .OPE_RING_SCALE n p.ringL)) (·.scaleL)
           scaleR := note.run.elim (s.rd (reg1 .OPE_RING_SCALE n p.ringR)) (·.scaleR)
           groupsL := bitsOf h8 36 16, groupsR := bitsOf h9 0 16, flags := note.run.elim 0 (·.flags)
           bp := note.run.elim 0 (·.bp), feed := note.run.elim 0 (·.feed), thr := note.run.elim 0 (·.thr) }
  let dw := rd 0x10 16
  let rows := bitsOf h8 0 9
  let dt : Tile := (note.drain.map (·.tile)).getD
    ⟨o.nextId, bitsOf h8 10 1, shape, 16, 16, none, [], [], false, false, 0, 0, g.h - 1, g.w - 1⟩
  let drain : Option Drain := if rows = 0 then none else
    some ⟨BitVec.ofNat 64 dw, BitVec.ofNat 64 (dw / 2 ^ 64), { dt with anchors := an 0xB8 },
      (note.drain.map (·.spilled)).getD (s.spills n dt.slot != 0), rows,
      (note.drain.map (·.cpl)).getD (cplOf o.nextId 0 1 dt.shape dt.slot 0), (note.drain.map (·.pc)).getD (s.pc false n),
      o.cyc, []⟩
  let bits := BitVec.ofNat 512 (rd 0x40 64)
  let spl := if bitsOf h8 10 1 = 0 then bitsOf st 32 16 else bitsOf st 48 16
  let hist : List (Nat × Flight) :=
    if histBits note.hist = bits then (tile.elim note.hist (fun t => (headAnchors t 0 note.hist.reverse).reverse))
    else match run, tile with
      | some r, some t => headHist bits r t seg spl
      | _, _ => []
  let restoreGut := sv.gutter && decide (bitsOf h8 14 1 = 1)
  let o' : Ope := { o with
    main := winsOf (bytes 0x82000 524288) (bytes 0x102000 16384) 0 65536
    shadow := winsOf (bytes 0x2000 524288) (bytes 0x106000 16384) 0 65536
    gens := (upTo 0 256).map (fun j => Gen.ofBytes (bytes (0x1000 + 16 * j) 16))
    gut0 := if restoreGut then widesOf (bytes 0x10A000 786432) 65536 else o.gut0
    gut1 := if restoreGut then widesOf (bytes 0x1CA000 786432) 65536 else o.gut1
    tile := tile, run := run, drain := drain, closed := note.closed, seq := BitVec.ofNat 32 (bitsOf h9 16 32), hist := hist
    flights := [], lastShape := none, resume := none, replay := some sv, nextId := o.nextId + 1
    out := if active && !o.out.contains (run.elim o.nextId (·.id)) then o.out ++ [run.elim o.nextId (·.id)] else o.out }
  let s := s.setF (reg0 .OPE_STATUS n) F.OPE_STATUS_steps_issued (bitsOf st 0 16)
  let s := (((s.setSegLen n seg).setSpills n 0 (bitsOf st 32 16)).setSpills n 1 (bitsOf st 48 16))
  s.putOpe n o'

/-- RESUME_START: once the array has settled and the shadow set is released the engine abandons any open tile and restores
the area; an invalid header faults with cause 0x03 and restores nothing (R93). -/
def execResumeStart (n : CoreId) (s : State) : Host.Outcome State Fault Refusal :=
  .next (
    let o := s.ope n
    match o.resume with
    | some sv =>
      if !s.alive n ∨ s.engSt false n = 3 ∨ o.cwRun.isSome ∨ o.saving.isSome then s
      else if !o.settled then s.opeCycle n 0
      else if o.closed ≠ [] ∨ o.drain.isSome then s.opeCycle n 5
      else
      let rd (off len : Nat) : Nat := leNat (s.tmRead n (sv.line * 128 + off) len)
      let h8 := rd 0x88 8
      if headerBad (rd 0 16) (rd 0x10 8) (bitsOf h8 0 9) (bitsOf h8 16 2) (bitsOf h8 13 1 = 1) (bitsOf h8 15 1 = 1) then
        let s := s.setOpe n { o with resume := none, nextId := o.nextId + 1, out := o.out ++ [o.nextId] }
        let s := s.setF (reg0 .OPE_CTRL n) F.OPE_CTRL_resume_req 0
        s.opeFault n sv.pc (cplOf o.nextId 0x03 6 (o.tile.elim 0 (·.shape)) (o.tile.elim 0 (·.slot))
          (s.spills n (o.tile.elim 0 (·.slot))))
      else s.restore n sv rd
    | none => s)

/-- One issue of the history applied again to the cells it had not reached, with the tile memory as it stands: its spill, its
clear, then its products (R71, R93). -/
def Flight.replay (f : Flight) (tm : Nat → Nat) (c : Nat) (st : List Win × List Wide) : List Win × List Wide :=
  let cells := match f.spill with
    | none => st.1.zip st.2
    | some spilled => mapFrom 0 (fun w (p : Win × Wide) =>
        if f.ahead c w then
          let t := { f.tile with anchors := f.tile.prev }
          let q := t.spillCell (t.base tm spilled p.2 (w / 256) (w % 256)) p.1 (w / 256) (w % 256)
          (q.2, q.1)
        else p) (st.1.zip st.2)
  let main := mapFrom 0 (fun w (p : Win × Wide) => if f.clear && f.ahead c w then Win.zero else p.1) cells
  let main := match f.run with
    | some r => if r.empty then main else (stepCells r r.t (some c) tm f.tile main).map (·.1)
    | none => main
  (main, cells.map (·.2))

/-- An issue of the history applied again to its tile: the open one, or a closed one that waits for its copy. -/
def Ope.replayOne (tm : Nat → Nat) (o : Ope) (p : Nat × Flight) : Ope :=
  let k := p.2.tile.slot
  if o.tile.any (fun t => decide (t.id = p.2.tile.id)) then
    let r := p.2.replay tm p.1 (o.main, o.gut k)
    { o.setGut k r.2 with main := r.1 }
  else
    match o.closed.find? (fun d => decide (d.tile.id = p.2.tile.id)) with
    | some d =>
      let r := p.2.replay tm p.1 (d.wins, o.gut k)
      { o.setGut k r.2 with closed := o.closed.map (fun x => if x.tile.id = d.tile.id then { x with wins := r.1 } else x) }
    | none => o

/-- REPLAY_BEGIN: after the restore's 580 core cycles, 1,348 with the gutter, and one for each bank conflict it lost, the drain
continues and the steps that had not reached every cell are applied where they had not been, before the pass's remaining steps
issue (R93, R94); a pass whose last step was in flight then ends. -/
def execReplayBegin (n : CoreId) (lost : BitVec 8) (s : State) : Host.Outcome State Fault Refusal :=
  .next (
    match (s.ope n).replay with
    | some sv =>
      if !s.alive n ∨ s.engSt false n = 3 then s else
      let s := (s.opeCycles n 0 (if sv.gutter then 1348 else 580)).opeCycles n 4 lost.toNat
      let o := s.ope n
      let o' := o.hist.foldl (Ope.replayOne (s.tm n)) o
      let fl := o.tile.elim 0 (fun t =>
        let x := o.main.zip o'.main
        flagBits (shapeOf t.shape) 0 0 (x.map (fun p => !p.1.range && p.2.range)) 0 |||
          flagBits (shapeOf t.shape) 1 0 (x.map (fun p => !p.1.nan && p.2.nan)) 0)
      let run := o'.run.map (fun r => { r with flags := r.flags ||| fl })
      let s := (s.putOpe n { o' with run := run, replay := none, hist := [], nextAt := o.cyc }).addNumFlags n fl
      let s := if sv.queued then s else s.setF (reg0 .OPE_CTRL n) F.OPE_CTRL_resume_req 0
      let s := s.setEngSt false n 1
      match run, o'.tile with
      | some r, some t => if r.t < r.steps then s else s.endPass n t r
      | _, _ => s.opeEnd n
    | none => s)

/-- OPE_DUMP: dump written while FAULTED writes the save area; one requested while a drain completes waits for it (R96). -/
def State.opeDump (s : State) (n : Nat) : State :=
  let o := s.ope n
  if !s.alive n || decide (s.engSt false n ≠ 3) then s
  else if o.drain.isSome ∨ o.closed ≠ [] ∨ o.fin ≠ [] then s.setF (reg0 .OPE_CTRL n) F.OPE_CTRL_dump 1
  else s.doDump n
def execOpeDump (n : CoreId) (s : State) : Host.Outcome State Fault Refusal := .next (s.opeDump n)

/-- OPE_FAULT_CLEAR: leaves FAULTED for IDLE and discards the queue (R96, R163). -/
def State.opeFaultClear (s : State) (n : Nat) : State :=
  if !s.alive n || decide (s.engSt false n ≠ 3) then s
  else (s.putOpe n { s.ope n with st := .reset }).setEngSt false n 0
def execOpeFaultClear (n : CoreId) (s : State) : Host.Outcome State Fault Refusal := .next (s.opeFaultClear n)

/-- The 32 bytes of a completion record (R98). -/
def Cpl.bytes (c : Cpl) (seq : BitVec 32) : List Byte :=
  leBytes (seq.toNat + c.stepReached % 65536 * 2 ^ 32 + c.cause * 2 ^ 48 + c.kind % 16 * 2 ^ 56 + c.shape * 2 ^ 60 +
    c.drained.toNat * 2 ^ 62 + c.slot * 2 ^ 63) 8 ++ leBytes c.flags.toNat 8 ++ leBytes (c.spill % 65536) 4 ++
    leBytes c.bp 4 ++ leBytes c.feed 4 ++ leBytes c.thr 4

/-- COMPLETION_RECORD_WRITE: the oldest requested record is written into the completion ring (R97, R98). -/
def execCompletionRecordWrite (n : CoreId) (s : State) : Host.Outcome State Fault Refusal :=
  .next (
    let o := s.ope n
    match o.cpls with
    | c :: cs =>
      if !s.alive n then s else
      let r := s.rd (reg0 .OPE_CPL_BASE n)
      let a := fget r F.OPE_CPL_BASE_base_line * 128 + 32 * (o.seq.toNat % 2 ^ fget r F.OPE_CPL_BASE_size)
      (s.tmWrite n a (c.bytes o.seq)).putOpe n { o with cpls := cs, seq := o.seq + 1, out := o.out.filter (· != c.id) }
    | [] => s)

/-- OPE_LOOP (R165, R182, R184). -/
def execOpeLoop (n : CoreId) (s : State) : Host.Outcome State Fault Refusal :=
  .next (s.opeWord n 0x10 (fun s q w =>
    let off := bitsOf w 64 25
    let e := q.pc + off
    let isReg := bitsOf w 8 1 = 1
    let count := if isReg then s.fld (loopCntReg false n (bitsOf w 9 3)) F.OPE_LOOPCNT_count else bitsOf w 32 32
    if off = 0 ∨ off % 16 ≠ 0 ∨ e ≥ s.pcEnd false n ∨ (count ≠ 0 ∧ s.loopDepth false n ≥ 4) then s.wordFault n q 0x03 else
    let s := if count = 0 then s else s.pushLoop false n count (q.pc + 16) e
    let o := s.ope n
    let st := o.st.pop
    let st := if isReg then st.resume (if count = 0 then e + 16 else q.pc + 16) (s.archLoops false n) none else st
    ((s.putOpe n { o with st := st }).setPc false n st.nextPc).opeEnd n))

/-- OPE_ENDLOOP (R182, R184). -/
def execOpeEndloop (n : CoreId) (s : State) : Host.Outcome State Fault Refusal :=
  .next (s.opeWord n 0x11 (fun s q _ =>
    let d := s.loopDepth false n
    if d = 0 ∨ s.fld (loopEndReg false n (d - 1)) F.OPE_LOOP_END_end_pc ≠ q.pc then s.wordFault n q 0x03 else
    let left := s.fld (loopReg false n (d - 1)) F.OPE_LOOP_remaining - 1
    let s := s.setF (loopReg false n (d - 1)) F.OPE_LOOP_remaining left
    let s := if left = 0 then s.setF (loopReg false n (d - 1)) F.OPE_LOOP_active 0 else s
    (s.opePop n).opeEnd n))

/-- OPE_WAITTOK: waits until the count covers n and subtracts it; a reserved reference faults (R165, R177). -/
def execOpeWaittok (n : CoreId) (s : State) : Host.Outcome State Fault Refusal :=
  .next (s.opeWord n 0x12 (fun s q w =>
    match tokRef n (bitsOf w 8 9) with
    | none => s.wordFault n q 0x03
    | some t =>
      let r := s.tokWait n 0 t (bitsOf w 32 16)
      if r.2 then (r.1.opePop n).opeEnd n else r.1.opeCycle n (s.waitCode n t)))

/-- OPE_SIGTOK: signals at once, or waits in the pending list of 8; a ninth holds the stream (R165, R181). -/
def execOpeSigtok (n : CoreId) (s : State) : Host.Outcome State Fault Refusal :=
  .next (s.opeWord n 0x13 (fun s q w =>
    match tokRef n (bitsOf w 8 9) with
    | none => s.wordFault n q 0x03
    | some t =>
      let k := bitsOf w 32 16
      if bitsOf w 17 1 = 0 then ((s.signal n t k).opePop n).opeEnd n else
      let o := s.ope n
      if o.sigs.length ≥ 8 then s.opeCycle n 0
      else ((s.setOpe n { o with sigs := o.sigs ++ [⟨bitsOf w 8 9, k, o.nextId⟩] }).opePop n).opeEnd n))

/-- SIGTOK_PENDING_FIRE: the oldest pending signal fires once every earlier record has been written (R181). -/
def execSigtokPendingFire (n : CoreId) (s : State) : Host.Outcome State Fault Refusal :=
  .next (
    let o := s.ope n
    match o.sigs with
    | g :: gs =>
      if !s.alive n || o.out.any (fun i => decide (i < g.upto)) then s else
      let s := s.putOpe n { o with sigs := gs }
      match tokRef n g.ref with
      | some t => s.signal n t g.n
      | none => s
    | [] => s)

/-- OPE_RUN: run written in OPE_STREAM starts an IDLE engine at OPE_PC; at the end it is IDLE at once (R163). -/
def State.opeRun (s : State) (n : Nat) : State :=
  if !s.alive n || decide (s.engSt false n ≠ 0) || decide (s.pc false n ≥ s.pcEnd false n) then s else
  (s.putOpe n { s.ope n with st := .at (s.pc false n) (s.archLoops false n) }).setEngSt false n 1
def execOpeRun (n : CoreId) (s : State) : Host.Outcome State Fault Refusal := .next (s.opeRun n)

/-- UNDEFINED_OPCODE: a word whose opcode is not in the table faults with cause 0x03 before it takes any effect (R66). -/
def execUndefinedOpcode (n : CoreId) (s : State) : Host.Outcome State Fault Refusal :=
  .next (
    if !s.opeReady n then s else
    match (s.ope n).st.q with
    | [] => s
    | q :: _ =>
      let op := q.word % 256
      if q.fault ≠ 0 then s.wordFault n q q.fault
      else if op ≤ 0x06 ∨ (0x10 ≤ op ∧ op ≤ 0x13) then s else s.wordFault n q 0x03)

end Sys2Proof.Machine
end

