-- ==== Sys2Proof/Machine/VecOps.lean ====
section
/-! DEFINITION. The operations of the vector engine's slots (R109 to R118), what each computes in a lane, and the decoding
of bundles (R166 to R171). -/

namespace Sys2Proof.Machine

/-- FP operations of ALU0 (R109, R168). -/
inductive FpK where
  | add | sub | mul | fma | min | max | badd | bmul | bfma | recip | rsqrt
  deriving DecidableEq, Repr

/-- Integer and logic operations of ALU1 (R109, R169). -/
inductive IntK where
  | add | sub | mul | and | or | xor | shl | shr | sar | mov
  deriving DecidableEq, Repr

/-- Predicate operations (R109). -/
inductive PredK where
  | and | or | not
  deriving DecidableEq, Repr

/-- An operation of a slot. -/
inductive VOp where
  | fp (k : FpK) (pred vd : Nat) (a b c : Src)
  | cvt (pred vd : Nat) (a : Src) (k : Conv)
  | int (k : IntK) (pred d : Nat) (a b : Src)
  | sel (pred d : Nat) (a b : Src) (pk : Nat)
  | laneid (pred d : Nat)
  | cmp (fp : Bool) (cc : Cond) (pred pd : Nat) (a b : Src)
  | pred (k : PredK) (pred pd pa pb : Nat)
  | wadd (pred wd wa wb : Nat)
  | f2w (pred wd : Nat) (a : Src)
  | w2f (pred vd wa : Nat) (k : WConv)
  | rnd (pred vd : Nat)
  | rget (drain : Bool) (pred vd q : Nat)
  | rput (drain : Bool) (pred : Nat) (a : Src) (q : Nat)
  | tbl (deriv : Bool) (pred vd : Nat) (a : Src) (slot : Nat) (half : Bool)
  | tblld (slot ak : Nat)
  | ld (pred vd ar : Nat) (off : BitVec 8)
  | ldb (pred vd ar : Nat) (off : BitVec 8) (word : Nat)
  | wld (pred wd ar : Nat) (off : BitVec 8)
  | st (pred vs ar : Nat) (off : BitVec 8)
  | wst (pred ws ar : Nat) (off : BitVec 8)
  | aadd (ad src : Nat) (imm : BitVec 19)
  | amov (ad k : Nat)
  | seed (drain : Bool) (k j : Nat)
  | loop (reg : Bool) (count creg off : Nat)
  | endloop
  | waittok (ref n : Nat)
  | sigtok (ref n : Nat)
  deriving DecidableEq, Repr

/-- The slot of an operation: 0 ALU0, 1 ALU1, 2 TABLE, 3 LOAD, 4 STORE, 5 CONTROL (R122). -/
def VOp.slot : VOp → Nat
  | .fp .. => 0
  | .cvt .. => 0
  | .tbl .. => 2
  | .tblld .. => 2
  | .ld .. => 3
  | .ldb .. => 3
  | .wld .. => 3
  | .st .. => 4
  | .wst .. => 4
  | .aadd .. => 5
  | .amov .. => 5
  | .seed .. => 5
  | .loop .. => 5
  | .endloop => 5
  | .waittok .. => 5
  | .sigtok .. => 5
  | _ => 1

/-! What an operation computes in a lane. Flags: 1 invalid, 2 divzero, 4 overflow, 8 out_overflow (R122). -/

/-- A sum, a product and a fused product rounded once, with their flags (R110). -/
def fpAdd (f : FmtSpec) (a b : Val) : Nat × Nat :=
  let r := a.add b
  let x := arithTo f r.1
  (x.1, r.2.toNat + 4 * x.2.toNat)

def fpMul (f : FmtSpec) (a b : Val) : Nat × Nat :=
  let r := a.mul b
  let x := arithTo f r.1
  (x.1, r.2.toNat + 4 * x.2.toNat)

def fpFma (f : FmtSpec) (a b c : Val) : Nat × Nat :=
  let p := a.mul b
  let r := p.1.add c
  let x := arithTo f r.1
  (x.1, (p.2 || r.2).toNat + 4 * x.2.toNat)

/-- FMIN and FMAX: −0 counts below +0, a NaN operand gives the canonical NaN (R109). -/
def fpPick (max : Bool) (a b : BitVec 32) : Nat :=
  let x := decodeFloat fp32 a.toNat
  let y := decodeFloat fp32 b.toNat
  if x.isNan || y.isNan then fp32.nanBits else
  let less := x.lt y || (x.isZero && y.isZero && a.msb)
  if less = max then b.toNat else a.toNat

/-- RECIP and RSQRT (R110). -/
def fpRecip (a : Val) : Nat × Nat :=
  match a with
  | .nan => (fp32.nanBits, 0)
  | .inf n => (encodeMag fp32 n 0 0, 0)
  | .fin n m e =>
    if m = 0 then (fp32.infBits n, 2) else
    let x := arithTo fp32 (recipFin n m e)
    (x.1, 4 * x.2.toNat)

def fpRsqrt (a : Val) : Nat × Nat :=
  match a with
  | .nan => (fp32.nanBits, 0)
  | .inf n => if n then (fp32.nanBits, 1) else (0, 0)
  | .fin n m e =>
    if m = 0 then (fp32.infBits n, 2)
    else if n then (fp32.nanBits, 1)
    else ((arithTo fp32 (rsqrtFin m e)).1, 0)

/-- A packed BF16 operation, half by half (R109). -/
def halves (g : Val → Val → Val → Nat × Nat) (a b c : BitVec 32) : Nat × Nat :=
  let lo (x : BitVec 32) : Val := decodeFloat bf16 (x.toNat % 65536)
  let hi (x : BitVec 32) : Val := decodeFloat bf16 (x.toNat / 65536)
  let l := g (lo a) (lo b) (lo c)
  let h := g (hi a) (hi b) (hi c)
  (l.1 + h.1 * 65536, l.2 ||| h.2)

/-- An ALU0 FP operation in a lane. -/
def fpLane (k : FpK) (a b c : BitVec 32) : Nat × Nat :=
  let x := decodeFloat fp32 a.toNat
  let y := decodeFloat fp32 b.toNat
  let z := decodeFloat fp32 c.toNat
  match k with
  | .add => fpAdd fp32 x y
  | .sub => fpAdd fp32 x y.negate
  | .mul => fpMul fp32 x y
  | .fma => fpFma fp32 x y z
  | .min => (fpPick false a b, 0)
  | .max => (fpPick true a b, 0)
  | .badd => halves (fun x y _ => fpAdd bf16 x y) a b c
  | .bmul => halves (fun x y _ => fpMul bf16 x y) a b c
  | .bfma => halves (fpFma bf16) a b c
  | .recip => fpRecip x
  | .rsqrt => fpRsqrt x

/-- The formats of the conversion codes, INT8 apart, and their widths (R168). -/
def convFmt (code : Nat) : FmtSpec :=
  match code with
  | 1 => bf16
  | 2 => fp16
  | 3 => e4m3
  | 4 => e5m2
  | _ => fp32

def convBits (code : Nat) : Nat := if code = 0 then 32 else if code ≤ 2 then 16 else 8

/-- A CVT whose encoding is not reserved (R168). -/
def convOk (k : Conv) : Bool :=
  (decide (k.src.val = 0) || decide (k.dst.val = 0)) &&
    (decide (min (convBits k.src.val) (convBits k.dst.val) ≠ 16) || decide (k.pos.val < 2))

/-- The destination bits that a CVT writes (R111). -/
def convMask (k : Conv) : BitVec 32 :=
  if k.dst.val = 0 then BitVec.allOnes 32 else
  BitVec.ofNat 32 ((2 ^ convBits k.dst.val - 1) * 2 ^ (k.pos.val * convBits k.dst.val))

/-- A CVT in a lane, its result placed in its part (R52, R111): FP32 to FP32 copies, widening is exact. -/
def cvtLane (k : Conv) (u : Option Nat) (a : BitVec 32) : Nat × Nat :=
  if k.src.val = 0 ∧ k.dst.val = 0 then (a.toNat, 0)
  else if k.dst.val = 0 then
    let w := convBits k.src.val
    let x := bitsOf a.toNat (k.pos.val * w) w
    let v := if k.src.val = 5 then valOfInt (signedOf 8 x) 0 else decodeFloat (convFmt k.src.val) x
    ((arithTo fp32 v).1, 0)
  else
    let v := decodeFloat fp32 a.toNat
    let r := if k.dst.val = 5 then cvtInt8 u v else cvtFloat (convFmt k.dst.val) k.sat u v
    (r.1 * 2 ^ (k.pos.val * convBits k.dst.val), 8 * r.2.toNat)

/-- A W2F in a lane (R52, R109). -/
def w2fLane (k : WConv) (u : Option Nat) (g : Wide) : Nat × Nat :=
  let r := cvtFloat (if k.bf16 then bf16 else fp32) k.sat u g.val
  (if k.bf16 then r.1 * 2 ^ (16 * k.pos.val) else r.1, 8 * r.2.toNat)

def wconvMask (k : WConv) : BitVec 32 :=
  if k.bf16 then BitVec.ofNat 32 (65535 * 2 ^ (16 * k.pos.val)) else BitVec.allOnes 32

/-- Integer and logic operations (R109). -/
def intLane (k : IntK) (a b : BitVec 32) : BitVec 32 :=
  match k with
  | .add => a + b
  | .sub => a - b
  | .mul => a * b
  | .and => a &&& b
  | .or => a ||| b
  | .xor => a ^^^ b
  | .shl => a <<< (b.toNat % 32)
  | .shr => a >>> (b.toNat % 32)
  | .sar => a.sshiftRight (b.toNat % 32)
  | .mov => a

/-- A comparison from the outcomes "less", "equal", "greater": NE holds whenever EQ does not, so it is true with a NaN
(R109). -/
def condOf (cc : Cond) (lt eq gt : Bool) : Bool :=
  match cc with
  | .eq => eq
  | .ne => !eq
  | .lt => lt
  | .le => lt || eq
  | .gt => gt
  | .ge => gt || eq

def fcmpLane (cc : Cond) (a b : BitVec 32) : Bool :=
  let x := decodeFloat fp32 a.toNat
  let y := decodeFloat fp32 b.toNat
  condOf cc (x.lt y) (x.eqv y) (y.lt x)

def icmpLane (cc : Cond) (a b : BitVec 32) : Bool := condOf cc (a.slt b) (decide (a = b)) (b.slt a)

def predLane (k : PredK) (a b : Bool) : Bool :=
  match k with
  | .and => a && b
  | .or => a || b
  | .not => !a

/-- A 32-bit word of a slot image; an image never loaded is all zero (R101). -/
def imgWord (img : List Byte) (o : Nat) : Nat := leNat ((img.drop o).take 4)

/-- `a * x + b` of a table tail (R113). -/
def tailVal (a b x : Val) : Val × Bool :=
  match x with
  | .inf _ =>
    if a.isZero then (b, false) else
    let p := a.mul x
    let r := p.1.add b
    (r.1, p.2 || r.2)
  | _ =>
    let p := a.mul x
    let r := p.1.add b
    (r.1, p.2 || r.2)

/-- The floor of `m * 2^e / 2^s`. -/
def floorDiv (m : Nat) (e s : Int) : Nat := if s ≤ e then m * 2 ^ (e - s).toNat else m / 2 ^ (s - e).toNat

/-- The exact value of a function or derivative lookup, and whether a NaN was produced (R112, R113). -/
def tableVal (img : List Byte) (deriv : Bool) (x : Val) : Val × Bool :=
  if x.isNan then (.nan, false) else
  let f32 (o : Nat) : Val := decodeFloat fp32 (imgWord img o)
  let tail := if deriv then 0x20 else 0x10
  let ents := if deriv then 0x1080 else 0x80
  let step : Int := signedOf 8 (leNat ((img.drop 4).take 1))
  let lo := f32 0
  let hi := (lo.add (.fin false 512 step)).1
  if x.lt lo then tailVal (f32 tail) (f32 (tail + 4)) x
  else if !x.lt hi then tailVal (f32 (tail + 8)) (f32 (tail + 12)) x
  else
    match (x.add lo.negate).1 with
    | .fin n m e =>
      let k := floorDiv m e step
      let dx := ((Val.fin n m e).add (.fin true k step)).1
      let p := (f32 (ents + 8 * k + 4)).mul dx
      let r := (f32 (ents + 8 * k)).add p.1
      (r.1, p.2 || r.2)
    | _ => (.nan, false)

/-- TF and TD in a lane (R113). -/
def tblLane (img : List Byte) (deriv half : Bool) (a : BitVec 32) : Nat × Nat :=
  let go (f : FmtSpec) (x : Val) : Nat × Nat :=
    let r := tableVal img deriv x
    let y := arithTo f r.1
    (y.1, r.2.toNat + 4 * y.2.toNat)
  if half then halves (fun x _ _ => go bf16 x) a a a else go fp32 (decodeFloat fp32 a.toNat)

/-- The header check of TBLLD (R114). -/
def imgHeaderBad (img : List Byte) : Bool :=
  let step := signedOf 8 (leNat ((img.drop 4).take 1))
  (decodeFloat fp32 (imgWord img 0)).special || decide (step < -32) || decide (step > 32)

/-! Decoding of bundles. -/

def fin64 (x : Nat) : Fin 64 := ⟨x % 64, Nat.mod_lt _ (by decide)⟩
def fin16 (x : Nat) : Fin 16 := ⟨x % 16, Nat.mod_lt _ (by decide)⟩

/-- A 7-bit source field (R167). -/
def srcOf (x : Nat) : Option Src :=
  if x < 0x40 then some (.v (fin64 x)) else if x < 0x50 then some (.s (fin16 x)) else none

/-- A field that holds a wide or predicate register number (R167). -/
def num8 (x : Nat) : Option Nat := if x < 8 then some x else none

/-- ALU0 syllables (R168). -/
def decAlu0 (w : Nat) : Option VOp := do
  if w % 2 = 1 then
    let a ← srcOf (bitsOf w 11 7)
    let b ← srcOf (bitsOf w 18 7)
    let c ← srcOf (bitsOf w 25 7)
    return .fp (if bitsOf w 1 1 = 0 then .fma else .bfma) (bitsOf w 2 3) (bitsOf w 5 6) a b c
  else
    let p := bitsOf w 5 3
    let d := bitsOf w 8 6
    let a ← srcOf (bitsOf w 14 7)
    let two (k : FpK) : Option VOp := do
      let b ← srcOf (bitsOf w 21 7)
      return .fp k p d a b b
    match bitsOf w 1 4 with
    | 0 => two .add
    | 1 => two .sub
    | 2 => two .mul
    | 3 => two .min
    | 4 => two .max
    | 5 => two .badd
    | 6 => two .bmul
    | 7 => return .fp .recip p d a a a
    | 8 => return .fp .rsqrt p d a a a
    | 9 =>
      if h : bitsOf w 21 3 < 6 ∧ bitsOf w 24 3 < 6 then
        let k : Conv := ⟨⟨bitsOf w 21 3, h.1⟩, ⟨bitsOf w 24 3, h.2⟩, decide (bitsOf w 27 1 = 1), decide (bitsOf w 28 1 = 1),
          ⟨bitsOf w 29 2 % 4, Nat.mod_lt _ (by decide)⟩⟩
        if convOk k then some (.cvt p d a k) else none
      else none
    | _ => none

/-- Comparison conditions (R169). -/
def condCode (x : Nat) : Option Cond :=
  match x with
  | 0 => some .eq
  | 1 => some .ne
  | 2 => some .lt
  | 3 => some .le
  | 4 => some .gt
  | 5 => some .ge
  | _ => none

/-- ALU1 syllables (R169). -/
def decAlu1 (w : Nat) : Option VOp := do
  let p := bitsOf w 6 3
  let d := bitsOf w 9 6
  let af := bitsOf w 15 7
  let bf := bitsOf w 22 7
  let x := bitsOf w 29 3
  let int (k : IntK) : Option VOp := do
    let a ← srcOf af
    let b ← srcOf bf
    return .int k p d a b
  let cmp (fp : Bool) : Option VOp := do
    let a ← srcOf af
    let b ← srcOf bf
    let cc ← condCode x
    let pd ← num8 d
    return .cmp fp cc p pd a b
  match w % 64 with
  | 0x00 => int .add
  | 0x01 => int .sub
  | 0x02 => int .mul
  | 0x03 => int .and
  | 0x04 => int .or
  | 0x05 => int .xor
  | 0x06 => int .shl
  | 0x07 => int .shr
  | 0x08 => int .sar
  | 0x09 => do
    let a ← srcOf af
    return .int .mov p d a a
  | 0x0A => do
    let a ← srcOf af
    let b ← srcOf bf
    return .sel p d a b x
  | 0x0B => some (.laneid p d)
  | 0x0C => cmp true
  | 0x0D => cmp false
  | 0x0E => do return .pred .and p (← num8 d) (← num8 af) (← num8 bf)
  | 0x0F => do return .pred .or p (← num8 d) (← num8 af) (← num8 bf)
  | 0x10 => do
    let a ← num8 af
    return .pred .not p (← num8 d) a a
  | 0x11 => do return .wadd p (← num8 d) (← num8 af) (← num8 bf)
  | 0x12 => do return .f2w p (← num8 d) (← srcOf af)
  | 0x13 => do
    let a ← num8 af
    return .w2f p d a ⟨decide (x % 2 = 1), decide (x / 2 % 2 = 1), decide (x / 4 % 2 = 1),
      ⟨bf % 2, Nat.mod_lt _ (by decide)⟩⟩
  | 0x14 => some (.rnd p d)
  | 0x15 => some (.rget false p d (x % 4))
  | 0x16 => do return .rput false p (← srcOf af) (x % 4)
  | 0x17 => some (.rget true p d (x % 4))
  | 0x18 => do return .rput true p (← srcOf af) (x % 4)
  | _ => none

/-- TABLE, LOAD and STORE syllables (R170). -/
def decTable (w : Nat) : Option VOp :=
  match w % 16 with
  | 0 => (srcOf (bitsOf w 13 7)).map
    (fun a => .tbl false (bitsOf w 4 3) (bitsOf w 7 6) a (bitsOf w 20 4) (decide (bitsOf w 24 1 = 1)))
  | 1 => (srcOf (bitsOf w 13 7)).map
    (fun a => .tbl true (bitsOf w 4 3) (bitsOf w 7 6) a (bitsOf w 20 4) (decide (bitsOf w 24 1 = 1)))
  | 2 => some (.tblld (bitsOf w 20 4) (bitsOf w 25 4))
  | _ => none

def decLoad (w : Nat) : Option VOp :=
  let off := BitVec.ofNat 8 (bitsOf w 15 8)
  match w % 4 with
  | 0 => some (.ld (bitsOf w 2 3) (bitsOf w 5 6) (bitsOf w 11 4) off)
  | 1 => some (.ldb (bitsOf w 2 3) (bitsOf w 5 6) (bitsOf w 11 4) off (bitsOf w 23 5))
  | 2 => (num8 (bitsOf w 5 6)).map (fun d => .wld (bitsOf w 2 3) d (bitsOf w 11 4) off)
  | _ => none

def decStore (w : Nat) : Option VOp :=
  let off := BitVec.ofNat 8 (bitsOf w 15 8)
  match w % 4 with
  | 0 => some (.st (bitsOf w 2 3) (bitsOf w 5 6) (bitsOf w 11 4) off)
  | 2 => (num8 (bitsOf w 5 6)).map (fun d => .wst (bitsOf w 2 3) d (bitsOf w 11 4) off)
  | _ => none

/-- CONTROL syllables (R171); a token reference of a reserved scope or beyond its scope is a reserved encoding (R138). -/
def decControl (n w : Nat) : Option VOp :=
  match w % 32 with
  | 1 => some (.aadd (bitsOf w 5 4) (bitsOf w 9 4) (BitVec.ofNat 19 (bitsOf w 13 19)))
  | 2 => some (.amov (bitsOf w 5 4) (bitsOf w 9 4))
  | 3 => some (.seed (decide (bitsOf w 5 1 = 1)) (bitsOf w 6 3) (bitsOf w 9 4))
  | 4 => some (.loop (decide (bitsOf w 5 1 = 1)) (bitsOf w 6 10) (bitsOf w 6 3) (2 * bitsOf w 16 16))
  | 5 => some .endloop
  | 6 => if (tokRef n (bitsOf w 6 9)).isSome then some (.waittok (bitsOf w 6 9) (bitsOf w 15 16)) else none
  | 7 => if (tokRef n (bitsOf w 6 9)).isSome then some (.sigtok (bitsOf w 6 9) (bitsOf w 15 16)) else none
  | _ => none

/-- A decoded bundle: its operations in slot order, and whether it is exempt from the hazard guard; or the slot that
faults with cause 0x01 (R166). -/
structure Bundle where
  ops : List VOp
  exempt : Bool
  deriving DecidableEq, Repr

/-- The syllables of the slots from `k` on whose mask bits are set. -/
def decSyls (n : Nat) : List Nat → Nat → List Byte → Except Nat (List VOp)
  | [], _, _ => .ok []
  | k :: ks, mask, bs =>
    if mask % 2 = 0 then decSyls n ks (mask / 2) bs else
    let w := leNat (bs.take 4)
    let r :=
      match k with
      | 0 => decAlu0 w
      | 1 => decAlu1 w
      | 2 => decTable w
      | 3 => decLoad w
      | 4 => decStore w
      | _ => decControl n w
    match r, decSyls n ks (mask / 2) (bs.drop 4) with
    | none, _ => .error k
    | some _, .error e => .error e
    | some op, .ok ops => .ok (op :: ops)

def decBundle (n : Nat) (bs : List Byte) : Except Nat Bundle :=
  let h := leNat (bs.take 2)
  if popCount h 6 ≠ bitsOf h 6 3 then .error 0 else
  match decSyls n (upTo 0 6) (h % 64) (bs.drop 2) with
  | .error e => .error e
  | .ok ops => .ok ⟨ops, decide (bitsOf h 9 1 = 1)⟩

end Sys2Proof.Machine
end

