-- ==== Sys2Proof/Machine/Vector.lean ====
section
/-! DEFINITION. The commands of the vector engine (R101 to R122, R161 to R171, R182 to R187) and the code fetchers. -/

namespace Sys2Proof.Machine

/-! Registers of the engine (R101). -/

def Ve.vreg (e : Ve) (r : Nat) : List (BitVec 32) := tget (List.replicate 256 0) e.v r
def Ve.wreg (e : Ve) (r : Nat) : List Wide := tget (List.replicate 256 .zero) e.w r
/-- p0 reads as all ones. -/
def Ve.preg (e : Ve) (r : Nat) : List Bool :=
  if r = 0 then List.replicate 256 true else tget (List.replicate 256 false) e.p r
/-- a0 reads as zero. -/
def Ve.areg (e : Ve) (r : Nat) : BitVec 32 := if r = 0 then 0 else tget 0 e.a r
def State.vparam (s : State) (n k : Nat) : BitVec 32 := BitVec.ofNat 32 (s.fld (reg1 .VE_PARAM n k) F.VE_PARAM_value)
/-- A source operand: a register, or a parameter broadcast to all lanes (R109). -/
def State.vsrc (s : State) (n : Nat) : Src → List (BitVec 32)
  | .v r => (s.ve n).vreg r.val
  | .s k => List.replicate 256 (s.vparam n k.val)

/-- VE_STATUS and VE_STREAM follow the engine (R122, R196). -/
def State.syncVe (s : State) (n : Nat) : State :=
  let e := s.ve n
  let loading (k : Nat) : Bool := e.pend.any (fun p =>
    match p.act with
    | .tblEffect id slot => decide (slot = k) && !e.dead.contains id
    | _ => false)
  let bits := ((upTo 0 16).map (fun k => if loading k then 2 ^ k else 0)).sum
  let x := s.rd (reg0 .VE_STREAM n)
  let x := fset (fset x F.VE_STREAM_loop_depth (s.loopDepth true n)) F.VE_STREAM_queued e.st.q.length
  (s.setF (reg0 .VE_STATUS n) F.VE_STATUS_slot_loading bits).wr (reg0 .VE_STREAM n) x

/-- The engine replaced, with its status registers. -/
def State.putVe (s : State) (n : Nat) (e : Ve) : State := (s.setVe n e).syncVe n

/-! What is in flight (R103 to R106). -/

/-- Within one cycle stores go before reads (R124), and register results land last. -/
def VAct.rank : VAct → Nat
  | .store .. => 0
  | .loadRead .. => 1
  | .tblRead .. => 1
  | _ => 2

/-- The order of effects: cycle, rank, order of issue, slot (R105). -/
def Pend.before (x y : Pend) : Bool :=
  decide (x.due < y.due) || (decide (x.due = y.due) &&
    (decide (x.act.rank < y.act.rank) || (decide (x.act.rank = y.act.rank) &&
      (decide (x.seq < y.seq) || (decide (x.seq = y.seq) && decide (x.slot < y.slot))))))

/-- An operation placed in its order of effect. -/
def pendIns (p : Pend) : List Pend → List Pend
  | [] => [p]
  | x :: xs => if p.before x then p :: x :: xs else x :: pendIns p xs

/-- The engine faults (R121): state, cause, slot, event. A fault while FAULTED changes nothing. -/
def State.veFault (s : State) (n cause slot pc : Nat) : State :=
  if s.engSt true n = 3 then s else
  let v := fset (fset (fset 0 F.VE_FAULT_cause cause) F.VE_FAULT_slot slot) F.VE_FAULT_fault_pc pc
  ((s.wr (reg0 .VE_FAULT n) v).setEngSt true n 3).event (s.phys n) 0x0200
    [(n, 2), (s.phys n, 2), (1, 1), (cause, 1), (pc, 4)]

def State.veFlags (s : State) (n flags : Nat) : State :=
  s.wr (reg0 .VE_NUM_FLAGS n) (s.rd (reg0 .VE_NUM_FLAGS n) ||| BitVec.ofNat 64 flags)

/-- Lanes of a register replaced where the mask is set. -/
def lanesPut {α : Type} (mask : List Bool) (old new : List α) : List α :=
  (mask.zip (old.zip new)).map (fun p => if p.1 then p.2.2 else p.2.1)

/-- A generator with one word replaced; all 128 bits zero become w = 1 (R118). -/
def Gen.setWord (g : Gen) (q : Nat) (v : BitVec 32) : Gen :=
  Gen.fix (match q with
    | 0 => { g with x := v }
    | 1 => { g with y := v }
    | 2 => { g with z := v }
    | _ => { g with w := v })

def Gen.word (g : Gen) (q : Nat) : BitVec 32 :=
  match q with
  | 0 => g.x
  | 1 => g.y
  | 2 => g.z
  | _ => g.w

/-- The lane or the drain-path generators of a core replaced. -/
def State.setGens (s : State) (n : Nat) (drain : Bool) (g : List Gen) : State :=
  if drain then s.setOpe n { s.ope n with gens := g } else s.setVe n { s.ve n with gens := g }
def State.getGens (s : State) (n : Nat) (drain : Bool) : List Gen := if drain then (s.ope n).gens else (s.ve n).gens

/-- A read of tile memory by an operation in flight: its bytes are kept; an uncorrectable word faults the engine with
cause 0x20 and the operation writes nothing (R107, R121). -/
def State.veRead (s : State) (n : Nat) (p : Pend) (id off len : Nat) (e : Ecc) : State :=
  let c := s.tmCheck n off (min len (slotSize - off)) e
  let s := c.1
  let v := s.ve n
  if c.2 then (s.setVe n { v with dead := id :: v.dead }).veFault n 0x20 p.slot p.pc
  else s.setVe n { v with data := tput id (tget [] v.data id ++ s.tmRead n off len) v.data }

/-- An operation in flight takes effect. -/
def State.veAct (s : State) (n : Nat) (p : Pend) (e : Ecc) : State :=
  let v := s.ve n
  let done (id : Nat) (v : Ve) : Ve := { v with data := tdel id v.data, dead := v.dead.filter (fun x => decide (x ≠ id)) }
  let bytes (id : Nat) : List Byte := tget [] v.data id
  let words (bs : List Byte) : List (BitVec 32) := (upTo 0 256).map (fun l => BitVec.ofNat 32 (leNat ((bs.drop (4 * l)).take 4)))
  match p.act with
  | .v r mask bits vals flags =>
    let new := ((v.vreg r).zip vals).map (fun (q : BitVec 32 × BitVec 32) => (q.1 &&& ~~~bits) ||| (q.2 &&& bits))
    (s.setVe n { v with v := tput r (lanesPut mask (v.vreg r) new) v.v }).veFlags n flags
  | .w r mask vals flags => (s.setVe n { v with w := tput r (lanesPut mask (v.wreg r) vals) v.w }).veFlags n flags
  | .p r mask vals => if r = 0 then s else s.setVe n { v with p := tput r (lanesPut mask (v.preg r) vals) v.p }
  | .a r val => if r = 0 then s else s.setVe n { v with a := tput r val v.a }
  | .rput drain q mask vals =>
    let g := s.getGens n drain
    s.setGens n drain (lanesPut mask g ((g.zip vals).map (fun (x : Gen × BitVec 32) => x.1.setWord q x.2)))
  | .seed drain gens => s.setGens n drain gens
  | .store line bs derr =>
    let cells := (mapFrom 0 (fun i (b : Option Byte) => (line * 128 + i, b)) bs).filterMap
      (fun (c : Nat × Option Byte) => if c.1 < slotSize then c.2.map (fun b => (slotBase n + c.1, b)) else none)
    let s := (s.setVe n { v with stored := max v.stored (p.due + 1) }).putCellsE cells e
    if derr then s.decodeErr n (slotBase n + line * 128) else s
  | .loadRead id off len derr =>
    let s := if derr then s.decodeErr n (slotBase n + off) else s
    if v.dead.contains id then s else s.veRead n p id off len e
  | .loadV id r mask =>
    if v.dead.contains id then s.setVe n (done id v) else
    s.setVe n (done id { v with v := tput r (lanesPut mask (v.vreg r) (words (bytes id))) v.v })
  | .loadB id r mask =>
    if v.dead.contains id then s.setVe n (done id v) else
    let x := BitVec.ofNat 32 (leNat ((bytes id).take 4))
    s.setVe n (done id { v with v := tput r (lanesPut mask (v.vreg r) (List.replicate 256 x)) v.v })
  | .loadW id r mask =>
    if v.dead.contains id then s.setVe n (done id v) else
    s.setVe n (done id { v with w := tput r (lanesPut mask (v.wreg r) (widesOf (bytes id) 256)) v.w })
  | .tblRead id line part =>
    if v.dead.contains id then s else
    let s := if part = 0 ∧ line * 128 + 8320 > slotSize then s.decodeErr n (slotBase n + line * 128) else s
    let s := s.veRead n p id (line * 128 + 256 * part) (min 256 (8320 - 256 * part)) e
    let v := s.ve n
    if part = 0 ∧ !v.dead.contains id ∧ imgHeaderBad (tget [] v.data id) then
      (s.setVe n { v with dead := id :: v.dead }).veFault n 0x02 p.slot p.pc
    else s
  | .tblEffect id slot =>
    if v.dead.contains id then s.setVe n (done id v) else
    s.setVe n (done id { v with slots := tput slot (bytes id) v.slots })

/-- The next operation in flight takes effect. -/
def State.veFire (s : State) (n : Nat) (e : Ecc) : State :=
  match (s.ve n).pend with
  | [] => s
  | p :: ps => (s.setVe n { s.ve n with pend := ps }).veAct n p e

/-- Every operation whose cycle has come takes effect. -/
def State.veFireDue (n : Nat) : Nat → State → State
  | 0, s => s
  | k + 1, s =>
    match (s.ve n).pend with
    | [] => s
    | p :: _ => if p.due ≤ (s.ve n).cyc then State.veFireDue n k (s.veFire n .ok) else s

def State.veDue (s : State) (n : Nat) : State := State.veFireDue n (s.ve n).pend.length s

/-! Issue. -/

/-- An operation's effect put in flight. -/
def State.vePut (s : State) (n pc slot lat : Nat) (a : VAct) : State :=
  let e := s.ve n
  s.setVe n { e with pend := pendIns ⟨e.cyc + lat, e.seq, pc, slot, a⟩ e.pend }

/-- The flags of the lanes whose predicate is 1 (R122). -/
def laneFlags (mask : List Bool) (rs : List (Nat × Nat)) : Nat :=
  (mask.zip rs).foldl (fun a (p : Bool × (Nat × Nat)) => if p.1 then a ||| p.2.2 else a) 0

def bits32 (rs : List (Nat × Nat)) : List (BitVec 32) := rs.map (fun (p : Nat × Nat) => BitVec.ofNat 32 p.1)

/-- One draw of every lane generator (R116). -/
def State.veDraw (s : State) (n : Nat) : List (BitVec 32) × State :=
  let d := (s.ve n).gens.map Gen.draw
  (d.map (·.1), s.setVe n { s.ve n with gens := d.map (·.2) })

/-- The line address of a load or store (R107). -/
def State.veLine (s : State) (n ar : Nat) (off : BitVec 8) : Nat := ((s.ve n).areg ar + off.signExtend 32).toNat

/-- The bytes a store writes: none for a lane whose predicate is 0 (R102). -/
def laneBytes (mask : List Bool) (lanes : List (List Byte)) : List (Option Byte) :=
  (mask.zip lanes).flatMap (fun (p : Bool × List Byte) => p.2.map (fun b => if p.1 then some b else none))

/-- Whether an access of `k` lines from a line passes the end of tile memory (R107). -/
def pastEnd (line k : Nat) : Bool := decide (line + k > 196608)

/-- The latency of an operation's class (R105). -/
def VOp.latency : VOp → Nat
  | .fp .recip .. => 12
  | .fp .rsqrt .. => 12
  | .fp .. => 4
  | .cvt .. => 4
  | .wadd .. => 6
  | .f2w .. => 6
  | .w2f .. => 6
  | .rnd .. => 2
  | .rget .. => 2
  | .rput .. => 2
  | .seed .. => 2
  | .tbl .. => 7
  | .tblld .. => 36
  | .ld .. => 9
  | .ldb .. => 9
  | .wld .. => 11
  | .st .. => 6
  | .wst .. => 8
  | _ => 1

/-- An operation issues: it reads its sources, draws, and puts its effects in flight. -/
def State.veOp (s : State) (n pc : Nat) (op : VOp) : State :=
  let e := s.ve n
  let put (a : VAct) (s : State) : State := s.vePut n pc op.slot op.latency a
  let full := BitVec.allOnes 32
  let id := e.seq * 8 + op.slot
  let drawn (on : Bool) : List (Option Nat) × State :=
    if on then
      let d := s.veDraw n
      (d.1.map (fun x => some (drawU x)), d.2)
    else (List.replicate 256 none, s)
  match op with
  | .fp k pred vd a b c =>
    let rs := ((s.vsrc n a).zip ((s.vsrc n b).zip (s.vsrc n c))).map
      (fun (p : BitVec 32 × (BitVec 32 × BitVec 32)) => fpLane k p.1 p.2.1 p.2.2)
    put (.v vd (e.preg pred) full (bits32 rs) (laneFlags (e.preg pred) rs)) s
  | .cvt pred vd a k =>
    let d := drawn k.stoch
    let rs := ((s.vsrc n a).zip d.1).map (fun (p : BitVec 32 × Option Nat) => cvtLane k p.2 p.1)
    put (.v vd (e.preg pred) (convMask k) (bits32 rs) (laneFlags (e.preg pred) rs)) d.2
  | .int k pred d a b =>
    put (.v d (e.preg pred) full (((s.vsrc n a).zip (s.vsrc n b)).map
      (fun (p : BitVec 32 × BitVec 32) => intLane k p.1 p.2)) 0) s
  | .sel pred d a b pk => put (.v d (e.preg pred) full (lanesPut (e.preg pk) (s.vsrc n b) (s.vsrc n a)) 0) s
  | .laneid pred d => put (.v d (e.preg pred) full ((upTo 0 256).map (BitVec.ofNat 32)) 0) s
  | .cmp fp cc pred pd a b =>
    put (.p pd (e.preg pred) (((s.vsrc n a).zip (s.vsrc n b)).map
      (fun (p : BitVec 32 × BitVec 32) => if fp then fcmpLane cc p.1 p.2 else icmpLane cc p.1 p.2))) s
  | .pred k pred pd pa pb =>
    put (.p pd (e.preg pred) (((e.preg pa).zip (e.preg pb)).map (fun (p : Bool × Bool) => predLane k p.1 p.2))) s
  | .wadd pred wd wa wb =>
    let rs := ((e.wreg wa).zip (e.wreg wb)).map (fun (p : Wide × Wide) => wideAdd p.1 p.2)
    put (.w wd (e.preg pred) (rs.map (·.1))
      (laneFlags (e.preg pred) (rs.map (fun (r : Wide × Bool) => (0, 4 * r.2.toNat))))) s
  | .f2w pred wd a =>
    let inf (x : BitVec 32) : Nat :=
      match decodeFloat fp32 x.toNat with
      | .inf _ => 1
      | _ => 0
    put (.w wd (e.preg pred) ((s.vsrc n a).map (fun x => wideOfFp32 x.toNat))
      (laneFlags (e.preg pred) ((s.vsrc n a).map (fun x => (0, inf x))))) s
  | .w2f pred vd wa k =>
    let d := drawn k.stoch
    let rs := ((e.wreg wa).zip d.1).map (fun (p : Wide × Option Nat) => w2fLane k p.2 p.1)
    put (.v vd (e.preg pred) (wconvMask k) (bits32 rs) (laneFlags (e.preg pred) rs)) d.2
  | .rnd pred vd =>
    let d := s.veDraw n
    put (.v vd (e.preg pred) full d.1 0) d.2
  | .rget drain pred vd q => put (.v vd (e.preg pred) full ((s.getGens n drain).map (fun g => g.word q)) 0) s
  | .rput drain pred a q => put (.rput drain q (e.preg pred) (s.vsrc n a)) s
  | .tbl deriv pred vd a slot half =>
    let img := tget [] e.slots slot
    let rs := (s.vsrc n a).map (tblLane img deriv half)
    put (.v vd (e.preg pred) full (bits32 rs) (laneFlags (e.preg pred) rs)) s
  | .tblld slot ak =>
    let line := (e.areg ak).toNat
    (upTo 0 33).foldl (fun s k => s.vePut n pc 2 (2 + k) (.tblRead id line k)) (put (.tblEffect id slot) s)
  | .ld pred vd ar off =>
    let line := s.veLine n ar off
    put (.loadV id vd (e.preg pred)) (s.vePut n pc 3 2 (.loadRead id (line * 128) 1024 (pastEnd line 8)))
  | .ldb pred vd ar off word =>
    let line := s.veLine n ar off
    put (.loadB id vd (e.preg pred)) (s.vePut n pc 3 2 (.loadRead id (line * 128 + 4 * word) 4 (pastEnd line 1)))
  | .wld pred wd ar off =>
    let line := s.veLine n ar off
    put (.loadW id wd (e.preg pred)) ((upTo 0 3).foldl
      (fun s k => s.vePut n pc 3 (2 + k) (.loadRead id ((line + 8 * k) * 128) 1024 (decide (k = 0) && pastEnd line 24))) s)
  | .st pred vs ar off =>
    let line := s.veLine n ar off
    put (.store line (laneBytes (e.preg pred) ((e.vreg vs).map (fun x => leBytes x.toNat 4))) (pastEnd line 8)) s
  | .wst pred ws ar off =>
    let line := s.veLine n ar off
    let bs := laneBytes (e.preg pred) ((e.wreg ws).map (fun g => leBytes g.toNat 12))
    (upTo 0 3).foldl (fun s k => s.vePut n pc 4 (6 + k)
      (.store (line + 8 * k) ((bs.drop (1024 * k)).take 1024) (decide (k = 0) && pastEnd line 24))) s
  | .aadd ad src imm => put (.a ad (e.areg src + imm.signExtend 32)) s
  | .amov ad k => put (.a ad (s.vparam n k)) s
  | .seed drain k j =>
    let sd := (s.vparam n (2 * k)).setWidth 64 ||| ((s.vparam n (2 * k + 1)).setWidth 64 <<< 32)
    let base := (e.areg j).toNat * 256
    put (.seed drain ((upTo 0 256).map (fun l => seedGen sd (BitVec.ofNat 64 (base + l))))) s
  | .loop .. => s
  | .endloop => s
  | .waittok .. => s
  | .sigtok ref k =>
    match tokRef n ref with
    | some t => s.signal n t k
    | none => s

/-! The hazard guard (R187). Register classes: 0 v, 1 w, 2 p, 3 a. -/

def srcRegs : Src → List (Nat × Nat)
  | .v r => [(0, r.val)]
  | .s _ => []

/-- The registers an operation reads. -/
def VOp.srcs : VOp → List (Nat × Nat)
  | .fp k p _ a b c => (2, p) :: srcRegs a ++ (if k = .recip ∨ k = .rsqrt then [] else srcRegs b) ++
      (if k = .fma ∨ k = .bfma then srcRegs c else [])
  | .cvt p _ a _ => (2, p) :: srcRegs a
  | .int k p _ a b => (2, p) :: srcRegs a ++ (if k = .mov then [] else srcRegs b)
  | .sel p _ a b pk => (2, p) :: (2, pk) :: srcRegs a ++ srcRegs b
  | .laneid p _ => [(2, p)]
  | .cmp _ _ p _ a b => (2, p) :: srcRegs a ++ srcRegs b
  | .pred k p _ a b => (2, p) :: (2, a) :: (if k = .not then [] else [(2, b)])
  | .wadd p _ a b => [(2, p), (1, a), (1, b)]
  | .f2w p _ a => (2, p) :: srcRegs a
  | .w2f p _ a _ => [(2, p), (1, a)]
  | .rnd p _ => [(2, p)]
  | .rget _ p _ _ => [(2, p)]
  | .rput _ p a _ => (2, p) :: srcRegs a
  | .tbl _ p _ a _ _ => (2, p) :: srcRegs a
  | .tblld _ k => [(3, k)]
  | .ld p _ r _ => [(2, p), (3, r)]
  | .ldb p _ r _ _ => [(2, p), (3, r)]
  | .wld p _ r _ => [(2, p), (3, r)]
  | .st p v r _ => [(2, p), (0, v), (3, r)]
  | .wst p w r _ => [(2, p), (1, w), (3, r)]
  | .aadd _ r _ => [(3, r)]
  | .seed _ _ j => [(3, j)]
  | _ => []

/-- The register an operation writes; p0 and a0 are written by none. -/
def VOp.dest : VOp → Option (Nat × Nat)
  | .fp _ _ d _ _ _ => some (0, d)
  | .cvt _ d _ _ => some (0, d)
  | .int _ _ d _ _ => some (0, d)
  | .sel _ d _ _ _ => some (0, d)
  | .laneid _ d => some (0, d)
  | .cmp _ _ _ d _ _ => if d = 0 then none else some (2, d)
  | .pred _ _ d _ _ => if d = 0 then none else some (2, d)
  | .wadd _ d _ _ => some (1, d)
  | .f2w _ d _ => some (1, d)
  | .w2f _ d _ _ => some (0, d)
  | .rnd _ d => some (0, d)
  | .rget _ _ d _ => some (0, d)
  | .tbl _ _ d _ _ _ => some (0, d)
  | .ld _ d _ _ => some (0, d)
  | .ldb _ d _ _ _ => some (0, d)
  | .wld _ d _ _ => some (1, d)
  | .aadd d _ _ => if d = 0 then none else some (3, d)
  | .amov d _ => if d = 0 then none else some (3, d)
  | _ => none

/-- The register a result in flight will write. -/
def VAct.dest : VAct → Option (Nat × Nat)
  | .v r .. => some (0, r)
  | .w r .. => some (1, r)
  | .p r .. => if r = 0 then none else some (2, r)
  | .a r _ => if r = 0 then none else some (3, r)
  | .loadV _ r _ => some (0, r)
  | .loadB _ r _ => some (0, r)
  | .loadW _ r _ => some (1, r)
  | _ => none

/-- The bytes a load reads: per group, cycles after issue, first byte and length. -/
def State.loadSpans (s : State) (n : Nat) : VOp → List (Nat × Nat × Nat)
  | .ld _ _ r o => [(2, s.veLine n r o * 128, 1024)]
  | .ldb _ _ r o k => [(2, s.veLine n r o * 128 + 4 * k, 4)]
  | .wld _ _ r o => (upTo 0 3).map (fun k => (2 + k, (s.veLine n r o + 8 * k) * 128, 1024))
  | _ => []

/-- The byte writes of a store: cycles after issue, first byte, bytes. -/
def State.storeSpans (s : State) (n : Nat) : VOp → List (Nat × Nat × List (Option Byte))
  | .st p v r o => [(6, s.veLine n r o * 128, laneBytes ((s.ve n).preg p) (((s.ve n).vreg v).map (fun x => leBytes x.toNat 4)))]
  | .wst p w r o =>
    let bs := laneBytes ((s.ve n).preg p) (((s.ve n).wreg w).map (fun g => leBytes g.toNat 12))
    (upTo 0 3).map (fun k => (6 + k, (s.veLine n r o + 8 * k) * 128, (bs.drop (1024 * k)).take 1024))
  | _ => []

/-- Whether a read of a span meets a written byte of a store. -/
def spanHits (lo len at_ : Nat) (bs : List (Option Byte)) : Bool :=
  (mapFrom at_ (fun a (b : Option Byte) => b.isSome && decide (lo ≤ a) && decide (a < lo + len)) bs).any id

/-- The conditions of the table of R187 that an operation meets: kind, register class, register, producing bundle. -/
def State.guardHits (s : State) (n pc : Nat) (ops : List VOp) (k : Nat) (op : VOp) : List (Nat × Nat × Nat × Nat) :=
  let e := s.ve n
  let hit (c r p : Nat) : Nat × Nat × Nat × Nat := (k, c, r, p)
  match k with
  | 1 => op.srcs.flatMap (fun (r : Nat × Nat) =>
      (e.pend.filter (fun p => p.act.dest == some r)).map (fun p => hit r.1 r.2 p.pc))
  | 2 =>
    match op.dest with
    | none => []
    | some r =>
      (e.pend.filter (fun p => p.act.dest == some r && decide (p.due = e.cyc + op.latency))).map (fun p => hit r.1 r.2 p.pc) ++
      (ops.filter (fun o => decide (o.slot < op.slot) && o.dest == some r && decide (o.latency = op.latency))).map
        (fun _ => hit r.1 r.2 pc)
  | 3 =>
    match op.dest with
    | none => []
    | some r => (e.pend.filter (fun p => p.act.dest == some r && decide (p.due > e.cyc + op.latency))).map
        (fun p => hit r.1 r.2 p.pc)
  | 4 => (s.loadSpans n op).flatMap (fun (l : Nat × Nat × Nat) =>
      e.pend.filterMap (fun p =>
        match p.act with
        | .store line bs _ =>
          if p.due > e.cyc + l.1 ∧ spanHits l.2.1 l.2.2 (line * 128) bs then some (hit 5 (l.2.1 / 128 % 64) p.pc) else none
        | _ => none) ++
      ops.flatMap (fun o => (s.storeSpans n o).filterMap (fun (w : Nat × Nat × List (Option Byte)) =>
        if w.1 > l.1 ∧ spanHits l.2.1 l.2.2 w.2.1 w.2.2 then some (hit 5 (l.2.1 / 128 % 64) pc) else none)))
  | 5 =>
    match op with
    | .tbl _ _ _ _ slot _ => e.pend.filterMap (fun p =>
        match p.act with
        | .tblEffect id t => if t = slot ∧ !e.dead.contains id then some (hit 6 slot p.pc) else none
        | _ => none)
    | _ => []
  | _ =>
    let uses (drain : Bool) : Bool :=
      match op with
      | .rnd .. => !drain
      | .cvt _ _ _ c => c.stoch && !drain
      | .w2f _ _ _ c => c.stoch && !drain
      | .rget d .. => d == drain
      | _ => false
    e.pend.filterMap (fun p =>
      match p.act with
      | .rput d q _ _ => if uses d then some (hit 4 q p.pc) else none
      | .seed d _ => if uses d then some (hit 4 0 p.pc) else none
      | _ => none)

/-- The first condition met, in the order of the table and then of the slots: its slot and the condition. -/
def State.guardFind (s : State) (n pc : Nat) (ops : List VOp) : Option (Nat × Nat × Nat × Nat × Nat) :=
  ((upTo 1 6).flatMap (fun k => ops.flatMap (fun op =>
    (s.guardHits n pc ops k op).map (fun (h : Nat × Nat × Nat × Nat) => (op.slot, h))))).head?

/-! Bundles. -/

/-- The count a LOOP samples (R182). -/
def State.loopCount (s : State) (n : Nat) (reg : Bool) (count creg : Nat) : Nat :=
  if reg then s.fld (loopCntReg true n creg) F.OPE_LOOPCNT_count else count

/-- Faults found at issue, hazard guard apart: cause and slot (R106, R168, R184). -/
def State.opFault (s : State) (n pc : Nat) (op : VOp) : Option (Nat × Nat) :=
  match op with
  | .cvt _ _ _ k => if convOk k then none else some (0x01, 0)
  | .loop reg count creg off =>
    if pc + off ≥ s.pcEnd true n ∨ (s.loopCount n reg count creg ≠ 0 ∧ s.loopDepth true n ≥ 4) then some (0x01, 5) else none
  | .endloop =>
    let d := s.loopDepth true n
    if d = 0 ∨ s.fld (loopEndReg true n (d - 1)) F.OPE_LOOP_END_end_pc ≠ pc then some (0x01, 5) else none
  | op =>
    if op.slot = 3 ∧ (s.ve n).wld ≠ 0 then some (0x03, 3)
    else if op.slot = 4 ∧ (s.ve n).wst ≠ 0 then some (0x03, 4)
    else none

/-- Whether an operation works on the drain-path generators (R119). -/
def VOp.drainGen : VOp → Bool
  | .rget d .. => d
  | .rput d .. => d
  | .seed d .. => d
  | _ => false

/-- A drain, a save or a restore is running (R119). -/
def Ope.converting (o : Ope) : Bool :=
  o.drain.isSome || !o.fin.isEmpty || o.saving.isSome || o.resume.isSome || o.replay.isSome

/-- Stores of earlier bundles not yet written, or written in this cycle (R108). -/
def Ve.storing (e : Ve) : Bool := decide (e.cyc < e.stored) || e.pend.any (fun p =>
  match p.act with
  | .store .. => true
  | _ => false)

/-- An access of tile memory whose cycle has come. -/
def Ve.accessing (e : Ve) : Bool := e.pend.any (fun p => decide (p.due ≤ e.cyc) && decide (p.act.rank ≤ 1))

/-- The wait of a WAITTOK, if the bundle holds one: the state, and whether the bundle can issue (R171). -/
def State.veWait (s : State) (n : Nat) (ops : List VOp) : State × Bool :=
  match ops.filterMap (fun op =>
    match op with
    | .waittok ref k => (tokRef n ref).map (fun t => (t, k))
    | _ => none) with
  | [] => (s, true)
  | (t, k) :: _ =>
    let r := s.tokWait n 3 t k
    if r.2 then r else (r.1.stall .ve n (s.waitCode n t), false)

/-- One core cycle in which a bundle issued: the guard's two stall cycles follow it (R187). -/
def State.veStep (s : State) (n : Nat) (ops : List VOp) : State :=
  let e := s.ve n
  let wide (slot : Nat) : Bool := ops.any (fun op => decide (op.slot = slot) && (decide (op.latency = 11) || decide (op.latency = 8)))
  let s := s.putVe n { e with
    cyc := e.cyc + 1, seq := e.seq + 1
    wld := if wide 3 then 2 else e.wld - 1
    wst := if wide 4 then 2 else e.wst - 1 }
  let s := s.stall .ve n 0
  if e.guard then (s.stall .ve n 8).stall .ve n 8 else s

/-- The bundle period of a rising LOADSTEP ramp holds the engine back (R385). -/
def State.rampHeld (s : State) (h : Hold) : Bool := decide (h = .ramp) && decide (s.fld (reg0 .PWR_STATUS 0) F.PWR_STATUS_loadstep = 1)

/-- A cycle in which the pipeline is frozen because an access lost a bank conflict: the code is that of the bundle's own wait where
it has one, else 4 (R104, R114, R157). -/
def State.veFrozen (s : State) (n : Nat) (ops : List VOp) : State :=
  if ops.any VOp.drainGen && (s.ope n).converting then s.stall .ve n 5 else
  let w := s.veWait n ops
  if w.2 then s.stall .ve n 4 else w.1

/-- A bundle tries to issue at its address: faults first, then the waits, then the ramp's bundle period, then its operations in slot
order. The flag says that it issued. -/
def State.veIssue (s : State) (n pc : Nat) (ops : List VOp) (exempt : Bool) (h : Hold) : State × Bool :=
  match ops.filterMap (s.opFault n pc) with
  | f :: _ => (s.veFault n f.1 f.2 pc, false)
  | [] =>
    match (if (s.ve n).guard && !exempt then s.guardFind n pc ops else none) with
    | some (slot, kind, c, r, p) =>
      let v := fset (fset (fset (fset 0 F.VE_GUARD_kind kind) F.VE_GUARD_reg_class c) F.VE_GUARD_reg_index r)
        F.VE_GUARD_producer_pc p
      ((s.wr (reg0 .VE_GUARD n) v).veFault n 0x08 slot pc, false)
    | none =>
      if ops.any VOp.drainGen && (s.ope n).converting then (s.stall .ve n 5, false)
      else if ops.any (fun op => match op with | .sigtok .. => true | _ => false) && (s.ve n).storing then
        ((s.setVe n { s.ve n with cyc := (s.ve n).cyc + 1 }).stall .ve n 0, false)
      else
        let w := s.veWait n ops
        if !w.2 then w
        else if s.rampHeld h then (s.stall .ve n 6, false)
        else ((ops.foldl (fun s op => s.veOp n pc op) w.1).veStep n ops, true)

/-- The stream after its head bundle issued: loop levels, the next bundle, the end (R163, R182). -/
def State.veNext (s : State) (n : Nat) (q : QEnt) (ops : List VOp) : State :=
  let next := q.pc + q.bytes.length
  let st := (s.ve n).st.pop
  let control := ops.filter (fun op => decide (op.slot = 5))
  let r : State × Stream :=
    match control with
    | [.loop reg count creg off] =>
      let c := s.loopCount n reg count creg
      let s' := if c = 0 then s else s.pushLoop true n c next (q.pc + off)
      (s', if reg then st.resume next (s'.archLoops true n) (if c = 0 then some (q.pc + off) else none) else st)
    | [.endloop] =>
      let d := s.loopDepth true n
      let left := s.fld (loopReg true n (d - 1)) F.OPE_LOOP_remaining - 1
      let s' := s.setF (loopReg true n (d - 1)) F.OPE_LOOP_remaining left
      (if left = 0 then s'.setF (loopReg true n (d - 1)) F.OPE_LOOP_active 0 else s', st)
    | _ => (s, st)
  let s := (r.1.putVe n { r.1.ve n with st := r.2 }).setPc true n r.2.nextPc
  if r.2.nextPc ≥ s.pcEnd true n ∧ s.engSt true n = 1 then s.setEngSt true n 0 else s

/-- The engine can issue. -/
def State.veReady (s : State) (n : Nat) : Bool := s.alive n && decide (s.engSt true n = 1)

/-- The head bundle issues, if its operations are the ones asked for. -/
def State.veBundle (s : State) (n : Nat) (want : List VOp → Bool) (h : Hold) : State :=
  if !s.veReady n then s else
  if decide (h = .bank) && (s.ve n).accessing then
    match (s.ve n).st.q with
    | [] => s.stall .ve n 4
    | q :: _ =>
      match decBundle n q.bytes with
      | .error _ => s.stall .ve n 4
      | .ok b => s.veFrozen n b.ops
  else
  let s := (s.veDue n).syncVe n
  if !s.veReady n then s else
  match (s.ve n).st.q with
  | [] => if s.pc true n < s.pcEnd true n then s.stall .ve n 3 else s
  | q :: _ =>
    if q.fault ≠ 0 then (if want [] then s.veFault n q.fault (if q.fault = 0x20 then 0 else 5) q.pc else s) else
    match decBundle n q.bytes with
    | .error slot => if want [] then s.veFault n 0x01 slot q.pc else s
    | .ok b =>
      if !want b.ops then s else
      let r := s.veIssue n q.pc b.ops b.exempt h
      if r.2 then r.1.veNext n q b.ops else r.1

/-- One operation issues as a bundle of its own while the engine runs (log 4). -/
def State.veSingle (s : State) (n : Nat) (op : VOp) : State :=
  if !s.veReady n then s else
  let s := (s.veDue n).syncVe n
  if !s.veReady n then s else (s.veIssue n (s.pc true n) [op] false .none).1

/-! The commands. -/

/-- VE_BUNDLE_ISSUE (R103, R104, R166). -/
def execVeBundleIssue (n : CoreId) (h : Hold) (s : State) : Host.Outcome State Fault Refusal :=
  .next (s.veBundle n (fun _ => true) h)

/-- The next operation in flight of one kind, with everything before it, takes effect: when its cycle has come, or when
the engine has stopped for good and what is in flight completes (R121, R163). An access that loses a bank conflict stalls the
pipeline for one core cycle instead (R104, R114). -/
def State.veAdvance (s : State) (n : Nat) (kind : VAct → Bool) (e : Ecc) (h : Hold) : State :=
  let v := s.ve n
  match v.pend.find? (fun p => kind p.act) with
  | none => s
  | some p =>
    if !s.alive n || !(decide (p.due ≤ v.cyc) || decide (s.engSt true n = 0) || decide (s.engSt true n = 3)) then s else
    if decide (h = .bank) && decide (p.act.rank ≤ 1) then s.stall .ve n 4 else
    let k := (v.pend.takeWhile (fun x => !kind x.act)).length
    let s := s.setVe n { v with cyc := max v.cyc p.due }
    ((State.veFireDue n k s).veFire n e).syncVe n

/-- VE_RESULT_WRITEBACK: the next result lands (R103, R105). -/
def execVeResultWriteback (n : CoreId) (e : Ecc) (h : Hold) (s : State) : Host.Outcome State Fault Refusal :=
  .next (s.veAdvance n (fun a => match a with
    | .loadRead .. => false
    | .tblRead .. => false
    | .tblEffect .. => false
    | _ => true) e h)

def execFadd (n : CoreId) (pred : Fin 8) (vd : Fin 64) (va vb : Src) (s : State) : Host.Outcome State Fault Refusal :=
  .next (s.veSingle n (.fp .add pred.val vd.val va vb vb))
def execFsub (n : CoreId) (pred : Fin 8) (vd : Fin 64) (va vb : Src) (s : State) : Host.Outcome State Fault Refusal :=
  .next (s.veSingle n (.fp .sub pred.val vd.val va vb vb))
def execFmul (n : CoreId) (pred : Fin 8) (vd : Fin 64) (va vb : Src) (s : State) : Host.Outcome State Fault Refusal :=
  .next (s.veSingle n (.fp .mul pred.val vd.val va vb vb))
def execFfma (n : CoreId) (pred : Fin 8) (vd : Fin 64) (va vb vc : Src) (s : State) : Host.Outcome State Fault Refusal :=
  .next (s.veSingle n (.fp .fma pred.val vd.val va vb vc))
def execFmin (n : CoreId) (pred : Fin 8) (vd : Fin 64) (va vb : Src) (s : State) : Host.Outcome State Fault Refusal :=
  .next (s.veSingle n (.fp .min pred.val vd.val va vb vb))
def execFmax (n : CoreId) (pred : Fin 8) (vd : Fin 64) (va vb : Src) (s : State) : Host.Outcome State Fault Refusal :=
  .next (s.veSingle n (.fp .max pred.val vd.val va vb vb))
def execBadd (n : CoreId) (pred : Fin 8) (vd : Fin 64) (va vb : Src) (s : State) : Host.Outcome State Fault Refusal :=
  .next (s.veSingle n (.fp .badd pred.val vd.val va vb vb))
def execBmul (n : CoreId) (pred : Fin 8) (vd : Fin 64) (va vb : Src) (s : State) : Host.Outcome State Fault Refusal :=
  .next (s.veSingle n (.fp .bmul pred.val vd.val va vb vb))
def execBfma (n : CoreId) (pred : Fin 8) (vd : Fin 64) (va vb vc : Src) (s : State) : Host.Outcome State Fault Refusal :=
  .next (s.veSingle n (.fp .bfma pred.val vd.val va vb vc))
def execRecip (n : CoreId) (pred : Fin 8) (vd : Fin 64) (va : Src) (s : State) : Host.Outcome State Fault Refusal :=
  .next (s.veSingle n (.fp .recip pred.val vd.val va va va))
def execRsqrt (n : CoreId) (pred : Fin 8) (vd : Fin 64) (va : Src) (s : State) : Host.Outcome State Fault Refusal :=
  .next (s.veSingle n (.fp .rsqrt pred.val vd.val va va va))
def execCvt (n : CoreId) (pred : Fin 8) (vd : Fin 64) (va : Src) (k : Conv) (s : State) : Host.Outcome State Fault Refusal :=
  .next (s.veSingle n (.cvt pred.val vd.val va k))
def execIadd (n : CoreId) (pred : Fin 8) (d : Fin 64) (a b : Src) (s : State) : Host.Outcome State Fault Refusal :=
  .next (s.veSingle n (.int .add pred.val d.val a b))
def execIsub (n : CoreId) (pred : Fin 8) (d : Fin 64) (a b : Src) (s : State) : Host.Outcome State Fault Refusal :=
  .next (s.veSingle n (.int .sub pred.val d.val a b))
def execImul (n : CoreId) (pred : Fin 8) (d : Fin 64) (a b : Src) (s : State) : Host.Outcome State Fault Refusal :=
  .next (s.veSingle n (.int .mul pred.val d.val a b))
def execAndOp (n : CoreId) (pred : Fin 8) (d : Fin 64) (a b : Src) (s : State) : Host.Outcome State Fault Refusal :=
  .next (s.veSingle n (.int .and pred.val d.val a b))
def execOrOp (n : CoreId) (pred : Fin 8) (d : Fin 64) (a b : Src) (s : State) : Host.Outcome State Fault Refusal :=
  .next (s.veSingle n (.int .or pred.val d.val a b))
def execXorOp (n : CoreId) (pred : Fin 8) (d : Fin 64) (a b : Src) (s : State) : Host.Outcome State Fault Refusal :=
  .next (s.veSingle n (.int .xor pred.val d.val a b))
def execShl (n : CoreId) (pred : Fin 8) (d : Fin 64) (a b : Src) (s : State) : Host.Outcome State Fault Refusal :=
  .next (s.veSingle n (.int .shl pred.val d.val a b))
def execShr (n : CoreId) (pred : Fin 8) (d : Fin 64) (a b : Src) (s : State) : Host.Outcome State Fault Refusal :=
  .next (s.veSingle n (.int .shr pred.val d.val a b))
def execSar (n : CoreId) (pred : Fin 8) (d : Fin 64) (a b : Src) (s : State) : Host.Outcome State Fault Refusal :=
  .next (s.veSingle n (.int .sar pred.val d.val a b))
def execMov (n : CoreId) (pred : Fin 8) (d : Fin 64) (a : Src) (s : State) : Host.Outcome State Fault Refusal :=
  .next (s.veSingle n (.int .mov pred.val d.val a a))
def execSel (n : CoreId) (pred : Fin 8) (d : Fin 64) (a b : Src) (pk : Fin 8) (s : State) : Host.Outcome State Fault Refusal :=
  .next (s.veSingle n (.sel pred.val d.val a b pk.val))
def execLaneid (n : CoreId) (pred : Fin 8) (d : Fin 64) (s : State) : Host.Outcome State Fault Refusal :=
  .next (s.veSingle n (.laneid pred.val d.val))
def execFcmp (n : CoreId) (pred pd : Fin 8) (a b : Src) (cc : Cond) (s : State) : Host.Outcome State Fault Refusal :=
  .next (s.veSingle n (.cmp true cc pred.val pd.val a b))
def execIcmp (n : CoreId) (pred pd : Fin 8) (a b : Src) (cc : Cond) (s : State) : Host.Outcome State Fault Refusal :=
  .next (s.veSingle n (.cmp false cc pred.val pd.val a b))
def execPand (n : CoreId) (pred pd pa pb : Fin 8) (s : State) : Host.Outcome State Fault Refusal :=
  .next (s.veSingle n (.pred .and pred.val pd.val pa.val pb.val))
def execPor (n : CoreId) (pred pd pa pb : Fin 8) (s : State) : Host.Outcome State Fault Refusal :=
  .next (s.veSingle n (.pred .or pred.val pd.val pa.val pb.val))
def execPnot (n : CoreId) (pred pd pa : Fin 8) (s : State) : Host.Outcome State Fault Refusal :=
  .next (s.veSingle n (.pred .not pred.val pd.val pa.val pa.val))
def execWadd (n : CoreId) (pred wd wa wb : Fin 8) (s : State) : Host.Outcome State Fault Refusal :=
  .next (s.veSingle n (.wadd pred.val wd.val wa.val wb.val))
def execF2w (n : CoreId) (pred wd : Fin 8) (a : Src) (s : State) : Host.Outcome State Fault Refusal :=
  .next (s.veSingle n (.f2w pred.val wd.val a))
def execW2f (n : CoreId) (pred : Fin 8) (vd : Fin 64) (wa : Fin 8) (k : WConv) (s : State) :
    Host.Outcome State Fault Refusal := .next (s.veSingle n (.w2f pred.val vd.val wa.val k))
def execRnd (n : CoreId) (pred : Fin 8) (vd : Fin 64) (s : State) : Host.Outcome State Fault Refusal :=
  .next (s.veSingle n (.rnd pred.val vd.val))
def execRget (n : CoreId) (pred : Fin 8) (vd : Fin 64) (q : Fin 4) (s : State) : Host.Outcome State Fault Refusal :=
  .next (s.veSingle n (.rget false pred.val vd.val q.val))
def execRput (n : CoreId) (pred : Fin 8) (a : Src) (q : Fin 4) (s : State) : Host.Outcome State Fault Refusal :=
  .next (s.veSingle n (.rput false pred.val a q.val))
def execDrget (n : CoreId) (pred : Fin 8) (vd : Fin 64) (q : Fin 4) (s : State) : Host.Outcome State Fault Refusal :=
  .next (s.veSingle n (.rget true pred.val vd.val q.val))
def execDrput (n : CoreId) (pred : Fin 8) (a : Src) (q : Fin 4) (s : State) : Host.Outcome State Fault Refusal :=
  .next (s.veSingle n (.rput true pred.val a q.val))
def execTf (n : CoreId) (pred : Fin 8) (vd : Fin 64) (va : Src) (slot : Fin 16) (bf16 : Bool) (s : State) :
    Host.Outcome State Fault Refusal := .next (s.veSingle n (.tbl false pred.val vd.val va slot.val bf16))
def execTd (n : CoreId) (pred : Fin 8) (vd : Fin 64) (va : Src) (slot : Fin 16) (bf16 : Bool) (s : State) :
    Host.Outcome State Fault Refusal := .next (s.veSingle n (.tbl true pred.val vd.val va slot.val bf16))
def execTblld (n : CoreId) (slot ak : Fin 16) (s : State) : Host.Outcome State Fault Refusal :=
  .next (s.veSingle n (.tblld slot.val ak.val))

/-- TBLLD_READ: the next read of a table image (R114). -/
def execTblldRead (n : CoreId) (e : Ecc) (h : Hold) (s : State) : Host.Outcome State Fault Refusal :=
  .next (s.veAdvance n (fun a => match a with | .tblRead .. => true | _ => false) e h)

/-- TBLLD_TAKE_EFFECT: the next image takes effect (R114). -/
def execTblldTakeEffect (n : CoreId) (s : State) : Host.Outcome State Fault Refusal :=
  .next (s.veAdvance n (fun a => match a with | .tblEffect .. => true | _ => false) .ok .none)

def execLd (n : CoreId) (pred : Fin 8) (vd : Fin 64) (areg : Fin 16) (off : BitVec 8) (s : State) :
    Host.Outcome State Fault Refusal := .next (s.veSingle n (.ld pred.val vd.val areg.val off))
def execLdb (n : CoreId) (pred : Fin 8) (vd : Fin 64) (areg : Fin 16) (off : BitVec 8) (word : Fin 32) (s : State) :
    Host.Outcome State Fault Refusal := .next (s.veSingle n (.ldb pred.val vd.val areg.val off word.val))
def execWld (n : CoreId) (pred wd : Fin 8) (areg : Fin 16) (off : BitVec 8) (s : State) :
    Host.Outcome State Fault Refusal := .next (s.veSingle n (.wld pred.val wd.val areg.val off))
def execSt (n : CoreId) (pred : Fin 8) (vs : Fin 64) (areg : Fin 16) (off : BitVec 8) (s : State) :
    Host.Outcome State Fault Refusal := .next (s.veSingle n (.st pred.val vs.val areg.val off))
def execWst (n : CoreId) (pred ws : Fin 8) (areg : Fin 16) (off : BitVec 8) (s : State) :
    Host.Outcome State Fault Refusal := .next (s.veSingle n (.wst pred.val ws.val areg.val off))

/-- VE_LOAD_READ: the next read of a load, finding what the cells hold (R106, R107). -/
def execVeLoadRead (n : CoreId) (e : Ecc) (h : Hold) (s : State) : Host.Outcome State Fault Refusal :=
  .next (s.veAdvance n (fun a => match a with | .loadRead .. => true | _ => false) e h)

def execAadd (n : CoreId) (ad src : Fin 16) (imm : BitVec 19) (s : State) : Host.Outcome State Fault Refusal :=
  .next (s.veSingle n (.aadd ad.val src.val imm))
def execAmov (n : CoreId) (ad k : Fin 16) (s : State) : Host.Outcome State Fault Refusal :=
  .next (s.veSingle n (.amov ad.val k.val))
def execSeed (n : CoreId) (drain : Bool) (k : Fin 8) (j : Fin 16) (s : State) : Host.Outcome State Fault Refusal :=
  .next (s.veSingle n (.seed drain k.val j.val))

/-- The head bundle holds a LOOP, an ENDLOOP, a WAITTOK or a SIGTOK (R171, R182). -/
def execVeLoop (n : CoreId) (s : State) : Host.Outcome State Fault Refusal :=
  .next (s.veBundle n (fun ops => ops.any (fun op => match op with | .loop .. => true | _ => false)) .none)
def execVeEndloop (n : CoreId) (s : State) : Host.Outcome State Fault Refusal :=
  .next (s.veBundle n (fun ops => ops.any (fun op => decide (op = .endloop))) .none)
def execVeWaittok (n : CoreId) (s : State) : Host.Outcome State Fault Refusal :=
  .next (s.veBundle n (fun ops => ops.any (fun op => match op with | .waittok .. => true | _ => false)) .none)
def execVeSigtok (n : CoreId) (s : State) : Host.Outcome State Fault Refusal :=
  .next (s.veBundle n (fun ops => ops.any (fun op => match op with | .sigtok .. => true | _ => false)) .none)

/-- VE_FAULT_CLEAR: FAULTED becomes IDLE and the queue is discarded; the loop levels stay (R122, R163). -/
def State.veFaultClear (s : State) (n : Nat) : State :=
  if s.engSt true n ≠ 3 then s else
  ((s.putVe n { s.ve n with st := .at (s.pc true n) [], wld := 0, wst := 0 })).setEngSt true n 0
def execVeFaultClear (n : CoreId) (s : State) : Host.Outcome State Fault Refusal := .next (s.veFaultClear n)

/-- VE_RUN: an IDLE engine starts at VE_PC, a halted one continues; a program counter at the end leaves it IDLE (R163). -/
def State.veRun (s : State) (n : Nat) : State :=
  if !s.alive n then s else
  let e := s.ve n
  let g := decide (s.fld (reg0 .VE_STREAM n) F.VE_STREAM_guard = 1)
  if s.engSt true n = 0 then
    if s.pc true n ≥ s.pcEnd true n then s else
    (s.putVe n { e with st := .at (s.pc true n) (s.archLoops true n), guard := g, halted := false }).setEngSt true n 1
  else if s.engSt true n = 2 ∧ e.halted then
    let s := s.putVe n { e with halted := false, guard := g }
    if e.sliced then s else s.setEngSt true n 1
  else s
def execVeRun (n : CoreId) (s : State) : Host.Outcome State Fault Refusal := .next (s.veRun n)

/-- VE_HALT: issue stops at the bundle boundary, which every command reaches (R163). -/
def State.veHalt (s : State) (n : Nat) : State :=
  if s.engSt true n = 1 ∨ s.engSt true n = 2 then
    (s.putVe n { s.ve n with halted := true }).setEngSt true n 2
  else s
def execVeHalt (n : CoreId) (s : State) : Host.Outcome State Fault Refusal := .next (s.veHalt n)

/-- CODE_FETCH: the next code line of the outer-product or the vector engine is served, when the queue has room for every
instruction that begins in it (R162, R164). -/
def execCodeFetch (n : CoreId) (vector : Bool) (e : Ecc) (s : State) : Host.Outcome State Fault Refusal :=
  .next (
    let st := if vector then (s.ve n).st else (s.ope n).st
    let fin := s.pcEnd vector n
    if !s.alive n || decide (s.engSt vector n ≠ 1) || st.stop || decide ((if vector then st.bpc else st.fpc) ≥ fin) then s else
    let len := 128 - st.fpc % 128
    let ok := st.fetchLine vector false fin (s.tmRead n st.fpc len)
    if ok.q.length > (if vector then 512 else 256) then s else
    let c := s.tmCheck n (st.fpc / 128 * 128) 128 e
    let s := if st.fpc ≥ slotSize then c.1.decodeErr n (slotBase n + st.fpc) else c.1
    let st' := if c.2 then st.fetchLine vector true fin [] else ok
    let s := if vector then s.putVe n { s.ve n with st := st' } else s.putOpe n { s.ope n with st := st' }
    let s := s.setPc vector n st'.nextPc
    if st'.q.isEmpty && decide (st'.nextPc ≥ fin) then s.setEngSt vector n 0 else s)

end Sys2Proof.Machine
end

