-- ==== Sys2Proof/Machine/Stacked.lean ====
section
/-! DEFINITION. Stacked memory: interleave, protection, cache, arbitration, sparing (R199 to R216), and the window slots
that protection touches (R205, R222, R223). -/

namespace Sys2Proof.Machine

/-! Interleave (R200). -/

/-- The 10-bit fold of a group number. -/
def groupFold (g : Nat) : Nat := g % 1024 ^^^ g / 1024

/-- The logical pseudo-channel of chunk `j` of page `p` (R200). -/
def chunkChannel (p j : Nat) : Nat :=
  let x := groupFold (p / 8)
  8 * ((j + x / 8) % 128) + (p ^^^ x) % 8

/-- The first address of the chunk at position `g` of a channel: the inverse of R200. -/
def chunkAddr (c g : Nat) : Nat :=
  let x := groupFold g
  let p := 8 * g + (c % 8 ^^^ x % 8)
  p * 0x40000 + ((c / 8 + 128 - x / 8 % 128) % 128) * 2048

/-- The channel of an address of stacked memory. -/
def chanOf (a : Nat) : Nat := chunkChannel (a / 0x40000) (a / 2048 % 128)
/-- The memory-group island and the class-1 source of a channel's stack. -/
def chanIsland (c : Nat) : Nat := 90 + c / 64

def State.chan (s : State) (c : Nat) : HChan := tget .reset s.hbm.chans c
def State.setChan (s : State) (c : Nat) (h : HChan) : State := { s with hbm := { s.hbm with chans := tput c h s.hbm.chans } }
def chReg (c : Nat) : Reg := reg1 .HBM_CH_STATE 0 c
/-- The state of a channel (R214). -/
def State.chSt (s : State) (c : Nat) : Nat := s.fld (chReg c) F.HBM_CH_STATE_state
def State.copyPtr (s : State) (c : Nat) : Nat := s.fld (chReg c) F.HBM_CH_STATE_copy_ptr

/-- A channel changes state: event and source 528 (R214, R365). -/
def State.setChSt (s : State) (c x : Nat) : State :=
  let old := s.chSt c
  if old = x then s else
  let listed := s.firm.retired.filter (fun r => decide (r.chan ≠ c))
  let s := if x = 3 then { s with firm := { s.firm with retired := listed ++ s.hbm.retires.filter (fun r => decide (r.chan = c)) } }
    else if x = 0 then { s with firm := { s.firm with retired := listed } } else s
  ((s.setF (chReg c) F.HBM_CH_STATE_state x).edge 528).event (chanIsland c) 0x0103
    [(c, 2), (old, 1), (x, 1), (s.fld (chReg c) F.HBM_CH_STATE_slot, 1)]

/-! Protection (R202 to R205). -/

/-- The class of a page, true for DETECT, and its micro-batch tag; an address of the reserve names a position that holds no
chunk, which is CORRECT (R204). -/
def State.pageClass (s : State) (p : Nat) : Bool × Nat :=
  if 5160960 ≤ p then (false, 0) else
  let hit (n : Nat) : Bool :=
    let v := s.rd (reg1 .HBM_PMAP 0 n)
    let b := fget v F.HBM_PMAP_base_page
    decide (b ≤ p) && decide (p < b + fget v F.HBM_PMAP_count)
  match (upTo 0 4096).find? hit with
  | some n =>
    let v := s.rd (reg1 .HBM_PMAP 0 n)
    (decide (fget v F.HBM_PMAP_class = 1), fget v F.HBM_PMAP_mb_tag)
  | none => (false, 0)

/-- A group of 8 pages that the host released reads zero and discards writes (R216). -/
def State.released (s : State) (a : Nat) : Bool := s.hbm.released.contains (a / 0x200000)

/-- A loss took the chunk of a burst, which has not been written whole since (R215). -/
def ChanLoss.takes (l : ChanLoss) (a : Nat) : Bool :=
  decide (l.first ≤ a / 0x200000) && decide (a / 0x200000 < 645120) && !l.keep.contains (a / 0x200000) &&
    !l.healed.contains (a / 64 * 64)

/-- A burst is in poison form: it was written so, its channel is LOST, or a failed source lost its chunk (R203, R215). -/
def State.burstPoison (s : State) (a : Nat) : Bool :=
  let c := chanOf a
  s.poison.contains (a / 64 * 64) || decide (s.chSt c = 7) || (s.chan c).lost.any (·.takes a)

/-! Where a chunk lies (R212 to R216). -/

/-- Numbers in ascending order. -/
def ascending (xs : List Nat) : List Nat :=
  let ins (x : Nat) : List Nat → List Nat := fun ys => ys.filter (· < x) ++ [x] ++ ys.filter (x < ·)
  xs.foldl (fun ys x => ins x ys) []

/-- Where an extended retirement keeps the chunk of a count: its holder, and the position that a released group gives. -/
def Retire.extPlace (r : Retire) (o : Nat) : Nat × Nat :=
  let h := max 1 r.holders.length
  ((r.holders.drop (o % h)).headD 0, (r.groups.drop (o / h)).headD 0)

/-- Where a retirement keeps chunk `o` of its channel: at its holder, or with the chunks of a holder that was retired into
released groups, where those it held follow its own (R212, R216). -/
def State.spareOf (s : State) (r : Retire) (o : Nat) : Nat × Nat :=
  if 16 ≤ r.slot then r.extPlace o else
  let x := (r.holders.drop (o % 1008)).headD 0
  if x < 1024 then (x, 645120 + 640 * r.slot + o / 1008) else
  match s.hbm.retires.find? (fun e => decide (e.chan = x - 1024)) with
  | some e =>
    let k := ((s.hbm.retires.filter (fun q => q.holders.contains x)).filter (fun q => decide (q.slot < r.slot))).length
    e.extPlace (645120 + 640 * k + o / 1008)
  | none => (x - 1024, 645120 + 640 * r.slot + o / 1008)

/-- The channel and position that a read of an address goes to (R212, R214). -/
def State.placeOf (s : State) (a : Nat) : Nat × Nat :=
  let c := chanOf a
  let o := a / 0x200000
  let st := s.chSt c
  let out := decide (st = 3) || decide (st = 4) || (decide (st = 2) && decide (o < s.copyPtr c)) ||
    (decide (st = 5) && decide (s.copyPtr c ≤ o))
  if !out || decide (645120 ≤ o) then (c, o) else
  match s.hbm.retires.find? (fun r => decide (r.chan = c)) with
  | some r => s.spareOf r o
  | none => (c, o)

/-- Request slots of a pseudo-channel that go to a class; 3 for an access whose slot its own command has counted (R210). -/
def State.slotTaken (s : State) (c cls n : Nat) : State :=
  if 3 ≤ cls then s else
  let h := s.chan c
  s.setChan c { h with hist := (List.replicate n cls ++ h.hist).take 64 }

/-- Every burst of a chunk in poison form (R205). -/
def State.failChunk (s : State) (a : Nat) : State :=
  let b := a / 2048 * 2048
  { s with poison := s.poison ++ ((upTo 0 32).map (fun k => b + 64 * k)).filter (fun x => !s.poison.contains x) }

/-- The memory-error event of a page (R205), counted where its chunk lies, and the source of that controller group (R365). -/
def State.memErr (s : State) (a : Nat) (poisoned : Bool) : State :=
  let c := (s.placeOf a).1
  let p := a / 0x40000
  let k := s.pageClass p
  ((s.bumpF (chReg c) F.HBM_CH_STATE_uncorrectable).edge (512 + c / 64)).event (chanIsland c) 0x0100
    [(p, 4), (k.1.toNat, 1), (c, 2), (if k.1 then k.2 else 0, 2), (poisoned.toNat, 1)]

/-! Retirement and repair (R212 to R216). -/

def Retire.isLive (s : State) (c : Nat) : Bool := decide (s.chSt c ≠ 3) && decide (s.chSt c ≠ 7)

/-- The reserve slots in use (R212). -/
def State.slotsUsed (s : State) : List Nat := (s.hbm.retires.filter (fun r => decide (r.slot < 16))).map (·.slot)

/-- The earlier retirements for which a channel holds chunks (R213). -/
def State.heldFor (s : State) (c : Nat) : List Retire := s.hbm.retires.filter (fun r => r.chan != c && r.holders.contains c)

/-- The chunk positions a migration copies after position `p`: its own, then those it holds for earlier retirements
(R213, R214). -/
def State.nextCopy (s : State) (c p : Nat) : Nat :=
  let held := (s.heldFor c).map (·.slot)
  if p + 1 < 645120 then p + 1 else
  match (upTo (p + 1) (655360 - (p + 1))).find? (fun q => held.contains ((q - 645120) / 640)) with
  | some q => q
  | none => 655360

/-- The address of the chunk that a channel's position holds: its own, or one it holds for a retired channel in its reserve or
in a released group (R212, R216). -/
def State.copyAddr (s : State) (c p : Nat) : Nat :=
  if p < 645120 then
    match s.hbm.retires.find? (fun e => e.groups.contains p && e.holders.contains c) with
    | none => chunkAddr c p
    | some e =>
      let o := e.groups.findIdx (fun g => decide (g = p)) * e.holders.length + e.holders.findIdx (fun x => decide (x = c))
      if o < 645120 then chunkAddr e.chan o else
      let x := 1024 + e.chan
      let rs := s.hbm.retires.filter (fun r => r.holders.contains x)
      match rs.find? (fun r => decide ((rs.filter (fun q => decide (q.slot < r.slot))).length = (o - 645120) / 640)) with
      | some r => chunkAddr r.chan ((o - 645120) % 640 * 1008 + r.holders.findIdx (fun y => decide (y = x)))
      | none => chunkAddr c p
  else
    let slot := (p - 645120) / 640
    match (s.heldFor c).find? (fun r => decide (r.slot = slot)) with
    | some r => chunkAddr r.chan ((p - 645120) % 640 * 1008 + r.holders.findIdx (fun x => decide (x = c)))
    | none => chunkAddr c p

def State.syncSpare (s : State) : State :=
  s.setF (reg0 .HBM_SPARE_STATUS 0) F.HBM_SPARE_STATUS_retirements s.slotsUsed.length

/-- A migration is running. -/
def State.migrating (s : State) : Bool :=
  (upTo 0 1024).any (fun c => decide (s.chSt c = 2) || decide (s.chSt c = 5))

/-- A migration begins: the lowest free slot and its holders, or, for a channel that was DEGRADED, the next number from 16
and the groups the host released for it (R212, R216). -/
def State.startMigration (s : State) (c : Nat) (repair : Bool) : State :=
  let live := (upTo 0 1024).filter (fun x => decide (x ≠ c) && Retire.isLive s x)
  let free := (upTo 0 16).find? (fun k => !s.slotsUsed.contains k)
  let groups := tget [] s.hbm.granted c
  let next := (s.hbm.retires.map (fun r => r.slot + 1)).foldl max 16
  let r : Retire :=
    match free, groups with
    | some k, [] => ⟨c, k, repair, [], live.take 1008⟩
    | _, _ => ⟨c, next, repair, ascending groups, live⟩
  let s := { s with hbm := { s.hbm with
    retires := s.hbm.retires.filter (fun x : Retire => x.chan != c) ++ [r], granted := tdel c s.hbm.granted } }
  let v := s.rd (chReg c)
  let v := fset (fset v F.HBM_CH_STATE_slot (if r.slot < 16 then r.slot else 0)) F.HBM_CH_STATE_copy_ptr 0
  let s := (s.wr (chReg c) v).setChan c { s.chan c with written := [] }
  (s.setChSt c 2).syncSpare

/-- The groups the host must release for a channel beyond the sixteenth (R216). -/
def State.groupsFor (s : State) (c : Nat) : Nat :=
  let h := ((upTo 0 1024).filter (fun x => decide (x ≠ c) && Retire.isLive s x)).length
  (645120 + 640 * (s.heldFor c).length + h - 1) / max 1 h

/-- groups_needed: what the first DEGRADED channel still needs (R216; log 28). -/
def State.syncNeeded (s : State) : State :=
  s.setF (reg0 .HBM_SPARE_STATUS 0) F.HBM_SPARE_STATUS_groups_needed ((s.hbm.degraded.map (·.2)).headD 0)

/-- A channel is queued for its migration, which begins when none runs (R214). -/
def State.queueChan (s : State) (c : Nat) (repair : Bool) : State :=
  if s.migrating then { s with hbm := { s.hbm with queue := s.hbm.queue ++ [(c, repair)] } }.setChSt c 1
  else s.startMigration c repair

/-- A NORMAL channel is taken out for repair or retirement: at once, queued behind the running migration, or DEGRADED
when no slot is left (R214, R216). -/
def State.takeOut (s : State) (c : Nat) (repair : Bool) : State :=
  if s.chSt c ≠ 0 then s
  else if s.slotsUsed.length + (s.hbm.queue.filter (fun x => (tget [] s.hbm.granted x.1).isEmpty)).length ≥ 16 then
    let g := s.groupsFor c
    let s := { s with hbm := { s.hbm with degraded := s.hbm.degraded ++ [(c, g)] } }
    ((s.setChSt c 6).syncNeeded).event (chanIsland c) 0x0104 [(c, 2), (g, 4)]
  else s.queueChan c repair

/-- The next queued channel begins, when no migration runs (R214). -/
def State.nextQueued (s : State) : State :=
  match s.hbm.queue with
  | (c, rep) :: q => if s.migrating then s else { s with hbm := { s.hbm with queue := q } }.startMigration c rep
  | [] => s

/-- A corrected symbol of a burst: counted where its chunk lies, and after 64 of them within one hour that channel is queued
for repair (R206). -/
def State.corrected (s : State) (a : Nat) : State :=
  let c := (s.placeOf a).1
  let h := s.chan c
  let ts := (s.clk.refTime :: h.corrs).take 64
  let s := (s.setChan c { h with corrs := ts }).bumpF (chReg c) F.HBM_CH_STATE_corrected
  if ts.length = 64 ∧ s.clk.refTime ≤ ts.getLastD 0 + 3600000000000 then (s.takeOut c true).edge 530 else s

/-! Window slots (R219, R222, R223). -/

def State.win (s : State) (d : Nat) : WinSt := (s.die d).win
def State.setWin (s : State) (d : Nat) (w : WinSt) : State := s.setDie d { s.die d with win := w }
/-- The state of a window slot: 0 FREE, 1 FETCHING, 2 READY, 3 POISONED, 4 RETRYING (R219). -/
def State.slotSt (s : State) (d k : Nat) : Nat := getBits (s.rd (reg1 .WIN_SLOT_STATUS d (k / 8))) (4 * (k % 8)) 4
def State.setSlot (s : State) (d k x : Nat) : State :=
  let r := reg1 .WIN_SLOT_STATUS d (k / 8)
  s.wr r (setBits (s.rd r) (4 * (k % 8)) 4 x)

/-- The window slot a page of stacked memory is, if any: die and slot. -/
def State.winSlot (s : State) (a : Nat) : Option (Nat × Nat) :=
  (upTo 0 4).findSome? (fun d =>
    let w := s.win d
    if w.base ≤ a ∧ a < w.base + w.pages * 0x40000 then some (d, (a - w.base) / 0x40000) else none)

/-- The address of page `k` of a layer's runs. -/
def runAddr : List (Nat × Nat) → Nat → Nat
  | [], _ => 0
  | (a, n) :: rs, k => if k < n then a + k * 0x40000 else runAddr rs (k - n)

/-- The unreleased layer whose page a slot holds: layer_id, sequence number and far-tier address. -/
def WinSt.pageOf (w : WinSt) (k : Nat) : Option (Nat × Nat × Nat) :=
  w.layers.findSome? (fun l =>
    ((upTo 0 l.asked).find? (fun i => decide ((l.first + i) % 2 ^ 32 % max 1 w.pages = k))).map
      (fun i => (l.layer, (l.first + i) % 2 ^ 32, runAddr l.runs i)))

/-- The core token that a descriptor's sig_tok names, if its signal is enabled and the scope is a core's (R159). -/
def sigBit (d : Nat) : Option Nat :=
  if bitsOf d 18 1 = 1 ∧ bitsOf d 19 9 / 64 = 0 then some (bitsOf d 19 6) else none

/-- A window slot is POISONED or RETRYING (R222). -/
def State.slotHeld (s : State) (k : Nat × Nat) : Bool := decide (s.slotSt k.1 k.2 = 3) || decide (s.slotSt k.1 k.2 = 4)

/-- The descriptors of a queue that wait for a page while it is still POISONED or RETRYING (R159). -/
def State.heldDescs (s : State) (q : MQueue) : List Nat :=
  (q.started.filter (·.held.any s.slotHeld)).map (·.d) ++ (if q.held.any s.slotHeld then (q.fetched.take 1).map (·.2) else [])

/-- MOV_HOLD of a core: the core tokens that descriptors waiting on poisoned pages will signal, and the rx_tok of a keeping
member of the chain while a page of its die's window is POISONED or RETRYING (R159, R223). -/
def State.holdBits (s : State) (n : Nat) : Nat :=
  let own := (upTo 0 8).flatMap (fun m => (s.heldDescs (s.que n m)).filterMap sigBit)
  let cfg := s.rd (reg0 .PUR_CORE_CFG n)
  let member := (fget (s.rd (reg0 .PUR_DIE_CFG (n / 16))) F.PUR_DIE_CFG_members).testBit (n % 16)
  let page := fget cfg F.PUR_CORE_CFG_keep = 1 && member && !(s.win (n / 16)).retry.isEmpty
  (((own ++ if page then [fget cfg F.PUR_CORE_CFG_rx_tok] else []).eraseDups).map (fun k => if k < 64 then 2 ^ k else 0)).sum

def State.syncHold (s : State) (n : Nat) : State := s.wr (reg0 .MOV_HOLD n) (BitVec.ofNat 64 (s.holdBits n))
/-- The hold bits of every core after a slot has changed: a descriptor of any core may wait for it. -/
def State.syncHolds (s : State) : State := (upTo 0 64).foldl State.syncHold s

/-- A window slot turns POISONED, is reported, and enters the retry order at its first source (R223). -/
def State.poisonSlot (s : State) (d k : Nat) : State :=
  if s.slotSt d k = 3 ∨ s.slotSt d k = 4 ∨ s.slotSt d k = 0 then s else
  let p := (s.win d).pageOf k
  let s := (s.setSlot d k 4).setWin d { s.win d with retry := tput k 1 (s.win d).retry }
  let s := (s.edge (544 + 4 * d)).event (dieIsland d) 0x0300
    [(d, 1), ((p.map (·.1)).getD 0, 4), ((p.map (·.2.1)).getD 0, 4), ((p.map (·.2.2)).getD 0, 8)]
  s.syncHolds

/-! Reading and writing memory through the cache (R205, R207 to R209). -/

/-- The key of the cache set of a line, in its stack's slice (R207). -/
def setKey (a : Nat) : Nat := chanOf a / 64 * 8192 + Config.cacheSet (a / 128) % 8192

/-- What a read of stacked memory found: its bytes, and the first burst that could not be read, with whether it was
poisoned before. -/
structure MRead where
  st : State
  bytes : List Byte
  bad : Option (Nat × Bool)
  deriving DecidableEq, Repr

/-- What the decoder of a burst finds in a class, and the error that stays in the data it calls good (R202, R203). -/
def eccFound (e : Ecc) (det : Bool) : Found × List Nat :=
  match e with
  | .ok => (.good, [])
  | .parity => (.good, [])
  | .single => (if det then .bad else .corrected, [])
  | .double => (.bad, [])
  | .symbols p => burstFind det p

/-- Data of a burst that an error has changed: they are what memory holds from now on (R202). -/
def State.flipped (s : State) (b : Nat) (err : List Nat) : State :=
  if err.all (· == 0) then s else
  s.setMem (writeBytes s.mem b (mapFrom 0 (fun i x => cget s.mem (b + i) ^^^ BitVec.ofNat 8 x) err))

/-- A burst that the decoder cannot correct: its chunk is put in poison form, the error is reported, and the channel it lies
on is queued for repair (R205, R206). -/
def State.burstBad (s : State) (a : Nat) : State :=
  ((s.failChunk a).memErr a false).takeOut (s.placeOf a).1 true

/-- One burst read from memory in a class: its bytes as good, or poison, or an uncorrectable error (R202 to R206, R210). -/
def State.burstRead (s : State) (a cls : Nat) (e : Ecc) : State × Option Bool :=
  if s.released a then (s, none) else
  let s := s.slotTaken (chanOf a) cls 1
  if s.burstPoison a then (s.memErr a true, some true) else
  let f := eccFound e (s.pageClass (a / 0x40000)).1
  match f.1 with
  | .good => (s.flipped (a / 64 * 64) f.2, none)
  | .corrected => (s.corrected a, none)
  | .poisoned => ({ s with poison := s.poison ++ [a / 64 * 64] }.memErr a true, some true)
  | .bad => (s.burstBad a, some false)

/-- The bytes that stacked memory holds for an address range, whatever its protection. -/
def State.stackedBytes (s : State) (a n : Nat) : List Byte :=
  (upTo a n).map (fun x => if s.released x then 0 else cget s.mem x)

/-- A line's place among the lines of its set. -/
def State.cacheLine (s : State) (a : Nat) : Option CLine :=
  (tget [] s.hbm.sets (setKey a)).find? (fun l => decide (l.line = a / 128))

def State.setSet (s : State) (a : Nat) (ls : List CLine) : State :=
  { s with hbm := { s.hbm with sets := tput (setKey a) ls s.hbm.sets } }

/-- The written bit of a chunk that is being migrated, its own channel's or its holder's (R215). -/
def State.setWritten (s : State) (c p : Nat) : State :=
  let h := s.chan c
  if !(decide (s.chSt c = 2) || decide (s.chSt c = 5)) || h.written.contains p then s else s.setChan c { h with written := p :: h.written }
def State.markWritten (s : State) (a : Nat) : State :=
  let c := chanOf a
  let x := s.placeOf a
  let s := s.setWritten c (a / 0x200000)
  if x.1 = c then s else s.setWritten x.1 x.2

/-- Bursts of one chunk written whole: their poison is gone (R205, R215). -/
def State.healBursts (s : State) (bs : List Nat) : State :=
  let c := chanOf (bs.headD 0)
  let h := s.chan c
  let s := { s with poison := s.poison.filter (fun b => !bs.contains b) }
  if bs.isEmpty || h.lost.isEmpty then s
  else s.setChan c { h with lost := h.lost.map (fun l => { l with healed := bs ++ l.healed }) }

/-- A whole line that reaches memory clears the poison of its bursts and marks a migrating chunk written (R205, R215). -/
def State.lineLands (s : State) (a : Nat) : State :=
  let a := a / 128 * 128
  (s.markWritten a).healBursts [a, a + 64]

/-- A line leaves the cache: a dirty one is written back (R208). -/
def State.evict (s : State) (l : CLine) : State :=
  let a := l.line * 128
  let ls := (tget [] s.hbm.sets (setKey a)).filter (fun x => decide (x.line ≠ l.line))
  let s := s.setSet a ls
  if l.dirty.isSome then s.lineLands a else s

/-- The least recently used line of a list satisfying a test. -/
def lruOf (ls : List CLine) (f : CLine → Bool) : Option CLine := ls.reverse.find? f

/-- A line allocated in its set, evicting as R209 says. -/
def State.allocate (s : State) (l : CLine) : State :=
  let a := l.line * 128
  let keepWays := min 16 (s.fld (reg0 .MSC_CTRL 0) F.MSC_CTRL_keep_ways)
  let ls := tget [] s.hbm.sets (setKey a)
  let s := if l.keep ∧ (ls.filter (·.keep)).length ≥ keepWays then
      match lruOf ls (·.keep) with
      | some x => s.evict x
      | none => s
    else s
  let l := if l.keep ∧ keepWays = 0 then { l with keep := false } else l
  let ls := tget [] s.hbm.sets (setKey a)
  let s := if ls.length ≥ 16 then
      match (lruOf ls (fun x => !x.keep)).or (lruOf ls (fun _ => true)) with
      | some x => s.evict x
      | none => s
    else s
  s.setSet a (l :: tget [] s.hbm.sets (setKey a))

/-- A KEEP mark put on a present line, within keep_ways (R209). -/
def State.markKeep (s : State) (a : Nat) : State :=
  let keepWays := min 16 (s.fld (reg0 .MSC_CTRL 0) F.MSC_CTRL_keep_ways)
  let ls := tget [] s.hbm.sets (setKey a)
  let others := ls.filter (fun x => x.keep && decide (x.line ≠ a / 128))
  if keepWays = 0 then s else
  let s := if others.length ≥ keepWays then
      match lruOf others (fun _ => true) with
      | some x => s.evict x
      | none => s
    else s
  s.setSet a ((tget [] s.hbm.sets (setKey a)).map (fun x => if x.line = a / 128 then { x with keep := true } else x))

/-- A present line becomes the most recently used. -/
def State.touch (s : State) (a : Nat) : State :=
  let ls := tget [] s.hbm.sets (setKey a)
  s.setSet a (ls.filter (fun x => decide (x.line = a / 128)) ++ ls.filter (fun x => decide (x.line ≠ a / 128)))

/-- A read of bytes within one line, with a hint (R208): 0 STREAM, 1 KEEP, 2 LAST; in a class. A line is allocated whole, and
not with a burst in poison form (R205). -/
def State.lineRead (s : State) (a n hint cls : Nat) (e : Ecc) : MRead × Ecc :=
  let st := reg1 .MSC_STATS 0 (chanOf a / 64)
  match s.cacheLine a with
  | some l =>
    let bs := s.stackedBytes a n
    let s := s.bumpF st F.MSC_STATS_hits
    if hint = 2 then
      let s := s.setSet a ((tget [] s.hbm.sets (setKey a)).filter (fun x => decide (x.line ≠ l.line)))
      let s := match l.dirty with
        | some back => s.setMem (writeBytes s.mem (l.line * 128) back)
        | none => s
      (⟨s, bs, none⟩, e)
    else if hint = 1 then (⟨(s.touch a).markKeep a, bs, none⟩, e)
    else (⟨s.touch a, bs, none⟩, e)
  | none =>
    let s := s.bumpF st F.MSC_STATS_misses
    let b0 := a / 64 * 64
    let bursts := if a / 64 = (a + n - 1) / 64 then [b0] else [b0, b0 + 64]
    let r := bursts.foldl (fun (r : State × Option (Nat × Bool) × Ecc) b =>
      let x := r.1.burstRead b cls r.2.2
      (x.1, r.2.1.or (x.2.map (fun p => (b, p))), Ecc.ok)) (s, none, e)
    match r.2.1 with
    | some bad => (⟨r.1, [], some bad⟩, .ok)
    | none =>
      let bs := r.1.stackedBytes a n
      let l0 := a / 128 * 128
      (⟨if hint = 1 ∧ !r.1.released a ∧ !r.1.burstPoison l0 ∧ !r.1.burstPoison (l0 + 64) then r.1.allocate ⟨a / 128, true, none⟩ else r.1, bs, none⟩, .ok)

/-- A read of stacked memory in a class, line by line; the Ecc outcome is that of the first burst that memory serves. It stops at
the first burst that cannot be read. -/
def State.stackedReadN (hint cls : Nat) : Nat → State → Nat → Nat → Ecc → MRead
  | 0, s, _, _, _ => ⟨s, [], none⟩
  | k + 1, s, a, n, e =>
    if n = 0 then ⟨s, [], none⟩ else
    let m := min n (128 - a % 128)
    let r := s.lineRead a m hint cls e
    if r.1.bad.isSome then r.1 else
    let t := State.stackedReadN hint cls k r.1.st (a + m) (n - m) r.2
    ⟨t.st, r.1.bytes ++ t.bytes, t.bad⟩

def State.stackedRead (s : State) (a n hint cls : Nat) (e : Ecc) : MRead := State.stackedReadN hint cls (n / 128 + 2) s a n e

/-- Bytes of one line that reach memory in a class: a burst written whole loses its poison, one written in part keeps it
(R205, R210). -/
def State.memLands (s : State) (a n cls : Nat) : State :=
  let bs := [a / 64 * 64, a / 64 * 64 + 64]
  let s := s.slotTaken (chanOf a) cls (bs.filter (fun b => decide (b < a + n))).length
  (s.markWritten a).healBursts (bs.filter (fun b => decide (a ≤ b) && decide (b + 64 ≤ a + n)))

/-- A write of bytes within one line, with a hint (R208), in a class. A write to a released group or to a LOST channel is discarded. -/
def State.lineWrite (s : State) (a : Nat) (bs : List Byte) (hint cls : Nat) : State :=
  let c := chanOf a
  let l0 := a / 128 * 128
  if s.released a then s else
  match s.cacheLine a with
  | some l =>
    let back := s.stackedBytes l0 128
    let s := s.setMem (writeBytes s.mem a bs)
    let mem (b : List Byte) : List Byte := b.take (a - l0) ++ bs ++ b.drop (a - l0 + bs.length)
    let upd (d : Option (List Byte)) (s : State) : State :=
      s.setSet a ((tget [] s.hbm.sets (setKey a)).map (fun x => if x.line = l.line then { x with dirty := d } else x))
    if hint = 0 then ((upd (l.dirty.map mem) s).memLands a bs.length cls).touch a
    else
      let s := (upd (some (l.dirty.getD back)) s).touch a
      if hint = 1 then s.markKeep a else s
  | none =>
    if s.chSt c = 7 then s
    else if hint = 0 ∨ s.burstPoison l0 ∨ s.burstPoison (l0 + 64) then
      (s.setMem (writeBytes s.mem a bs)).memLands a bs.length cls
    else
      let back := s.stackedBytes l0 128
      let s := s.allocate ⟨a / 128, decide (hint = 1), some back⟩
      s.setMem (writeBytes s.mem a bs)

def State.stackedWriteN (hint cls : Nat) : Nat → State → Nat → List Byte → State
  | 0, s, _, _ => s
  | k + 1, s, a, bs =>
    if bs.isEmpty then s else
    let m := min bs.length (128 - a % 128)
    State.stackedWriteN hint cls k (s.lineWrite a (bs.take m) hint cls) (a + m) (bs.drop m)

def State.stackedWrite (s : State) (a : Nat) (bs : List Byte) (hint cls : Nat) : State :=
  State.stackedWriteN hint cls (bs.length / 128 + 2) s a bs

/-- What follows a burst that a move descriptor, the scrubber or a migration could not read (R205): the window slot turns
POISONED, the micro-batch drops, or the page is to be rebuilt. -/
def State.afterBad (s : State) (a : Nat) (engine : Bool) : State :=
  let p := a / 0x40000
  let k := s.pageClass p
  let c := chanOf a
  if k.1 then (if engine then s.event (chanIsland c) 0x0101 [(k.2, 2), (p, 4)] else s)
  else
    match s.winSlot a with
    | some (d, sl) => s.poisonSlot d sl
    | none => s.event (chanIsland c) 0x0102 [(p, 4), (c, 2)]

/-- What the read of the stored burst finds when memory serves a write of part of it: a correctable error is counted; an
uncorrectable one leaves the merged burst in poison form, with the memory-error event (R205, R206). -/
def State.partBurst (s : State) (a n hint : Nat) (e : Ecc) : State :=
  let b := a / 64 * 64
  let f := eccFound e (s.pageClass (a / 0x40000)).1
  if decide (64 ≤ n) || s.released a || decide (s.chSt (chanOf a) = 7) || s.burstPoison b ||
    (decide (hint ≠ 0) && (s.cacheLine a).isSome) then s else
  match f.1 with
  | .good => s.flipped b f.2
  | .corrected => s.corrected a
  | .poisoned => { s with poison := s.poison ++ [b] }
  | .bad => (({ s with poison := s.poison ++ [b] }).memErr a false).takeOut (s.placeOf a).1 true

/-! The commands. -/

/-- The oldest request of a class that need not wait: for an earlier request of its own requester to the same burst, or, for a
read, for an earlier write of any requester to it (R210). -/
def oldestOf (q : List HReq) (cls : Nat) : Option HReq :=
  let ok (i : Nat) (r : HReq) : Bool :=
    decide (r.cls.val = cls) && !((q.take i).any (fun x =>
      decide (x.addr / 64 = r.addr / 64) && (decide (x.who = r.who) || (x.write.isSome && r.write.isNone))))
  ((mapFrom 0 (fun i r => (ok i r, r)) q).find? (·.1)).map (·.2)

/-- The request that the slot is granted to (R210). -/
def grantOf (min1 min2 : Nat) (h : List Nat) (q : List HReq) : Option HReq :=
  let got (k : Nat) : Nat := (h.filter (fun x => decide (x = k))).length
  match oldestOf q 1, oldestOf q 2 with
  | some r, two => if got 1 < min1 then some r else
      match two with
      | some r2 => if got 2 < min2 then some r2 else (oldestOf q 0).or (some r)
      | none => (oldestOf q 0).or (some r)
  | none, some r2 => if got 2 < min2 then some r2 else (oldestOf q 0).or (some r2)
  | none, none => oldestOf q 0

/-- STACKED_ACCESS: requests arrive at a pseudo-channel and one is served (R205, R210). -/
def execStackedAccess (c : Fin 1024) (arrivals : List HReq) (e : Ecc) (s : State) : Host.Outcome State Fault Refusal :=
  .next (s.runsOn (90 + c.val / 64) (
    let h := s.chan c.val
    let q := h.q ++ arrivals.filter (fun r => decide (chanOf r.addr.toNat = c.val) && decide (r.addr.toNat < 0x13B00000000))
    let arb := s.rd (reg0 .HBM_ARB 0)
    let g := grantOf (fget arb F.HBM_ARB_min1) (fget arb F.HBM_ARB_min2) h.hist q
    let s := s.setChan c.val { h with
      q := match g with
        | some r => q.erase r
        | none => q
      hist := ((match g with
        | some r => r.cls.val
        | none => 3) :: h.hist).take 64 }
    match g with
    | none => s
    | some r =>
      let a := r.addr.toNat
      match r.write with
      | some bs =>
        let bs := bs.take (64 - a % 64)
        { (s.partBurst a bs.length r.hint.val e).stackedWrite a bs r.hint.val 3 with rstatus := .ok }
      | none =>
        let m := s.stackedRead (a / 64 * 64) 64 r.hint.val 3 e
        match m.bad with
        | none => { m.st with rbytes := m.bytes, rstatus := .ok }
        | some (b, p) =>
          let move := match r.who with
            | .move _ _ => true
            | _ => false
          { (if move then m.st.afterBad b true else m.st) with
            rbytes := [], rstatus := if p then .poisoned else .uncorrectable }))

/-- HBM_SCRUB: the patrol scrubber of a stack reads its next chunk position, at class 2 with hint STREAM; one that holds no
chunk is read as CORRECT, and a chunk that lies elsewhere is not read here (R204, R206, R208). -/
def execHbmScrub (stack : Fin 16) (e : Ecc) (s : State) : Host.Outcome State Fault Refusal :=
  .next (s.runsOn (90 + stack.val) (
    let k := tget 0 s.hbm.scrub stack.val
    let s := { s with hbm := { s.hbm with scrub := tput stack.val ((k + 1) % 41943040) s.hbm.scrub } }
    let c := stack.val * 64 + k % 64
    let a := s.copyAddr c (k / 64)
    if s.placeOf a ≠ (c, k / 64) then s else
    let r := s.stackedRead a 2048 0 2 e
    match r.bad with
    | some (b, _) => r.st.afterBad b false
    | none => r.st))

/-- RETRAIN_SLICE: sixteen slices without convergence queue the pseudo-channel for repair (R211). -/
def execRetrainSlice (c : Fin 1024) (converged : Bool) (s : State) : Host.Outcome State Fault Refusal :=
  .next (s.runsOn (90 + c.val / 64) (
    let h := s.chan c.val
    if converged then s.setChan c.val { h with tries := 0 }
    else if h.tries + 1 < 16 then s.setChan c.val { h with tries := h.tries + 1 }
    else (s.setChan c.val { h with tries := 0 }).takeOut c.val true))

/-- A holder's place taken by the lowest live channel that is not yet a holder, or by the released groups of an extended
retirement (R213, R216). -/
def State.replaceHolder (s : State) (c : Nat) (ext : Bool) (r : Retire) : Retire :=
  if r.chan = c ∨ !r.holders.contains c then r else
  let new := if ext then 1024 + c else
    ((upTo 0 1024).find? (fun x => decide (x ≠ c) && decide (x ≠ r.chan) && Retire.isLive s x && !r.holders.contains x)).getD
      (1024 + c)
  { r with holders := r.holders.map (fun x => if x = c then new else x) }

/-- A channel's retirement is into released groups (R216). -/
def State.extOf (s : State) (c : Nat) : Bool := s.hbm.retires.any (fun r => decide (r.chan = c) && decide (16 ≤ r.slot))
/-- The redirect table once a channel has left its holders' places. -/
def State.replaced (s : State) (c : Nat) : State :=
  { s with hbm := { s.hbm with retires := s.hbm.retires.map (s.replaceHolder c (s.extOf c)) } }

/-- Where the copy of a position goes: the spare place of the chunk, or the channel itself for a returning copy (R212 to
R214). -/
def State.copyTo (s : State) (c p : Nat) : Nat × Nat :=
  if s.chSt c = 5 then (c, p) else
  let t := s.replaced c
  let own := decide (p < 645120)
  match t.hbm.retires.find? (fun r => if own then decide (r.chan = c) else decide (r.slot = (p - 645120) / 640)) with
  | some r => t.spareOf r (if own then p else s.copyAddr c p / 0x200000)
  | none => (c, p)

/-- The bursts of a chunk read in a class, up to the first that cannot be (R205). -/
def State.chunkRead (s : State) (a cls : Nat) (e : Ecc) : State × Option Bool :=
  let r := (upTo 0 32).foldl (fun (r : State × Option Bool × Ecc) k =>
    if r.2.1.isSome then r else
    let x := r.1.burstRead (a + 64 * k) cls r.2.2
    (x.1, x.2, Ecc.ok)) (s, none, e)
  (r.1, r.2.1)

/-- MIGRATION_CHUNK_COPY: one chunk is read, written where it goes, and copy_ptr advances, at class 2 (R205, R214). -/
def execMigrationChunkCopy (c : Fin 1024) (e : Ecc) (s : State) : Host.Outcome State Fault Refusal :=
  .next (s.runsOn (90 + c.val / 64) (
    let p := s.copyPtr c.val
    if !(decide (s.chSt c.val = 2) || decide (s.chSt c.val = 5)) || decide (p ≥ 655360) then s else
    let a := s.copyAddr c.val p
    let r := if s.released a then (s, none) else s.chunkRead a 2 e
    let s := if r.2.isSome then r.1.afterBad a false else r.1
    let x := s.copyTo c.val p
    let s := (s.slotTaken x.1 2 32).setF (chReg c.val) F.HBM_CH_STATE_copy_ptr (s.nextCopy c.val p)
    if x.2 < 645120 then s
    else { s with poison := s.poison.filter (fun b => decide (b / 2048 ≠ chunkAddr x.1 x.2 / 2048)) }))

/-- A migrated channel's redirect takes effect: RETIRED, or REPAIRING for a repair (R213, R214). -/
def State.redirect (s : State) (c : Nat) (repair : Bool) : State :=
  let s := (s.setF (chReg c) F.HBM_CH_STATE_extended (s.extOf c).toNat).setChSt c (if repair then 4 else 3)
  (s.replaced c).nextQueued

/-- MIGRATION_COMPLETE: copy_ptr has reached the end (R214). -/
def execMigrationComplete (c : Fin 1024) (s : State) : Host.Outcome State Fault Refusal :=
  .next (s.runsOn (90 + c.val / 64) (
    if s.copyPtr c.val < 655360 then s
    else if s.chSt c.val = 2 then
      s.redirect c.val ((s.hbm.retires.find? (fun r => decide (r.chan = c.val))).any (·.repair))
    else if s.chSt c.val = 5 then
      let s := { s with hbm := { s.hbm with retires := s.hbm.retires.filter (fun r => decide (r.chan ≠ c.val)) } }
      let s := s.setChan c.val { s.chan c.val with written := [] }
      (((s.setChSt c.val 0).setF (chReg c.val) F.HBM_CH_STATE_extended 0).syncSpare).nextQueued
    else s))

/-- CHANNEL_SOURCE_FAIL: the source of the running migration fails; what was neither copied nor written is lost (R215). -/
def execChannelSourceFail (c : Fin 1024) (s : State) : Host.Outcome State Fault Refusal :=
  .next (s.runsOn (90 + c.val / 64) (
    if s.chSt c.val ≠ 2 then s else
    let p := s.copyPtr c.val
    let h := s.chan c.val
    let held := (s.heldFor c.val).flatMap (fun r =>
      (upTo (645120 + 640 * r.slot) 640).filter (fun q => decide (p ≤ q) && !h.written.contains q))
    let addrs := held.map (s.copyAddr c.val)
    let s := s.setChan c.val { h with lost := ⟨p, h.written, []⟩ :: h.lost }
    let s := addrs.foldl State.failChunk s
    (s.setF (chReg c.val) F.HBM_CH_STATE_copy_ptr 655360).redirect c.val false))

/-- CHANNEL_FAIL: a channel fails: out of service, or LOST when it was already DEGRADED (R215, R216). -/
def execChannelFail (c : Fin 1024) (s : State) : Host.Outcome State Fault Refusal :=
  .next (s.runsOn (90 + c.val / 64) (
    if s.chSt c.val = 6 then
      let s := { s with hbm := { s.hbm with
        degraded := s.hbm.degraded.filter (fun x => decide (x.1 ≠ c.val)), granted := tdel c.val s.hbm.granted } }
      (s.setChSt c.val 7).syncNeeded
    else s.takeOut c.val false))

/-- REPAIR_TEST_DONE: firmware's repair and test of a REPAIRING channel ends: the returning copy begins, or it stays RETIRED, a
channel without a spare LOST (R214). -/
def execRepairTestDone (c : Fin 1024) (ok : Bool) (s : State) : Host.Outcome State Fault Refusal :=
  .next (s.runsOn (90 + c.val / 64) (
    if s.chSt c.val ≠ 4 then s
    else if ok then (s.setF (chReg c.val) F.HBM_CH_STATE_copy_ptr 0).setChSt c.val 5
    else s.setChSt c.val (if s.hbm.retires.any (fun r => decide (r.chan = c.val)) then 3 else 7)))

/-- A LOST channel is repaired: until the rebuilt source writes its chunks again, they read as poison (R214; log 28). -/
def State.repairLost (s : State) (c : Nat) : State :=
  let h := s.chan c
  (s.setChan c { h with lost := ⟨0, [], []⟩ :: h.lost }).setChSt c 4

/-- MSC_FLUSH: every dirty line is written back and the cache is empty (R226). -/
def State.mscFlush (s : State) : State :=
  let s := s.hbm.sets.foldl (fun s (p : Nat × List CLine) => p.2.foldl State.evict s) s
  { s with hbm := { s.hbm with sets := [] } }
def execMscFlush (s : State) : Host.Outcome State Fault Refusal := .next s.mscFlush

end Sys2Proof.Machine
end

