-- ==== Sys2Proof/Machine/Purlin.lean ====
section
/-! DEFINITION. The purlin chain of a die (R150 to R155). -/

namespace Sys2Proof.Machine

/-- Flits that a member holds on their way to the next: a flit leaves 24 network cycles after it entered (R150). -/
def hopDepth : Nat := 24

def purCfg (d : Nat) : Reg := reg0 .PUR_DIE_CFG d
def purStatus (d : Nat) : Reg := reg0 .PUR_DIE_STATUS d

/-- The local core that receives injected pages: the head, or the lowest member when the head is none (R160). -/
def headOf (cfg : BitVec 64) : Nat :=
  let h := fget cfg F.PUR_DIE_CFG_head
  let ms := fget cfg F.PUR_DIE_CFG_members
  if ms.testBit h then h else ((upTo 0 16).find? (fun c => ms.testBit c)).getD h

/-- The members in chain order: ascending from the head, wrapping (R151). -/
def membersOf (cfg : BitVec 64) : List Nat :=
  let ms := fget cfg F.PUR_DIE_CFG_members
  ((upTo (headOf cfg) 16).map (· % 16)).filter (fun c => ms.testBit c)

/-- The mode of a chain: stopped without members, half rate through a borrowed spare (R155). -/
def State.purMode (s : State) (d : Nat) (cfg : BitVec 64) : Nat :=
  let ms := membersOf cfg
  if ms.isEmpty then 3
  else if ms.any (fun c => decide (s.fld (reg1 .CP_CORE_REMAP 0 (16 * d + c)) F.CP_CORE_REMAP_borrowed = 1)) then 1 else 0

/-- The mode register follows; a change is an edge of source 563 + 4d (R155, R365). -/
def State.setPurMode (s : State) (d x : Nat) : State :=
  if s.fld (purStatus d) F.PUR_DIE_STATUS_mode = x then s
  else (s.setF (purStatus d) F.PUR_DIE_STATUS_mode x).edge (563 + 4 * d)

/-- A member keeps pages: keep is set and its core is served (R151, R155). -/
def State.keeps (s : State) (n : Nat) : Bool :=
  decide (s.fld (reg0 .PUR_CORE_CFG n) F.PUR_CORE_CFG_keep = 1) && decide (s.remap n = 0)

/-- A page can enter: the chain is enabled and the head has received the page before it whole (R150, R152). -/
def State.canInject (s : State) (d : Nat) : Bool :=
  let cfg := s.rd (purCfg d)
  decide (fget cfg F.PUR_DIE_CFG_enable = 1) && !(membersOf cfg).isEmpty &&
    (s.die d).chain.all (fun p => p.flits.head?.all (fun f => decide (f.2 ≥ 1024)))

/-- The members that a page goes to: in direct mode those whose cluster node has not failed (R155). -/
def State.reached (s : State) (d c : Nat) : Bool :=
  decide (s.fld (purStatus d) F.PUR_DIE_STATUS_mode ≠ 2) || !s.clk.stopped.contains (clusterIsland ((16 * d + c) / 4))

/-- A page enters the chain and takes the die's next sequence number (R152). -/
def State.inject (s : State) (d : Nat) (cells : List Host.Cell) (stream : Bool) : State :=
  let g := s.fld (purStatus d) F.PUR_DIE_STATUS_next_seq
  let x := s.die d
  let ms := (membersOf (s.rd (purCfg d))).filter (s.reached d)
  let p : ChainPage := ⟨g, cells, stream, ms.map (fun c => (c, 0)), [], []⟩
  (s.setDie d { x with chain := x.chain ++ [p] }).setF (purStatus d) F.PUR_DIE_STATUS_next_seq ((g + 1) % 2 ^ 32)

/-- The flits that a member at position `k` of a page can have received: those its predecessor has, the page itself at the
head, and in direct mode the page once every earlier member has it (R151, R155). -/
def ChainPage.upstream (p : ChainPage) (direct : Bool) (k : Nat) : Nat :=
  if k = 0 then 1024
  else if direct then (if (p.flits.take k).all (fun f => decide (f.2 ≥ 1024)) then 1024 else 0)
  else (p.flits[k - 1]?.map (·.2)).getD 0

/-- The bytes of a flit of a page. -/
def ChainPage.flit (p : ChainPage) (f : Nat) : List Byte := (upTo (256 * f) 256).map (cget p.cells)

/-- The pages before one have been received whole by a member. -/
def doneAt (c : Nat) (before : List ChainPage) : Bool :=
  before.all (fun p => p.flits.all (fun f => decide (f.1 ≠ c) || decide (f.2 ≥ 1024)))

/-- The position at which a page's next flit moves, the member furthest down the chain first (R150, R153). -/
def State.hopAt (s : State) (d : Nat) (direct : Bool) (before : List ChainPage) (p : ChainPage) : Option Nat :=
  (upTo 0 p.flits.length).reverse.find? (fun k =>
    match p.flits[k]? with
    | none => false
    | some (c, f) =>
      let n := 16 * d + c
      let down := (p.flits[k + 1]?.map (·.2)).getD f
      decide (f < 1024) && decide (f < p.upstream direct k) && (direct || decide (f < down + hopDepth)) && doneAt c before &&
        (!s.keeps n || p.accepted.contains c || decide (f ≠ 0)))

/-- The frame of a member in which a page goes, and its byte offset in the slot (R151, R152). -/
def State.frameOf (s : State) (n g : Nat) : Nat :=
  let cfg := s.rd (reg0 .PUR_CORE_CFG n)
  fget cfg F.PUR_CORE_CFG_frame_hi * 128 * 128 + g % (fget cfg F.PUR_CORE_CFG_frames_m1 + 1) * 0x40000

/-- A page leaves the chain once every member has received it and every member that accepted it has reported it. -/
def State.retirePages (s : State) (d : Nat) : State :=
  let x := s.die d
  s.setDie d { x with chain := x.chain.filter (fun p =>
    !(p.flits.all (fun f => decide (f.2 ≥ 1024)) && p.accepted.all (fun c => p.written.contains c))) }

/-- One flit received by the member at a position: a keeping member that accepted the page writes it into its frame. -/
def State.hop (s : State) (d i k : Nat) (p : ChainPage) : State :=
  match p.flits[k]? with
  | none => s
  | some (c, f) =>
    let n := 16 * d + c
    let x := s.die d
    let p' := { p with flits := setAt p.flits k (c, f + 1) }
    let s := s.setDie d { x with chain := setAt x.chain i p', fails := tdel c x.fails }
    if p.accepted.contains c then
      let o := s.frameOf n p.seq + 256 * f
      let s := s.tmWrite n o (p.flit f)
      if o + 256 > slotSize then s.decodeErr n (slotBase n + o) else s
    else s.retirePages d

/-- FLIT_HOP: a flit moves to the next member, of the oldest page that can move (R150). -/
def execFlitHop (d : DieId) (s : State) : Host.Outcome State Fault Refusal :=
  .next (s.runsOn (dieIsland d) (
    let ch := (s.die d.val).chain
    let direct := decide (s.fld (purStatus d.val) F.PUR_DIE_STATUS_mode = 2)
    match (upTo 0 ch.length).findSome? (fun i =>
      match ch[i]? with
      | some p => (s.hopAt d.val direct (ch.take i) p).map (fun k => (i, k, p))
      | none => none) with
    | some (i, k, p) => s.hop d.val i k p
    | none => s))

/-- MEMBER_PAGE_ACCEPT: a keeping member consumes one count of free_tok before the first flit of its next page; while the
count is zero it accepts nothing (R153). -/
def execMemberPageAccept (n : CoreId) (s : State) : Host.Outcome State Fault Refusal :=
  .next (s.runsOn (dieIsland (n / 16)) (
    let d := n.val / 16
    let c := n.val % 16
    let x := s.die d
    let direct := decide (s.fld (purStatus d) F.PUR_DIE_STATUS_mode = 2)
    if !s.keeps n then s else
    match (upTo 0 x.chain.length).find? (fun i =>
      match x.chain[i]? with
      | some p => p.flits.any (fun f => decide (f.1 = c) && decide (f.2 = 0)) && !p.accepted.contains c &&
          doneAt c (x.chain.take i)
      | none => false) with
    | none => s
    | some i =>
      match x.chain[i]? with
      | none => s
      | some p =>
        let k := p.flits.findIdx (fun f => decide (f.1 = c))
        if p.upstream direct k = 0 then s else
        let r := s.tokWait n 12 ⟨0, n, s.fld (reg0 .PUR_CORE_CFG n) F.PUR_CORE_CFG_free_tok⟩ 1
        if !r.2 then r.1 else
        let x := r.1.die d
        r.1.setDie d { x with chain := setAt x.chain i { p with accepted := p.accepted ++ [c] } }))

/-- MEMBER_PAGE_WRITTEN: when a page's last line is written, the member signals rx_tok (R153). -/
def execMemberPageWritten (n : CoreId) (s : State) : Host.Outcome State Fault Refusal :=
  .next (s.runsOn (dieIsland (n / 16)) (
    let d := n.val / 16
    let c := n.val % 16
    let x := s.die d
    match (upTo 0 x.chain.length).find? (fun i =>
      match x.chain[i]? with
      | some p => p.accepted.contains c && !p.written.contains c && p.flits.any (fun f => decide (f.1 = c) && decide (f.2 ≥ 1024))
      | none => false) with
    | none => s.retirePages d
    | some i =>
      match x.chain[i]? with
      | none => s
      | some p =>
        let s := s.setDie d { x with chain := setAt x.chain i { p with written := p.written ++ [c] } }
        let k := (s.fld (reg0 .PUR_CORE_STATUS n) F.PUR_CORE_STATUS_pages_kept + 1) % 2 ^ 32
        let s := s.setF (reg0 .PUR_CORE_STATUS n) F.PUR_CORE_STATUS_pages_kept k
        let s := s.signal n ⟨0, n, s.fld (reg0 .PUR_CORE_CFG n) F.PUR_CORE_CFG_rx_tok⟩ 1
        s.retirePages d))

/-- The mode that follows from the members, unless the die runs in direct mode until the step boundary (R155). -/
def State.purFollow (s : State) (d : Nat) : State :=
  if s.fld (purStatus d) F.PUR_DIE_STATUS_mode = 2 then s else s.setPurMode d (s.purMode d (s.rd (purCfg d)))

/-- A step boundary ends direct mode on every die (R155). -/
def State.purBoundary (s : State) : State := (upTo 0 4).foldl (fun s d => s.setPurMode d (s.purMode d (s.rd (purCfg d)))) s

/-- A flit is on its way to a member: one that its predecessor has and it has not (R154). -/
def State.flitTo (s : State) (n : Nat) : Bool :=
  let d := n / 16
  let direct := decide (s.fld (purStatus d) F.PUR_DIE_STATUS_mode = 2)
  (s.die d).chain.any (fun p => (upTo 0 p.flits.length).any (fun k =>
    p.flits[k]?.any (fun f => decide (f.1 = n % 16) && decide (f.2 < 1024) && decide (f.2 < p.upstream direct k))))

/-- The hop to a member has failed: the die runs in direct mode until the next step boundary, and the pages on their way go to
the members whose nodes still work (R155). -/
def State.hopFailed (s : State) (n : Nat) : State :=
  let d := n / 16
  let x := s.die d
  let s := ((s.setDie d { x with fails := tdel (n % 16) x.fails }).edge (560 + 4 * d)).setPurMode d 2
  let x := s.die d
  (s.setDie d { x with chain := x.chain.map (fun p => { p with
    flits := p.flits.filter (fun f => s.reached d f.1), accepted := p.accepted.filter (s.reached d) }) }).retirePages d

/-- CHAIN_RECONFIGURE: at a step boundary firmware writes PUR_DIE_CFG, and the mode follows (R155, R160). -/
def execChainReconfigure (d : DieId) (cfg : BitVec 64) (s : State) : Host.Outcome State Fault Refusal :=
  .next (s.runsOn (dieIsland d) (
    let s := s.wr (purCfg d) (cfg &&& 0xFFFF003F)
    s.setPurMode d (s.purMode d (s.rd (purCfg d)))))

end Sys2Proof.Machine
end

