-- ==== Sys2Proof/Machine/Descriptors.lean ====
section
/-! DEFINITION. Move descriptors: their fields, checks, extents, and what each transfer reads and writes (R138 to R148). -/

namespace Sys2Proof.Machine

/-! Fields (R138). `d` is the descriptor's 512 bits. -/

def dOp (d : Nat) : Nat := bitsOf d 0 4
def dHint (d : Nat) : Nat := bitsOf d 4 2
def dPrio (d : Nat) : Nat := bitsOf d 6 2
def dWaitEn (d : Nat) : Bool := decide (bitsOf d 8 1 = 1)
def dWaitTok (d : Nat) : Nat := bitsOf d 9 9
def dSigEn (d : Nat) : Bool := decide (bitsOf d 18 1 = 1)
def dSigTok (d : Nat) : Nat := bitsOf d 19 9
def dTrans (d : Nat) : Bool := decide (bitsOf d 29 1 = 1)
def dFmt (d : Nat) : Nat := bitsOf d 32 4
def dPacked6 (d : Nat) : Bool := decide (bitsOf d 36 1 = 1)
def dSummEn (d : Nat) : Bool := decide (bitsOf d 37 1 = 1)
def dSub (d : Nat) : Nat := 256 / 2 ^ bitsOf d 42 2
def dW (d : Nat) : Nat := 2 ^ bitsOf d 44 2
def dEsize (d : Nat) : Nat := 2 ^ bitsOf d 46 2
def dGran (d : Nat) : Nat := 64 * 2 ^ bitsOf d 48 4
def dSrc (d : Nat) : Nat := bitsOf d 64 52
def dDst (d : Nat) : Nat := bitsOf d 128 52
def dStrideA (d : Nat) : Nat := bitsOf d 192 32
def dStrideB (d : Nat) : Nat := bitsOf d 224 32
def dCountA (d : Nat) : Nat := bitsOf d 256 16
def dCountB (d : Nat) : Nat := bitsOf d 272 32
def dSsLane (d : Nat) : Nat := bitsOf d 304 16
def dAux (d : Nat) : Nat := bitsOf d 320 52
def dScaleDst (d : Nat) : Nat := bitsOf d 384 52
def dQStart (d : Nat) : Nat := bitsOf d 448 16
def dRingLen (d : Nat) : Nat := bitsOf d 464 16
def dSsBlk (d : Nat) : Nat := bitsOf d 480 16

/-- Operand bytes, the rank of PANEL elements, their bits at the source (R34, R141). -/
def dRank (d : Nat) : Nat := (fmtRank (dFmt d)).getD 1
def dMx (d : Nat) : Bool := isMx (dFmt d)
def dPackedRun (d : Nat) : Bool := decide (dFmt d = 0xA) || (dPacked6 d && (decide (dFmt d = 8) || decide (dFmt d = 9)))
def dSrcBits (d : Nat) : Nat := if dFmt d ≠ 0xA ∧ dPackedRun d then 6 else elemBits (dFmt d)

/-- The ring steps a PANEL fills and its 32-element blocks (R141, R143). -/
def dSteps (d : Nat) : Nat := (dCountB d + dRank d - 1) / dRank d
def dBlocks (d : Nat) : Nat := if dMx d then (dCountB d + 31) / 32 else 0

/-- The first bit of PANEL element (ℓ, κ) at the source (R141). -/
def panelBit (d l k : Nat) : Nat :=
  if !dPackedRun d then 8 * (dSrc d + l * dStrideA d + k * dStrideB d)
  else if dStrideB d = 0 then 8 * (dSrc d + l * dStrideA d) + k * dSrcBits d
  else 8 * (dSrc d + k * dStrideB d) + l * dSrcBits d

/-- The panel row within the ring of lane ℓ in the descriptor's step `t` (R141). -/
def panelRow (d t l : Nat) : Nat := (dQStart d + t * dW d + l / 256) % max 1 (dRingLen d)

/-- The address of byte `b` of a panel row (R130). -/
def panelAddr (d q b : Nat) : Nat := skewAddr (dDst d + 1024 * q) b

/-- The address of the scale of lane ℓ, block `b` (R143). -/
def scaleAddr (d b l : Nat) : Nat :=
  let step := panelRow d (b * 32 / dRank d) 0 / dW d
  dScaleDst d + (step * dRank d / 32 * dW d + l / 256) * 256 + l % 256

/-! Extents (R133, R139): first and last byte. -/

def spanOf (a n : Nat) : Nat × Nat := (a, a + n - 1)

/-- The source side: data, index table, scales. -/
def srcExts (d : Nat) : List (Nat × Nat) :=
  let ca := max 1 (dCountA d)
  let cb := max 1 (dCountB d)
  match dOp d with
  | 1 => [(dSrc d, dSrc d + (ca - 1) * dStrideA d + cb - 1)]
  | 2 =>
    let last := panelBit d (ca - 1) (cb - 1) + dSrcBits d - 1
    (dSrc d, last / 8) :: (if dMx d then [(dAux d, dAux d + (ca - 1) * dSsLane d + (max 1 (dBlocks d) - 1) * dSsBlk d)] else [])
  | 3 => [(dSrc d, dSrc d + (cb - 1) * dStrideA d + dGran d - 1), spanOf (dAux d) (4 * ca)]
  | 4 => [spanOf (dSrc d) (ca * dGran d), spanOf (dAux d) (4 * ca)]
  | 5 => [spanOf (dSrc d) (ca * 0x40000)]
  | _ => []

/-- The destination side as the checks take it: PANEL names its whole ring and scale groups. -/
def dstExts (d : Nat) : List (Nat × Nat) :=
  let ca := max 1 (dCountA d)
  let cb := max 1 (dCountB d)
  match dOp d with
  | 1 =>
    if dTrans d then [(dDst d, dDst d + (max 1 (cb / dEsize d) - 1) * dStrideB d + ca * dEsize d - 1)]
    else [(dDst d, dDst d + (ca - 1) * dStrideB d + cb - 1)]
  | 2 => spanOf (dDst d) (1024 * max 1 (dRingLen d)) ::
      (if dMx d then [spanOf (dScaleDst d) (((max 1 (dRingLen d / dW d) - 1) * dRank d / 32 + 1) * dW d * 256)] else [])
  | 3 => [spanOf (dDst d) (ca * dGran d)]
  | 4 => [(dDst d, dDst d + (cb - 1) * dStrideA d + dGran d - 1)]
  | _ => []

/-- The lowest and highest byte that lanes 0 to `k - 1` of a panel row take (R130). -/
def rowSpan (a k : Nat) : Nat × Nat :=
  let rot := a / 1024 % 8
  let us := (upTo 0 ((4 * k + 127) / 128)).map (fun u => (a + 128 * ((u + rot) % 8), a + 128 * ((u + rot) % 8) + min 128 (4 * k - 128 * u) - 1))
  us.foldl (fun x y => (min x.1 y.1, max x.2 y.2)) (us.headD (a, a))

/-- The bytes a descriptor writes. -/
def dstTouched (d : Nat) : List (Nat × Nat) :=
  if dOp d = 2 then
    let rows := (upTo 0 (min (dSteps d) (dRingLen d / dW d))).flatMap (fun t =>
      (upTo 0 ((dCountA d + 255) / 256)).map (fun g =>
        rowSpan (dDst d + 1024 * panelRow d t (256 * g)) (min 256 (dCountA d - 256 * g))))
    let all := rows.foldl (fun x y => (min x.1 y.1, max x.2 y.2)) (rows.headD (dDst d, dDst d))
    all :: (dstExts d).tail
  else dstExts d

/-- The extent of a side: from its lowest to its highest byte, index tables included; none where it has no bytes (R133). -/
def hull : List (Nat × Nat) → Option (Nat × Nat)
  | [] => none
  | x :: xs => some (xs.foldl (fun a y => (min a.1 y.1, max a.2 y.2)) x)
def srcSide (d : Nat) : Option (Nat × Nat) := hull (srcExts d)
def dstSide (d : Nat) : Option (Nat × Nat) := hull (dstTouched d)

def overlap (x y : Nat × Nat) : Bool := decide (x.1 ≤ y.2) && decide (y.1 ≤ x.2)
def sidesOverlap (x y : Option (Nat × Nat)) : Bool := x.any (fun a => y.any (overlap a))

/-- A descriptor may not start beside an unfinished earlier one: one side's writes meet the other's extents (R133). -/
def descConflict (earlier d : Nat) : Bool :=
  sidesOverlap (dstSide earlier) (srcSide d) || sidesOverlap (dstSide earlier) (dstSide d) ||
    sidesOverlap (srcSide earlier) (dstSide d)

/-! Far tier and host window (R272, R275, R282, R286). -/

/-- The HDM entries that cover a far-tier offset, whether enabled or not. -/
def State.hdmCovers (s : State) (k f : Nat) : Bool :=
  let v := s.rd (reg1 .CXL_HDM 0 k)
  let b := fget v F.CXL_HDM_base_hi * 0x10000000
  let z := fget v F.CXL_HDM_size_hi * 0x10000000
  decide (b ≤ f) && decide (f < b + z) && decide (fget v F.CXL_HDM_ways ≠ 3) && decide (fget v F.CXL_HDM_gran ≠ 7)

/-- The CXL port of a far-tier offset: the lowest enabled entry that covers it (R282). -/
def State.farPort (s : State) (f : Nat) : Option Nat :=
  ((upTo 0 16).find? (fun k => decide (s.fld (reg1 .CXL_HDM 0 k) F.CXL_HDM_enable = 1) && s.hdmCovers k f)).map (fun k =>
    let v := s.rd (reg1 .CXL_HDM 0 k)
    let g := 256 * 2 ^ fget v F.CXL_HDM_gran
    let i := f / g % 2 ^ fget v F.CXL_HDM_ways
    bitsOf (s.rd (reg1 .CXL_HDM_TGT 0 k)).toNat (2 * i) 2)

/-- A far-tier offset of an entry that a removal disabled (R286). -/
def State.farLost (s : State) (f : Nat) : Bool := (s.farPort f).isNone && s.hdmLost.any (fun k => s.hdmCovers k f)

/-- Every byte of a far-tier range is decoded, or belongs to a removed entry; entries are multiples of 256 MiB (R283). -/
def State.farOk (s : State) (x : Nat × Nat) : Bool :=
  let lo := (x.1 - 0x1000000000000) / 0x10000000
  let hi := (x.2 - 0x1000000000000) / 0x10000000
  (upTo lo (hi + 1 - lo)).all (fun b => (s.farPort (b * 0x10000000)).isSome || s.farLost (b * 0x10000000))

def State.farHit (s : State) (x : Nat × Nat) : Bool :=
  let lo := (x.1 - 0x1000000000000) / 0x10000000
  let hi := (x.2 - 0x1000000000000) / 0x10000000
  (upTo lo (hi + 1 - lo)).any (fun b => s.farLost (b * 0x10000000))

/-- A host address within the window's limit (R272). -/
def State.hostOk (s : State) (a : Nat) : Bool :=
  let v := s.rd (reg0 .PCI_HOST_WIN 0)
  decide (fget v F.PCI_HOST_WIN_enable = 1) && decide (a ≤ 0x8000000000000 + fget v F.PCI_HOST_WIN_limit)

/-- The module can send requests to the host (R275). -/
def State.hostUp (s : State) : Bool :=
  let v := s.rd (reg0 .PCI_STATUS 0)
  decide (fget v F.PCI_STATUS_bus_master = 1) && decide (fget v F.PCI_STATUS_d3hot = 0) && decide (fget v F.PCI_STATUS_width ≠ 0)

/-! Checks (R139 to R148). -/

/-- An extent lies whole in one range that a move may reach (R139, R198). -/
def State.extOk (s : State) (x : Nat × Nat) : Bool :=
  match region x.1, region x.2 with
  | .stacked, .stacked => true
  | .slot n _, .slot k _ => decide (n = k)
  | .far, .far => s.farOk x
  | .host, .host => s.hostOk x.2
  | _, _ => false

/-- An extent that cannot be reached (R20, R25, R275, R286). -/
def State.extGone (s : State) (write : Bool) (x : Nat × Nat) : Bool :=
  match region x.1 with
  | .slot n _ => !s.alive n
  | .host => !s.hostUp
  | .far => write && s.farHit x
  | _ => false

/-- The reserved encodings of cause 0x01 (R138, R147). -/
def descReserved (n d : Nat) : Bool :=
  decide (dOp d > 5) || decide (dHint d = 3) || decide (dPrio d = 3) || decide (bitsOf d 42 2 = 3) ||
    decide (bitsOf d 44 2 = 3) || decide (bitsOf d 46 2 = 3) || decide (bitsOf d 48 4 > 10) || decide (dFmt d ≥ 0xC) ||
    (dWaitEn d && (tokRef n (dWaitTok d)).isNone) || (dSigEn d && (tokRef n (dSigTok d)).isNone)

/-- The misaligned addresses of cause 0x02 (R139, R146, R152). -/
def descMisaligned (d : Nat) : Bool :=
  match dOp d with
  | 2 => decide (dDst d % 1024 ≠ 0) || (dMx d && decide (dScaleDst d % 256 ≠ 0))
  | 3 => decide (dAux d % 64 ≠ 0) || decide (dSrc d % 64 ≠ 0) || decide (dDst d % 64 ≠ 0) || decide (dStrideA d % 64 ≠ 0)
  | 4 => decide (dAux d % 64 ≠ 0) || decide (dSrc d % 64 ≠ 0) || decide (dDst d % 64 ≠ 0) || decide (dStrideA d % 64 ≠ 0)
  | 5 => decide (dSrc d % 0x40000 ≠ 0)
  | _ => false

/-- The geometry of cause 0x03 (R140 to R144, R152). -/
def State.descGeometry (s : State) (n d : Nat) : Bool :=
  let ca := dCountA d
  let cb := dCountB d
  match dOp d with
  | 1 => decide (ca = 0) || decide (cb = 0) || decide (cb > 0x1000000) ||
      (dTrans d && (decide (ca * cb > 65536) || decide (cb % dEsize d ≠ 0)))
  | 2 =>
    let w := dW d
    let r := dRank d
    decide (ca = 0) || decide (ca > 1024) || decide (ca > 256 * w) || decide (cb = 0) || decide (cb > 65535) ||
      decide (dQStart d % w ≠ 0) || decide (dRingLen d % w ≠ 0) || decide (dRingLen d = 0) ||
      (dMx d && (decide (dQStart d / w * r % 32 ≠ 0) || decide (dRingLen d / w % (32 / r) ≠ 0))) ||
      (dPackedRun d && (decide (dStrideA d = 0) == decide (dStrideB d = 0))) ||
      (dSummEn d && (match region (dDst d) with
        | .slot k _ => decide (k ≠ n)
        | _ => true))
  | 3 => decide (ca = 0) || decide (cb = 0)
  | 4 => decide (ca = 0) || decide (cb = 0)
  | 5 =>
    let cfg := s.rd (purCfg (n / 16))
    decide (ca = 0) || decide (fget cfg F.PUR_DIE_CFG_source = 0) || decide (headOf cfg ≠ n % 16)
  | _ => false

/-- The lowest cause that applies when a descriptor starts, 0 when none does (R148). -/
def State.descCheck (s : State) (n d : Nat) : Nat :=
  if descReserved n d then 0x01
  else if dOp d = 0 then 0
  else if descMisaligned d || !(srcExts d ++ dstExts d).all s.extOk then 0x02
  else if s.descGeometry n d then 0x03
  else if (srcExts d).any (s.extGone false) || (dstExts d).any (s.extGone true) then 0x22
  else 0

/-! Transfers (R134, R140, R141, R143, R145). The position is (i, j): row and byte of a COPY; step and lane of a PANEL, then
block and lane of its scales; entry and byte of a GATHER or SCATTER; page of a CHAIN. -/

/-- Nothing is left to issue from position `i` on. -/
def xferEnd (d i : Nat) : Bool :=
  match dOp d with
  | 0 => true
  | 2 => decide (i ≥ dSteps d + dBlocks d)
  | _ => decide (i ≥ dCountA d)

/-- The bytes of the elements of a PANEL's lane `j` in its step `i`. -/
def panelElems (d i j : Nat) : List (Nat × Nat) :=
  (upTo 0 (dRank d)).filterMap (fun p =>
    let k := i * dRank d + p
    if k < dCountB d then
      let b := panelBit d j k
      some (b / 8, (b + dSrcBits d - 1) / 8 - b / 8 + 1)
    else none)

/-- The same bytes in pieces that cross no 2 KiB boundary. -/
def panelPieces (d i j : Nat) : List (Nat × Nat) :=
  (panelElems d i j).flatMap (fun x =>
    let n := 2048 - x.1 % 2048
    if x.2 ≤ n then [x] else [(x.1, n), (x.1 + n, x.2 - n)])

/-- The byte ranges a transfer reads: at most 2 KiB, none of them across a 2 KiB boundary and all of a PANEL's in one such
block, except that a granule of at most 2 KiB is one transfer (R134). `p` pieces of a PANEL's lane and step are already read;
`row` is the index entry of a GATHER or SCATTER. -/
def xferSrc (d i j p row : Nat) : List (Nat × Nat) :=
  let cut (a n : Nat) : List (Nat × Nat) := [(a, min n (2048 - a % 2048))]
  let granule (a : Nat) : List (Nat × Nat) := if dGran d ≤ 2048 then [(a + j, dGran d - j)] else cut (a + j) (dGran d - j)
  match dOp d with
  | 1 => cut (dSrc d + i * dStrideA d + j) (dCountB d - j)
  | 2 =>
    if i < dSteps d then
      match (panelPieces d i j).drop p with
      | [] => []
      | x :: xs => x :: xs.takeWhile (fun y => decide (y.1 / 2048 = x.1 / 2048))
    else [(dAux d + j * dSsLane d + (i - dSteps d) * dSsBlk d, 1)]
  | 3 => if row = 0xFFFFFFFF then [] else granule (dSrc d + row * dStrideA d)
  | 4 => if row = 0xFFFFFFFF then [] else granule (dSrc d + i * dGran d)
  | _ => []

/-- The transfer that begins `p` pieces into a PANEL's lane and step is the last of it; any other transfer stands alone. -/
def xferLast (d i j p : Nat) : Bool :=
  !(decide (dOp d = 2) && decide (i < dSteps d)) || decide ((panelPieces d i j).length ≤ p + (xferSrc d i j p 0).length)

/-- Bytes cut into pieces of given lengths. -/
def splitAs : List Nat → List Byte → List (List Byte)
  | [], _ => []
  | n :: ns, bs => bs.take n :: splitAs ns (bs.drop n)

/-- What a transfer that is the last of its place delivers, from all the bytes read for it: for a PANEL element by element. -/
def xferData (d i j : Nat) (bs : List Byte) : List (List Byte) :=
  if dOp d = 2 ∧ i < dSteps d then splitAs ((panelElems d i j).map (·.2)) bs else [bs]

/-- The value of PANEL element bits from the bytes that hold them. -/
def panelElem (d j k : Nat) (bs : List Byte) : Nat := bitsOf (leNat bs) (panelBit d j k % 8) (dSrcBits d)

/-- The four bytes of a lane in a ring step from its elements (R37, R141): FP6 in containers, nibbles low first. -/
def laneWord (d : Nat) (es : List Nat) : List Byte :=
  let e := elemBits (dFmt d)
  let x := (mapFrom 0 (fun p v => (if dFmt d = 8 ∨ dFmt d = 9 then v % 64 else v) * 2 ^ (p * e)) es).sum
  leBytes x 4

/-- The writes of a transfer from the bytes it read, range by range. -/
def xferDst (d i j row : Nat) (data : List (List Byte)) : List (Nat × List Byte) :=
  let bs := data.flatten
  match dOp d with
  | 1 =>
    if dTrans d then
      mapFrom j (fun t b => (dDst d + t / dEsize d * dStrideB d + i * dEsize d + t % dEsize d, [b])) bs
    else [(dDst d + i * dStrideB d + j, bs)]
  | 2 =>
    if i < dSteps d then
      [(panelAddr d (panelRow d i j) (4 * (j % 256)), laneWord d (mapFrom (i * dRank d) (fun k b => panelElem d j k b) data))]
    else [(scaleAddr d (i - dSteps d) j, bs)]
  | 3 => [(dDst d + i * dGran d + j, if row = 0xFFFFFFFF then List.replicate (dGran d - j) 0 else bs)]
  | 4 => if row = 0xFFFFFFFF then [] else [(dDst d + row * dStrideA d + j, bs)]
  | _ => []

/-- The position after a transfer of `n` source bytes. -/
def xferNext (d i j row n : Nat) : Nat × Nat :=
  match dOp d with
  | 1 => if j + n ≥ dCountB d then (i + 1, 0) else (i, j + n)
  | 2 => if j + 1 ≥ dCountA d then (i + 1, 0) else (i, j + 1)
  | 3 => if row = 0xFFFFFFFF ∨ j + n ≥ dGran d then (i + 1, 0) else (i, j + n)
  | 4 => if row = 0xFFFFFFFF ∨ j + n ≥ dGran d then (i + 1, 0) else (i, j + n)
  | _ => (i + 1, 0)

/-- What a PANEL transfer adds for the summaries (R38, R142): the ceilings of a lane's elements, or under the MX formats a
block's scale, which meets the block's elements at retire. -/
def MDesc.addCeilings (x : MDesc) (i j : Nat) (data : List (List Byte)) : MDesc :=
  let d := x.d
  if !dSummEn d || decide (dOp d ≠ 2) then x else
  let up (k : Nat) (v : Int) (t : Tbl Int) : Tbl Int := tput k (max v (tget v t k)) t
  if i < dSteps d then
    let vs := (mapFrom (i * dRank d) (fun k b => (k, elemVal (dFmt d) (panelElem d j k b))) data)
    vs.foldl (fun x (v : Nat × Val) =>
      match v.2.ceiling with
      | none => x
      | some c => if dMx d then { x with maxes := up (j * 4096 + v.1 / 32) c x.maxes } else { x with summ := up (j / dSub d) c x.summ })
      x
  else { x with scales := tput (j * 4096 + (i - dSteps d)) (leNat data.flatten) x.scales }

/-- The exact maximum ceiling of each sub-array over everything the descriptor wrote, block scales included; the elements of a
block under a NaN scale have none (R38, R39, R142). -/
def MDesc.summary (x : MDesc) : Tbl Int :=
  x.maxes.foldl (fun t p =>
    let sc := tget 0xFF x.scales p.1
    let k := p.1 / 4096 / dSub x.d
    let v := p.2 + (sc : Int) - 127
    if sc = 0xFF then t else tput k (max v (tget v t k)) t) x.summ

end Sys2Proof.Machine
end

