-- ==== Sys2Proof/Machine/Move.lean ====
section
/-! DEFINITION. The commands of the move engine (R129, R131 to R149, R157, R158, R189 to R192). -/

namespace Sys2Proof.Machine

def qReg (nm : RegName) (n m : Nat) : Reg := reg1 nm n m
def State.qHead (s : State) (n m : Nat) : Nat := s.fld (qReg .MOV_Q_HEAD n m) F.MOV_Q_HEAD_head
def State.qStart (s : State) (n m : Nat) : Nat := s.fld (qReg .MOV_Q_HEAD n m) F.MOV_Q_HEAD_start
def State.qDone (s : State) (n m : Nat) : Nat := s.fld (qReg .MOV_Q_HEAD n m) F.MOV_Q_HEAD_done
def State.qTail (s : State) (n m : Nat) : Nat := s.fld (qReg .MOV_Q_TAIL n m) F.MOV_Q_TAIL_tail
/-- The state of a queue: 0 IDLE, 1 RUNNING, 2 FAULTED, 3 CANCELLING (R160). -/
def State.qSt (s : State) (n m : Nat) : Nat := s.fld (qReg .MOV_Q_HEAD n m) F.MOV_Q_HEAD_state
def State.setQ (s : State) (n m : Nat) (f : Fld) (x : Nat) : State := s.setF (qReg .MOV_Q_HEAD n m) f x
def State.qEpoch (s : State) (n m : Nat) : Nat := s.fld (qReg .MOV_Q_CFG n m) F.MOV_Q_CFG_epoch
/-- Ring entries: 2^size, from 16 to 4,096 (R131). -/
def State.qSize (s : State) (n m : Nat) : Nat := 2 ^ s.fld (qReg .MOV_Q_BASE n m) F.MOV_Q_BASE_size
/-- The byte offset of ring entry `i` in the slot (R131). -/
def State.qEntry (s : State) (n m i : Nat) : Nat :=
  s.fld (qReg .MOV_Q_BASE n m) F.MOV_Q_BASE_base_row * 1024 + 64 * (i % s.qSize n m)
def State.qEnabled (s : State) (n m : Nat) : Bool := (s.rd (reg0 .MOV_CTRL n)).getLsbD m
/-- a − b modulo 2^16 (R131). -/
def sub16 (a b : Nat) : Nat := (a + 65536 - b) % 65536

/-- Transfers in flight. -/
def MQueue.flying (q : MQueue) : Nat := (q.started.map (fun d => d.fly.length)).sum + q.old.length

/-- A queue replaced; its outstanding count follows (R160). -/
def State.putQue (s : State) (n m : Nat) (q : MQueue) : State :=
  (s.setQue n m q).setQ n m F.MOV_Q_HEAD_outstanding (min 64 q.flying)

/-- RUNNING while an entry has not retired, IDLE otherwise (R160; log 28). -/
def State.qWork (s : State) (n m : Nat) : State :=
  if s.qSt n m ≥ 2 then s else s.setQ n m F.MOV_Q_HEAD_state (if s.qDone n m = s.qTail n m then 0 else 1)

/-- The wait of the next descriptor to start is withdrawn (R147, R190). -/
def State.qWithdraw (s : State) (n m : Nat) : State :=
  match (s.que n m).fetched with
  | (_, d) :: _ =>
    if dWaitEn d then
      match tokRef n (dWaitTok d) with
      | some t => s.tokDrop n (4 + m) t 1
      | none => s
    else s
  | [] => s

/-- A queue fault (R147): the descriptor at a ring index and the later started ones stop, the fetched ones are discarded,
start and head return to it. -/
def State.movFault (s : State) (n m idx cause entry : Nat) : State :=
  let s := s.qWithdraw n m
  let q := s.que n m
  let keep := q.started.takeWhile (fun x => decide (x.idx ≠ idx))
  let stop := q.started.drop keep.length
  let s := s.putQue n m { q with
    fetched := [], bad := [], started := keep, old := q.old ++ stop.flatMap (·.fly), held := [] }
  let s := ((s.setQ n m F.MOV_Q_HEAD_start idx).setQ n m F.MOV_Q_HEAD_head idx).setQ n m F.MOV_Q_HEAD_state 2
  let e := fset (fset (fset 0 F.MOV_Q_ERR_cause cause) F.MOV_Q_ERR_index idx) F.MOV_Q_ERR_entry entry
  ((s.wr (qReg .MOV_Q_ERR n m) e).event (s.phys n) 0x0201 [(n, 2), (m, 1), (cause, 1), (idx, 2)]).syncHold n

/-- A ring overrun leaves no descriptor at fault; the error register names head, where fetching resumes (R131, R147; log 28). -/
def State.ringOverrun (s : State) (n m : Nat) : State :=
  let h := s.qHead n m
  let s := s.setQ n m F.MOV_Q_HEAD_state 2
  let e := fset (fset 0 F.MOV_Q_ERR_cause 0x06) F.MOV_Q_ERR_index h
  (s.wr (qReg .MOV_Q_ERR n m) e).event (s.phys n) 0x0201 [(n, 2), (m, 1), (0x06, 1), (h, 2)]

/-- MOV_TAIL_WRITE: the producer index advances (R131). -/
def State.movTail (s : State) (n m tail : Nat) : State :=
  (s.setF (qReg .MOV_Q_TAIL n m) F.MOV_Q_TAIL_tail tail).qWork n m
def execMovTailWrite (n : CoreId) (m : Fin 8) (tail : BitVec 16) (s : State) : Host.Outcome State Fault Refusal :=
  .next (if s.remap n ≠ 0 then { s with rstatus := .unavailableTarget } else s.movTail n m tail.toNat)

/-- DESCRIPTOR_FETCH: a burst of entries is read, when at most 32 fetched entries stay unstarted (R131, R132). An entry read
with an uncorrectable error faults its queue when its turn to start comes, so that the entries before it run (R129, R147). -/
def execDescriptorFetch (n : CoreId) (m : Fin 8) (e : Ecc) (s : State) : Host.Outcome State Fault Refusal :=
  .next (
    let q := s.que n m
    let h := s.qHead n m
    let left := sub16 (s.qTail n m) h
    let k := min left (s.fld (qReg .MOV_Q_CFG n m) F.MOV_Q_CFG_burst_m1 + 1)
    if !s.alive n || !s.qEnabled n m || decide (s.qSt n m ≥ 2) || decide (left = 0) then s
    else if left > s.qSize n m then s.ringOverrun n m
    else if q.fetched.length + k > 32 ∨ !q.old.isEmpty then s
    else
      let r := (upTo 0 k).foldl (fun (r : State × List (Nat × Nat) × List Nat) i =>
        let x := (h + i) % 65536
        let o := r.1.qEntry n m x
        let c := r.1.tmCheck n o 64 (if i = 0 then e else .ok)
        let s := if o + 64 > slotSize then c.1.decodeErr n (slotBase n + o) else c.1
        (s, r.2.1 ++ [(x, leNat (s.tmRead n o 64))], if c.2 then r.2.2 ++ [x] else r.2.2)) (s, [], [])
      let s := r.1.putQue n m { q with fetched := q.fetched ++ r.2.1, bad := q.bad ++ r.2.2 }
      (s.setQ n m F.MOV_Q_HEAD_head ((h + k) % 65536)).stall .mov n 0)

/-- The window slots that ranges of stacked memory touch, given by first and last byte (R222). -/
def State.slotsOf (s : State) (xs : List (Nat × Nat)) : List (Nat × Nat) :=
  xs.flatMap (fun x => (upTo 0 4).flatMap (fun k =>
    let w := s.win k
    let lo := max x.1 w.base
    let hi := min x.2 (w.base + w.pages * 0x40000 - 1)
    if w.pages = 0 ∨ hi < lo then [] else
    (upTo ((lo - w.base) / 0x40000) ((hi - w.base) / 0x40000 + 1 - (lo - w.base) / 0x40000)).map (fun p => (k, p))))

/-- The window slots that a descriptor's source touches (R222). -/
def State.srcSlots (s : State) (d : Nat) : List (Nat × Nat) := s.slotsOf (srcExts d)

/-- Whether every retry source of a poisoned slot has failed (R224). -/
def State.slotDead (s : State) (k : Nat × Nat) : Bool :=
  decide (s.slotSt k.1 k.2 = 3) && decide (tget 0 (s.win k.1).retry k.2 = 5)

/-- A started descriptor has completed: its last write has landed (R136). -/
def MDesc.completed (x : MDesc) : Bool := xferEnd x.d x.i && x.fly.isEmpty && x.badEntry.isNone

/-- A descriptor as it starts. -/
def MDesc.fresh (idx d : Nat) : MDesc :=
  { idx := idx, d := d, i := 0, j := 0, p := 0, got := [], row := none, fly := [], maxes := [], scales := [], summ := []
    badEntry := none, held := [] }

/-- A descriptor starts, if the conditions of R133 and R222 hold; `want` says which operations the command starts. -/
def State.descStart (s : State) (n m : Nat) (want : Nat → Bool) : State :=
  let q := s.que n m
  match q.fetched with
  | [] => s
  | (idx, d) :: rest =>
    if !s.alive n || !s.qEnabled n m || decide (s.qSt n m ≠ 1) || !want (dOp d) then s
    else if q.bad.contains idx then s.movFault n m idx 0x20 0
    else
    let slots := if dOp d = 0 then [] else s.srcSlots d
    if slots.any s.slotDead then s.movFault n m idx 0x21 0
    else if slots.any s.slotHeld then
      ((s.putQue n m { q with held := slots.filter s.slotHeld }).syncHold n).stall .mov n 11
    else
    let s := if q.held ≠ [] then (s.putQue n m { q with held := [] }).syncHold n else s
    let q := s.que n m
    if slots.any (fun k => decide (s.slotSt k.1 k.2 = 1)) then s.stall .mov n 2
    else if bitsOf d 30 1 = 1 ∧ q.started.any (fun x => !x.completed) then s.stall .mov n 0
    else if q.started.any (fun x => !x.completed && descConflict x.d d) then s.stall .mov n 0
    else if q.flying > s.fld (qReg .MOV_Q_CFG n m) F.MOV_Q_CFG_max_out_m1 then s.stall .mov n 0
    else
    let tok := if dWaitEn d then tokRef n (dWaitTok d) else none
    let r : State × Option Nat := match tok with
      | none => (s, none)
      | some t =>
        let w := s.tokWait n (4 + m) t 1
        (w.1, if w.2 then none else some (s.waitCode n t))
    match r.2 with
    | some code => r.1.stall .mov n code
    | none =>
      let s := r.1
      let c := s.descCheck n d
      let s := s.putQue n m { s.que n m with
        fetched := rest, started := q.started ++ [.fresh idx d] }
      let s := (s.setQ n m F.MOV_Q_HEAD_start ((idx + 1) % 65536)).stall .mov n 0
      if c = 0 then s else s.movFault n m idx c 0

def execDescriptorStart (n : CoreId) (m : Fin 8) (s : State) : Host.Outcome State Fault Refusal :=
  .next (s.descStart n m (fun _ => true))

/-! Transfers. -/

/-- What a source read answers. -/
inductive SrcRead where
  | data (bs : List Byte)
  | fault (cause : Nat)
  | held                     -- a CORRECT page of a window was found bad
  | host                     -- a request was sent to the host
  deriving DecidableEq, Repr

/-- A read of a source range of a descriptor's transfer, in its class and with its hint (R129, R135, R205, R272, R275, R285). -/
def State.srcRead (s : State) (n d a len : Nat) (e : Ecc) : State × SrcRead :=
  match region a with
  | .stacked =>
    let r := s.stackedRead a len (dHint d) (dPrio d) e
    match r.bad with
    | none => (r.st, .data r.bytes)
    | some (b, _) =>
      let s := r.st.afterBad b true
      (s, if (s.winSlot b).isSome ∧ !(s.pageClass (b / 0x40000)).1 then .held else .fault 0x20)
  | .slot k o =>
    if !s.alive k then (s, .fault 0x22) else
    let c := s.tmCheck k o (min len (slotSize - o)) e
    let s := if o + len > slotSize then c.1.decodeErr n a else c.1
    if c.2 then (s, .fault 0x20) else (s, .data (s.tmRead k o len))
  | .far =>
    let f := a - 0x1000000000000
    if s.farLost f then (s, .fault 0x20) else
    match s.farPort f with
    | none => (s, .fault 0x02)
    | some p =>
      if e = .double then
        ((s.bumpF (reg0 .CXL_ERR (p + 1)) F.CXL_ERR_poisoned).edge (593 + 2 * p), .fault 0x20)
      else (s, .data (readBytes s.mem a len))
  | .host => if !s.hostOk (a + len - 1) then (s, .fault 0x02) else if !s.hostUp then (s, .fault 0x22) else (s, .host)
  | _ => (s, .fault 0x02)

/-- The source ranges of a transfer, read in order; the outcome of the first that is not plain data stands. -/
def State.srcReads (n d : Nat) (e : Ecc) : State → List (Nat × Nat) → State × List (List Byte) × Option SrcRead
  | s, [] => (s, [], none)
  | s, x :: xs =>
    let r := s.srcRead n d x.1 x.2 e
    match r.2 with
    | .data bs =>
      let t := State.srcReads n d .ok r.1 xs
      (t.1, bs :: t.2.1, t.2.2)
    | o => (r.1, [], some o)

/-- A write of a descriptor's transfer lands: its bytes, or the cause that stops it (R20, R30, R136, R286); `e` is what the read of a word
of tile memory written in part finds (R129). -/
def State.dstWrite (s : State) (n d a : Nat) (bs : List Byte) (e : Ecc) : State × Nat :=
  match region a with
  | .stacked => (s.stackedWrite a bs (dHint d) (dPrio d), 0)
  | .slot k o =>
    if !s.alive k then (s, 0x22) else
    let s := if o + bs.length > slotSize then s.decodeErr n a else s
    (s.putCellsE (mapFrom a (fun x b => (x, b)) (bs.take (slotSize - o))) e, 0)
  | .far => if s.farLost (a - 0x1000000000000) then (s, 0x22) else (s.setMem (writeBytes s.mem a bs), 0)
  | .host => if s.hostUp then (s.setMem (writeBytes s.mem a bs), 0) else (s, 0x22)
  | _ => (s, 0)

/-- A started descriptor of a queue replaced. -/
def State.putDesc (s : State) (n m : Nat) (x : MDesc) : State :=
  let q := s.que n m
  s.putQue n m { q with started := q.started.map (fun y => if y.idx = x.idx then x else y) }

/-- The index entry that a GATHER or SCATTER meets at its position, read once as the engine reaches it (R145). -/
def State.readRow (s : State) (n : Nat) (x : MDesc) (e : Ecc) : State × MDesc × Option SrcRead :=
  if dOp x.d ≠ 3 ∧ dOp x.d ≠ 4 then (s, { x with row := some 0 }, none) else
  match x.row with
  | some _ => (s, x, none)
  | none =>
    let r := s.srcRead n x.d (dAux x.d + 4 * x.i) 4 e
    match r.2 with
    | .data bs =>
      let v := leNat bs
      if dCountB x.d ≤ v ∧ v < 0xFFFFFFFF then (r.1, { x with badEntry := some x.i }, none)
      else (r.1, { x with row := some v }, none)
    | .host =>
      let v := leNat (readBytes s.mem (dAux x.d + 4 * x.i) 4)
      if dCountB x.d ≤ v ∧ v < 0xFFFFFFFF then (r.1, { x with badEntry := some x.i }, none)
      else (r.1, { x with row := some v }, none)
    | o => (r.1, x, some o)

/-- A descriptor that met an index out of range faults once every earlier granule has landed (R146). -/
def State.checkEntry (s : State) (n m idx : Nat) : State :=
  match (s.que n m).started.find? (fun x => decide (x.idx = idx)) with
  | some x =>
    match x.badEntry with
    | some e => if x.fly.isEmpty then s.movFault n m idx 0x05 e else s
    | none => s
  | none => s

/-- The range that a descriptor's next transfer reads first: its index entry if it has not been read, else its source. -/
def MDesc.nextReads (x : MDesc) : List (Nat × Nat) :=
  if (dOp x.d = 3 ∨ dOp x.d = 4) ∧ x.row.isNone then [(dAux x.d + 4 * x.i, 4)] else xferSrc x.d x.i x.j x.p (x.row.getD 0)

/-- The window slots of those reads. -/
def State.nextSlots (s : State) (x : MDesc) : List (Nat × Nat) := s.slotsOf (x.nextReads.map (fun r => spanOf r.1 r.2))

/-- A started descriptor waits for pages: they are noted, and MOV_HOLD follows (R222, R223). -/
def State.holdDesc (s : State) (n m : Nat) (x : MDesc) (slots : List (Nat × Nat)) : State :=
  ((s.putDesc n m { x with held := slots.filter s.slotHeld }).syncHold n).stall .mov n 11

/-- One transfer of a started descriptor issues (R134): its source is read and its writes are ready to land. A source page that
is POISONED or RETRYING holds it back, and one whose every retry source has failed faults it (R222 to R224). -/
def State.xferIssue (s : State) (n m : Nat) (x : MDesc) (e : Ecc) : State :=
  if (s.nextSlots x).any s.slotDead then s.movFault n m x.idx 0x21 0
  else if (s.nextSlots x).any s.slotHeld then s.holdDesc n m x (s.nextSlots x)
  else
  let r := s.readRow n x e
  let s := r.1
  let x := r.2.1
  match r.2.2 with
  | some (.fault c) => s.movFault n m x.idx c 0
  | some _ => s.holdDesc n m x (s.nextSlots x)
  | none =>
    if x.badEntry.isSome then (s.putDesc n m x).checkEntry n m x.idx
    else if (s.nextSlots x).any s.slotDead then s.movFault n m x.idx 0x21 0
    else if (s.nextSlots x).any s.slotHeld then s.holdDesc n m x (s.nextSlots x)
    else
    let row := x.row.getD 0
    let src := xferSrc x.d x.i x.j x.p row
    let t := State.srcReads n x.d e s src
    let s := t.1
    let len := (src.map (·.2)).sum
    let last := xferLast x.d x.i x.j x.p
    let next := if last then xferNext x.d x.i x.j row len else (x.i, x.j)
    let fly (w : List (Nat × List Byte)) (host : Bool) : Xfer := ⟨x.i, x.j, row, x.p, w, s.qEpoch n m, host, x.d⟩
    let go (x' : MDesc) (got : List Byte) (f : Xfer) : State :=
      let x' := { x' with
        i := next.1, j := next.2, p := if last then 0 else x.p + src.length, got := if last then [] else got
        row := if next.1 = x.i then x.row else none, fly := x'.fly ++ [f], held := [] }
      let s := s.putDesc n m x'
      (if x.held ≠ [] then s.syncHold n else s).stall .mov n 0
    match t.2.2 with
    | none =>
      let got := x.got ++ t.2.1.flatten
      let data := xferData x.d x.i x.j got
      if last then go (x.addCeilings x.i x.j data) got (fly (xferDst x.d x.i x.j row data) false)
      else go x got (fly [] false)
    | some .host => go x [] (fly [] true)
    | some (.fault c) => s.movFault n m x.idx c 0
    | some _ => s.holdDesc n m x (s.nextSlots x)

/-- The first started descriptor with a transfer left to issue. -/
def MQueue.nextIssue (q : MQueue) (want : Nat → Bool) : Option MDesc :=
  q.started.find? (fun x => !xferEnd x.d x.i && x.badEntry.isNone && decide (dOp x.d ≠ 5) && want (dOp x.d))

/-- The stall code of a transfer that the environment holds back: none where its source cannot be what holds it (R24, R125,
R158). -/
def holdCode (x : MDesc) : Hold → Option Nat
  | .none => none
  | .bank => some 4
  | .fabric => some 9
  | .far => if x.nextReads.any (fun r => match region r.1 with
      | .far => true
      | _ => false) then some 10 else none
  | .ramp => none

/-- The read requests that ranges of the host window are sent as: the module splits them by Max Read Request Size (R268). -/
def State.hostRequests (s : State) (rs : List (Nat × Nat)) : Nat :=
  let most := 128 * 2 ^ s.host.mrrs
  (rs.map (fun r => if region r.1 = .host then (r.2 + most - 1) / most else 0)).sum

/-- The non-posted requests to the host that are outstanding (R268). -/
def State.hostAsked (s : State) : Nat :=
  (s.cores.map (fun c => ((upTo 0 8).map (fun m =>
    ((((s.que c.1 m).old ++ (s.que c.1 m).started.flatMap (·.fly)).filter (·.host)).map (fun f =>
      s.hostRequests (xferSrc f.d f.i f.j f.p f.row))).sum)).sum)).sum

/-- A read of host memory that would pass 1,024 outstanding requests waits (R268, R272). -/
def State.hostFull (s : State) (x : MDesc) : Bool :=
  x.nextReads.any (fun r => decide (region r.1 = .host)) && s.hostUp &&
    decide (1024 < s.hostAsked + s.hostRequests x.nextReads)

/-- A port in REMOVING takes no new request: an access of the far tier that it serves waits (R286). -/
def State.farWaits (s : State) (as : List Nat) : Bool :=
  as.any (fun a => decide (region a = .far) && (s.farPort (a - 0x1000000000000)).any (fun p =>
    decide (s.fld (reg0 .CXL_STATUS (p + 1)) F.CXL_STATUS_state = 3)))

/-- A queue issues its next transfer, when a credit is free and nothing holds it back (R134). -/
def State.movIssue (s : State) (n m : Nat) (want : Nat → Bool) (e : Ecc) (h : Hold) : State :=
  let q := s.que n m
  if !s.alive n || decide (s.qSt n m = 3) then s
  else if q.flying > s.fld (qReg .MOV_Q_CFG n m) F.MOV_Q_CFG_max_out_m1 then s
  else
    match q.nextIssue want with
    | some x =>
      match holdCode x h with
      | some c => s.stall .mov n c
      | none =>
        if s.farWaits (x.nextReads.map (·.1)) then s.stall .mov n 10
        else if s.hostFull x then s.stall .mov n 0 else s.xferIssue n m x e
    | none => s

def execTransferIssue (n : CoreId) (m : Fin 8) (e : Ecc) (h : Hold) (s : State) : Host.Outcome State Fault Refusal :=
  .next (s.movIssue n m (fun _ => true) e h)

/-- The writes of a transfer land in order; the first that cannot stops them. -/
def State.landAll (n d : Nat) (e : Ecc) : State → List (Nat × List Byte) → State × Nat
  | s, [] => (s, 0)
  | s, w :: ws =>
    let r := s.dstWrite n d w.1 w.2 e
    if r.2 = 0 then State.landAll n d .ok r.1 ws else r

/-- The next transfer whose data has arrived lands, and its credit is returned; those of stopped descriptors first, which
complete, and those of a cancelled epoch, which are dropped (R134, R137, R147, R190). It lands under its descriptor's cache hint
(R135). -/
def State.movLand (s : State) (n m : Nat) (e : Ecc) : State :=
  let q := s.que n m
  if !s.alive n then s else
  match q.old.find? (fun x => !x.host) with
  | some x =>
    let s := s.putQue n m { q with old := q.old.erase x }
    if s.qSt n m = 3 then s else (State.landAll n x.d e s x.writes).1
  | none =>
    match q.started.find? (fun x => x.fly.head?.any (fun f => !f.host)) with
    | none => s
    | some x =>
      match x.fly with
      | [] => s
      | f :: fs =>
        if s.farWaits (f.writes.map (·.1)) then s.stall .mov n 10 else
        let r := State.landAll n x.d e (s.putDesc n m { x with fly := fs }) f.writes
        if r.2 = 0 then r.1.checkEntry n m x.idx else r.1.movFault n m x.idx r.2 0

def execTransferWriteLand (n : CoreId) (m : Fin 8) (e : Ecc) (s : State) : Host.Outcome State Fault Refusal :=
  .next (s.movLand n m e)

/-- Transfers of the oldest descriptor issue and land until it has none left, a fault or a wait stops it, or `k` are done. What
its first read finds is given. -/
def State.movRun (n m : Nat) (want : Nat → Bool) (e : Ecc) : Nat → State → State
  | 0, s => s
  | k + 1, s =>
    match (s.que n m).nextIssue want with
    | none => s
    | some x =>
      let t := (s.movIssue n m want e .none).movLand n m .ok
      match (t.que n m).nextIssue want with
      | some y => if y.idx = x.idx ∧ y.i = x.i ∧ y.j = x.j ∧ y.p = x.p then t else State.movRun n m want .ok k t
      | none => t

/-- The most transfers that the first started descriptor of an operation can need. -/
def State.movFuel (s : State) (n m : Nat) (op : Nat) : Nat :=
  match (s.que n m).nextIssue (fun o => decide (o = op)) with
  | none => 0
  | some x =>
    match op with
    | 1 => dCountA x.d * (dCountB x.d / 2048 + 2)
    | 2 => (dSteps x.d * 16 + dBlocks x.d) * dCountA x.d
    | _ => dCountA x.d * (dGran x.d / 2048 + 2)

/-- A descriptor of one operation starts, if it is the next to start, and the oldest of that operation moves its data. -/
def State.descRun (s : State) (n m op : Nat) (e : Ecc) : State :=
  let s := s.descStart n m (fun o => decide (o = op))
  State.movRun n m (fun o => decide (o = op)) e (s.movFuel n m op) s

/-- A NOP starts, waits and signals like any descriptor and moves nothing (R138). -/
def execMoveNop (n : CoreId) (m : Fin 8) (s : State) : Host.Outcome State Fault Refusal :=
  .next (s.descStart n m (fun o => decide (o = 0)))
def execCopy (n : CoreId) (m : Fin 8) (e : Ecc) (s : State) : Host.Outcome State Fault Refusal := .next (s.descRun n m 1 e)
def execPanel (n : CoreId) (m : Fin 8) (e : Ecc) (s : State) : Host.Outcome State Fault Refusal := .next (s.descRun n m 2 e)
def execGather (n : CoreId) (m : Fin 8) (e : Ecc) (s : State) : Host.Outcome State Fault Refusal := .next (s.descRun n m 3 e)
def execScatter (n : CoreId) (m : Fin 8) (e : Ecc) (s : State) : Host.Outcome State Fault Refusal := .next (s.descRun n m 4 e)

/-- The 128 transfers of a page of a CHAIN descriptor, 2 KiB each, one credit at a time (R134, R152). -/
def pageReads (a : Nat) : List (Nat × Nat) := (upTo 0 128).map (fun k => (a + 2048 * k, 2048))

/-- The next page of a started CHAIN descriptor of a core enters the chain of its die once its transfers have brought it there
(R134, R152). -/
def State.chainInject (s : State) (n : Nat) (e : Ecc) : State :=
  let d := n / 16
  let cfg := s.rd (purCfg d)
  if !s.alive n || decide (fget cfg F.PUR_DIE_CFG_source = 0) || decide (headOf cfg ≠ n % 16) || !s.canInject d then s else
  match (upTo 0 8).findSome? (fun m =>
    if s.qSt n m = 3 then none else
    ((s.que n m).started.find? (fun x => decide (dOp x.d = 5) && !xferEnd x.d x.i)).map (fun x => (m, x))) with
  | none => s
  | some (m, x) =>
    let a := dSrc x.d + 0x40000 * x.i
    let slots := s.slotsOf [spanOf a 0x40000]
    if (s.que n m).flying > s.fld (qReg .MOV_Q_CFG n m) F.MOV_Q_CFG_max_out_m1 then s
    else if slots.any s.slotDead then s.movFault n m x.idx 0x21 0
    else if slots.any s.slotHeld then s.holdDesc n m x slots
    else
    let r := State.srcReads n x.d e s (pageReads a)
    let go (s : State) (bs : List Byte) : State :=
      (((s.inject d (cellsFrom 0 bs) false).putDesc n m { x with i := x.i + 1, held := [] }).syncHold n).stall .mov n 0
    match r.2.2 with
    | none => go r.1 r.2.1.flatten
    | some .host => go r.1 (readBytes s.mem a 0x40000)
    | some (.fault c) => r.1.movFault n m x.idx c 0
    | some _ => r.1.holdDesc n m x slots

/-- CHAIN: a CHAIN descriptor starts if it is the next to start, and injects its next page (R152). -/
def execChain (n : CoreId) (m : Fin 8) (e : Ecc) (s : State) : Host.Outcome State Fault Refusal :=
  .next ((s.descStart n m (fun o => decide (o = 5))).chainInject n e)

/-- A summary deposited in OPE_SUMM by replacement or by maximum (R72, R142). -/
def State.deposit (s : State) (n d : Nat) (summ : Tbl Int) : State :=
  let subs := (dCountA d + dSub d - 1) / dSub d
  (upTo 0 subs).foldl (fun s k =>
    let r : Reg := ⟨.OPE_SUMM, n, bitsOf d 39 3, k / 4⟩
    let f : Fld := ⟨16 * (k % 4), 16⟩
    let new := (summ.find? (fun p => decide (p.1 = k))).map (·.2)
    let old := s.fld r f
    let v : Nat := match new with
      | none => if bitsOf d 38 1 = 1 then old else 0x8000
      | some x => if bitsOf d 38 1 = 1 ∧ old ≠ 0x8000 then unsignedOf 16 (max x (signedOf 16 old)) else unsignedOf 16 x
    s.setF r f v) s

/-- DESCRIPTOR_RETIRE: the oldest descriptor retires once it has completed: summaries, done, signal, event (R136). -/
def execDescriptorRetire (n : CoreId) (m : Fin 8) (s : State) : Host.Outcome State Fault Refusal :=
  .next (
    let q := s.que n m
    match q.started with
    | [] => s
    | x :: rest =>
      if !s.alive n || decide (s.qSt n m = 3) || !xferEnd x.d x.i || !x.fly.isEmpty || x.badEntry.isSome then s else
      let s := if dOp x.d = 2 ∧ dSummEn x.d then s.deposit n x.d x.summary else s
      let done := (x.idx + 1) % 65536
      let s := (s.putQue n m { q with started := rest }).setQ n m F.MOV_Q_HEAD_done done
      let s := if dSigEn x.d then
          match tokRef n (dSigTok x.d) with
          | some t => s.signal n t 1
          | none => s
        else s
      let s := if bitsOf x.d 28 1 = 1 then
          (s.edge (8 * n + 3)).event (s.phys n) 0x0202 [(n, 2), (m, 1), (done, 2)] else s
      (s.qWork n m).stall .mov n 0)

/-- MOV_FAULT_CLEAR: the queue restarts at the faulting descriptor, fetched again (R147). -/
def State.movFaultClear (s : State) (n m : Nat) : State :=
  if !s.alive n || decide (s.qSt n m ≠ 2) then s else (s.setQ n m F.MOV_Q_HEAD_state 1).qWork n m
def execMovFaultClear (n : CoreId) (m : Fin 8) (s : State) : Host.Outcome State Fault Refusal := .next (s.movFaultClear n m)

/-- MOV_SKIP_CLEAR: the faulting descriptor retires without effect; after a ring overrun nothing is retired (R147). -/
def State.movSkipClear (s : State) (n m : Nat) : State :=
  if !s.alive n || decide (s.qSt n m ≠ 2) then s else
  let cause := s.fld (qReg .MOV_Q_ERR n m) F.MOV_Q_ERR_cause
  let s := s.setQ n m F.MOV_Q_HEAD_state 1
  if cause = 0x06 then s else
  let h := s.qHead n m
  let q := s.que n m
  let s := s.putQue n m { q with started := q.started ++ [.fresh h 0] }
  ((s.setQ n m F.MOV_Q_HEAD_start ((h + 1) % 65536)).setQ n m F.MOV_Q_HEAD_head ((h + 1) % 65536))
def execMovSkipClear (n : CoreId) (m : Fin 8) (s : State) : Host.Outcome State Fault Refusal := .next (s.movSkipClear n m)

/-- MOV_CANCEL: the epoch rises and unstarted and started work is abandoned (R189, R190). -/
def State.movCancel (s : State) (n m : Nat) : State :=
  if s.qSt n m = 3 then s else
  let s := s.qWithdraw n m
  let q := s.que n m
  let tail := s.qTail n m
  let undone := sub16 tail (s.qDone n m)
  let s := s.setF (qReg .MOV_Q_CFG n m) F.MOV_Q_CFG_epoch ((s.qEpoch n m + 1) % 2 ^ 32)
  let s := s.putQue n m { q with
    fetched := [], bad := [], started := [], old := q.old ++ q.started.flatMap (·.fly), cut := q.flying, cancelTail := tail
    undone := undone, held := [] }
  let s := ((s.setQ n m F.MOV_Q_HEAD_start tail).setQ n m F.MOV_Q_HEAD_head tail).setQ n m F.MOV_Q_HEAD_state 3
  let r := reg0 .MOV_CANCEL n
  (s.wr r (s.rd r ||| BitVec.ofNat 64 (2 ^ m))).syncHold n
def execMovCancel (n : CoreId) (m : Fin 8) (s : State) : Host.Outcome State Fault Refusal :=
  .next (if s.remap n ≠ 0 then { s with rstatus := .unavailableTarget } else s.movCancel n m)

/-- CANCEL_ACK: with no old-epoch transfer outstanding and no withdrawn wait unanswered the cancel is acknowledged (R190,
R191). -/
def execCancelAck (n : CoreId) (m : Fin 8) (s : State) : Host.Outcome State Fault Refusal :=
  .next (
    let q := s.que n m
    if !s.alive n || decide (s.qSt n m ≠ 3) || !q.old.isEmpty || s.withdrawn.any (fun w => decide (w.req = reqId n (4 + m))) then s
    else
    let rec' := fset (fset (fset 0 F.MOV_Q_CANCEL_epoch (s.qEpoch n m)) F.MOV_Q_CANCEL_descriptors (min 65535 q.undone))
      F.MOV_Q_CANCEL_transfers (min 65535 q.cut)
    let s := (s.setQ n m F.MOV_Q_HEAD_done q.cancelTail).wr (qReg .MOV_Q_CANCEL n m) rec'
    let c := s.rd (qReg .MOV_Q_CANCEL_TOK n m)
    let s := if fget c F.MOV_Q_CANCEL_TOK_tok_en = 1 then
        match tokRef n (fget c F.MOV_Q_CANCEL_TOK_tok) with
        | some t => s.signal n t 1
        | none => s
      else s
    let s := if fget c F.MOV_Q_CANCEL_TOK_event = 1 then
        (s.edge (8 * n + 4)).event (s.phys n) 0x0203 [(n, 2), (m, 1), (rec'.toNat, 8)] else s
    let r := reg0 .MOV_CANCEL n
    let s := s.wr r (s.rd r &&& ~~~(BitVec.ofNat 64 (2 ^ m.val)))
    (s.setQ n m F.MOV_Q_HEAD_state 0).qWork n m)

/-- The 12 stall counters of an engine cleared (R157); a core that does not serve its number discards the write (R20). -/
def State.clearStalls (s : State) (n : Nat) (e : Eng) : State :=
  if !s.alive n then s else (upTo 0 12).foldl (fun s c => s.wr (stallReg e n c) 0) s
def execClrOpe (n : CoreId) (s : State) : Host.Outcome State Fault Refusal := .next (s.clearStalls n .ope)
def execClrVe (n : CoreId) (s : State) : Host.Outcome State Fault Refusal := .next (s.clearStalls n .ve)
def execClrMov (n : CoreId) (s : State) : Host.Outcome State Fault Refusal := .next (s.clearStalls n .mov)

/-- LATE_WEIGHTS: a continuous code-2 wait that has reached the budget raises the event once (R158, R160). -/
def execLateWeights (n : CoreId) (eng : Eng) (s : State) : Host.Outcome State Fault Refusal :=
  .next (
    let c := s.core n
    let budget := s.fld (reg0 .MOV_LATE_BUDGET n) ⟨0, 32⟩
    let late := match eng with
      | .ope => (c.ope.late, c.ope.lateRaised)
      | .ve => (c.ve.late, c.ve.lateRaised)
      | .mov => (c.movLate, c.movLateRaised)
    if !s.alive n || late.2 || decide (late.1 < max 1 budget) then s else
    let c := match eng with
      | .ope => { c with ope := { c.ope with lateRaised := true } }
      | .ve => { c with ve := { c.ve with lateRaised := true } }
      | .mov => { c with movLateRaised := true }
    let k := match eng with
      | .ope => 0
      | .ve => 1
      | .mov => 2
    ((s.setCore n c).edge (8 * n + 5)).event (s.phys n) 0x0204 [(n, 2), (k, 1), (budget, 4)])

/-- SCRUBBER_READ: the tile-memory scrubber reads its next line (R129). -/
def execScrubberRead (n : CoreId) (e : Ecc) (s : State) : Host.Outcome State Fault Refusal :=
  .next (
    if !s.alive n then s else
    let l := (s.core n).scrub
    let s := (s.tmCheck n (128 * l) 128 e).1
    s.setCore n { s.core n with scrub := (l + 1) % 196608 })

end Sys2Proof.Machine
end

