-- ==== Sys2Proof/Machine/Streamer.lean ====
section
/-! DEFINITION. The window streamer of a die and the injection of its pages into the purlin chain (R218 to R226). -/

namespace Sys2Proof.Machine

def winReg (nm : RegName) (d : Nat) : Reg := reg0 nm d
/-- The state of a streamer: 0 IDLE, 1 RUNNING, 2 HELD, 3 CANCELLING, 4 FAULTED (R226). -/
def State.winState (s : State) (d : Nat) : Nat := s.fld (winReg .WIN_STATUS d) F.WIN_STATUS_state
def State.setWinF (s : State) (d : Nat) (f : Fld) (x : Nat) : State := s.setF (winReg .WIN_STATUS d) f x

/-- A streamer replaced; the counts of WIN_STATUS follow. -/
def State.putWin (s : State) (d : Nat) (w : WinSt) : State :=
  ((s.setWin d w).setWinF d F.WIN_STATUS_unreleased w.layers.length).setWinF d F.WIN_STATUS_outstanding
    (min 64 (w.fly.length + w.old.length))

/-- The token that ready_tok or rel_tok names: die or module scope with an index that exists (R138, R226). -/
def winTok (d ref : Nat) : Option Tok :=
  match tokRef (16 * d) ref with
  | some t => if t.scope.val = 3 ∨ t.scope.val = 4 then some t else none
  | none => none

/-- The streamer stops with a cause (R226, R298). -/
def State.winFault (s : State) (d cause : Nat) : State :=
  let s := s.setWin d { s.win d with prior := s.winState d }
  ((s.setWinF d F.WIN_STATUS_state 4).setWinF d F.WIN_STATUS_cause cause).event (dieIsland d) 0x0305 [(d, 1), (cause, 1)]

/-- The configuration that enable checks: the lowest cause that applies, 0 for none (R219, R226). -/
def State.winCheck (s : State) (d : Nat) : Nat :=
  let c := s.rd (winReg .WIN_CTRL d)
  let h := s.rd (winReg .WIN_SCHED d)
  let v := s.rd (winReg .WIN_WINDOW d)
  let b := fget h F.WIN_SCHED_sched_base
  let n := fget h F.WIN_SCHED_sched_count
  let w := fget v F.WIN_WINDOW_base_hi * 0x200000
  let p := fget v F.WIN_WINDOW_pages
  if (winTok d (fget c F.WIN_CTRL_ready_tok)).isNone || (winTok d (fget c F.WIN_CTRL_rel_tok)).isNone then 1
  else if b % 32 ≠ 0 || b + 32 * n > 0x13B00000000 then 2
  else if n = 0 || p < 8 || w + p * 0x40000 > 0x13B00000000 then 3
  else 0

/-- The pages of a layer. -/
def WLayer.pages (l : WLayer) : Nat := (l.runs.map (·.2)).sum
/-- The window slot of page `i` of a layer. -/
def WinSt.slotOf (w : WinSt) (l : WLayer) (i : Nat) : Nat := (l.first + i) % 2 ^ 32 % max 1 w.pages

/-- The streamer begins at record 0 with q = 0; the slots that a run before it left unreleased are FREE (R219; log 28). -/
def State.winStart (s : State) (d : Nat) : State :=
  let v := s.rd (winReg .WIN_WINDOW d)
  let c := s.winCheck d
  if c ≠ 0 then s.winFault d c else
  let w := s.win d
  let s := (w.layers.flatMap (fun l => (upTo 0 l.asked).map (w.slotOf l))).foldl (fun s k => s.setSlot d k 0) s
  let s := s.putWin d { w with
    base := fget v F.WIN_WINDOW_base_hi * 0x200000, pages := fget v F.WIN_WINDOW_pages, layers := [], next := none, ended := false }
  ((s.setWinF d F.WIN_STATUS_state 1).setWinF d F.WIN_STATUS_record 0).setWinF d F.WIN_STATUS_next_q 0

/-! Fetching (R218, R220). -/

/-- The run entries of a record, as numbers of 128 bits. -/
def State.runTable (s : State) (a n : Nat) : List Nat := (upTo 0 n).map (fun k => leNat (s.stackedBytes (a + 16 * k) 16))

/-- A run of the far tier that the streamer can fetch: aligned, within the far tier, decoded (R217, R218, R282). -/
def State.runOk (s : State) (e : Nat) : Bool :=
  let a := bitsOf e 0 52
  let n := bitsOf e 64 16
  decide (a % 0x40000 = 0) && decide (region a = .far) && decide (region (a + max 1 n * 0x40000 - 1) = .far) &&
    s.farOk (a, a + max 1 n * 0x40000 - 1)

/-- Page requests of the unreleased layers, oldest first, up to 64 outstanding (R220). -/
def State.askPages (d : Nat) : Nat → State → State
  | 0, s => s
  | k + 1, s =>
    let w := s.win d
    if w.fly.length + w.old.length ≥ 64 then s else
    match w.layers.find? (fun l => decide (l.asked < l.pages)) with
    | none => s
    | some l =>
      let q := (l.first + l.asked) % 2 ^ 32
      let a := runAddr l.runs l.asked
      let ls := w.layers.map (fun x => if x.first = l.first then { x with asked := x.asked + 1 } else x)
      let s := (s.putWin d { w with layers := ls, fly := w.fly ++ [(q, a)] }).setWinF d F.WIN_STATUS_next_q ((q + 1) % 2 ^ 32)
      State.askPages d k (s.setSlot d (q % max 1 w.pages) 1)

/-- The record of the schedule that comes next, and whether it passes a wrap. -/
def State.nextRecord (s : State) (d k rcd : Nat) : Option Nat :=
  if bitsOf rcd 17 1 = 1 then some 0
  else if k + 1 < s.fld (winReg .WIN_SCHED d) F.WIN_SCHED_sched_count then some (k + 1) else none

/-- Pages are asked for; once all those of the record being fetched are, the streamer passes to the next one, a wrap record is
counted, and without a next one the schedule has ended (R218, R220, R226; log 28). -/
def State.fetchOn (s : State) (d : Nat) : State :=
  let s := State.askPages d 64 s
  let w := s.win d
  match w.next with
  | none => s
  | some (next, wrap) =>
    if w.layers.any (fun l => decide (l.asked < l.pages)) then s else
    let s := s.putWin d { w with next := none, ended := next.isNone }
    let r := winReg .WIN_STEP d
    let s := if wrap then s.setF r F.WIN_STEP_step_count (s.fld r F.WIN_STEP_step_count + 1) else s
    match next with
    | some k => s.setWinF d F.WIN_STATUS_record k
    | none => s

/-- The streamer fetches: RUNNING and enabled (R226). -/
def State.fetching (s : State) (d : Nat) : Bool :=
  decide (s.winState d = 1) && decide (s.fld (winReg .WIN_CTRL d) F.WIN_CTRL_enable = 1)

/-- WIN_ENABLE: enable turns 1. From IDLE the configuration is checked and the streamer starts; otherwise it goes on from
the state it kept (R219, R226). -/
def State.winEnable (s : State) (d : Nat) : State :=
  let r := winReg .WIN_CTRL d
  if s.fld r F.WIN_CTRL_enable = 1 then s else
  let s := s.setF r F.WIN_CTRL_enable 1
  if s.winState d = 0 then s.winStart d else if s.fetching d then s.fetchOn d else s
def execWinEnable (d : DieId) (s : State) : Host.Outcome State Fault Refusal := .next (s.runsOn (dieIsland d) (s.winEnable d))

/-- LAYER_FETCH: the pages of the record being fetched are asked for; then the next layer of the schedule begins, once
lookahead allows it and its slots are FREE. After the last one, with every fetch answered, the streamer is IDLE (R218, R220). -/
def execLayerFetch (d : DieId) (s : State) : Host.Outcome State Fault Refusal :=
  .next (s.runsOn (dieIsland d) (
    let w := s.win d
    let c := s.rd (winReg .WIN_CTRL d)
    if !s.fetching d then s
    else if w.ended then
      if w.fly.isEmpty ∧ w.layers.all (fun l => !l.chain || decide (l.sent ≥ l.pages)) then s.setWinF d F.WIN_STATUS_state 0
      else s
    else if w.next.isSome then s.fetchOn d
    else if w.layers.length > fget c F.WIN_CTRL_lookahead_m1 then s
    else
      let k := s.fld (winReg .WIN_STATUS d) F.WIN_STATUS_record
      let a := s.fld (winReg .WIN_SCHED d) F.WIN_SCHED_sched_base + 32 * k
      let m := s.stackedRead a 32 0 1 .ok
      if m.bad.isSome then m.st.winFault d 2 else
      let s := m.st
      let rcd := leNat m.bytes
      let n := bitsOf rcd 0 16
      let ra := bitsOf rcd 64 52
      if n = 0 ∨ n > 1024 then s.winFault d 3
      else if ra % 16 ≠ 0 ∨ ra + 16 * n > 0x13B00000000 then s.winFault d 2
      else
      let t := s.stackedRead ra (16 * n) 0 1 .ok
      if t.bad.isSome then t.st.winFault d 2 else
      let s := t.st
      let es := s.runTable ra n
      let runs := es.map (fun e => (bitsOf e 0 52, bitsOf e 64 16))
      let q := s.fld (winReg .WIN_STATUS d) F.WIN_STATUS_next_q
      let l : WLayer := ⟨bitsOf rcd 32 32, decide (bitsOf rcd 16 1 = 1), q, runs, 0, 0, false⟩
      if !es.all s.runOk then s.winFault d 2
      else if runs.any (fun r => decide (r.2 = 0)) ∨ l.pages > w.pages then s.winFault d 3
      else if (upTo 0 l.pages).any (fun i => decide (s.slotSt d (w.slotOf l i) ≠ 0)) then s
      else
        let next := some (s.nextRecord d k rcd, decide (bitsOf rcd 17 1 = 1))
        (s.putWin d { s.win d with layers := w.layers ++ [l], next := next }).fetchOn d))

/-- A signal of a token by a streamer: at once in the die's own island, otherwise through the crossing (R179). -/
def State.winSignal (s : State) (d : Nat) (t : Tok) : State :=
  if s.tokIsland t = dieIsland d then s.tokAdd t 1 else s.send (dieIsland d) (s.tokIsland t) (.signal t 1)

/-- ready_tok is signalled once for each layer whose pages are all READY (R220). -/
def State.readyCheck (s : State) (d : Nat) : State :=
  let w := s.win d
  let ok (l : WLayer) : Bool := !l.signalled && decide (l.asked ≥ l.pages) &&
    (upTo 0 l.pages).all (fun i => decide (s.slotSt d (w.slotOf l i) = 2))
  let k := (w.layers.filter ok).length
  let s := s.putWin d { w with layers := w.layers.map (fun l => if ok l then { l with signalled := true } else l) }
  match winTok d (s.fld (winReg .WIN_CTRL d) F.WIN_CTRL_ready_tok) with
  | some t => (upTo 0 k).foldl (fun s _ => s.winSignal d t) s
  | none => s

/-- The class of a window page: 0 for the pages of the oldest unreleased layer, 1 for all others (R220). -/
def WinSt.pageClass (w : WinSt) (k : Nat) : Nat :=
  match w.layers with
  | l :: _ => if (upTo 0 l.asked).any (fun i => decide (w.slotOf l i = k)) then 0 else 1
  | [] => 1

/-- Data of a window page written to its slot with hint STREAM, in the page's class; the slot turns READY (R208, R220). -/
def State.fillSlot (s : State) (d q : Nat) (bs : List Byte) : State :=
  let w := s.win d
  let k := q % max 1 w.pages
  (s.stackedWrite (w.base + k * 0x40000) bs 0 (w.pageClass k)).setSlot d k 2

/-- WINDOW_PAGE_LAND: the oldest outstanding fetch is answered with good data; one of a cancelled epoch is dropped
(R219, R220, R225). -/
def execWindowPageLand (d : DieId) (s : State) : Host.Outcome State Fault Refusal :=
  .next (s.runsOn (dieIsland d) (
    let w := s.win d
    match w.old, w.fly with
    | _ :: os, _ => s.putWin d { w with old := os }
    | [], [] => s
    | [], (q, a) :: fs =>
      let s := s.putWin d { w with fly := fs }
      let f := a - 0x1000000000000
      let s := if s.farLost f then s.poisonSlot d (q % max 1 w.pages)
        else (s.fillSlot d q (readBytes s.mem a 0x40000)).readyCheck d
      if s.fetching d then s.fetchOn d else s))

/-! Injection and release (R221, R222). -/

/-- The next page of the streamer to enter the chain, in the order of q, if its slot is READY; the slot is read with LAST, in the
page's class (R208, R221; log 28). -/
def State.streamInject (s : State) (d : Nat) (e : Ecc) : State :=
  let w := s.win d
  let cfg := s.rd (purCfg d)
  if decide (fget cfg F.PUR_DIE_CFG_source = 1) || !s.canInject d || decide (s.winState d ≥ 3) then s else
  match w.layers.find? (fun l => l.chain && decide (l.sent < l.pages)) with
  | none => s
  | some l =>
    let k := w.slotOf l l.sent
    if l.sent ≥ l.asked ∨ s.slotSt d k ≠ 2 then s else
    let a := w.base + k * 0x40000
    let m := s.stackedRead a 0x40000 2 (w.pageClass k) e
    match m.bad with
    | some (b, _) => m.st.afterBad b false
    | none =>
      let s := m.st.inject d (cellsFrom 0 m.bytes) true
      let w := s.win d
      s.putWin d { w with layers := w.layers.map (fun x => if x.first = l.first then { x with sent := x.sent + 1 } else x) }
def execStreamerInject (d : DieId) (e : Ecc) (s : State) : Host.Outcome State Fault Refusal := .next (s.runsOn (dieIsland d) (s.streamInject d e))

/-- CHAIN_PAGE_INJECT: the source that PUR_DIE_CFG selects injects its next page (R150, R152, R221). -/
def execChainPageInject (d : DieId) (e : Ecc) (s : State) : Host.Outcome State Fault Refusal :=
  .next (s.runsOn (dieIsland d) (
    let cfg := s.rd (purCfg d)
    if fget cfg F.PUR_DIE_CFG_source = 1 then s.chainInject (16 * d.val + headOf cfg) e else s.streamInject d e))

/-- The requester number of a die's streamer (log 12). -/
def winReq (d : Nat) : Nat := 1024 + d

/-- LAYER_RELEASE: one count of rel_tok releases the oldest unreleased layer (R222). -/
def execLayerRelease (d : DieId) (s : State) : Host.Outcome State Fault Refusal :=
  .next (s.runsOn (dieIsland d) (
    match (s.win d).layers, winTok d (s.fld (winReg .WIN_CTRL d) F.WIN_CTRL_rel_tok) with
    | l :: _, some t =>
      if s.winState d ≥ 3 then s else
      let r := s.tokWaitAt (dieIsland d) (winReq d) t 1
      if !r.2 then r.1 else
      let s := r.1
      let w := s.win d
      let ks := (upTo 0 l.asked).map (w.slotOf l)
      let s := ks.foldl (fun s k => s.setSlot d k 0) s
      let gone (q : Nat) : Bool := ks.contains (q % max 1 w.pages)
      (s.putWin d { w with
        layers := w.layers.drop 1, retry := w.retry.filter (fun p => !ks.contains p.1)
        fly := w.fly.filter (fun f => !gone f.1), old := w.old ++ (w.fly.filter (fun f => gone f.1)).map (·.1) }).syncHolds
    | _, _ => s))

/-! Poisoned pages (R223, R224). -/

/-- PAGE_POISON: a fetch answers with poison, or a window copy reads as uncorrectable (R223). -/
def execPagePoison (d : DieId) (slot : BitVec 16) (s : State) : Host.Outcome State Fault Refusal :=
  .next (s.runsOn (dieIsland d) (
    let w := s.win d
    let k := slot.toNat
    if s.slotSt d k = 1 ∧ !w.fly.any (fun f => decide (f.1 % max 1 w.pages = k)) then s else
    (s.putWin d { w with fly := w.fly.filter (fun f => decide (f.1 % max 1 w.pages ≠ k)) }).poisonSlot d k))

/-- The far-tier address of a page's replica: the first range that covers it, if the sum stays within 32 TiB (R217, R226). -/
def State.replicaOf (s : State) (d a : Nat) : Option Nat :=
  let f := a - 0x1000000000000
  let hit (r : Nat) : Bool :=
    let b := s.fld (reg1 .WIN_REPLICA d r) F.WIN_REPLICA_base
    decide (b ≤ f) && decide (f < b + s.fld (reg1 .WIN_REPLICA_SIZE d r) F.WIN_REPLICA_SIZE_size)
  match (upTo 0 4).find? hit with
  | some r =>
    let x := f + s.fld (reg1 .WIN_REPLICA_ALT d r) F.WIN_REPLICA_ALT_alt_offset
    if x < 2 ^ 45 then some (0x1000000000000 + x) else none
  | none => none

/-- The partner and the peer that hold copies (R223, R309). -/
def State.hasPartner (s : State) : Bool := decide (s.fld (reg0 .CP_PAIR_STATUS 0) F.CP_PAIR_STATUS_partner_id ≠ 0xFFFF)

/-- A far-tier page that can be read. -/
def State.farPage (s : State) (a : Nat) : Bool :=
  let f := a - 0x1000000000000
  (s.farPort f).isSome && !s.farLost f

/-- The source of the retry order at or after `k` that has a copy; 5 when none has (R223). -/
def State.nextSource (s : State) (d k a : Nat) : Nat :=
  if k ≤ 1 then 1
  else if k ≤ 2 ∧ (s.replicaOf d a).any s.farPage then 2
  else if k ≤ 3 ∧ s.hasPartner then 3
  else if k ≤ 4 ∧ (s.retryPeer.map (·.1)).contains d then 4
  else 5

/-- RETRY_SOURCE_ANSWER: the source being tried returns good data; every source holds the same bits (R59, R223). -/
def execRetrySourceAnswer (d : DieId) (slot : BitVec 16) (s : State) : Host.Outcome State Fault Refusal :=
  .next (s.runsOn (dieIsland d) (
    let k := slot.toNat
    let w := s.win d
    match w.pageOf k with
    | none => s
    | some (_, q, a) =>
      let src := tget 0 w.retry k
      if s.slotSt d k ≠ 4 ∨ src = 0 ∨ src > 4 ∨ (src = 1 ∧ !s.farPage a) then s else
      let from' := if src = 2 then (s.replicaOf d a).getD a else a
      let s := (s.fillSlot d q (readBytes s.mem from' 0x40000))
      let s := s.setWin d { s.win d with retry := tdel k w.retry }
      let s := (s.edge (545 + 4 * d.val)).event (dieIsland d) 0x0301 [(d, 1), (q, 4), (src, 1)]
      (s.syncHolds).readyCheck d))

/-- The move descriptors that wait for a dead slot fault with cause 0x21 (R224). -/
def State.faultHeld (s : State) : State :=
  (upTo 0 64).foldl (fun s n => (upTo 0 8).foldl (fun s m =>
    if s.qSt n m ≠ 1 then s else
    let q := s.que n m
    match q.started.find? (fun x => x.held.any s.slotDead) with
    | some x => s.movFault n m x.idx 0x21 0
    | none =>
      match q.fetched with
      | (idx, _) :: _ => if q.held.any s.slotDead then s.movFault n m idx 0x21 0 else s
      | [] => s) s) s

/-! Cancel and fault clear (R225, R226). -/

/-- WIN_CANCEL takes effect (R225). -/
def State.winCancel (s : State) (d : Nat) : State :=
  if s.winState d = 3 then s else
  let w := s.win d
  let pages := (w.layers.map (·.asked)).sum
  let ks := w.layers.flatMap (fun l => (upTo 0 l.asked).map (w.slotOf l))
  let s := ks.foldl (fun s k => s.setSlot d k 0) s
  let r := winReg .WIN_STEP d
  let s := s.setF r F.WIN_STEP_epoch ((s.fld r F.WIN_STEP_epoch + 1) % 2 ^ 32)
  let s := s.putWin d { w with layers := [], fly := [], old := w.old ++ w.fly.map (·.1), retry := [], next := none, ended := false }
  let c := winReg .WIN_CANCEL d
  let s := (s.setF c F.WIN_CANCEL_cancel 1).setF c F.WIN_CANCEL_discarded (min (2 ^ 32 - 1) pages)
  (s.setWinF d F.WIN_STATUS_state 3).syncHolds
def execWinCancel (d : DieId) (s : State) : Host.Outcome State Fault Refusal := .next (s.runsOn (dieIsland d) (s.winCancel d))

/-- WIN_CANCEL_ACK: no fetch and no flit of the old epoch is outstanding; the streamer goes on from restart_at with q
unchanged (R225). -/
def execWinCancelAck (d : DieId) (s : State) : Host.Outcome State Fault Refusal :=
  .next (s.runsOn (dieIsland d) (
    if s.winState d ≠ 3 || !(s.win d).old.isEmpty || (s.die d).chain.any (·.stream) then s else
    let c := winReg .WIN_CANCEL d
    let s := s.setF c F.WIN_CANCEL_cancel 0
    (s.setWinF d F.WIN_STATUS_state (if (s.win d).pages = 0 then 0 else 1)).setWinF d F.WIN_STATUS_record
      (s.fld c F.WIN_CANCEL_restart_at)))

/-- WIN_FAULT_CLEAR: FAULTED is left for the state before the fault (R226). -/
def State.winFaultClear (s : State) (d : Nat) : State :=
  if s.winState d ≠ 4 then s else (s.setWinF d F.WIN_STATUS_state (s.win d).prior).setWinF d F.WIN_STATUS_cause 0
def execWinFaultClear (d : DieId) (s : State) : Host.Outcome State Fault Refusal := .next (s.runsOn (dieIsland d) (s.winFaultClear d))

end Sys2Proof.Machine
end

