-- ==== Sys2Proof/Machine/Interrupts.lean ====
section
/-! DEFINITION. The interrupt and event controller (R364 to R375). -/

namespace Sys2Proof.Machine

def srcReg (i : Nat) : Reg := reg1 .ICU_SRC 0 i

/-! Level lines (R365). -/

/-- Some token of a scope has its ovf bit set (R177). -/
def State.ovf (s : State) (ts : List Tok) : Bool := ts.any (fun t => decide (s.fld (tokReg t) F.TOK_CNT_ovf = 1))

/-- The tokens of a unit of a scope. -/
def unitToks (scope : Fin 5) (u : Nat) : List Tok := (upTo 0 (if scope = 0 then 64 else 16)).map (fun k => ⟨scope, u, k⟩)

/-- The line of a level source (R365, R384, R386). -/
def State.line (s : State) (i : Nat) : Bool :=
  if i < 512 then
    let n := i / 8
    match i % 8 with
    | 0 => decide (s.engSt false n = 3)
    | 1 => decide (s.engSt true n = 3)
    | 2 => (upTo 0 8).any (fun m => decide (s.qSt n m = 2))
    | 6 => s.ovf (unitToks 0 n)
    | _ => false
  else if i = 529 then decide (s.fld (reg0 .HBM_SPARE_STATUS 0) F.HBM_SPARE_STATUS_groups_needed ≠ 0)
  else if 544 ≤ i ∧ i < 560 ∧ i % 4 = 3 then decide (s.winState ((i - 544) / 4) = 4)
  else if 560 ≤ i ∧ i < 576 ∧ i % 4 = 1 then
    let d := (i - 560) / 4
    s.ovf ((upTo (4 * d) 4).flatMap (unitToks 1) ++ (upTo (2 * d) 2).flatMap (unitToks 2) ++ unitToks 3 d)
  else if i = 590 then s.ovf (unitToks 4 0)
  else if i = 602 then
    (upTo 0 16).any (fun m =>
      decide (s.fld (reg1 .PCI_MBX_CQ_CFG 0 m) F.PCI_MBX_CQ_CFG_enable = 1) &&
      decide (s.fld (reg1 .PCI_MBX_SQ_HEAD 0 m) F.PCI_MBX_SQ_HEAD_head ≠ s.fld (reg1 .PCI_MBX_SQ_TAIL 0 m) F.PCI_MBX_SQ_TAIL_tail))
  else if i = 609 then s.pwr.hot
  else if i = 610 then decide (tget 1 s.pwr.need 2 > 1)
  else false

/-- A level source out of service follows its line (R366). -/
def State.sample (s : State) (i : Nat) : State :=
  if !levelSource i || decide (s.fld (srcReg i) F.ICU_SRC_in_service = 1) then s
  else s.setF (srcReg i) F.ICU_SRC_pending (s.line i).toNat

/-! Delivery (R368, R369). -/

/-- Sources whose pending bit is set, in ascending order: a source with its reset value is not pending. -/
def State.pendingSources (s : State) : List Nat :=
  s.regs.filterMap (fun (p : Nat × BitVec 64) =>
    let b := (srcReg 0).addr
    if b ≤ p.1 ∧ p.1 < b + 8 * 768 ∧ fget p.2 F.ICU_SRC_pending = 1 then some ((p.1 - b) / 8) else none)

def State.routed (s : State) (i t : Nat) : Bool :=
  let v := s.rd (srcReg i)
  if t = 64 then decide (fget v F.ICU_SRC_to_cp = 1)
  else if t = 65 then decide (fget v F.ICU_SRC_to_standby = 1)
  else
    decide (fget v F.ICU_SRC_to_scalar = 1) && decide (s.remap t = 0) &&
      (if i < 512 then decide (i / 8 = t) else (s.rd (reg1 .ICU_GROUP_SCALAR 0 (i / 16 - 32))).getLsbD t)

def thresholdReg (t : Nat) : Reg := if t < 64 then reg0 .ICU_THRESHOLD t else reg1 .ICU_CP_THRESHOLD 0 (t - 64)
def icuStatusReg (t : Nat) : Reg := if t < 64 then reg0 .ICU_STATUS t else reg1 .ICU_CP_STATUS 0 (t - 64)

def State.prioOf (s : State) (i : Nat) : Nat := s.fld (srcReg i) F.ICU_SRC_prio
def State.claimsOf (s : State) (t : Nat) : List Nat := tget [] s.claims t
/-- The running level of a target: the priority its innermost claim was made with, kept in the claim list as priority
times 1,024 plus source (R369, R370). -/
def State.level (s : State) (t : Nat) : Nat := ((s.claimsOf t).head?.map (· / 1024)).getD 0

def State.eligible (s : State) (i t : Nat) : Bool :=
  decide (s.fld (srcReg i) F.ICU_SRC_pending = 1) && s.routed i t &&
    decide (s.fld (reg1 .ICU_GROUP 0 (i / 16)) F.ICU_GROUP_remaining = 0) &&
    decide (s.prioOf i > max (s.fld (thresholdReg t) F.ICU_THRESHOLD_threshold) (s.level t))

/-- The eligible source of the highest priority, the lowest number among equals (R370). -/
def State.bestSource (s : State) (t : Nat) : Option Nat :=
  (s.pendingSources.filter (fun i => s.eligible i t)).foldl (fun b i =>
    match b with
    | none => some i
    | some j => if s.prioOf i > s.prioOf j then some i else some j) none

/-- The request line of a target: MEIP for a scalar processor (R369). -/
def State.request (s : State) (t : Nat) : Bool := s.pendingSources.any (fun i => s.eligible i t)

/-- A read of ICU_CLAIM: the state and the value (R370, R372). -/
def State.icuClaim (s : State) (t : Nat) : State × BitVec 64 :=
  match s.bestSource t with
  | none => (s, 0)
  | some i =>
    let p := s.prioOf i
    let r := srcReg i
    let g := reg1 .ICU_GROUP 0 (i / 16)
    let s := ((s.setF r F.ICU_SRC_pending 0).setF r F.ICU_SRC_in_service 1).setF r F.ICU_SRC_holder t
    let s := (s.setF g F.ICU_GROUP_remaining (s.fld g F.ICU_GROUP_holdoff)).bumpF g F.ICU_GROUP_claims
    ({ s with claims := tput t ((p * 1024 + i) :: s.claimsOf t) s.claims },
      fset (fset (fset 0 F.ICU_CLAIM_source i) F.ICU_CLAIM_valid 1) F.ICU_CLAIM_prio p)

/-- A claim is out of service. -/
def State.dropClaim (s : State) (i : Nat) : State :=
  (s.setF (srcReg i) F.ICU_SRC_in_service 0).setF (srcReg i) F.ICU_SRC_holder 0x7F

/-- A write to ICU_COMPLETE (R366, R370). -/
def State.icuComplete (s : State) (t v : Nat) : State :=
  match s.claimsOf t with
  | c :: cs =>
    if c % 1024 = v % 1024 then (({ s with claims := tput t cs s.claims }).dropClaim (v % 1024)).sample (v % 1024)
    else s.setF (icuStatusReg t) F.ICU_STATUS_complete_err 1
  | [] => s.setF (icuStatusReg t) F.ICU_STATUS_complete_err 1

/-- The claims of a target abandoned: level sources are sampled again, edge sources become pending again (R374). -/
def State.abandon (s : State) (t : Nat) : State :=
  let s' := { s with claims := tdel t s.claims }
  (s.claimsOf t).foldl (fun s c =>
    let i := c % 1024
    let s := s.dropClaim i
    if levelSource i then s.sample i else s.setF (srcReg i) F.ICU_SRC_pending 1) s'

/-- Edges of firmware sources (R373). -/
def State.fwSet (s : State) (w : Nat) (v : BitVec 64) : State :=
  (upTo 0 (if w = 0 then 64 else 32)).foldl (fun s b => if v.getLsbD b then s.edge (656 + 64 * w + b) else s) s

/-- The value of ICU_STATUS of a target (R375). -/
def State.icuStatus (s : State) (t : Nat) : BitVec 64 :=
  let cs := s.claimsOf t
  let v := s.rd (icuStatusReg t)
  let v := fset (fset (fset v F.ICU_STATUS_level (s.level t)) F.ICU_STATUS_depth cs.length) F.ICU_STATUS_request (s.request t).toNat
  fset v F.ICU_STATUS_levels ((cs.map (fun c => 2 ^ (c / 1024))).sum)

/-- The value of ICU_PEND_w (R375). -/
def State.icuPend (s : State) (w : Nat) : BitVec 64 :=
  BitVec.ofNat 64 ((s.pendingSources.filter (fun i => decide (i / 64 = w))).map (fun i => 2 ^ (i % 64))).sum

/-! The commands. -/

def execSourceEdge (i : Fin 768) (s : State) : Host.Outcome State Fault Refusal := .next (s.edge i)
def execLevelLineChange (i : Fin 768) (s : State) : Host.Outcome State Fault Refusal := .next (s.sample i)

/-- ICU_CLAIM: the read that claims (R370). -/
def execIcuClaim (t : Fin 66) (s : State) : Host.Outcome State Fault Refusal :=
  .next (let r := s.icuClaim t; { r.1 with rdata := r.2, rstatus := .ok })

def execIcuComplete (t : Fin 66) (v : BitVec 64) (s : State) : Host.Outcome State Fault Refusal :=
  .next (s.icuComplete t v.toNat)

/-- A hold-off timer counts down by one reference cycle (R371, R372). -/
def State.holdoffTick (s : State) (g : Nat) : State :=
  let r := reg1 .ICU_GROUP 0 g
  let k := s.fld r F.ICU_GROUP_remaining
  if k = 0 then s else s.setF r F.ICU_GROUP_remaining (k - 1)

/-- HOLDOFF_EXPIRY: a group's timer reaches zero (R372). -/
def execHoldoffExpiry (g : Fin 48) (s : State) : Host.Outcome State Fault Refusal :=
  .next (s.setF (reg1 .ICU_GROUP 0 g) F.ICU_GROUP_remaining 0)

/-- ALARM_FIRE: an armed alarm whose time has come raises its source once (R373). -/
def State.alarmFire (s : State) (k : Nat) : State :=
  let r := reg1 .ICU_ALARM_CTL 0 k
  if s.fld r F.ICU_ALARM_CTL_armed = 1 ∧ s.fld (reg1 .ICU_ALARM 0 k) F.ICU_ALARM_time_ns ≤ s.clk.refTime then
    (s.setF r F.ICU_ALARM_CTL_armed 0).edge (752 + k)
  else s
def execAlarmFire (k : Fin 16) (s : State) : Host.Outcome State Fault Refusal := .next (s.alarmFire k)

def execIcuFwSet (w : Fin 2) (v : BitVec 64) (s : State) : Host.Outcome State Fault Refusal := .next (s.fwSet w v)
def execClaimAbandon (t : Fin 66) (s : State) : Host.Outcome State Fault Refusal := .next (s.abandon t)

end Sys2Proof.Machine
end

