-- ==== Sys2Proof/Machine/CoreRegs.lean ====
section
/-! DEFINITION. Reading and writing registers by the access codes of R9 and R10, the values that registers are stored as,
and the effects of writes to the registers of a core's block. -/

namespace Sys2Proof.Machine

/-- Hardware that a register alias names (R375). -/
def regCanon (r : Reg) : Reg := if r.name = .ICU_CORE_SRC then reg1 .ICU_SRC 0 (8 * r.u + r.i) else r

/-- The claim target of an interrupt register. -/
def icuTarget (r : Reg) : Nat :=
  match r.name with
  | .ICU_CP_CLAIM | .ICU_CP_COMPLETE | .ICU_CP_STATUS | .ICU_CP_THRESHOLD => 64 + r.i
  | _ => r.u

/-- The value a read of a register returns, before any clearing. -/
def State.regValue (s : State) (r : Reg) : BitVec 64 :=
  match r.name with
  | .ICU_CORE_SRC => s.rd (regCanon r)
  | .ICU_STATUS | .ICU_CP_STATUS => s.icuStatus (icuTarget r)
  | .ICU_PEND => s.icuPend r.i
  | _ => s.rd r

/-- The value an RC field clears to: its reset value, or for PWR_TEMP the current reading (R9, R389). -/
def State.rcValue (s : State) (r : Reg) : BitVec 64 :=
  if r.name = .PWR_TEMP then fset 0 F.PWR_TEMP_max (s.fld r F.PWR_TEMP_temp) else r.reset

/-- What the RC fields hold after a read: the value they clear to, or in a field that hardware sets in the same cycle the value
newly set (R10). Every RC field lies within 16-bit parts of its register or is made of whole ones. -/
def rcAfter (v hw : BitVec 64) : BitVec 64 :=
  (upTo 0 4).foldl (fun v k => if getBits hw (16 * k) 16 = 0 then v else setBits v (16 * k) 16 (getBits hw (16 * k) 16)) v

/-- A read of the bits `m` of a register, with the values that hardware newly sets in its RC fields in the same cycle (R9, R10). -/
def State.regRead (s : State) (r : Reg) (m hw : BitVec 64) : State × BitVec 64 :=
  if r.name = .ICU_CLAIM ∨ r.name = .ICU_CP_CLAIM then
    (if m.getLsbD 0 then s.icuClaim (icuTarget r) else (s, 0))
  else
    let v := s.regValue r
    let c := r.name.masks.rc &&& m
    let s := if c = 0 then s else
      s.wr r ((v &&& ~~~c) ||| (rcAfter (s.rcValue r) (hw &&& c) &&& c))
    (s, v)

/-- A field held between two bounds. -/
def clampF (v : BitVec 64) (f : Fld) (lo hi : Nat) : BitVec 64 := fset v f (max lo (min hi (fget v f)))

/-- A summary as its register holds it: −1,024 to 1,023 or SUM_ZERO (R39). -/
def summNorm (x : Nat) : Nat := if x = 0x8000 then x else unsignedOf 16 (max (-1024) (min 1023 (signedOf 16 x)))

/-- The value a register is stored as (R39, R372; the Meaning columns of R100, R160, R163, R226, R287, R294, R389). -/
def regNorm (r : Reg) (v : BitVec 64) : BitVec 64 :=
  match r.name with
  | .OPE_SUMM => (upTo 0 4).foldl (fun v k => setBits v (16 * k) 16 (summNorm (getBits v (16 * k) 16))) v
  | .OPE_CPL_BASE => clampF v F.OPE_CPL_BASE_size 4 12
  | .MOV_Q_BASE => clampF v F.MOV_Q_BASE_size 4 12
  | .PUR_CORE_CFG => v &&& ~~~0x780#64
  | .OPE_PC | .OPE_PC_END => v &&& ~~~0xF#64
  | .VE_PC | .VE_PC_END => v &&& ~~~1#64
  | .HBM_ARB =>
    let a := fget v F.HBM_ARB_min1
    if a + fget v F.HBM_ARB_min2 > 64 then fset v F.HBM_ARB_min2 (64 - a) else v
  | .MSC_CTRL => clampF v F.MSC_CTRL_keep_ways 0 16
  | .CXL_CTRL => clampF v F.CXL_CTRL_cpl_timeout 0 9
  | .PCI_MBX_CQ_CFG | .PCI_MBX_EV_CFG => clampF v F.PCI_MBX_CQ_CFG_size 4 12
  | .ICU_GROUP => if fget v F.ICU_GROUP_holdoff = 0 then fset v F.ICU_GROUP_remaining 0 else v
  | .PWR_CTRL =>
    clampF (clampF (clampF v F.PWR_CTRL_sustained_w 1000 3600) F.PWR_CTRL_ramp_slope 25 400) F.PWR_CTRL_loadstep_lead 5 100
  | _ => v

/-- The stored value of a register after a write of `v` to its bits `m` (R9). -/
def regStore (r : Reg) (old v m : BitVec 64) : BitVec 64 :=
  let k := r.name.masks
  regNorm r (((old &&& ~~~(k.rw &&& m)) ||| (v &&& k.rw &&& m)) &&& ~~~(v &&& k.w1c &&& m))

/-- A write that a register ignores as a whole: a program counter or end register outside IDLE (R163), a reserved source
(R364). -/
def State.regIgnored (s : State) (r : Reg) : Bool :=
  match r.name with
  | .OPE_PC | .OPE_PC_END => decide (s.engSt false r.u ≠ 0)
  | .VE_PC | .VE_PC_END => decide (s.engSt true r.u ≠ 0)
  | .ICU_SRC => reservedSource r.i
  | _ => false

/-- The token of a TOK_ register. -/
def regTok (r : Reg) : Option Tok :=
  match r.name with
  | .TOK_CNT_CORE | .TOK_SIG_CORE => some ⟨0, r.u, r.i⟩
  | .TOK_CNT_CLUSTER | .TOK_SIG_CLUSTER => some ⟨1, r.u, r.i⟩
  | .TOK_CNT_REGION | .TOK_SIG_REGION => some ⟨2, r.u, r.i⟩
  | .TOK_CNT_DIE | .TOK_SIG_DIE => some ⟨3, r.u, r.i⟩
  | .TOK_CNT_MODULE | .TOK_SIG_MODULE => some ⟨4, 0, r.i⟩
  | _ => none

/-- An action done when a bit of a written value is set. -/
def State.onBit (s : State) (v : BitVec 64) (b : Nat) (f : State → State) : State := if v.getLsbD b then f s else s

/-- What a write starts, beyond the bits it stores, in the registers of a core's block and the token registers
(R90, R93, R96, R131, R147, R157, R163, R177, R189, R370). -/
def State.coreEffect (s : State) (r : Reg) (v : BitVec 64) : State :=
  let n := r.u
  match r.name with
  | .OPE_CTRL =>
    (((s.onBit v 0 (·.suspendReq n)).onBit v 2 (·.resumeReq n)).onBit v 4 (·.opeDump n)).onBit v 5 (·.opeFaultClear n)
  | .VE_CTRL => s.onBit v 0 (·.veFaultClear n)
  | .OPE_STREAM => s.onBit v 0 (·.opeRun n)
  | .VE_STREAM => (s.onBit v 0 (·.veRun n)).onBit v 1 (·.veHalt n)
  | .TM_STALL_CTRL => ((s.onBit v 0 (·.clearStalls n .ope)).onBit v 1 (·.clearStalls n .ve)).onBit v 2 (·.clearStalls n .mov)
  | .MOV_Q_TAIL => s.movTail n r.i (s.qTail n r.i)
  | .MOV_Q_CFG => (s.onBit v 10 (·.movFaultClear n r.i)).onBit v 11 (·.movSkipClear n r.i)
  | .MOV_CANCEL => (upTo 0 8).foldl (fun s m => s.onBit v m (·.movCancel n m)) s
  | .PUR_CORE_CFG => s.syncHold n
  | .ICU_COMPLETE | .ICU_CP_COMPLETE => s.icuComplete (icuTarget r) v.toNat
  | .TOK_SIG_CORE | .TOK_SIG_CLUSTER | .TOK_SIG_REGION | .TOK_SIG_DIE | .TOK_SIG_MODULE =>
    match regTok r with
    | some t => s.tokAdd t (v.toNat % 65536)
    | none => s
  | _ => s

/-- The status of the block that holds a register: the logical core is not served, or the island is stopped (R20, R25). Blocks
of the module window answer for themselves, but for the module tokens, which lie in the I/O network. -/
def State.regStatus (s : State) (r : Reg) : Status :=
  let a := r.addr
  let isl (i : Nat) : Status := if s.clk.stopped.contains i then .fenced else .ok
  if a < 0x300000400000 then (if s.remap r.u ≠ 0 then .unavailableTarget else isl (s.phys r.u))
  else if a < 0x301000100000 then isl (clusterIsland r.u)
  else if a < 0x301000180000 then isl (90 + 2 * r.u)
  else if a < 0x301000600000 then isl (dieIsland r.u)
  else if a < 0x301002000000 then
    (match regTok r with
    | some t => isl (s.tokIsland t)
    | none => .ok)
  else if a < 0x301002C00000 then isl (106 + r.u)
  else .ok

/-- W1C bits that hardware sets in the same cycle as a write: the set wins, and an RW field keeps the value written (R10). -/
def State.hwSet (s : State) (r : Reg) (hw : BitVec 64) : State :=
  let w := hw &&& r.name.masks.w1c
  if w = 0 then s else s.wr (regCanon r) (s.rd (regCanon r) ||| w)

/-- A write of `v` to the bits `m` of a register of a core's block or a token register. -/
def State.coreRegWrite (s : State) (r : Reg) (v m : BitVec 64) : State :=
  let r := regCanon r
  if s.regIgnored r then s else (s.wr r (regStore r (s.rd r) v m)).coreEffect r (v &&& m)

end Sys2Proof.Machine
end

