-- ==== Sys2Proof/Machine/Scalar.lean ====
section
/-! DEFINITION. The scalar processor: RV32IMC with Zicsr in machine mode, its address map and its custom CSRs
(R172 to R175). -/

namespace Sys2Proof.Machine

/-- How an instruction ends: it retires with the next program counter, traps, or waits. -/
inductive ScaEnd where
  | retire (pc : BitVec 32)
  | trap (c : TrapCause) (tval : BitVec 32)
  | wait
  deriving DecidableEq, Repr

/-- The mcause value of a trap. -/
def trapCode : TrapCause → BitVec 32
  | .fetchMisaligned => 0
  | .fetchFault => 1
  | .illegal => 2
  | .breakpoint => 3
  | .loadMisaligned => 4
  | .loadFault => 5
  | .storeMisaligned => 6
  | .storeFault => 7
  | .ecall => 11
  | .external => 0x8000000B

def Scalar.get (x : Scalar) (r : Nat) : BitVec 32 := if r = 0 then 0 else tget 0 x.x r
def Scalar.put (x : Scalar) (r : Nat) (v : BitVec 32) : Scalar := if r = 0 then x else { x with x := tput r v x.x }
def State.xget (s : State) (n r : Nat) : BitVec 32 := (s.sca n).get r
def State.xput (s : State) (n r : Nat) (v : BitVec 32) : State := s.setSca n ((s.sca n).put r v)

/-! Compressed instructions: the 32-bit instruction each stands for. -/

def encI (op f3 rd rs1 imm : Nat) : Nat := op + rd * 2 ^ 7 + f3 * 2 ^ 12 + rs1 * 2 ^ 15 + imm % 4096 * 2 ^ 20
def encR (f7 f3 rd rs1 rs2 : Nat) : Nat := 0x33 + rd * 2 ^ 7 + f3 * 2 ^ 12 + rs1 * 2 ^ 15 + rs2 * 2 ^ 20 + f7 * 2 ^ 25
def encSw (rs1 rs2 imm : Nat) : Nat :=
  0x23 + imm % 32 * 2 ^ 7 + 2 * 2 ^ 12 + rs1 * 2 ^ 15 + rs2 * 2 ^ 20 + imm / 32 % 128 * 2 ^ 25
def encB (f3 rs1 imm : Nat) : Nat :=
  0x63 + bitsOf imm 11 1 * 2 ^ 7 + bitsOf imm 1 4 * 2 ^ 8 + f3 * 2 ^ 12 + rs1 * 2 ^ 15 + bitsOf imm 5 6 * 2 ^ 25 +
    bitsOf imm 12 1 * 2 ^ 31
def encJ (rd imm : Nat) : Nat :=
  0x6F + rd * 2 ^ 7 + bitsOf imm 12 8 * 2 ^ 12 + bitsOf imm 11 1 * 2 ^ 20 + bitsOf imm 1 10 * 2 ^ 21 + bitsOf imm 20 1 * 2 ^ 31

/-- A field of `w` bits sign-extended to 32 bits, as a number. -/
def sext (w x : Nat) : Nat := unsignedOf 32 (signedOf w x)

/-- The jump offset of C.J and C.JAL. -/
def cjImm (h : Nat) : Nat :=
  sext 12 (bitsOf h 12 1 * 2 ^ 11 + bitsOf h 11 1 * 2 ^ 4 + bitsOf h 9 2 * 2 ^ 8 + bitsOf h 8 1 * 2 ^ 10 + bitsOf h 7 1 * 2 ^ 6 +
    bitsOf h 6 1 * 2 ^ 7 + bitsOf h 3 3 * 2 + bitsOf h 2 1 * 2 ^ 5)

/-- The branch offset of C.BEQZ and C.BNEZ. -/
def cbImm (h : Nat) : Nat :=
  sext 9 (bitsOf h 12 1 * 2 ^ 8 + bitsOf h 10 2 * 2 ^ 3 + bitsOf h 5 2 * 2 ^ 6 + bitsOf h 3 2 * 2 + bitsOf h 2 1 * 2 ^ 5)

/-- The 32-bit instruction that a 16-bit one stands for; none for a reserved or absent encoding (R172). -/
def expand16 (h : Nat) : Option Nat :=
  let rd := bitsOf h 7 5
  let rs2 := bitsOf h 2 5
  let rdp := bitsOf h 2 3 + 8
  let rsp := bitsOf h 7 3 + 8
  let imm6 := sext 6 (bitsOf h 12 1 * 32 + bitsOf h 2 5)
  let lw := bitsOf h 10 3 * 8 + bitsOf h 6 1 * 4 + bitsOf h 5 1 * 64
  match bitsOf h 0 2, bitsOf h 13 3 with
  | 0, 0 =>
    let imm := bitsOf h 11 2 * 16 + bitsOf h 7 4 * 64 + bitsOf h 6 1 * 4 + bitsOf h 5 1 * 8
    if imm = 0 then none else some (encI 0x13 0 rdp 2 imm)
  | 0, 2 => some (encI 0x03 2 rdp rsp lw)
  | 0, 6 => some (encSw rsp rdp lw)
  | 1, 0 => some (encI 0x13 0 rd rd imm6)
  | 1, 1 => some (encJ 1 (cjImm h))
  | 1, 2 => some (encI 0x13 0 rd 0 imm6)
  | 1, 3 =>
    if rd = 2 then
      let imm := sext 10 (bitsOf h 12 1 * 512 + bitsOf h 6 1 * 16 + bitsOf h 5 1 * 64 + bitsOf h 3 2 * 128 + bitsOf h 2 1 * 32)
      if imm = 0 then none else some (encI 0x13 0 2 2 imm)
    else if imm6 = 0 then none
    else some (0x37 + rd * 2 ^ 7 + imm6 % 2 ^ 20 * 2 ^ 12)
  | 1, 4 =>
    match bitsOf h 10 2 with
    | 0 => if bitsOf h 12 1 = 1 then none else some (encI 0x13 5 rsp rsp rs2)
    | 1 => if bitsOf h 12 1 = 1 then none else some (encI 0x13 5 rsp rsp (rs2 + 1024))
    | 2 => some (encI 0x13 7 rsp rsp imm6)
    | _ =>
      if bitsOf h 12 1 = 1 then none else
      match bitsOf h 5 2 with
      | 0 => some (encR 32 0 rsp rsp rdp)
      | 1 => some (encR 0 4 rsp rsp rdp)
      | 2 => some (encR 0 6 rsp rsp rdp)
      | _ => some (encR 0 7 rsp rsp rdp)
  | 1, 5 => some (encJ 0 (cjImm h))
  | 1, 6 => some (encB 0 rsp (cbImm h))
  | 1, 7 => some (encB 1 rsp (cbImm h))
  | 2, 0 => if bitsOf h 12 1 = 1 then none else some (encI 0x13 1 rd rd rs2)
  | 2, 2 =>
    if rd = 0 then none
    else some (encI 0x03 2 rd 2 (bitsOf h 12 1 * 32 + bitsOf h 4 3 * 4 + bitsOf h 2 2 * 64))
  | 2, 4 =>
    if bitsOf h 12 1 = 0 then
      if rs2 = 0 then (if rd = 0 then none else some (encI 0x67 0 0 rd 0)) else some (encR 0 0 rd 0 rs2)
    else if rs2 = 0 then (if rd = 0 then some 0x00100073 else some (encI 0x67 0 1 rd 0))
    else some (encR 0 0 rd rd rs2)
  | 2, 6 => some (encSw 2 rs2 (bitsOf h 9 4 * 4 + bitsOf h 7 2 * 64))
  | _, _ => none

/-! Data accesses (R174). -/

/-- What a data address names. -/
inductive ScaPlace where
  | imem | dmem | block (o : Nat) | tile (o : Nat) | nothing
  deriving DecidableEq, Repr

def scaPlace (a : Nat) : ScaPlace :=
  if a < 0x10000 then .imem
  else if a < 0x20000 then .dmem
  else if 0x10000000 ≤ a ∧ a < 0x10010000 then .block (a - 0x10000000)
  else if 0x20000000 ≤ a ∧ a < 0x21800000 then .tile (a - 0x20000000)
  else .nothing

/-- A fresh free value (log 10). -/
def State.free (s : State) : State × BitVec 64 := ({ s with freeIdx := s.freeIdx + 1 }, Config.freeValue s.freeIdx)

/-- The bits of a 64-bit register that a 32-bit access at an offset names. -/
def halfMask (o : Nat) : BitVec 64 := if o % 8 = 0 then 0xFFFFFFFF#64 else 0xFFFFFFFF00000000#64

/-- A load of `b` bytes: its data, or its trap. A tile-memory word that decodes as uncorrectable leaves the loaded value
open (R129, log 10). -/
def State.scaLoad (s : State) (n a b : Nat) (e : Ecc) : State × (TrapCause ⊕ Nat) :=
  if a % b ≠ 0 then (s, .inl .loadMisaligned) else
  match scaPlace a with
  | .imem => (s, .inr (leNat (readBytes (s.sca n).imem a b)))
  | .dmem => (s, .inr (leNat (readBytes (s.sca n).dmem (a - 0x10000) b)))
  | .block o =>
    if b ≠ 4 then (s, .inl .loadFault) else
    let addr := 0x300000000000 + n * 0x10000 + o
    match regAt (addr / 8 * 8) with
    | none => (s.decodeErr n addr, .inr 0)
    | some r =>
      let x := s.regRead r (halfMask o) 0
      (x.1, .inr (getBits x.2 (o % 8 * 8) 32))
  | .tile o =>
    let c := s.tmCheck n o b e
    if c.2 then
      let f := c.1.free
      (f.1, .inr (f.2.toNat % 2 ^ (8 * b)))
    else (c.1, .inr (leNat (c.1.tmRead n o b)))
  | .nothing => (s, .inl .loadFault)

/-- A store of `b` bytes; `e` is what the read of a tile-memory word written in part finds (R129). -/
def State.scaStore (s : State) (n a b v : Nat) (e : Ecc) : State × Option TrapCause :=
  if a % b ≠ 0 then (s, some .storeMisaligned) else
  match scaPlace a with
  | .imem => (s, some .storeFault)
  | .dmem =>
    let x := s.sca n
    (s.setSca n { x with dmem := writeBytes x.dmem (a - 0x10000) (leBytes v b) }, none)
  | .block o =>
    if b ≠ 4 then (s, some .storeFault) else
    let addr := 0x300000000000 + n * 0x10000 + o
    match regAt (addr / 8 * 8) with
    | none => (s.decodeErr n addr, none)
    | some r => (s.coreRegWrite r (BitVec.ofNat 64 (v % 2 ^ 32 * 2 ^ (o % 8 * 8))) (halfMask o), none)
  | .tile o => (s.putCellsE (mapFrom (slotBase n + o) (fun x y => (x, y)) (leBytes v b)) e, none)
  | .nothing => (s, some .storeFault)

/-! Traps (R173). -/

/-- A trap is taken: mepc, mcause and mtval are written, MIE moves to MPIE and clears, and the pc goes to mtvec. -/
def State.scaTrap (s : State) (n : Nat) (c : TrapCause) (tval : BitVec 32) : State :=
  let x := s.sca n
  s.setSca n { x with
    mepc := x.pc, mcause := trapCode c, mtval := tval, mpie := x.mie, mie := false, pc := x.mtvec, waiting := false }

/-- The external interrupt is asserted: MEIP (R173, R369). -/
def State.meip (s : State) (n : Nat) : Bool := s.request n

/-- The wait that the scalar processor of a core has asked for and not been answered. -/
def State.scaWait (s : State) (n : Nat) : Option Wait :=
  let mine (w : Wait) : Bool := decide (w.req = reqId n 13)
  (s.waits.find? mine).or ((s.grants.find? mine).or (s.cross.findSome? (fun (p : Nat × List CrossEntry) => p.2.findSome? (fun e =>
    match e with
    | .wait w => if mine w then some w else none
    | .grant w => if mine w then some w else none
    | _ => none))))

/-- The external interrupt is taken; a wait in ndtokwait is abandoned without effect (R175). -/
def State.scaInterrupt (s : State) (n : Nat) : State :=
  let s := match s.scaWait n with
    | some w => s.tokDrop n 13 w.tok w.n
    | none => s
  s.scaTrap n .external 0

/-- An instruction's end. -/
def State.scaFinish (s : State) (n : Nat) (e : ScaEnd) : State :=
  let x := s.sca n
  match e with
  | .retire pc => s.setSca n { x with pc := pc, instret := x.instret + 1, waiting := false }
  | .trap c v => s.scaTrap n c v
  | .wait => s.setSca n { x with waiting := true }

/-! CSRs (R173, R175). -/

/-- The 64-bit value of mcycle: the island's cycle counter plus the offset (R173). -/
def State.mcycle (s : State) (n : Nat) : BitVec 64 := BitVec.ofNat 64 (s.cycles (s.phys n)) + (s.sca n).cycleOff

def lowHalf (v : BitVec 64) : BitVec 32 := v.setWidth 32
def highHalf (v : BitVec 64) : BitVec 32 := (v >>> 32).setWidth 32
/-- A 64-bit value with one half replaced. -/
def withHalf (v : BitVec 64) (high : Bool) (x : BitVec 32) : BitVec 64 := if high then x ++ lowHalf v else highHalf v ++ x

/-- The token that ndtoksel names. -/
def State.scaTok (s : State) (n : Nat) : Option Tok := tokRef n (s.sca n).toksel.toNat
/-- The move queue that ndqsel names. -/
def State.scaQ (s : State) (n : Nat) : Nat := (s.sca n).qsel.toNat % 8

/-- The free entries of a queue (R175). -/
def State.qFree (s : State) (n m : Nat) : Nat := s.qSize n m - sub16 (s.qTail n m) (s.qDone n m)

/-- The value of a CSR; none where it does not exist, `.inl` where it is a CSR that is only written, whose read value is
open (log 10). -/
def State.csrGet (s : State) (n c : Nat) : Option (Unit ⊕ BitVec 32) :=
  let x := s.sca n
  match c with
  | 0x300 => some (.inr (0x1800#32 ||| (if x.mie then 8#32 else 0#32) ||| (if x.mpie then 0x80#32 else 0#32)))
  | 0x301 => some (.inr 0x40001104#32)
  | 0x304 => some (.inr (if x.meie then 0x800#32 else 0#32))
  | 0x305 => some (.inr x.mtvec)
  | 0x340 => some (.inr x.mscratch)
  | 0x341 => some (.inr x.mepc)
  | 0x342 => some (.inr x.mcause)
  | 0x343 => some (.inr x.mtval)
  | 0x344 => some (.inr (if s.meip n then 0x800#32 else 0#32))
  | 0xB00 => some (.inr (lowHalf (s.mcycle n)))
  | 0xB80 => some (.inr (highHalf (s.mcycle n)))
  | 0xC00 => some (.inr (lowHalf (s.mcycle n)))
  | 0xC80 => some (.inr (highHalf (s.mcycle n)))
  | 0xB02 => some (.inr (lowHalf x.instret))
  | 0xB82 => some (.inr (highHalf x.instret))
  | 0xC02 => some (.inr (lowHalf x.instret))
  | 0xC82 => some (.inr (highHalf x.instret))
  | 0xF11 => some (.inr 0#32)
  | 0xF12 => some (.inr 0#32)
  | 0xF13 => some (.inr 0#32)
  | 0xF14 => some (.inr (BitVec.ofNat 32 n))
  | 0x7C0 => some (.inr x.toksel)
  | 0x7C1 => some (.inl ())
  | 0x7C2 => some (.inl ())
  | 0x7C3 => some (.inl ())
  | 0x7C4 => some (.inr x.qsel)
  | 0x7C5 => some (.inl ())
  | 0x7C6 => some (.inl ())
  | 0xFC0 =>
    match s.scaTok n with
    | some t => some (.inr (BitVec.ofNat 32 (s.tokCount t)))
    | none => none
  | 0xFC1 =>
    let m := s.scaQ n
    some (.inr (BitVec.ofNat 32 (s.qFree n m % 65536 + s.qSt n m * 65536)))
  | _ => none

/-- mcycle or mcycleh written: the offset is set so that the CSR reads the value (R173). -/
def State.setMcycle (s : State) (n : Nat) (high : Bool) (v : BitVec 32) : State :=
  let x := s.sca n
  s.setSca n { x with cycleOff := withHalf (s.mcycle n) high v - BitVec.ofNat 64 (s.cycles (s.phys n)) }

/-- minstret or minstreth written: the CSR reads the value after the writing instruction. -/
def State.setInstret (s : State) (n : Nat) (high : Bool) (v : BitVec 32) : State :=
  let x := s.sca n
  s.setSca n { x with instret := withHalf x.instret high v - 1 }

/-- What a token or queue CSR write answers: the state, how the instruction ends (`none` to retire) and the value returned. -/
structure CsrOut where
  st : State
  fin : Option ScaEnd
  val : Option (BitVec 32)
  deriving DecidableEq, Repr

/-- ndtokwait: WAITTOK on the selected token; a reserved reference is an illegal instruction (R175). -/
def State.csrTokWait (s : State) (n v : Nat) (ins : BitVec 32) : CsrOut :=
  match s.scaTok n with
  | none => ⟨s, some (.trap .illegal ins), none⟩
  | some t =>
    let r := s.tokWait n 13 t (v % 65536)
    ⟨r.1, if r.2 then none else some .wait, none⟩

/-- ndtoksig: SIGTOK on the selected token (R175). -/
def State.csrTokSig (s : State) (n v : Nat) (ins : BitVec 32) : CsrOut :=
  match s.scaTok n with
  | none => ⟨s, some (.trap .illegal ins), none⟩
  | some t => ⟨s.signal n t (v % 65536), none, none⟩

/-- ndtoktry: after the waits that stand before it (R178), subtracts n where the count covers it and returns 1, otherwise
returns 0 (R175). -/
def State.csrTokTry (s : State) (n v : Nat) (ins : BitVec 32) : CsrOut :=
  match s.scaTok n with
  | none => ⟨s, some (.trap .illegal ins), none⟩
  | some t =>
    let s := s.serveToken t
    match s.tokTake t (v % 65536) with
    | some s' => ⟨s', none, some 1⟩
    | none => ⟨s, none, some 0⟩

/-- ndqpush: the 64 bytes become entry tail of the selected queue and tail advances; waits while no entry is free (R175). -/
def State.csrPush (s : State) (n v : Nat) : CsrOut :=
  if v % 64 ≠ 0 then ⟨s, some (.trap .storeMisaligned (BitVec.ofNat 32 v)), none⟩
  else if v < 0x10000 ∨ v ≥ 0x20000 then ⟨s, some (.trap .storeFault (BitVec.ofNat 32 v)), none⟩
  else
    let m := s.scaQ n
    if s.qFree n m = 0 then ⟨s, some .wait, none⟩ else
    let tail := s.qTail n m
    let o := s.qEntry n m tail
    let s := if o + 64 > slotSize then s.decodeErr n (slotBase n + o) else s
    let s := s.tmWrite n o (readBytes (s.sca n).dmem (v - 0x10000) 64)
    let new := (tail + 1) % 65536
    ⟨s.movTail n m new, none, some (BitVec.ofNat 32 new)⟩

/-- ndqcancel: writing 1 cancels the selected queue (R175, R189). -/
def State.csrCancel (s : State) (n v : Nat) : CsrOut := ⟨if v = 1 then s.movCancel n (s.scaQ n) else s, none, none⟩

/-- A CSR written with a value. -/
def State.csrSet (s : State) (n c : Nat) (v ins : BitVec 32) : CsrOut :=
  let x := s.sca n
  let ok (x : Scalar) : CsrOut := ⟨s.setSca n x, none, none⟩
  match c with
  | 0x300 => ok { x with mie := v.getLsbD 3, mpie := v.getLsbD 7 }
  | 0x304 => ok { x with meie := v.getLsbD 11 }
  | 0x305 => ok { x with mtvec := v &&& ~~~3#32 }
  | 0x340 => ok { x with mscratch := v }
  | 0x341 => ok { x with mepc := v &&& ~~~1#32 }
  | 0x342 => ok { x with mcause := v }
  | 0x343 => ok { x with mtval := v }
  | 0xB00 => ⟨s.setMcycle n false v, none, none⟩
  | 0xB80 => ⟨s.setMcycle n true v, none, none⟩
  | 0xB02 => ⟨s.setInstret n false v, none, none⟩
  | 0xB82 => ⟨s.setInstret n true v, none, none⟩
  | 0x7C0 => ok { x with toksel := v &&& 0x1FF#32 }
  | 0x7C1 => s.csrTokWait n v.toNat ins
  | 0x7C2 => s.csrTokSig n v.toNat ins
  | 0x7C3 => s.csrTokTry n v.toNat ins
  | 0x7C4 => ok { x with qsel := v &&& 7#32 }
  | 0x7C5 => s.csrPush n v.toNat
  | 0x7C6 => s.csrCancel n v.toNat
  | _ => ⟨s, none, none⟩

/-- A CSR instruction: `f3` 1 to 3 with a register source, 5 to 7 with an immediate (Zicsr). -/
def State.scaCsr (s : State) (n : Nat) (ins : BitVec 32) (next : BitVec 32) : State × ScaEnd :=
  let w := ins.toNat
  let c := bitsOf w 20 12
  let f3 := bitsOf w 12 3
  let rd := bitsOf w 7 5
  let rs := bitsOf w 15 5
  let src : BitVec 32 := if f3 ≥ 4 then BitVec.ofNat 32 rs else s.xget n rs
  let writes := f3 % 4 = 1 ∨ rs ≠ 0
  match s.csrGet n c with
  | none => (s, .trap .illegal ins)
  | some g =>
    if writes ∧ c / 1024 = 3 then (s, .trap .illegal ins) else
    let o : State × BitVec 32 := match g with
      | .inr v => (s, v)
      | .inl _ => if f3 % 4 = 1 ∧ (rd = 0 ∨ c = 0x7C3 ∨ c = 0x7C5) then (s, 0) else (s.free.1, lowHalf s.free.2)
    let v := match f3 % 4 with
      | 1 => src
      | 2 => o.2 ||| src
      | _ => o.2 &&& ~~~src
    if !decide writes then (o.1.xput n rd o.2, .retire next) else
    let r := o.1.csrSet n c v ins
    match r.fin with
    | some e => (if e = .wait then r.st else s, e)
    | none => (r.st.xput n rd (r.val.getD o.2), .retire next)

/-! Instructions. -/

/-- Register and immediate arithmetic of RV32I. -/
def aluOp (f3 : Nat) (alt : Bool) (a b : BitVec 32) : BitVec 32 :=
  match f3 with
  | 0 => if alt then a - b else a + b
  | 1 => a <<< (b.toNat % 32)
  | 2 => if a.slt b then 1 else 0
  | 3 => if a.ult b then 1 else 0
  | 4 => a ^^^ b
  | 5 => if alt then a.sshiftRight (b.toNat % 32) else a >>> (b.toNat % 32)
  | 6 => a ||| b
  | _ => a &&& b

/-- Multiplication and division of RV32M: division by zero and overflow as the extension fixes them. -/
def mulOp (f3 : Nat) (a b : BitVec 32) : BitVec 32 :=
  match f3 with
  | 0 => a * b
  | 1 => BitVec.ofInt 32 ((a.toInt * b.toInt) / 2 ^ 32)
  | 2 => BitVec.ofInt 32 ((a.toInt * (b.toNat : Int)) / 2 ^ 32)
  | 3 => BitVec.ofNat 32 (a.toNat * b.toNat / 2 ^ 32)
  | 4 => if b = 0 then -1 else BitVec.ofInt 32 (a.toInt.tdiv b.toInt)
  | 5 => if b = 0 then -1 else a / b
  | 6 => if b = 0 then a else BitVec.ofInt 32 (a.toInt.tmod b.toInt)
  | _ => if b = 0 then a else a % b

/-- Whether a branch is taken; none for the two reserved conditions. -/
def branchOp (f3 : Nat) (a b : BitVec 32) : Option Bool :=
  match f3 with
  | 0 => some (decide (a = b))
  | 1 => some (decide (a ≠ b))
  | 4 => some (a.slt b)
  | 5 => some (!a.slt b)
  | 6 => some (a.ult b)
  | 7 => some (!a.ult b)
  | _ => none

/-- A load instruction. -/
def State.scaLd (s : State) (n f3 rd a : Nat) (ins next : BitVec 32) (e : Ecc) : State × ScaEnd :=
  let go (b : Nat) (signed : Bool) : State × ScaEnd :=
    let r := s.scaLoad n a b e
    match r.2 with
    | .inl c => (r.1, .trap c (BitVec.ofNat 32 a))
    | .inr v => (r.1.xput n rd (BitVec.ofNat 32 (if signed then sext (8 * b) v else v)), .retire next)
  match f3 with
  | 0 => go 1 true
  | 1 => go 2 true
  | 2 => go 4 true
  | 4 => go 1 false
  | 5 => go 2 false
  | _ => (s, .trap .illegal ins)

/-- A store instruction. -/
def State.scaSt (s : State) (n f3 a v : Nat) (ins next : BitVec 32) (e : Ecc) : State × ScaEnd :=
  if f3 > 2 then (s, .trap .illegal ins) else
  let r := s.scaStore n a (2 ^ f3) v e
  match r.2 with
  | some c => (s, .trap c (BitVec.ofNat 32 a))
  | none => (r.1, .retire next)

/-- Return from a trap: the pc from mepc, MIE from MPIE, MPIE set. -/
def State.mret (s : State) (n : Nat) : State × ScaEnd :=
  let x := s.sca n
  (s.setSca n { x with mie := x.mpie, mpie := true }, .retire x.mepc)

/-- WFI completes once MEIP and MEIE are both set, whatever MIE holds (R173). -/
def State.scaWfi (s : State) (n : Nat) (next : BitVec 32) : State × ScaEnd :=
  (s, if s.meip n && (s.sca n).meie then .retire next else .wait)

/-- One 32-bit instruction of `len` bytes (R172); anything else is an illegal instruction. -/
def State.scaExec (s : State) (n : Nat) (ins : BitVec 32) (len : BitVec 32) (raw : BitVec 32) (e : Ecc) : State × ScaEnd :=
  let w := ins.toNat
  let pc := (s.sca n).pc
  let next := pc + len
  let rd := bitsOf w 7 5
  let f3 := bitsOf w 12 3
  let f7 := bitsOf w 25 7
  let a := s.xget n (bitsOf w 15 5)
  let b := s.xget n (bitsOf w 20 5)
  let immI := BitVec.ofNat 32 (sext 12 (bitsOf w 20 12))
  let immS := BitVec.ofNat 32 (sext 12 (f7 * 32 + rd))
  let immB := BitVec.ofNat 32 (sext 13 (bitsOf w 31 1 * 2 ^ 12 + bitsOf w 7 1 * 2 ^ 11 + bitsOf w 25 6 * 2 ^ 5 + bitsOf w 8 4 * 2))
  let immU := BitVec.ofNat 32 (w / 4096 * 4096)
  let immJ := BitVec.ofNat 32 (sext 21 (bitsOf w 31 1 * 2 ^ 20 + bitsOf w 12 8 * 2 ^ 12 + bitsOf w 20 1 * 2 ^ 11 + bitsOf w 21 10 * 2))
  let ill : State × ScaEnd := (s, .trap .illegal raw)
  let set (v : BitVec 32) : State × ScaEnd := (s.xput n rd v, .retire next)
  match bitsOf w 0 7 with
  | 0x37 => set immU
  | 0x17 => set (pc + immU)
  | 0x6F => (s.xput n rd next, .retire (pc + immJ))
  | 0x67 => if f3 = 0 then (s.xput n rd next, .retire ((a + immI) &&& ~~~1#32)) else ill
  | 0x63 =>
    match branchOp f3 a b with
    | some true => (s, .retire (pc + immB))
    | some false => (s, .retire next)
    | none => ill
  | 0x03 => s.scaLd n f3 rd (a + immI).toNat raw next e
  | 0x23 => s.scaSt n f3 (a + immS).toNat b.toNat raw next e
  | 0x13 =>
    if f3 = 1 then (if f7 = 0 then set (aluOp 1 false a immI) else ill)
    else if f3 = 5 then (if f7 = 0 ∨ f7 = 32 then set (aluOp 5 (f7 = 32) a immI) else ill)
    else set (aluOp f3 false a immI)
  | 0x33 =>
    if f7 = 0 then set (aluOp f3 false a b)
    else if f7 = 1 then set (mulOp f3 a b)
    else if f7 = 32 ∧ (f3 = 0 ∨ f3 = 5) then set (aluOp f3 true a b)
    else ill
  | 0x0F => if f3 ≤ 1 then (s, .retire next) else ill
  | 0x73 =>
    if f3 = 0 then
      if w = 0x00000073 then (s, .trap .ecall 0)
      else if w = 0x00100073 then (s, .trap .breakpoint pc)
      else if w = 0x30200073 then s.mret n
      else if w = 0x10500073 then s.scaWfi n next
      else ill
    else if f3 = 4 then ill
    else s.scaCsr n ins next
  | _ => ill

/-- The instruction at the pc: its 32-bit form, its length, and the bits as fetched; or the trap of its fetch (R173, R174). -/
def State.scaFetch (s : State) (n : Nat) : TrapCause ⊕ (Option Nat × Nat × Nat) :=
  let x := s.sca n
  let pc := x.pc.toNat
  if pc % 2 = 1 then .inl .fetchMisaligned
  else if pc ≥ 0x10000 then .inl .fetchFault else
  let h := leNat (readBytes x.imem pc 2)
  if h % 4 ≠ 3 then .inr (expand16 h, 2, h)
  else if pc + 4 > 0x10000 then .inl .fetchFault
  else
    let w := leNat (readBytes x.imem pc 4)
    .inr (some w, 4, w)

/-- The processor runs: its core is served and it is not held. -/
def State.scaReady (s : State) (n : Nat) : Bool := s.alive n && !(s.sca n).held

/-- The external interrupt is taken before the next instruction; a wait in WFI completes first (R173). -/
def State.scaTakes (s : State) (n : Nat) : Bool := s.meip n && (s.sca n).meie && (s.sca n).mie

/-- One step of the scalar processor; `e` is what its access to tile memory finds (R129). -/
def State.scaStep (s : State) (n : Nat) (e : Ecc) : State :=
  if !s.scaReady n then s else
  let wfi := match s.scaFetch n with
    | .inr (some 0x10500073, _, _) => (s.sca n).waiting
    | _ => false
  if s.scaTakes n && !wfi then s.scaInterrupt n else
  match s.scaFetch n with
  | .inl c => s.scaTrap n c (s.sca n).pc
  | .inr (none, _, raw) => s.scaTrap n .illegal (BitVec.ofNat 32 raw)
  | .inr (some w, len, raw) =>
    let r := s.scaExec n (BitVec.ofNat 32 w) (BitVec.ofNat 32 len) (BitVec.ofNat 32 raw) e
    r.1.scaFinish n r.2

/-- SCALAR_INSTRUCTION: the processor executes the instruction at its pc, or takes the external interrupt (R172, R173). -/
def execScalarInstruction (n : CoreId) (e : Ecc) (s : State) : Host.Outcome State Fault Refusal := .next (s.scaStep n e)

/-- An instruction of 4 bytes whose effect the command names. -/
def State.scaDo (s : State) (n : Nat) (f : State → BitVec 32 → State × ScaEnd) : State :=
  if !s.scaReady n then s else
  if s.scaTakes n then s.scaInterrupt n else
  let r := f s ((s.sca n).pc + 4)
  r.1.scaFinish n r.2

/-- A CSR write whose value goes to `rd`. -/
def CsrOut.finish (o : CsrOut) (s : State) (n rd : Nat) (next : BitVec 32) : State × ScaEnd :=
  match o.fin with
  | some e => (if e = .wait then o.st else s, e)
  | none => (o.st.xput n rd (o.val.getD 0), .retire next)

/-- FENCE: every earlier load and store has completed, since each does so before the next instruction (R172). -/
def execFence (n : CoreId) (s : State) : Host.Outcome State Fault Refusal := .next (s.scaDo n (fun s p => (s, .retire p)))

/-- WFI: waits until MEIP and MEIE are both set (R173). -/
def execWfi (n : CoreId) (s : State) : Host.Outcome State Fault Refusal :=
  .next (
    if !s.scaReady n then s else
    if s.scaTakes n && !(s.sca n).waiting then s.scaInterrupt n else
    let r := s.scaWfi n ((s.sca n).pc + 4)
    r.1.scaFinish n r.2)

def execMcycleWrite (n : CoreId) (high : Bool) (v : BitVec 32) (s : State) : Host.Outcome State Fault Refusal :=
  .next (s.scaDo n (fun s p => (s.setMcycle n high v, .retire p)))

/-- SCALAR_TRAP: an exception, or the external interrupt when it is enabled and asserted (R173). -/
def execScalarTrap (n : CoreId) (cause : TrapCause) (tval : BitVec 32) (s : State) : Host.Outcome State Fault Refusal :=
  .next (
    if !s.scaReady n then s
    else if cause = .external then (if s.scaTakes n then s.scaInterrupt n else s)
    else s.scaTrap n cause tval)

def execNdtokwait (n : CoreId) (v : BitVec 32) (s : State) : Host.Outcome State Fault Refusal :=
  .next (s.scaDo n (fun s p => (s.csrTokWait n v.toNat 0).finish s n 0 p))
def execNdtoksig (n : CoreId) (v : BitVec 32) (s : State) : Host.Outcome State Fault Refusal :=
  .next (s.scaDo n (fun s p => (s.csrTokSig n v.toNat 0).finish s n 0 p))
def execNdtoktry (n : CoreId) (rd : Fin 32) (v : BitVec 32) (s : State) : Host.Outcome State Fault Refusal :=
  .next (s.scaDo n (fun s p => (s.csrTokTry n v.toNat 0).finish s n rd p))
def execNdqpush (n : CoreId) (rd : Fin 32) (v : BitVec 32) (s : State) : Host.Outcome State Fault Refusal :=
  .next (s.scaDo n (fun s p => (s.csrPush n v.toNat).finish s n rd p))
def execNdqcancel (n : CoreId) (v : BitVec 32) (s : State) : Host.Outcome State Fault Refusal :=
  .next (s.scaDo n (fun s p => (s.csrCancel n v.toNat).finish s n 0 p))

end Sys2Proof.Machine
end

