-- ==== Sys2Proof/Machine/Tokens.lean ====
section
/-! DEFINITION. The commands of tokens (R176 to R179). -/

namespace Sys2Proof.Machine

/-- The mode of PCI_MBX_GLOBAL: 0 BOOTING, 1 OPERATIONAL, 2 OUTAGE, 3 FROST, 4 SNOWBOUND (R294). -/
def State.mode (s : State) : Nat := s.fld (reg0 .PCI_MBX_GLOBAL 0) F.PCI_MBX_GLOBAL_mode
/-- A change of the mode or of the frost cause: an in-band interrupt with the new mode where they are enabled, or
MGMT_ALERT_N where no dynamic address is assigned (R381). -/
def State.mgmtNote (s : State) : State :=
  let now := (s.mode, s.fld (reg0 .RST_STATUS 0) F.RST_STATUS_frost_cause)
  if now = s.mgmt.last then s else
  let g := { s.mgmt with last := now }
  { s with mgmt := if g.dyn.isNone then { g with alert := true } else if g.events then { g with ibi := some now.1 } else g }
/-- The mode of the module (R288). -/
def State.setMode (s : State) (x : Nat) : State := (s.setF (reg0 .PCI_MBX_GLOBAL 0) F.PCI_MBX_GLOBAL_mode x).mgmtNote
/-- standby_ready, and the serving pair, as both registers show them (R288, R363). -/
def State.setStandby (s : State) (x : Nat) : State :=
  (s.setF (reg0 .PCI_MBX_GLOBAL 0) F.PCI_MBX_GLOBAL_standby_ready x).setF (reg0 .RST_FAILOVER 0) F.RST_FAILOVER_standby_ready x
def State.setServing (s : State) (x : Nat) : State :=
  (s.setF (reg0 .PCI_MBX_GLOBAL 0) F.PCI_MBX_GLOBAL_serving_die x).setF (reg0 .RST_FAILOVER 0) F.RST_FAILOVER_serving x

/-- The TOK_SIG register of a token. -/
def sigReg (t : Tok) : Reg :=
  match t.scope with
  | 0 => reg1 .TOK_SIG_CORE t.unit t.k
  | 1 => reg1 .TOK_SIG_CLUSTER t.unit t.k
  | 2 => reg1 .TOK_SIG_REGION t.unit t.k
  | 3 => reg1 .TOK_SIG_DIE t.unit t.k
  | 4 => reg1 .TOK_SIG_MODULE t.unit t.k

/-- What an access to the registers of a token does where the block that holds them answers (R20, R25). -/
def State.atToken (s : State) (t : Tok) (u : State) : State := if s.regStatus (tokReg t) = .ok then u else s

/-- TOKEN_SIGNAL: a signal reaches a token; a core that is not served and a stopped island discard it (R20, R25, R177). -/
def execTokenSignal (t : Tok) (n : BitVec 16) (s : State) : Host.Outcome State Fault Refusal :=
  .next (s.atToken t (s.tokAdd t n.toNat))

def execTokenWaitServe (t : Tok) (s : State) : Host.Outcome State Fault Refusal := .next (s.atToken t (s.serveToken t))

/-- TOK_CNT_WRITE: the count and the W1C ovf bit (R9, R178). -/
def execTokCntWrite (t : Tok) (v : BitVec 64) (s : State) : Host.Outcome State Fault Refusal :=
  .next (s.atToken t (s.coreRegWrite (tokReg t) v (BitVec.allOnes 64)))

def execTokSigWrite (t : Tok) (v : BitVec 64) (s : State) : Host.Outcome State Fault Refusal :=
  .next (s.atToken t (s.coreRegWrite (sigReg t) v (BitVec.allOnes 64)))

end Sys2Proof.Machine
end

