-- ==== Sys2Proof/Machine/Access.lean ====
section
/-! DEFINITION. Accesses to the address map by requesters other than a core's own engines: the host, the control
processors, the Bilpo ports and the window streamers (R20, R25, R30, R198, R270, R272, R299). -/

namespace Sys2Proof.Machine

/-- The number of a requester in an event payload, and the island it lies in (log 12). -/
def reqCode : Requester → Nat
  | .move n _ => n
  | .scalar n => n
  | .streamer d => 1024 + d
  | .firmware => 2000
  | .host => 2001
  | .port p => 2002 + p

def State.whoIsland (s : State) : Requester → Nat
  | .move n _ => s.phys n
  | .scalar n => s.phys n
  | .streamer d => dieIsland d
  | .firmware => s.cpIsland
  | .host => 106
  | .port p => 111 + p

/-- A decode error of any requester (R30, R365): source 8n + 7 for a core's, 531 for the others. -/
def State.accessErr (s : State) (q : Requester) (a : Nat) : State :=
  match q with
  | .move n _ => s.decodeErr n a
  | .scalar n => s.decodeErr n a
  | q => (s.edge 531).event (s.whoIsland q) 0x0105 [(reqCode q, 2), (a, 8)]

/-- An access of the host to a core that is not MAPPED: a decode-error event whose last byte, 0x22, is the unavailable-target
status (R20, R270; log 12). -/
def State.noTarget (s : State) (q : Requester) (a : Nat) : State :=
  if q = .host then (s.edge 531).event (s.whoIsland q) 0x0105 [(reqCode q, 2), (a, 8), (0x22, 1)] else s

/-- What an access found: the bytes of a read and the status it completed with. -/
structure Acc where
  st : State
  bytes : List Byte
  status : Status
  deriving DecidableEq, Repr

def zeros (n : Nat) : List Byte := List.replicate n 0

/-- A read of `len` bytes at class 1 with hint STREAM; one that fails without the zeros of R20 and R30 brings no bytes. The host learns of an unavailable target by the decode-error event
(R270). -/
def State.devRead (s : State) (q : Requester) (a len : Nat) (e : Ecc) : Acc :=
  match region a with
  | .stacked =>
    let m := s.stackedRead a (min len (0x13B00000000 - a)) 0 1 e
    match m.bad with
    | none =>
      if a + len ≤ 0x13B00000000 then ⟨m.st, m.bytes, .ok⟩
      else ⟨m.st.accessErr q 0x13B00000000, m.bytes ++ zeros (a + len - 0x13B00000000), .ok⟩
    | some (_, p) => ⟨m.st, [], if p then .poisoned else .uncorrectable⟩
  | .slot n o =>
    if s.remap n ≠ 0 then ⟨s.noTarget q a, zeros len, .unavailableTarget⟩
    else if !s.alive n then ⟨s, [], .fenced⟩
    else
      let c := s.tmCheck n o len e
      if c.2 then ⟨c.1, [], .uncorrectable⟩
      else ⟨if o + len > slotSize then c.1.accessErr q a else c.1, c.1.tmRead n o len, if o ≥ slotSize then .decodeError else .ok⟩
  | .far =>
    if s.farOk (a, a + len - 1) then
      if s.farHit (a, a + len - 1) then ⟨s, [], .poisoned⟩ else ⟨s, readBytes s.mem a len, .ok⟩
    else ⟨s.accessErr q a, zeros len, .decodeError⟩
  | .host =>
    if !s.hostOk (a + len - 1) || q = .host then ⟨s.accessErr q a, zeros len, .decodeError⟩
    else if s.hostUp then ⟨s, readBytes s.mem a len, .ok⟩ else ⟨s, [], .refused⟩
  | _ => ⟨s.accessErr q a, zeros len, .decodeError⟩

/-- A write at class 1 with hint STREAM. -/
def State.devWrite (s : State) (q : Requester) (a : Nat) (bs : List Byte) : Acc :=
  match region a with
  | .stacked =>
    let t := s.stackedWrite a (bs.take (0x13B00000000 - a)) 0 1
    ⟨if a + bs.length ≤ 0x13B00000000 then t else t.accessErr q 0x13B00000000, [], .ok⟩
  | .slot n o =>
    if s.remap n ≠ 0 then ⟨s.noTarget q a, [], .unavailableTarget⟩
    else if !s.alive n then ⟨s, [], .fenced⟩
    else
      let t := s.tmWrite n o bs
      ⟨if o + bs.length > slotSize then t.accessErr q a else t, [], if o ≥ slotSize then .decodeError else .ok⟩
  | .far =>
    if s.farOk (a, a + bs.length - 1) then
      if s.farHit (a, a + bs.length - 1) then ⟨s, [], .refused⟩ else ⟨s.setMem (writeBytes s.mem a bs), [], .ok⟩
    else ⟨s.accessErr q a, [], .decodeError⟩
  | .host =>
    if !s.hostOk (a + bs.length - 1) || q = .host then ⟨s.accessErr q a, [], .decodeError⟩
    else if s.hostUp then ⟨s.setMem (writeBytes s.mem a bs), [], .ok⟩ else ⟨s, [], .refused⟩
  | _ => ⟨s.accessErr q a, [], .decodeError⟩

/-! Host buffers and interrupts (R272 to R275, R299). -/

def hostBase : Nat := 0x8000000000000

/-- A host buffer read by firmware; none where the access fails. -/
def State.bufRead (s : State) (b len : Nat) : State × Option (List Byte) :=
  if len = 0 then (s, some []) else
  let r := s.devRead .firmware (hostBase + b) len .ok
  (r.st, if r.status = .ok then some r.bytes else none)

/-- A host buffer written by firmware; whether the access succeeds. -/
def State.bufWrite (s : State) (b : Nat) (bs : List Byte) : State × Bool :=
  if bs.isEmpty then (s, true) else
  let r := s.devWrite .firmware (hostBase + b) bs
  (r.st, decide (r.status = .ok))

def State.setHost (s : State) (h : HostSide) : State := { s with host := h }

/-- An AER uncorrectable error logged, by its bit in the AER status register (R278, R365). -/
def State.aerLog (s : State) (b : Nat) : State :=
  ({ s with host := { s.host with aer := if s.host.aer.contains b then s.host.aer else s.host.aer ++ [b] } }).edge 600

/-- An MSI-X message of a vector: sent when sending is allowed, else its pending bit is set (R275). -/
def State.msixSend (s : State) (v : Nat) : State :=
  let h := s.host
  if s.hostUp && h.msixOn && !h.msixMask && !(tget ⟨0, 0, true⟩ h.msix v).mask then
    s.setHost { h with told := tmod 0 v (· + 1) h.told, pend := h.pend.filter (· != v) }
  else s.setHost { h with pend := if h.pend.contains v then h.pend else h.pend ++ [v] }

/-- Pending vectors sent once sending is allowed (R275). -/
def State.msixFlush (s : State) : State := s.host.pend.foldl State.msixSend s

end Sys2Proof.Machine
end

