-- ==== Sys2Proof/Machine/FarTier.lean ====
section
/-! DEFINITION. The CXL ports of the far tier (R281 to R287). -/

namespace Sys2Proof.Machine

def State.cxlPort (s : State) (k : Nat) : Cxl := tget .reset s.cxl k
def State.setCxl (s : State) (k : Nat) (x : Cxl) : State := { s with cxl := tput k x s.cxl }
/-- The state of CXL port k: 0 DOWN, 1 TRAINING, 2 ACTIVE, 3 REMOVING, 4 REMOVED, 5 REFUSED. -/
def State.cxlSt (s : State) (k : Nat) : Nat := s.fld (reg0 .CXL_STATUS (k + 1)) F.CXL_STATUS_state
def State.cxlF (s : State) (k : Nat) (f : Fld) (x : Nat) : State := s.setF (reg0 .CXL_STATUS (k + 1)) f x
/-- A port changes state (R365). -/
def State.setCxlSt (s : State) (k x : Nat) : State := (s.cxlF k F.CXL_STATUS_state x).edge (592 + 2 * k)

/-! Requests (R282, R284, R285). -/

/-- The request that leaves in the next slot: class 0 first, but classes 1 and 2 up to their guards of the last 64 slots,
and under DevLoad no further (R210, R284). DevLoad 2 is moderate, 3 severe overload (log 3). -/
def State.nextFar (s : State) (x : Cxl) : Option FarReq :=
  let arb := s.rd (reg0 .HBM_ARB 0)
  let got (c : Nat) : Nat := (x.hist.filter (· == c)).length
  let under1 := decide (got 1 < fget arb F.HBM_ARB_min1)
  let under2 := decide (got 2 < fget arb F.HBM_ARB_min2)
  let room (r : FarReq) : Bool :=
    if r.write then decide ((x.fly.filter (·.write)).length < 1024) else decide ((x.fly.filter (fun y => !y.write)).length < 2048)
  let first (c : Nat) : Option FarReq := x.wait.find? (fun r => decide (r.cls = c) && room r)
  let g1 := if under1 then first 1 else none
  let g2 := if under2 then first 2 else none
  let r1 := if x.load ≤ 2 then first 1 else none
  let r2 := if x.load ≤ 1 then first 2 else none
  g1.or (g2.or ((first 0).or (r1.or r2)))

/-- One request slot of a port. -/
def State.farIssue (s : State) (k : Nat) : State :=
  let x := s.cxlPort k
  if s.cxlSt k ≠ 2 ∨ s.mode = 3 then s else
  match s.nextFar x with
  | some r => s.setCxl k { x with wait := x.wait.erase r, fly := x.fly ++ [r], hist := (r.cls :: x.hist).take 64 }
  | none => s.setCxl k { x with hist := (3 :: x.hist).take 64 }

/-- A request that ended without its data, or whose write did not end: a move queue faults, a page of a window enters the
retry order, any other requester learns of it (R285). -/
def State.farFail (s : State) (r : FarReq) : State :=
  match r.who with
  | .move n m =>
    let idx := (((s.que n m).started.map (·.idx)).head?).getD (s.qStart n m)
    s.movFault n m idx (if r.write then 0x22 else 0x20) 0
  | .streamer d =>
    let w := s.win d
    match w.fly.find? (fun f => decide (f.2 / 0x40000 = r.addr / 0x40000)) with
    | some f => (s.putWin d { w with fly := w.fly.erase f }).poisonSlot d (f.1 % max 1 w.pages)
    | none => s
  | _ => { s with rbytes := [], rstatus := if r.write then .refused else .poisoned }

/-- A far-tier address that no decoder covers (R282). -/
def State.farUndecoded (s : State) (q : Requester) (a : Nat) (write : Bool) : State :=
  match q with
  | .move n m => s.movFault n m (((s.que n m).started.map (·.idx)).head?.getD (s.qStart n m)) 0x02 0
  | .streamer d => s.winFault d 2
  | q => { s.accessErr q a with rbytes := if write then s.rbytes else zeros 64, rstatus := .decodeError }

/-- FAR_TIER_REQUEST: the decoder, the port, and the port's slot (R282, R284, R286). -/
def State.farRequest (s : State) (q : Requester) (a : Nat) (write : Bool) (cls : Nat) : State :=
  let f := a - 0x1000000000000
  if region a ≠ .far then s else
  match s.farPort f with
  | none => if s.farLost f then s.farFail ⟨q, a, write, cls⟩ else s.farUndecoded q a write
  | some k =>
    let x := s.cxlPort k
    (s.setCxl k { x with wait := x.wait ++ [⟨q, a, write, cls⟩] }).farIssue k
def execFarTierRequest (q : Requester) (a : BitVec 52) (write : Bool) (prio : Fin 3) (s : State) :
    Host.Outcome State Fault Refusal := .next (s.farRequest q a.toNat write prio)

/-- FAR_TIER_RESPONSE: the oldest request outstanding ends (R285). -/
def execFarTierResponse (port : Fin 4) (poison : Bool) (s : State) : Host.Outcome State Fault Refusal :=
  .next (
    let x := s.cxlPort port
    match x.fly with
    | [] => s.farIssue port
    | r :: rs =>
      let s := s.setCxl port { x with fly := rs, late := 0 }
      (if r.write then { s with rstatus := .ok }
      else if poison then
        ((s.bumpF (reg0 .CXL_ERR (port + 1)) F.CXL_ERR_poisoned).edge (593 + 2 * port)).farFail r
      else { s with rbytes := readBytes s.mem r.addr 64, rstatus := .ok }).farIssue port)

/-! Removal (R286). -/

/-- A decoder names a port. -/
def State.hdmNames (s : State) (n k : Nat) : Bool :=
  let t := (s.rd (reg1 .CXL_HDM_TGT 0 n)).toNat
  let w := 2 ^ s.fld (reg1 .CXL_HDM 0 n) F.CXL_HDM_ways
  (upTo 0 w).any (fun i => decide (bitsOf t (2 * i) 2 = k))

/-- A port enters REMOVED: what is outstanding fails, and every decoder that names it is disabled. -/
def State.cxlRemoved (s : State) (k cause : Nat) : State :=
  let x := s.cxlPort k
  let ds := (upTo 0 16).filter (fun n => decide (s.fld (reg1 .CXL_HDM 0 n) F.CXL_HDM_enable = 1) && s.hdmNames n k)
  let s := s.setCxl k { x with wait := [], fly := [], late := 0 }
  let s := ds.foldl (fun s n => s.setF (reg1 .CXL_HDM 0 n) F.CXL_HDM_enable 0) s
  let s := { s with hdmLost := s.hdmLost ++ ds.filter (fun n => !s.hdmLost.contains n) }
  let s := (x.fly ++ x.wait).foldl State.farFail s
  let s := (s.cxlF k F.CXL_STATUS_cause cause).setF (reg0 .CXL_CTRL (k + 1)) F.CXL_CTRL_remove 0
  (s.setCxlSt k 4).event (107 + k) 0x0304 [(k, 1), ((ds.map (fun n => 2 ^ n)).sum, 2)]

/-- FAR_TIER_TIMEOUT: the oldest request has no response; the sixteenth in a row removes the port (R285). -/
def execFarTierTimeout (port : Fin 4) (s : State) : Host.Outcome State Fault Refusal :=
  .next (
    let x := s.cxlPort port
    match x.fly with
    | [] => s
    | r :: rs =>
      let s := (s.setCxl port { x with fly := rs, late := x.late + 1 }).bumpF (reg0 .CXL_ERR (port + 1)) F.CXL_ERR_timeouts
      let s := (s.edge (593 + 2 * port)).farFail r
      if 16 ≤ x.late + 1 then s.cxlRemoved port 0x06 else s.farIssue port)

def execCxlSurpriseRemoval (port : Fin 4) (s : State) : Host.Outcome State Fault Refusal :=
  .next (if s.cxlSt port = 2 ∨ s.cxlSt port = 3 then s.cxlRemoved port 0x07 else s)

/-- CXL_REMOVE: a managed removal begins (R286, R287). -/
def State.cxlRemove (s : State) (k : Nat) : State :=
  if s.cxlSt k = 2 then (s.setF (reg0 .CXL_CTRL (k + 1)) F.CXL_CTRL_remove 1).setCxlSt k 3 else s
def execCxlRemove (port : Fin 4) (s : State) : Host.Outcome State Fault Refusal := .next (s.cxlRemove port)

def execCxlRemoveComplete (port : Fin 4) (s : State) : Host.Outcome State Fault Refusal :=
  .next (
    if s.cxlSt port = 3 ∧ (s.cxlPort port).fly.isEmpty then
      s.cxlRemoved port (s.fld (reg0 .CXL_STATUS (port + 1)) F.CXL_STATUS_cause)
    else s)

/-! Training (R281). -/

/-- CXL_TRAIN: from DOWN, REMOVED or REFUSED (R287). -/
def State.cxlTrain (s : State) (k : Nat) : State :=
  if s.cxlSt k = 0 ∨ s.cxlSt k = 4 ∨ s.cxlSt k = 5 then (s.cxlF k F.CXL_STATUS_cause 0).setCxlSt k 1 else s
def execCxlTrain (port : Fin 4) (s : State) : Host.Outcome State Fault Refusal := .next (s.runsOn (107 + port) (s.cxlTrain port))

/-- CXL_TRAINING_COMPLETE: the first unsupported property refuses the device (R281). -/
def execCxlTrainingComplete (port : Fin 4) (dev : CxlDev) (s : State) : Host.Outcome State Fault Refusal :=
  .next (s.runsOn (107 + port) (
    let refuse (c : Nat) : State := (s.cxlF port F.CXL_STATUS_cause c).setCxlSt port 5
    let cap := dev.capacity.toNat
    if s.cxlSt port ≠ 1 then s
    else if dev.type ≠ 3 then refuse 0x02
    else if !dev.flit256 then refuse 0x03
    else if dev.width ≠ 16 ∧ dev.width ≠ 8 then refuse 0x04
    else if 1 < dev.switches.toNat then refuse 0x05
    else
      let s := (s.cxlF port F.CXL_STATUS_width dev.width.toNat).cxlF port F.CXL_STATUS_switch dev.switches.toNat
      let s := (s.cxlF port F.CXL_STATUS_capacity_gib (min cap 65535)).cxlF port F.CXL_STATUS_undecoded_gib (min (cap - 8192) 65535)
      (s.setCxl port .reset).setCxlSt port 2))

def execDevloadReport (port : Fin 4) (load : BitVec 2) (s : State) : Host.Outcome State Fault Refusal :=
  .next (s.setCxl port { s.cxlPort port with load := load.toNat })

/-- MEDIA_EVENT: forwarded to the host (R285). -/
def execMediaEvent (port : Fin 4) (a : BitVec 52) (kind : BitVec 8) (s : State) : Host.Outcome State Fault Refusal :=
  .next ((s.edge (593 + 2 * port)).event (107 + port) 0x0303 [(port, 1), (a.toNat, 8), (kind.toNat, 1)])

end Sys2Proof.Machine
end

