-- ==== Sys2Proof/Machine/HostPort.lean ====
section
/-! DEFINITION. The PCI Express host port (R268 to R280). -/

namespace Sys2Proof.Machine

def pciReg : Reg := reg0 .PCI_STATUS 0

/-- ptm_locked takes a value; a change raises source 601 (R279, R365). -/
def State.setLocked (s : State) (x : Nat) : State :=
  if s.fld pciReg F.PCI_STATUS_ptm_locked = x then s else (s.setF pciReg F.PCI_STATUS_ptm_locked x).edge 601

/-! BAR2 (R270, R277). -/

/-- A 64-byte burst written in poison form: no line of the cache keeps its bytes (R203, R277). -/
def State.poisonBurst (s : State) (a : Nat) : State :=
  let s := match s.cacheLine a with
    | some l => (s.evict l).setSet a ((tget [] s.hbm.sets (setKey a)).filter (fun x => decide (x.line ≠ l.line)))
    | none => s
  { s with poison := if s.poison.contains a then s.poison else s.poison ++ [a] }

/-- BAR2_ACCESS: the device address its aperture gives, at class 1 with hint STREAM; in frost state and in snowbound recovery
mode reads end with Completer Abort and writes are discarded (R270, R277, R278). -/
def State.bar2Access (s : State) (o : Nat) (acc : HostAcc) : State :=
  let q := 2 ^ s.host.bar2Size * 2 ^ 30 / 4
  let a := s.fld (reg1 .PCI_APERTURE 0 (o / q)) F.PCI_APERTURE_base_hi * 2 ^ 30 + o % q
  if 4 * q ≤ o then s
  else if s.mode = 3 ∨ s.mode = 4 then
    match acc with
    | .read .. => { s.aerLog 15 with rbytes := [], rstatus := .refused }
    | .write .. => { s with rstatus := .refused }
  else
    match acc with
    | .read len e =>
      if region a = .host then { s.accessErr .host a with rbytes := zeros len.toNat, rstatus := .decodeError } else
      let r := s.devRead .host a len.toNat e
      { r.st with rbytes := r.bytes, rstatus := r.status }
    | .write bs ep =>
      if !ep then
        let r := s.devWrite .host a bs
        { r.st with rstatus := r.status }
      else
        let s := s.aerLog 12
        match region a with
        | .stacked =>
          let s := (upTo (a / 64) ((a + bs.length + 63) / 64 - a / 64)).foldl (fun s b => s.poisonBurst (64 * b)) s
          { s.memErr a true with rstatus := .poisoned }
        | .slot _ _ | .far => { s.event 106 0x0100 [(a / 0x40000, 8), (a, 8)] with rstatus := .poisoned }
        | _ => { s.accessErr .host a with rstatus := .decodeError }
def execBar2Access (o : BitVec 41) (a : HostAcc) (s : State) : Host.Outcome State Fault Refusal := .next (s.bar2Access o.toNat a)

/-! Reads of the host (R274). -/

/-- Where the oldest host read of a queue stands: among the transfers of stopped descriptors, or in a started one. -/
def MQueue.hostOld (q : MQueue) : Option Xfer := q.old.find? (·.host)
def MQueue.hostRead (q : MQueue) : Option (MDesc × Xfer) :=
  q.started.findSome? (fun x => (x.fly.find? (·.host)).map (fun f => (x, f)))

/-- What a transfer brings from host memory: its bytes, element by element for the last of a PANEL's lane and step. -/
def State.hostData (s : State) (f : Xfer) : List (List Byte) :=
  if dOp f.d = 2 ∧ f.i < dSteps f.d then (panelElems f.d f.i f.j).map (fun x => readBytes s.mem x.1 x.2)
  else (xferSrc f.d f.i f.j f.p f.row).map (fun x => readBytes s.mem x.1 x.2)

/-- A transfer whose data have arrived from the host, with its writes. -/
def State.hostLanded (s : State) (f : Xfer) : Xfer :=
  { f with host := false, writes := if xferLast f.d f.i f.j f.p then xferDst f.d f.i f.j f.row (s.hostData f) else [] }

/-- The data of a host read arrive (R274). -/
def State.hostOk_ (s : State) (n m : Nat) : State :=
  let q := s.que n m
  match q.hostOld with
  | some f =>
    s.putQue n m { q with old := q.old.map (fun y => if y = f then s.hostLanded f else y) }
  | none =>
    match q.hostRead with
    | none => s
    | some (x, f) =>
      let x := if xferLast f.d f.i f.j f.p then x.addCeilings f.i f.j (s.hostData f) else x
      s.putDesc n m { x with fly := x.fly.map (fun y => if y = f then s.hostLanded f else y) }

/-- A host read ends without data: the queue faults with cause 0x20 (R274). -/
def State.hostFail (s : State) (n m : Nat) : State :=
  let q := s.que n m
  match q.hostOld with
  | some f => s.putQue n m { q with old := q.old.erase f }
  | none =>
    match q.hostRead with
    | none => s
    | some (x, f) => (s.putDesc n m { x with fly := x.fly.erase f }).movFault n m x.idx 0x20 0

/-- A queue has a host read outstanding. -/
def State.hostReading (s : State) (n m : Nat) : Bool := (s.que n m).hostOld.isSome || (s.que n m).hostRead.isSome

def execHostCompletion (n : CoreId) (m : Fin 8) (k : HostCpl) (s : State) : Host.Outcome State Fault Refusal :=
  .next (
    if !s.hostReading n m then s else
    match k with
    | .ok => s.hostOk_ n m
    | .poisoned => (s.hostFail n m).aerLog 12
    | .unsupported | .abort => s.hostFail n m)

def execHostCompletionTimeout (n : CoreId) (m : Fin 8) (s : State) : Host.Outcome State Fault Refusal :=
  .next (if s.hostReading n m then (s.hostFail n m).aerLog 14 else s)

/-! The link, its configuration space and time (R275, R279, R280). -/

/-- Every host read outstanding ends as timed out (R280). -/
def State.hostReadsEnd (s : State) : State :=
  let one (n m : Nat) (s : State) : State :=
    ((s.que n m).old ++ (s.que n m).started.flatMap (·.fly)).foldl (fun s _ =>
      if s.hostReading n m then (s.hostFail n m).aerLog 14 else s) s
  s.cores.foldl (fun s c => (upTo 0 8).foldl (fun s m => one c.1 m s) s) s

/-- The configuration space and what returns to its reset value with it (R280). -/
def State.hostConfigReset (s : State) : State :=
  let h := s.host
  let s := s.setHost { HostSide.reset with
    pend := h.pend, told := h.told, aer := h.aer, aerMask := h.aerMask, aerSev := h.aerSev, aerCor := h.aerCor }
  let s := (upTo 0 4).foldl (fun s a => s.wr (reg1 .PCI_APERTURE 0 a) (reg1 .PCI_APERTURE 0 a).reset) s
  let s := s.wr (reg0 .PCI_REG_APERTURE 0) (reg0 .PCI_REG_APERTURE 0).reset
  (s.setF pciReg F.PCI_STATUS_bus_master 0).setF pciReg F.PCI_STATUS_d3hot 0

/-- The reference time runs free: nothing holds it back (R29). -/
def State.freeRun (s : State) : State := { s with clk := { s.clk with hold := 0, waits := false } }

/-- HOST_LINK_RESET: hot reset, link disable or link down (R280). -/
def State.hostLinkReset (s : State) : State :=
  let s := (s.setF pciReg F.PCI_STATUS_speed 7).setF pciReg F.PCI_STATUS_width 0
  (((s.hostReadsEnd.hostConfigReset).setLocked 0).edge 603).freeRun
def execHostLinkReset (s : State) : Host.Outcome State Fault Refusal := .next s.hostLinkReset

/-- The reference time corrected toward the host's: slewed within 10 ms, stepped forward or held beyond; a time that is held
because it was more than 10 ms ahead stays held until the host's has caught up (R29, log 3). -/
def State.timeCorrect (s : State) (t : Nat) : State :=
  let r := s.clk.refTime
  if r ≤ t then
    { s with clk := { s.clk with refTime := if 10000000 < t - r then t else r + min (t - r) 200, hold := 0, waits := false } }
  else
    let far := decide (10000000 < r - t) || s.clk.waits
    { s with clk := { s.clk with hold := if far then r - t else min (r - t) 200, waits := far } }



/-- PTM_DIALOGUE (R279). -/
def execPtmDialogue (ok : Bool) (hostTime : BitVec 64) (s : State) : Host.Outcome State Fault Refusal :=
  .next (
    let h := s.host
    if !h.ptmOn || decide (s.fld pciReg F.PCI_STATUS_width = 0) then s
    else if ok then
      let s := (s.setHost { h with ptmGood := h.ptmGood + 1, ptmBad := 0 }).timeCorrect hostTime.toNat
      if 2 ≤ h.ptmGood + 1 then s.setLocked 1 else s
    else
      let s := s.setHost { h with ptmGood := 0, ptmBad := h.ptmBad + 1 }
      if 3 ≤ h.ptmBad + 1 then s.setLocked 0 else s)

/-- What the host reads of an item of the configuration space: what R268 supports, and what the host has set (R268, R270, R274, R278,
R279). Sizes offered of BAR2 are given as one bit for each power of two of GiB. -/
def State.cfgRead (s : State) : CfgField → Nat
  | .headerType => 0
  | .classCode => 0x120000
  | .mpsSupported => 2
  | .mps => s.host.mps
  | .mrrs => s.host.mrrs
  | .tagBits => 14
  | .msixVectors => 64
  | .msixEnable => s.host.msixOn.toNat
  | .msixMask => s.host.msixMask.toNat
  | .ptm => 1
  | .ptmEnable => s.host.ptmOn.toNat
  | .noSoftReset => 1
  | .powerState => 3 * s.fld pciReg F.PCI_STATUS_d3hot
  | .bar0 => s.host.bar0
  | .bar2 => s.host.bar2
  | .bar2Sizes => 0xFFF
  | .bar2Size => s.host.bar2Size
  | .busMaster => s.fld pciReg F.PCI_STATUS_bus_master
  | .cplTimeout => s.host.cplCode
  | .cplRanges => 0xF
  | .aerStatus => (s.host.aer.map (2 ^ ·)).sum
  | .aerMask => s.host.aerMask
  | .aerSeverity => s.host.aerSev
  | .aerCorMask => s.host.aerCor
  | .sriov | .ats | .pasid | .pri | .msi | .intx | .aspmL1 | .l1pm | .l0p | .flr | .cplDisable => 0

/-- CONFIGURATION_SPACE_WRITE: what is held is sent once sending is allowed again (R275). -/
def execConfigurationSpaceWrite (f : CfgWrite) (s : State) : Host.Outcome State Fault Refusal :=
  .next (
    let h := s.host
    if s.fld pciReg F.PCI_STATUS_width = 0 then s else
    match f with
    | .busMaster on => (s.setF pciReg F.PCI_STATUS_bus_master on.toNat).msixFlush
    | .d3hot on => (s.setF pciReg F.PCI_STATUS_d3hot on.toNat).msixFlush
    | .ptmEnable on =>
      let s := s.setHost { h with ptmOn := on, ptmGood := 0, ptmBad := 0 }
      if on then s else (s.setLocked 0).freeRun
    | .cplTimeout c => s.setHost { h with cplCode := c.toNat }
    | .bar0 b => s.setHost { h with bar0 := b.toNat / 2 ^ 24 * 2 ^ 24 }
    | .bar2 b => s.setHost { h with bar2 := b.toNat / (2 ^ h.bar2Size * 2 ^ 30) * (2 ^ h.bar2Size * 2 ^ 30) }
    | .bar2Size k => s.setHost { h with bar2Size := k }
    | .msixEnable on mask => (s.setHost { h with msixOn := on, msixMask := mask }).msixFlush
    | .msixEntry v a d k => (s.setHost { h with msix := tput v.val ⟨a.toNat, d.toNat, k⟩ h.msix }).msixFlush
    | .payload p r => s.setHost { h with mps := p.toNat, mrrs := r.toNat }
    | .aerClear v => s.setHost { h with aer := h.aer.filter (fun b => !v.getLsbD b) }
    | .aerMask v => s.setHost { h with aerMask := v.toNat }
    | .aerSeverity v => s.setHost { h with aerSev := v.toNat }
    | .aerCorMask v => s.setHost { h with aerCor := v.toNat }
    | .read f => { s with rdata := BitVec.ofNat 64 (s.cfgRead f), rstatus := .ok })

/-- PCIE_LINK_TRAINED: no faster than the option area allows (R268, R351). -/
def execPcieLinkTrained (speed : BitVec 3) (width : BitVec 5) (s : State) : Host.Outcome State Fault Refusal :=
  .next (
    if !(([1, 2, 4, 8, 16] : List Nat).contains width.toNat) || speed = 7 || s.clk.stopped.contains 106 then s else
    (s.setF pciReg F.PCI_STATUS_speed (min speed.toNat s.rst.opt.pcieRate)).setF pciReg F.PCI_STATUS_width width.toNat)

end Sys2Proof.Machine
end

