-- ==== Sys2Proof/Machine/Fabric.lean ====
section
/-! DEFINITION. The Bilpo ports and the messages they carry (R241 to R267). -/

namespace Sys2Proof

/-! A flit received (R244, R245). -/

/-- The symbols in error of a codeword. -/
def CodeRead.count (c : CodeRead) : Nat := (c.wrong.map (·.toNat)).sum
/-- A codeword that cannot be corrected. -/
def CodeRead.bad (c : CodeRead) : Bool := !Sys2Proof.Machine.codewordOk c.count
/-- A flit with a bit in a codeword that cannot be corrected. -/
def Flit.uncorrectable (f : Flit) : Bool := f.codes.any CodeRead.bad
/-- A flit whose last 8 bytes are not the CRC of the others. -/
def Flit.crcFail (f : Flit) : Bool := f.bytes.drop 520 != Sys2Proof.Machine.crc64 (f.bytes.take 520)
/-- The fields of its header. -/
def Flit.word (f : Flit) : Nat := leNat (f.bytes.take 8)
def Flit.type (f : Flit) : Nat := bitsOf f.word 0 4
def Flit.cls (f : Flit) : Nat := bitsOf f.word 4 2
def Flit.sub (f : Flit) : Bool := f.word.testBit 6
def Flit.seq (f : Flit) : Nat := bitsOf f.word 8 12
def Flit.ack (f : Flit) : Nat := bitsOf f.word 20 12
def Flit.dest (f : Flit) : Nat := bitsOf f.word 32 16
def Flit.src (f : Flit) : Nat := bitsOf f.word 48 16
def Flit.payload (f : Flit) : List Byte := (f.bytes.drop 8).take 512

end Sys2Proof

namespace Sys2Proof.Machine

/-! Ports, their states and their lanes (R250). -/

def State.port (s : State) (p : Nat) : Port := tget .reset s.fab.ports p
def State.setPort (s : State) (p : Nat) (x : Port) : State := { s with fab := { s.fab with ports := tput p x s.fab.ports } }

/-- The state of a port: 0 DOWN, 1 DETECT, 2 EQUALIZE, 3 ALIGN, 4 IDENTIFY, 5 ACTIVE, 6 DEGRADING, 7 FENCED, 8 HELD. -/
def State.lnk (s : State) (p : Nat) : Nat := s.fld (reg0 .LNK_STATUS p) F.LNK_STATUS_state
def State.lnkF (s : State) (p : Nat) (f : Fld) (x : Nat) : State := s.setF (reg0 .LNK_STATUS p) f x

/-- The lanes that a mask names. -/
def lanesOf (m : Nat) : List Nat := (upTo 0 8).filter (fun l => m.testBit l)

/-- The active lanes of both directions (R267). -/
def State.setLanes (s : State) (p rx tx : Nat) : State :=
  let s := (s.lnkF p F.LNK_STATUS_rx_lanes rx).lnkF p F.LNK_STATUS_tx_lanes tx
  (upTo 0 8).foldl (fun s l =>
    (s.setF (reg1 .LNK_LANE p l) F.LNK_LANE_rx_active (rx.testBit l).toNat).setF (reg1 .LNK_LANE p l) F.LNK_LANE_tx_active
      (tx.testBit l).toNat) s

def State.rxLanes (s : State) (p : Nat) : Nat := s.fld (reg0 .LNK_STATUS p) F.LNK_STATUS_rx_lanes
def State.txLanes (s : State) (p : Nat) : Nat := s.fld (reg0 .LNK_STATUS p) F.LNK_STATUS_tx_lanes

/-- A port enters a state that is reported: LINK_STATE, and source 576 + 2(p - 5) for ACTIVE, DEGRADING and FENCED
(R298, R365). -/
def State.setLink (s : State) (p st cause : Nat) : State :=
  let s := (s.lnkF p F.LNK_STATUS_state st).lnkF p F.LNK_STATUS_cause cause
  let s := if st = 5 ∨ st = 6 ∨ st = 7 then s.edge (576 + 2 * (p - 5)) else s
  s.event (106 + p) 0x0401 [(p, 1), (st, 1), (cause, 1), (s.rxLanes p, 1), (s.txLanes p, 1)]

/-- A port sends and receives flits: ACTIVE or DEGRADING, its island running, no fence pattern sent. -/
def State.portLive (s : State) (p : Nat) : Bool :=
  (s.lnk p == 5 || s.lnk p == 6) && !(s.port p).fencing && !s.clk.stopped.contains (106 + p)

/-- The credits a port holds for a channel (R260). -/
def creditFld (sub : Nat) : Fld := if sub = 0 then F.LNK_CREDIT_credits_0 else F.LNK_CREDIT_credits_1
def State.credit (s : State) (p cls sub : Nat) : Nat := s.fld (reg1 .LNK_CREDIT p cls) (creditFld sub)
def State.setCredit (s : State) (p cls sub x : Nat) : State := s.setF (reg1 .LNK_CREDIT p cls) (creditFld sub) x

/-- The receive buffers of R259, in flits. -/
def bufFlits (cls : Nat) : Nat := if cls = 0 then 64 else if cls = 1 then 1024 else 512

/-- Training starts from DOWN, HELD or FENCED (R250, R267). -/
def State.lnkTrain (s : State) (p : Nat) : State :=
  if s.lnk p = 0 ∨ s.lnk p = 7 ∨ s.lnk p = 8 then
    ((((s.setPort p .reset).lnkF p F.LNK_STATUS_state 1).lnkF p F.LNK_STATUS_cause 0).lnkF p F.LNK_STATUS_proto 0).setLanes p 0 0
  else s
def execLnkTrain (p : BilpoPort) (s : State) : Host.Outcome State Fault Refusal := .next (s.runsOn (111 + p) (s.lnkTrain (p + 5)))

def execDetectActivity (p : BilpoPort) (lanes : BitVec 8) (s : State) : Host.Outcome State Fault Refusal :=
  .next (s.runsOn (111 + p) (if s.lnk (p + 5) = 1 ∧ 7 ≤ (lanesOf lanes.toNat).length then s.lnkF (p + 5) F.LNK_STATUS_state 2 else s))

/-- The lanes that an equalisation admits, from each lane's symbol errors and symbols measured: a ratio of at most 10⁻⁴ (R242). -/
def admittedLanes (errors : List (BitVec 32 × BitVec 32)) : Nat :=
  ((mapFrom 0 (fun l (e : BitVec 32 × BitVec 32) =>
    if 0 < e.2.toNat ∧ e.1.toNat * 10000 ≤ e.2.toNat then 2 ^ l else 0) (errors.take 8)).sum)

/-- EQUALIZE_COMPLETE: each receive lane's error ratio measured, the lanes that the far end admits, less those that lane_mask excludes
(R242, R250), and the signal-to-noise ratios measured (log 10). -/
def execEqualizeComplete (p : BilpoPort) (errors : List (BitVec 32 × BitVec 32)) (farAdmitted : BitVec 8) (s : State) :
    Host.Outcome State Fault Refusal :=
  .next (s.runsOn (111 + p) (
    let p := p.val + 5
    let mask := s.fld (reg0 .LNK_CTRL p) F.LNK_CTRL_lane_mask
    let rx := admittedLanes errors &&& mask
    let tx := farAdmitted.toNat &&& mask
    if s.lnk p ≠ 2 then s
    else if (lanesOf rx).length < 7 ∨ (lanesOf tx).length < 7 then s.setLink p 0 0x01
    else
      let s := (upTo 0 8).foldl (fun (s : State) l => s.free.1.setF (reg1 .LNK_LANE p l) F.LNK_LANE_rx_snr s.free.2.toNat) s
      (s.setLanes p rx tx).lnkF p F.LNK_STATUS_state 3))

/-- ALIGN_COMPLETE: groups are found, the round trip is measured (R246, R249, R250). -/
def execAlignComplete (p : BilpoPort) (s : State) : Host.Outcome State Fault Refusal :=
  .next (s.runsOn (111 + p) (
    let p := p.val + 5
    if s.lnk p ≠ 3 then s else
    let f := s.free
    (f.1.setPort p { f.1.port p with aligned := true, missing := 0, rtt := f.2.toNat % 2048 }).lnkF p F.LNK_STATUS_state 4))

/-! Capability exchange (R250, R265). -/

/-- The first failed check of a capability flit: its cause, 0 for none. -/
def State.capCheck (s : State) (p : Nat) (c : Cap) : Nat :=
  let own := s.rd (reg0 .LNK_CAP p)
  if c.id.toNat = s.fab.id ∧ s.fab.id ≠ 0xFFFF then 0x03
  else if c.pairing ≠ decide (p = 11) then 0x02
  else if c.protoMax.toNat < fget own F.LNK_CAP_proto_min ∨ fget own F.LNK_CAP_proto_max < c.protoMin.toNat then 0x04
  else if p = 11 ∧ s.fld (reg0 .LNK_CTRL p) F.LNK_CTRL_pair_override = 0 ∧
    (c.feed.toNat = fget own F.LNK_CAP_feed_id ∨ c.feed = 0xFFFF ∨ fget own F.LNK_CAP_feed_id = 0xFFFF) then 0x05
  else 0

/-- What the peer advertised (R266, R267). -/
def State.capRecord (s : State) (p : Nat) (c : Cap) : State :=
  let v := fset (fset (fset (fset 0 F.LNK_CAP_proto_min c.protoMin.toNat) F.LNK_CAP_proto_max c.protoMax.toNat)
    F.LNK_CAP_level_mask c.levelMask.toNat) F.LNK_CAP_feed_id c.feed.toNat
  let s := ((s.wr (reg0 .LNK_PEER_CAP p) v).lnkF p F.LNK_STATUS_peer_id c.id.toNat).lnkF p F.LNK_STATUS_peer_port c.port.toNat
  s.setPort p { s.port p with
    peerEpoch := c.epoch.toNat, peerLevels := some (c.levelNow.toNat, c.levelNext.toNat, c.switchStep.toNat) }

/-- The highest protocol version inside both ranges (R265). -/
def State.lnkProto (s : State) (p : Nat) : Nat :=
  min (s.fld (reg0 .LNK_CAP p) F.LNK_CAP_proto_max) (s.fld (reg0 .LNK_PEER_CAP p) F.LNK_CAP_proto_max)

/-- A port becomes ACTIVE with the credits of its buffers (R260). -/
def State.lnkActivate (s : State) (p : Nat) : State :=
  let s := s.lnkF p F.LNK_STATUS_proto (s.lnkProto p)
  let s := (upTo 0 3).foldl (fun s c => (s.setCredit p c 0 (bufFlits c)).setCredit p c 1 (bufFlits c)) s
  ((s.setF (reg0 .LNK_HB p) F.LNK_HB_missed 0).setPort p { s.port p with failed := none, farFailed := 0 }).setLink p 5 0

/-- The cause that both ends report: of the checks that failed at either end, the first in the order of the list (R250). -/
def firstCause (own far : Nat) : Nat := ([3, 2, 4, 5].find? (fun c => decide (c = own) || decide (c = far))).getD 0

/-- A capability flit received in IDENTIFY or HELD, with the cause that the far end's check gives, 0 where it accepts (R250). -/
def State.capExchange (s : State) (p : Nat) (c : Cap) (far : Nat) : State :=
  if s.lnk p ≠ 4 ∧ s.lnk p ≠ 8 then s else
  let own := s.capCheck p c
  let k := firstCause own far
  let s := s.capRecord p c
  if k = 0 then s.lnkActivate p
  else
    let s := s.setPort p { s.port p with failed := if own = 0 then none else some own, farFailed := firstCause 0 far }
    if s.lnk p = 8 ∧ k = 5 then s else s.setLink p (if k = 5 then 8 else 0) k
def execCapabilityExchange (p : BilpoPort) (cap : Cap) (far : BitVec 8) (s : State) : Host.Outcome State Fault Refusal :=
  .next (s.runsOn (111 + p) (s.capExchange (p + 5) cap far.toNat))

/-- pair_override set at an end whose check of the feed failed: this end accepts, and the held port becomes ACTIVE once the far end
accepts as well (R250). -/
def State.lnkOverride (s : State) (p : Nat) : State :=
  if s.lnk p = 8 ∧ (s.port p).failed = some 5 ∧ s.fld (reg0 .LNK_CTRL p) F.LNK_CTRL_pair_override = 1 then
    if (s.port p).farFailed = 0 then s.lnkActivate p else s.setPort p { s.port p with failed := none }
  else s

/-- TRAINING_TIMEOUT: the limits of EQUALIZE, ALIGN and IDENTIFY; the cause of an IDENTIFY that met no failed check is not
stated (log 10). -/
def execTrainingTimeout (p : BilpoPort) (s : State) : Host.Outcome State Fault Refusal :=
  .next (s.runsOn (111 + p) (
    let p := p.val + 5
    match s.lnk p with
    | 2 => s.setLink p 0 0x01
    | 3 => s.setLink p 0 0x08
    | 4 => s.free.1.setLink p 0 (s.free.2.toNat % 256)
    | _ => s))

/-- LNK_RENEGOTIATE: the peer's capability flit of a renegotiation that either end asked for. Once both have accepted, the version
changes at the next group boundary to the highest of the two ranges; the link stays ACTIVE. Ranges that do not overlap end it
(R265). -/
def State.lnkRenegotiate (s : State) (p peerMin peerMax : Nat) (asked accepted : Bool) : State :=
  if s.lnk p ≠ 5 || !(asked || decide (s.fld (reg0 .LNK_CTRL p) F.LNK_CTRL_renegotiate = 1)) then s else
  let own := s.rd (reg0 .LNK_CAP p)
  if peerMax < fget own F.LNK_CAP_proto_min ∨ fget own F.LNK_CAP_proto_max < peerMin then
    s.setF (reg0 .LNK_CTRL p) F.LNK_CTRL_renegotiate 0
  else
    let s := (s.setF (reg0 .LNK_PEER_CAP p) F.LNK_CAP_proto_min peerMin).setF (reg0 .LNK_PEER_CAP p) F.LNK_CAP_proto_max peerMax
    if accepted then s.setPort p { s.port p with switchTo := true } else s
def execLnkRenegotiate (p : BilpoPort) (peerMin peerMax : BitVec 8) (asked accepted : Bool) (s : State) :
    Host.Outcome State Fault Refusal :=
  .next (s.runsOn (111 + p) (s.lnkRenegotiate (p + 5) peerMin.toNat peerMax.toNat asked accepted))

/-- The group boundary of a renegotiation (R265). -/
def State.protoSwitch (s : State) (p : Nat) : State :=
  if (s.port p).switchTo then
    ((s.setPort p { s.port p with switchTo := false }).setF (reg0 .LNK_CTRL p) F.LNK_CTRL_renegotiate 0).lnkF p F.LNK_STATUS_proto
      (s.lnkProto p)
  else s

/-! Messages (R256): their header, their flits, their way to a port. -/

/-- The 256 bits of a message header. -/
def msgWord (h : MsgHdr) : Nat :=
  h.op.toNat + h.status.toNat * 2 ^ 4 + h.wantComplete.toNat * 2 ^ 8 + h.rsv9.toNat * 2 ^ 9 + h.level.toNat * 2 ^ 16 +
    h.length.toNat * 2 ^ 32 + h.addr.toNat * 2 ^ 64 + h.rsv116.toNat * 2 ^ 116 + h.step.toNat * 2 ^ 128 +
    h.tag.toNat * 2 ^ 192 + h.target.toNat * 2 ^ 224 + h.count.toNat * 2 ^ 240

/-- The class of the answer to a GET: retry pages are asked for on class 0 and come on class 1 (R259). -/
def dataClass (c : Fin 3) : Fin 3 := if c = 0 then 1 else c

/-- The header that 256 bits hold, for a message to a destination in a class. -/
def hdrOf (w dest src : Nat) (cls : Fin 3) : MsgHdr :=
  { op := BitVec.ofNat 4 w, status := BitVec.ofNat 4 (w >>> 4), wantComplete := w.testBit 8, rsv9 := BitVec.ofNat 7 (w >>> 9)
    level := BitVec.ofNat 16 (w >>> 16), length := BitVec.ofNat 32 (w >>> 32), addr := BitVec.ofNat 52 (w >>> 64)
    rsv116 := BitVec.ofNat 12 (w >>> 116), step := BitVec.ofNat 64 (w >>> 128), tag := BitVec.ofNat 32 (w >>> 192)
    target := BitVec.ofNat 16 (w >>> 224), count := BitVec.ofNat 16 (w >>> 240), cls := cls, sub := false
    src := BitVec.ofNat 16 src, dest := BitVec.ofNat 16 dest }

def TxMsg.bytes (m : TxMsg) : List Byte := leBytes (msgWord m.h) 32 ++ m.data
/-- The flits of a message (R256). -/
def TxMsg.flits (m : TxMsg) : Nat := (m.data.length + 32 + 511) / 512

/-- The route-table entry of a destination: the port in bits [2:0], escape in bit 3 (R258). -/
def State.route (s : State) (dest : Nat) : Nat := getBits (s.rd (reg1 .LNK_ROUTE 0 (dest / 16))) (4 * (dest % 16)) 4

/-- A message put into a virtual channel of a port. -/
def State.enqueue (s : State) (p sub : Nat) (h : MsgHdr) (data : List Byte) (msg : Option Nat) : State :=
  let x := s.port p
  s.setPort p { x with vc := tmod [] (h.cls.val * 2 + sub) (fun q => q ++ [TxMsg.mk { h with sub := decide (sub = 1) } data 0 msg]) x.vc }

/-- A bucket of the step has been reduced at the owner at a position. Once it has at every owner, BUCKET_REDUCED is raised and
its bytes are free (R237, R328). -/
def State.ownerDone (s : State) (b q : Nat) : State :=
  match (s.train.buckets.drop b).head? with
  | some x =>
    let t := s.train
    if t.freed.contains b then s else
    let owners := if t.owners.contains (b, q) then t.owners else t.owners ++ [(b, q)]
    if (upTo 0 s.members.ids.length).all (fun k => owners.contains (b, k)) then
      let s : State := { s with train := { t with owners := owners, freed := t.freed ++ [b] } }
      s.event s.cpIsland 0x0500 [(t.step, 8), (b, 2), (x.reducedCount, 4)]
    else { s with train := { t with owners := owners } }
  | none => s

/-- This owner meets R328 for a bucket whose g it has written. -/
def State.bucketDone (s : State) (b : Nat) : State :=
  if ((s.train.buckets.drop b).head?).any (·.reduced) then s.ownerDone b (s.members.ids.idxOf s.fab.id) else s

/-- Tags of the module's own transfers, beyond the 32 bits of a command's tag: the mirror's copies, a snapshot, RESHARD. -/
def syncJob : Nat := 2 ^ 33
def snapJob : Nat := 2 ^ 34
def reshardJob : Nat := 2 ^ 35

/-- The final status of a message of this module (R256, R262 to R264): it is noted for its TRANSFER, whose engine reports
its end; the last copy of a mirror makes it complete, and a mirror's acknowledgement frees the shard (R321, R328). -/
def State.finishMsg (s : State) (m : Sent) (status : Nat) : State :=
  let s := { s with fab := { s.fab with sent := s.fab.sent.filter (fun x => decide (x.msg ≠ m.msg)) } }
  let s := match m.job with
    | none => s
    | some (tag, i) =>
      let done := tget [] s.mbx.transfers tag ++ [(i, status)]
      let s := { s with mbx := { s.mbx with transfers := tput tag done s.mbx.transfers } }
      let s : State := if tag = syncJob ∧ !s.fab.sent.any (fun x => decide (x.job.map (·.1) = some tag)) then
          { s with surv := { s.surv with synced := true } } else s
      if s.mbx.bg.any (fun b => decide (b.tag = tag) && decide (b.opcode = 0x0407) && decide (b.arg = done.length)) then s.edge 644
      else s
  match m.shard with
  | none => s
  | some (step, b) =>
    if status ≠ 0 then s else
    let t := s.train
    let s : State := { s with train :=
      if step < t.step then { t with retained := t.retained.filter (· != (step, b)) } else { t with acked := t.acked ++ [(step, b)] } }
    let s : State := if decide (s.fld (reg0 .CP_PAIR_STATUS 0) F.CP_PAIR_STATUS_mirror_state = 1) && s.surv.synced then
        s.setF (reg0 .CP_PAIR_STATUS 0) F.CP_PAIR_STATUS_mirror_state 2 else s
    let s := s.event s.cpIsland 0x0504 [(step, 8), (s.members.ids.idxOf s.fab.id, 2)]
    if step = s.train.step then s.bucketDone b else s

/-- The partner's identifier (R320). -/
def State.partner (s : State) : Nat := s.fld (reg0 .CP_PAIR_STATUS 0) F.CP_PAIR_STATUS_partner_id

/-- A message of this module sent to a module, by the pairing port where `pair` says so, with what is to be known of it until
its final status. A message that cannot leave completes at once: 0x7 without an identifier, 0x5 without a route or by the pairing
port to another module than the partner, 0x4 toward a fenced port (R250, R253, R258). -/
def State.sendMsg (s : State) (pair : Bool) (h : MsgHdr) (data : List Byte) (reply : Bool) (loc : Nat)
    (job shard : Option (Nat × Nat)) : State :=
  let n := s.fab.next
  let h := { h with src := BitVec.ofNat 16 s.fab.id }
  let r := s.route h.dest.toNat
  let p := if pair then 11 else 5 + r % 8
  let m : Sent := ⟨n, p, h.cls.val, h.dest.toNat, h.tag.toNat, reply, loc, h.length.toNat, job, shard⟩
  let s := { s with fab := { s.fab with next := n + 1, sent := s.fab.sent ++ [m] } }
  if s.fab.id = 0xFFFF then s.finishMsg m 7
  else if (if pair then decide (h.dest.toNat ≠ s.partner) else decide (6 ≤ r % 8)) then s.finishMsg m 5
  else if s.lnk p = 7 then s.finishMsg m 4
  else s.enqueue p 0 h data (some n)

/-- An answer to a message: COMPLETE or GET_DATA to its source (R256, R262). -/
def State.answer (s : State) (p : Nat) (h : MsgHdr) (op status : Nat) (cls : Fin 3) (data : List Byte) : State :=
  s.sendMsg (decide (p = 11)) (hdrOf (op + status * 2 ^ 4 + h.level.toNat * 2 ^ 16 + data.length * 2 ^ 32 +
    h.step.toNat * 2 ^ 128 + h.tag.toNat * 2 ^ 192) h.src.toNat 0 cls) data false 0 none none

/-! System step tokens (R180, R240, R293, R337). -/

/-- The spare of a die is unused: no logical core is mapped to it and its island runs. -/
def State.spareFree (s : State) (d : Nat) : Bool :=
  let p := 17 * d + 16
  !s.clk.stopped.contains p && (upTo 0 64).all (fun n => decide (s.phys n ≠ p) || decide (2 ≤ s.remap n))

/-- The spare that a logical core is given: its die's, or for a core that waits the lowest other die's (R337, R338). -/
def State.spareFor (s : State) (n : Nat) : Option Nat :=
  let own := n / 16
  if !s.surv.waitFill.contains n && s.spareFree own then some own
  else if s.surv.waitFill.contains n then (upTo 0 4).find? (fun d => d != own && s.spareFree d)
  else none

/-- A core whose images name it and that has no physical core holds the job (R338). -/
def State.jobBlocked (s : State) : Bool :=
  (upTo 0 64).any (fun n => decide (2 ≤ s.remap n) && (tget Slice.reset s.slices n).ctxs.any (fun c => !c.2.image.isEmpty))

/-- The micro-batches of the step that are not declared dropped become so (R233, R336). -/
def State.dropStep (s : State) : State :=
  let n := s.train.step
  ((upTo 0 (tget (0, []) s.train.plans n).1).filter (fun i => !s.train.drops.contains (n, i))).foldl (fun s i =>
    ({ s with train := { s.train with drops := s.train.drops ++ [(n, i)] } } : State).event s.cpIsland 0x0101 [(i, 4)]) s

/-- A spare is being filled, or an UNAVAILABLE number is to be given one (R337, R338). -/
def State.fillDue (s : State) : Bool :=
  !s.surv.filling.isEmpty || (upTo 0 64).any (fun n => decide (s.remap n = 2) && (s.spareFor n).isSome)

/-- The bucket table of the step in progress was refused (R232). -/
def State.stepBarred (s : State) : Bool :=
  let t := s.train
  t.barred.contains t.step || (t.barred.contains (2 ^ 64 - 1) && !(t.tables.map (·.1)).contains t.step)

/-- The next step may start: not in an outage, its table not refused, no spare to be filled, and for a member of the list the
record of the step before applied (R232, R240, R293, R337). -/
def State.stepFree (s : State) : Bool :=
  decide (s.mode ≠ 2) && !s.train.running && !s.stepBarred && !s.fillDue

/-- A step token is turned into the signal of its module token, and the message that brought it is answered. A member of the
list is then in the step, whose micro-batches drop where a core that its images name has no physical core (R180, R262, R338). -/
def State.stepStart (s : State) (x : HeldStep) : State :=
  let mapped := (s.stepMap.map (·.1)).contains x.st
  let s := if mapped then s.tokAdd ⟨4, 0, tget 0 s.stepMap x.st⟩ x.n else s
  let s := if mapped && s.members.ids.contains s.fab.id then
      let s : State := { s with train := { s.train with running := true } }
      if s.jobBlocked then s.dropStep else s
    else s
  match x.ans with
  | some (p, h) => s.answer p h 6 0 h.cls []
  | none => s

/-- A step token takes its effect now, or is held (R240, R293, R337). -/
def State.stepTry (s : State) (x : HeldStep) : State :=
  if s.stepFree then s.stepStart x else { s with heldSteps := s.heldSteps ++ [x] }

/-- The held step tokens are tried again, in the order of their arrival. -/
def State.stepGo (s : State) : State := s.heldSteps.foldl State.stepTry { s with heldSteps := [] }

/-- A system step token arrives, with the message to be answered once it is applied (R180, R262, R365). -/
def State.stepArrive (s : State) (st n : Nat) (ans : Option (Nat × MsgHdr)) : State := (s.edge 640).stepTry ⟨st, n, ans⟩

def execStepTokenArrive (st : BitVec 15) (n : BitVec 16) (s : State) : Host.Outcome State Fault Refusal :=
  .next (s.stepArrive st.toNat n.toNat none)

/-! The transmitter (R247, R248, R251, R260, R261). -/

/-- This module's heartbeat fields (R252). -/
def State.heartbeat (s : State) (count : Nat) : Heartbeat :=
  let l := s.rd (reg0 .LNK_LEVEL 0)
  { counter := BitVec.ofNat 32 count, id := BitVec.ofNat 16 s.fab.id, epoch := BitVec.ofNat 32 s.members.epoch
    levelNow := BitVec.ofNat 16 (fget l F.LNK_LEVEL_level_now), levelNext := BitVec.ofNat 16 (fget l F.LNK_LEVEL_level_next)
    switchStep := s.rd (reg0 .LNK_LEVEL_STEP 0) }

/-- A virtual channel holds a flit and a credit. -/
def State.vcReady (s : State) (p cls sub : Nat) : Bool :=
  !(tget [] (s.port p).vc (cls * 2 + sub)).isEmpty && decide (0 < s.credit p cls sub)

/-- The class that the next new DATA slot goes to (R261). -/
def State.vcClass (s : State) (p : Nat) : Option Nat :=
  let rdy (c : Nat) : Bool := s.vcReady p c 0 || s.vcReady p c 1
  let got (c : Nat) : Nat := ((s.port p).hist.filter (· == c)).length
  if rdy 1 && decide (got 1 < 8) then some 1
  else if rdy 2 && decide (got 2 < 4) then some 2
  else [0, 1, 2].find? rdy

/-- A new DATA flit of a class leaves: sub-channel 1 before 0, one credit, the next sequence number (R260, R261). -/
def State.newFlit (s : State) (p cls : Nat) : State :=
  let sub := if s.vcReady p cls 1 then 1 else 0
  let x := s.port p
  match tget [] x.vc (cls * 2 + sub) with
  | [] => s
  | m :: ms =>
    let last := decide (m.sent + 1 = m.flits)
    let bs := (m.bytes.drop (512 * m.sent)).take 512
    let f : TxFlit := ⟨x.txSeq, cls, sub, last, m.h.dest.toNat, m.h.src.toNat, bs ++ zeros (512 - bs.length), if last then m.msg else none⟩
    (s.setCredit p cls sub (s.credit p cls sub - 1)).setPort p { x with
      txSeq := (x.txSeq + 1) % 4096, replay := x.replay ++ [f]
      vc := tput (cls * 2 + sub) (if last then ms else { m with sent := m.sent + 1 } :: ms) x.vc
      hist := (cls :: x.hist).take 64, wire := .data f }

/-- The slots after which waiting credits and acknowledgements are due: 200 ns, which is less than 256 slots (R246,
R247). -/
def State.ctrlSlots (s : State) (p : Nat) : Nat := if (lanesOf (s.txLanes p)).length = 8 then 161 else 141

/-- The cumulative credit returns that a LINK_CTRL flit carries (R247). -/
def Port.returned (x : Port) : List Nat := (upTo 0 6).map (tget 0 x.passed)

/-- The slot filled in the order of R247. -/
def State.pickSlot (s : State) (p : Nat) : State :=
  let x := s.port p
  let slot := (x.slot + 1) % 1285
  let x := { x with slot := slot, ctrlAge := x.ctrlAge + 1, since := x.since + 1 }
  if slot = 1 then
    let x := { x with group := (x.group + 1) % 2 ^ 32, wire := Slot.group x.group, sevenAt := none }
    match (s.port p).sevenAt with
    | some l => ((s.setPort p { x with turn := 0 }).setLanes p (s.rxLanes p) (s.txLanes p &&& (255 - 2 ^ l))).protoSwitch p
    | none => (s.setPort p x).protoSwitch p
  else if x.hbDue then
    s.setPort p { x with
      hbDue := false, hbCount := (x.hbCount + 1) % 2 ^ 32, ctrlAge := 0, returns := false
      wire := .ctrl ⟨x.returned, none, some (s.heartbeat x.hbCount), x.degrade⟩ }
  else match x.nakDue with
    | some q =>
      (s.setPort p { x with
        nakDue := none, asked := x.asked + 1, wire := .ctrl ⟨x.returned, some q, none, x.degrade⟩, ctrlAge := 0, returns := false }).bumpF
        (reg0 .LNK_ERR p) F.LNK_ERR_naks_sent
    | none =>
      if (x.returns && decide (s.ctrlSlots p ≤ x.ctrlAge)) || (x.degrade.isSome && decide (64 ≤ x.ctrlAge)) then
        s.setPort p { x with wire := .ctrl ⟨x.returned, none, none, x.degrade⟩, ctrlAge := 0, returns := false }
      else if x.txStop then s.setPort p { x with wire := .idle }
      else if 0 < x.resend then
        match x.replay.drop (x.replay.length - x.resend) with
        | f :: _ => s.setPort p { x with resend := x.resend - 1, wire := .data f }
        | [] => s.setPort p { x with resend := 0, wire := .idle }
      else
        let s := s.setPort p { x with wire := .idle }
        if x.replay.length < 2048 ∧ x.sevenAt.isNone then
          match s.vcClass p with
          | some c => s.newFlit p c
          | none => s
        else s

/-- The 528 bytes of a flit: its header, its payload and its CRC (R245). -/
def flitBytes (word : Nat) (payload : List Byte) : List Byte :=
  let b := leBytes word 8 ++ payload
  b ++ crc64 b

/-- The marker at the head of a GROUP flit's payload (R246). -/
def groupMarker : Nat := 0xA5C396F00F693C5A

/-- The bytes of what a port's slot carries; every flit carries the next sequence number this end expects, and a flit of the link
itself goes from this module to the peer (R245, R246; log 30). -/
def State.wireBytes (s : State) (p : Nat) : List Byte :=
  let x := s.port p
  let link (type : Nat) : Nat :=
    type + x.rxSeq * 2 ^ 20 + s.fld (reg0 .LNK_STATUS p) F.LNK_STATUS_peer_id * 2 ^ 32 + s.fab.id * 2 ^ 48
  match x.wire with
  | .idle => flitBytes (link 0) (zeros 512)
  | .group c => flitBytes (link 4) (leBytes groupMarker 8 ++ leBytes c 4 ++ zeros 500)
  | .ctrl c =>
    let hb := match c.hb with
      | some h => [h.counter.toNat, h.id.toNat, h.epoch.toNat, h.levelNow.toNat, h.levelNext.toNat, h.switchStep.toNat]
      | none => []
    flitBytes (link 3) (Config.linkCtrlPayload c.credits c.nak hb c.degrade).toList
  | .data f =>
    flitBytes (1 + f.last.toNat + f.cls * 2 ^ 4 + f.sub * 2 ^ 6 + f.seq * 2 ^ 8 + x.rxSeq * 2 ^ 20 + f.dest * 2 ^ 32 +
      f.src * 2 ^ 48) f.bytes

/-- What a slot's flit puts on the lanes: it is scrambled, but for a GROUP flit, and every 1,285 bytes of the stream are sent as a
codeword pair over the active lanes (R243). -/
def State.emitSlot (s : State) (p : Nat) : State :=
  let x := s.port p
  let bs := s.wireBytes p
  let r := match x.wire with
    | .group _ => (bs, scrambleReset)
    | _ => scramble x.scr bs
  let tail := x.tail ++ r.1
  if tail.length < 1285 then s.setPort p { x with scr := r.2, tail := tail, air := [] }
  else
    let lanes := lanesOf (s.txLanes p)
    s.setPort p { x with
      scr := r.2, tail := tail.drop 1285, turn := (x.turn + 544) % max 1 lanes.length
      air := onLanes lanes x.turn (codewordPair (gatherBits 10 (bitsInTime (tail.take 1285)))) }

/-- FLIT_SLOT: one slot filled and sent (R243, R247). -/
def State.flitSlot (s : State) (p : Nat) : State := if !s.portLive p then s else (s.pickSlot p).emitSlot p
def execFlitSlot (p : BilpoPort) (s : State) : Host.Outcome State Fault Refusal := .next (s.flitSlot (p + 5))

/-! The receiver (R244 to R249). -/

/-- An acknowledgement up to a sequence number frees the replay buffer; a message whose last flit is acknowledged and that
no answer is due to has its final status (R248, R256). -/
def State.ackTo (s : State) (p a : Nat) : State :=
  let x := s.port p
  let k := (x.replay.map (·.seq) ++ [x.txSeq]).idxOf a
  if x.replay.length < k then s else
  let gone := x.replay.take k
  let s := s.setPort p { x with replay := x.replay.drop k, resend := min x.resend (x.replay.length - k) }
  gone.foldl (fun s f =>
    match s.fab.sent.find? (fun m => decide (f.msg = some m.msg)) with
    | some m => if m.reply then s else s.finishMsg m 0
    | none => s) s

/-- The first discard after an accepted flit asks for a replay (R248). -/
def State.discardFlit (s : State) (p : Nat) : State :=
  let x := s.port p
  if x.discarding then s else s.setPort p { x with discarding := true, nakDue := some x.rxSeq }

/-- What the decoder finds in codewords not counted before: each corrected symbol is counted on its lane, each codeword that cannot be
corrected once (R244, R267). -/
def State.countCodes (s : State) (p : Nat) (cs : List CodeRead) : State :=
  (cs.filter (fun c => !c.again)).foldl (fun s c =>
    if c.bad then s.bumpF (reg0 .LNK_ERR p) F.LNK_ERR_uncorrectable
    else (upTo 0 8).foldl (fun s l =>
      let r := reg1 .LNK_LANE p l
      s.setF r F.LNK_LANE_corrected (min (s.fld r F.LNK_LANE_corrected + ((c.wrong.drop l).headD 0).toNat) 0xFFFFFFFF)) s) s

/-- The message that a channel receives with one more flit: its header from its first flit, and its data so far (R256). -/
def openWith (o : Option (MsgHdr × List Byte)) (f : Flit) : MsgHdr × List Byte :=
  match o with
  | some m => (m.1, m.2 ++ f.payload)
  | none => ({ hdrOf (leNat (f.payload.take 32)) f.dest f.src ⟨f.cls % 3, Nat.mod_lt _ (by decide)⟩ with sub := f.sub }, f.payload.drop 32)

/-- DATA_FLIT_RECEIVE: a flit is decoded and checked. A DATA flit next in sequence is accepted into its channel's buffer; another one,
one of a reserved type or class, and any that fails the code or the CRC is discarded. Any other flit brings its acknowledgement
(R244, R245, R248, R253, R260; log 30). -/
def State.flitReceive (s : State) (p : Nat) (f : Flit) : State :=
  if !s.portLive p then s else
  let s := s.countCodes p f.codes
  let s := if !f.uncorrectable && f.crcFail then s.bumpF (reg0 .LNK_ERR p) F.LNK_ERR_crc_fail else s
  if (s.port p).rxStop ≠ 0 ∨ !(s.port p).aligned then s
  else if f.uncorrectable || f.crcFail || decide (5 ≤ f.type) then s.discardFlit p
  else
    let s := s.ackTo p f.ack
    if f.type ≠ 1 ∧ f.type ≠ 2 then s else
    let x := s.port p
    if f.seq ≠ x.rxSeq ∨ f.cls = 3 then s.discardFlit p else
    let c := f.cls * 2 + f.sub.toNat
    s.setPort p { x with
      rxSeq := (x.rxSeq + 1) % 4096, discarding := false, asked := 0
      held := tmod 0 c (· + 1) x.held, returns := true
      open_ := if f.type = 2 then tdel c x.open_ else tput c (openWith (x.open_.lookup c) f) x.open_ }
def execDataFlitReceive (p : BilpoPort) (f : Flit) (s : State) : Host.Outcome State Fault Refusal :=
  .next (s.flitReceive (p + 5) f)

/-- A NAK for a sequence number starts a replay from it, unless it comes within one round trip of the last one (R248). -/
def State.nakFor (s : State) (p q : Nat) : State :=
  let x := s.port p
  let k := (x.replay.map (·.seq)).idxOf q
  if x.replay.length ≤ k ∨ (x.from_ = some q ∧ x.since < x.rtt) then s else
  (s.setPort p { x with
    resend := x.replay.length - k, from_ := some q, since := 0, again := if x.from_ = some q then x.again + 1 else 1 }).bumpF
    (reg0 .LNK_ERR p) F.LNK_ERR_replays

/-- A contract mismatch with a peer (R266, R365). -/
def State.levelMismatch (s : State) (p peer theirs own : Nat) : State :=
  (s.edge (577 + 2 * (p - 5))).event (106 + p) 0x0405 [(p, 1), (peer, 2), (theirs, 2), (own, 2)]

/-- A heartbeat accepted (R252, R266). -/
def State.hbAccept (s : State) (p : Nat) (h : Heartbeat) : State :=
  let s := (s.setF (reg0 .LNK_HB p) F.LNK_HB_missed 0).setF (reg0 .LNK_HB p) F.LNK_HB_last_hb h.counter.toNat
  let x := s.port p
  let lv := (h.levelNow.toNat, h.levelNext.toNat, h.switchStep.toNat)
  let l := s.rd (reg0 .LNK_LEVEL 0)
  let own := (fget l F.LNK_LEVEL_level_now, fget l F.LNK_LEVEL_level_next, (s.rd (reg0 .LNK_LEVEL_STEP 0)).toNat)
  let s := (s.setPort p { x with
    peerLevels := some lv, peerEpoch := h.epoch.toNat, told := if lv = own then none else some (lv, own) }).lnkF p F.LNK_STATUS_peer_id h.id.toNat
  if lv ≠ own ∧ x.told ≠ some (lv, own) then s.levelMismatch p h.id.toNat lv.1 own.1 else s

/-- Cumulative credit returns (R247, R260). -/
def State.creditReturn (s : State) (p c cum : Nat) : State :=
  let x := s.port p
  let n := (cum + 65536 - tget 0 x.seen c) % 65536
  (s.setCredit p (c / 2) (c % 2) (min (bufFlits (c / 2)) (s.credit p (c / 2) (c % 2) + n))).setPort p
    { x with seen := tput c cum x.seen }

/-- LINK_CTRL_RECEIVE (R247, R248, R252). -/
def State.ctrlReceive (s : State) (p : Nat) (c : LinkCtrl) : State :=
  if !s.portLive p then s else
  let s := s.countCodes p c.codes
  let bad := c.codes.any CodeRead.bad
  let s := if !bad && !c.ok then s.bumpF (reg0 .LNK_ERR p) F.LNK_ERR_crc_fail else s
  if (s.port p).rxStop != 0 || !(s.port p).aligned then s
  else if bad || !c.ok then s.discardFlit p
  else
    let s := s.ackTo p c.ack.toNat
    let s := (mapFrom 0 (fun i (v : BitVec 16) => (i, v.toNat)) (c.credits.take 6)).foldl (fun s x => s.creditReturn p x.1 x.2) s
    let s := match c.nak with
      | some q => s.nakFor p q.toNat
      | none => s
    match c.hb with
    | some h => s.hbAccept p h
    | none => s
def execLinkCtrlReceive (p : BilpoPort) (c : LinkCtrl) (s : State) : Host.Outcome State Fault Refusal :=
  .next (s.ctrlReceive (p + 5) c)

/-- GROUP_FLIT_RECEIVE: alignment is found with two GROUP flits a group apart and lost with two missing in succession; a
receiver aligned again asks for its next flit, and a degraded one is ACTIVE (R246, R251). -/
def State.groupReceive (s : State) (p : Nat) (present : Bool) : State :=
  let x := s.port p
  if s.lnk p = 3 then s.setPort p { x with found := if present then x.found + 1 else 0, aligned := present && decide (1 ≤ x.found) }
  else if !s.portLive p || x.rxStop != 0 then s
  else if x.aligned then
    if present then s.setPort p { x with missing := 0 }
    else if x.missing = 0 then s.setPort p { x with missing := 1 }
    else s.setPort p { x with missing := 0, aligned := false, found := 0 }
  else if !present then s.setPort p { x with found := 0 }
  else if x.found = 0 then s.setPort p { x with found := 1, degrade := none }
  else
    let s := s.setPort p { x with aligned := true, found := 0, missing := 0, discarding := true, nakDue := some x.rxSeq }
    if s.lnk p = 6 then s.setLink p 5 0 else s
/-- A flit that is a GROUP flit: it passes the code and the CRC, and its payload is the marker, a counter and zeros (R246). -/
def isGroupFlit (f : Flit) : Bool :=
  !f.uncorrectable && !f.crcFail && decide (f.type = 4) && decide (f.payload.take 8 = leBytes groupMarker 8) &&
    decide (f.payload.drop 12 = zeros 500)

/-- GROUP_FLIT_RECEIVE: the flit found where a GROUP flit is due. -/
def execGroupFlitReceive (p : BilpoPort) (f : Flit) (s : State) : Host.Outcome State Fault Refusal :=
  .next (
    let p := p.val + 5
    let s := if s.portLive p then s.countCodes p f.codes else s
    s.groupReceive p (isGroupFlit f))

/-- A faulty receive lane: the first one degrades the direction, a second one stops it (R251). -/
def State.laneFault (s : State) (p l : Nat) : State :=
  if !(s.rxLanes p).testBit l then s
  else if (lanesOf (s.rxLanes p)).length = 8 then
    let s := s.setPort p { s.port p with degrade := some l, aligned := false, found := 0 }
    (s.setLanes p (s.rxLanes p &&& (255 - 2 ^ l)) (s.txLanes p)).setLink p 6 0
  else s.setPort p { s.port p with rxStop := 0x07 }

/-- LANE_FAULT_DETECT: the escalations of R249; the replays from one seq are those that this port began or asked for (log 28). -/
def execLaneFaultDetect (p : BilpoPort) (why : LaneFault) (s : State) : Host.Outcome State Fault Refusal :=
  .next (
    let p := p.val + 5
    if !s.portLive p then s else
    match why with
    | .lockLost l => s.laneFault p l
    | .symbols l => s.laneFault p l
    | .replays l =>
      if (s.port p).asked < 16 ∧ (s.port p).again < 16 then s else
      match l with
      | some l => s.laneFault p l
      | none => s.setPort p { s.port p with rxStop := 0x0A })

/-- DEGRADE_REQUEST: the sending end starts its next group on 7 lanes (R251). -/
def execDegradeRequest (p : BilpoPort) (lane : Fin 8) (s : State) : Host.Outcome State Fault Refusal :=
  .next (
    let p := p.val + 5
    let x := s.port p
    if !s.portLive p || x.sevenAt.isSome || !(s.txLanes p).testBit lane then s
    else if (lanesOf (s.txLanes p)).length = 8 then s.setPort p { x with sevenAt := some lane.val }
    else s.setPort p { x with txStop := true })

/-- DEGRADE_TIMEOUT (R251). -/
def execDegradeTimeout (p : BilpoPort) (s : State) : Host.Outcome State Fault Refusal :=
  .next (if s.lnk (p + 5) = 6 then s.setPort (p + 5) { s.port (p + 5) with rxStop := 0x07 } else s)

/-! Heartbeats, peer loss and fencing (R252 to R255). -/

/-- HEARTBEAT_SEND: a heartbeat is due every 8 µs; the same interval counts those missed (R252, R267). -/
def execHeartbeatSend (p : BilpoPort) (s : State) : Host.Outcome State Fault Refusal :=
  .next (
    let p := p.val + 5
    if !s.portLive p then s
    else (s.setPort p { s.port p with hbDue := true }).bumpF (reg0 .LNK_HB p) F.LNK_HB_missed)

/-- The CONTROL message of a kind (R326), sent on class 0. -/
def State.sendControl (s : State) (dest kind : Nat) (fields : List (Nat × Nat)) (step : Nat) : State :=
  let data := (leBytes kind 8 ++ fields.flatMap (fun p => leBytes p.1 p.2) ++ zeros 32).take 32
  let data := if kind = 0x24 then leBytes kind 8 ++ fields.flatMap (fun p => leBytes p.1 p.2) else data
  s.sendMsg false (hdrOf (5 + data.length * 2 ^ 32 + step * 2 ^ 128) dest 0 0) data false 0 none none

/-- The probe of a partner whose pairing port is fenced (R326). -/
def State.sendProbe (s : State) : State :=
  if s.partner = 0xFFFF then s else
  let n := s.surv.probe + 1
  { s with surv := { s.surv with probe := n, probing := true } }.sendControl s.partner 0x21 [(s.partner, 2), (n, 4)] 0

/-- The contract level of a step (R266). -/
def State.levelOf (s : State) (step : Nat) : Nat :=
  let l := s.rd (reg0 .LNK_LEVEL 0)
  if (s.rd (reg0 .LNK_LEVEL_STEP 0)).toNat ≤ step then fget l F.LNK_LEVEL_level_next else fget l F.LNK_LEVEL_level_now

/-- A receive window that covers a range (R257). -/
def State.rxCovers (s : State) (a len : Nat) (get : Bool) : Bool :=
  (upTo 0 16).any (fun w =>
    let v := s.rd (reg1 .LNK_RXWIN 0 w)
    let b := fget v F.LNK_RXWIN_base
    decide (fget v F.LNK_RXWIN_enable = 1) && (!get || decide (fget v F.LNK_RXWIN_get_allowed = 1)) &&
      decide (b ≤ a) && decide (a + len ≤ min 0x13B00000000 (b + s.fld (reg1 .LNK_RXWIN_SIZE 0 w) F.LNK_RXWIN_SIZE_size)))

/-- A message with an undefined op or a reserved field value (R256). -/
def hdrUndefined (h : MsgHdr) : Bool :=
  decide (h.op.toNat = 0 ∨ 6 < h.op.toNat ∨ h.rsv9 ≠ 0 ∨ h.rsv116 ≠ 0 ∨ 7 < h.status.toNat ∨ 0x1000000 < h.length.toNat)

/-- The bytes of a PUT whose last flit has not come that its destination had already written when the port was fenced: the first ones
received, how many of them is free (R253). -/
def State.partialPut (s : State) (h : MsgHdr) (data : List Byte) : State :=
  let f := s.free
  let bs := data.take h.length.toNat
  if decide (h.op = 1) && decide (s.fab.id ≠ 0xFFFF) && decide (h.dest.toNat = s.fab.id) && !s.members.fenced.contains h.src.toNat &&
    !hdrUndefined h && (decide (h.cls = 0) || decide (h.level.toNat = s.levelOf h.step.toNat)) && s.rxCovers h.addr.toNat h.length.toNat false then
    f.1.stackedWrite h.addr.toNat (bs.take (f.2.toNat % (bs.length + 1))) 0 (max 1 h.cls.val)
  else s

/-- A port is fenced: its messages complete with 0x4, incomplete messages are named, the peer is lost (R253, R255). -/
def State.fencePort (s : State) (p cause : Nat) : State :=
  let x := s.port p
  let s := s.setPort p { x with
    fencing := true, vc := [], replay := [], resend := 0, open_ := [], held := [], nakDue := none
    air := (upTo 0 8).map (fun l => (l, fencePeriod l)) }
  let s := x.open_.foldl (fun (s : State) o => s.partialPut o.2.1 o.2.2) s
  let s := ((s.fab.sent.filter (fun m => decide (m.port = p))).foldl (fun s m => s.finishMsg m 4) s)
  let s := x.open_.foldl (fun (s : State) o =>
    (s.edge (577 + 2 * (p - 5))).event (106 + p) 0x0402 [(p, 1), (o.2.1.src.toNat, 2), (o.2.1.tag.toNat, 4)]) s
  let s := (s.setLanes p 0 0).setLink p 7 cause
  let s := s.event (106 + p) 0x0400 [(p, 1), (s.fld (reg0 .LNK_STATUS p) F.LNK_STATUS_peer_id, 2), (cause, 1)]
  if p = 11 ∧ cause ≠ 0x0C then s.sendProbe else s

/-- HEARTBEAT_TIMEOUT: no valid heartbeat for 24 µs (R253). -/
def execHeartbeatTimeout (p : BilpoPort) (s : State) : Host.Outcome State Fault Refusal :=
  .next (
    let p := p.val + 5
    if !s.portLive p then s else
    let c := (s.port p).rxStop
    (s.setF (reg0 .LNK_HB p) F.LNK_HB_missed 3).fencePort p (if c = 0 then 0x0A else c))

/-- FENCE_RECOGNIZE: the symbols seen on the lanes match the fence pattern on 4 or more of them, in any state (R255). -/
def execFenceRecognize (p : BilpoPort) (seen : List (List Int)) (s : State) : Host.Outcome State Fault Refusal :=
  .next (if 4 ≤ ((seen.take 8).filter fenceMatch).length ∧ s.lnk (p + 5) ≠ 7 then s.fencePort (p + 5) 0x0B else s)

/-- LNK_FENCE (R253, R267). -/
def execLnkFence (p : BilpoPort) (s : State) : Host.Outcome State Fault Refusal :=
  .next (if s.lnk (p + 5) = 7 then s else s.fencePort (p + 5) 0x0C)

/-! Messages received (R256 to R258, R262, R266). -/

/-- A message that its destination takes no notice of: no traffic, no identifier, another module's, or a fenced source's
(R250, R258, R327). -/
def State.deaf (s : State) (p : Nat) (h : MsgHdr) : Bool :=
  !s.portLive p || s.fab.id == 0xFFFF || h.dest.toNat != s.fab.id || s.members.fenced.contains h.src.toNat

/-- The malformed-message event (R256). -/
def State.malformed (s : State) (p : Nat) (h : MsgHdr) : State :=
  (s.edge (577 + 2 * (p - 5))).event (106 + p) 0x0403 [(p, 1), (h.src.toNat, 2), (msgWord h, 16)]

/-- A message leaves the receive buffer of its channel, whose credits it held (R260). -/
def State.passOn (s : State) (p : Nat) (h : MsgHdr) (len : Nat) : State :=
  let x := s.port p
  let c := h.cls.val * 2 + h.sub.toNat
  let n := min (tget 0 x.held c) ((len + 543) / 512)
  if n = 0 then s else
  s.setPort p { x with held := tmod 0 c (· - n) x.held, passed := tmod 0 c (fun k => (k + n) % 65536) x.passed, returns := true }

/-- What becomes of a message before its op is acted on: discarded or rejected, none where it is acted on. -/
def State.screen (s : State) (p : Nat) (h : MsgHdr) (op : Nat) : Option State :=
  if s.deaf p h then some s
  else if hdrUndefined h then some (s.malformed p h)
  else if h.op.toNat ≠ op then some s
  else if (op = 1 ∨ op = 2 ∨ op = 4) ∧ h.cls.val ≠ 0 ∧ h.level.toNat ≠ s.levelOf h.step.toNat then
    let s := s.levelMismatch p h.src.toNat h.level.toNat (s.levelOf h.step.toNat)
    some (if op = 2 then s.answer p h 3 2 (dataClass h.cls) [] else if h.wantComplete then s.answer p h 6 2 h.cls [] else s)
  else none

/-- PUT: its data land inside a receive window, then its COMPLETE is sent (R257, R262). -/
def execPut (p : BilpoPort) (h : MsgHdr) (data : List (BitVec 8)) (s : State) : Host.Outcome State Fault Refusal :=
  .next (
    let p := p.val + 5
    let s := s.passOn p h data.length
    match s.screen p h 1 with
    | some t => t
    | none =>
      let ok := s.rxCovers h.addr.toNat h.length.toNat false
      let s := if ok then s.stackedWrite h.addr.toNat (data.take h.length.toNat) 0 (max 1 h.cls.val) else s
      if h.wantComplete then s.answer p h 6 (if ok then 0 else 1) h.cls [] else s)

/-- GET: data from a receive window that allows it (R257). -/
def execGet (p : BilpoPort) (h : MsgHdr) (s : State) : Host.Outcome State Fault Refusal :=
  .next (
    let p := p.val + 5
    let cls := dataClass h.cls
    let s := s.passOn p h 0
    match s.screen p h 2 with
    | some t => t
    | none =>
      if !s.rxCovers h.addr.toNat h.length.toNat true then s.answer p h 3 1 cls [] else
      let m := s.stackedRead h.addr.toNat h.length.toNat 0 cls.val .ok
      match m.bad with
      | some _ => m.st.answer p h 3 3 cls []
      | none => m.st.answer p h 3 0 cls m.bytes)

/-- The message of this module that an answer names by its tag; 0x5 and 0x6 may come from a module on the way (R258, R263). -/
def State.sentFor (s : State) (h : MsgHdr) : Option Sent :=
  s.fab.sent.find? (fun m => m.reply && (decide (m.dest = h.src.toNat) || decide (h.status = 5) || decide (h.status = 6)) &&
    decide (m.tag = h.tag.toNat))

/-- GET_DATA: the data go to the address the GET named for them (R256). -/
def execGetData (p : BilpoPort) (h : MsgHdr) (data : List (BitVec 8)) (s : State) : Host.Outcome State Fault Refusal :=
  .next (
    let p := p.val + 5
    let s := s.passOn p h data.length
    match s.screen p h 3 with
    | some t => t
    | none =>
      match s.sentFor h with
      | none => s
      | some m =>
        let s := if h.status = 0 then (s.devWrite .firmware m.loc (data.take m.len)).st else s
        s.finishMsg m h.status.toNat)

/-- SIGNAL: a system step token or a module token (R180, R256, R262). -/
def execSignal (p : BilpoPort) (h : MsgHdr) (s : State) : Host.Outcome State Fault Refusal :=
  .next (
    let p := p.val + 5
    let s := s.passOn p h 0
    match s.screen p h 4 with
    | some t => t
    | none =>
      let n := h.count.toNat
      if h.target.getLsbD 15 then s.stepArrive (h.target.toNat % 32768) n (if h.wantComplete then some (p, h) else none) else
      let s := s.tokAdd ⟨4, 0, h.target.toNat % 16⟩ n
      if h.wantComplete then s.answer p h 6 0 h.cls [] else s)

/-- CONTROL: delivered to the control processor by its kind, which the failure-handling commands act on; other kinds are
malformed (R326, R365). -/
def execControl (p : BilpoPort) (h : MsgHdr) (data : List (BitVec 8)) (s : State) : Host.Outcome State Fault Refusal :=
  .next (
    let p := p.val + 5
    let s := s.passOn p h data.length
    match s.screen p h 5 with
    | some t => t
    | none =>
      let k := (data.headD 0).toNat
      if k < 0x20 ∨ 0x25 < k then s.malformed p h else
      s.edge (if k = 0x24 then 641 else if k = 0x25 then 642 else 643))

/-- COMPLETE: the final status of a message of this module (R256, R262). -/
def execComplete (p : BilpoPort) (h : MsgHdr) (s : State) : Host.Outcome State Fault Refusal :=
  .next (
    let p := p.val + 5
    let s := s.passOn p h 0
    match s.screen p h 6 with
    | some t => t
    | none =>
      match s.sentFor h with
      | none => s
      | some m => s.finishMsg m h.status.toNat)

/-- MESSAGE_FORWARD: a message for another module leaves by its route, on sub-channel 1 from the first escape entry on; one
without a route, or at the pairing port, is discarded and 0x5 goes back to its source (R258, R259). -/
def execMessageForward (p : BilpoPort) (h : MsgHdr) (data : List (BitVec 8)) (s : State) :
    Host.Outcome State Fault Refusal :=
  .next (
    let p := p.val + 5
    let s := s.passOn p h data.length
    let r := s.route h.dest.toNat
    if !s.portLive p || s.fab.id == 0xFFFF || h.dest.toNat == s.fab.id then s
    else if p = 11 ∨ 6 ≤ r % 8 then s.answer p h (if h.op = 2 then 3 else 6) 5 h.cls []
    else if s.lnk (5 + r % 8) = 7 then s
    else s.enqueue (5 + r % 8) (if h.sub || decide (8 ≤ r) then 1 else 0) h data none)

/-- CREDIT_TIMEOUT: a channel that holds a flit and no credit for 1 ms; it keeps waiting (R263). -/
def execCreditTimeout (p : BilpoPort) (cls : Fin 3) (sub : Bool) (s : State) : Host.Outcome State Fault Refusal :=
  .next (
    let p := p.val + 5
    if (tget [] (s.port p).vc (cls * 2 + sub.toNat)).isEmpty ∨ s.credit p cls sub.toNat ≠ 0 then s else
    ((s.bumpF (reg1 .LNK_CREDIT p cls) F.LNK_CREDIT_timeouts).edge (577 + 2 * (p - 5))).event (106 + p) 0x0404
      [(p, 1), (cls, 1), (sub.toNat, 1)])

/-- The messages waiting on a channel abandoned: they complete with 0x6 at their senders, to which a module that forwards one sends it
(R263). -/
def State.abandonMsgs (s : State) (p cls sub : Nat) : State :=
  let x := s.port p
  let ms := tget [] x.vc (cls * 2 + sub)
  let s := s.setPort p { x with vc := tput (cls * 2 + sub) [] x.vc }
  ms.foldl (fun s m =>
    if m.msg.isNone then s.answer p m.h (if m.h.op = 2 then 3 else 6) 6 m.h.cls [] else
    match s.fab.sent.find? (fun t => decide (m.msg = some t.msg)) with
    | some t => s.finishMsg t 6
    | none => s) s

end Sys2Proof.Machine
end

