-- ==== Sys2Proof/Machine/Keccak.lean ====
section
/-! DEFINITION. SHAKE256 of FIPS 202, which R193, R239 and R323 name: the permutation Keccak-f[1600], the sponge, its padding. -/

namespace Sys2Proof.Machine

/-- Lane `i` of a state of 25 lanes, lane x + 5y at column x and row y. -/
def lane (a : List Word64) (i : Nat) : Word64 := (a.drop i).headD 0

def roundConsts : List Word64 :=
  [0x0000000000000001, 0x0000000000008082, 0x800000000000808A, 0x8000000080008000, 0x000000000000808B, 0x0000000080000001,
   0x8000000080008081, 0x8000000000008009, 0x000000000000008A, 0x0000000000000088, 0x0000000080008009, 0x000000008000000A] ++
  [0x000000008000808B, 0x800000000000008B, 0x8000000000008089, 0x8000000000008003, 0x8000000000008002, 0x8000000000000080,
   0x000000000000800A, 0x800000008000000A, 0x8000000080008081, 0x8000000000008080, 0x0000000080000001, 0x8000000080008008]

/-- The rotation of each lane. -/
def rhoOffsets : List Nat :=
  [0, 1, 62, 28, 27, 36, 44, 6, 55, 20, 3, 10, 43] ++ [25, 39, 41, 45, 15, 21, 8, 18, 2, 61, 56, 14]

def keccakTheta (a : List Word64) : List Word64 :=
  let c := (upTo 0 5).map (fun x => lane a x ^^^ lane a (x + 5) ^^^ lane a (x + 10) ^^^ lane a (x + 15) ^^^ lane a (x + 20))
  mapFrom 0 (fun i v => v ^^^ lane c ((i + 4) % 5) ^^^ (lane c ((i + 1) % 5)).rotateLeft 1) a

/-- The lanes rotated and moved: lane (x, y) goes to (y, 2x + 3y). -/
def keccakRhoPi (a : List Word64) : List Word64 :=
  let r := List.zipWith (fun (v : Word64) n => v.rotateLeft n) a rhoOffsets
  (upTo 0 25).map (fun i => lane r ((i % 5 + 3 * (i / 5)) % 5 + 5 * (i % 5)))

def keccakChi (a : List Word64) : List Word64 :=
  mapFrom 0 (fun i v => v ^^^ (~~~ lane a ((i + 1) % 5 + i / 5 * 5) &&& lane a ((i + 2) % 5 + i / 5 * 5))) a

def keccakRound (a : List Word64) (rc : Word64) : List Word64 :=
  match keccakChi (keccakRhoPi (keccakTheta a)) with
  | x :: xs => (x ^^^ rc) :: xs
  | [] => []

def keccakF (a : List Word64) : List Word64 := roundConsts.foldl keccakRound a

/-- The lanes of a block of bytes, little-endian. -/
def laneWords : Nat → List Byte → List Word64
  | 0, _ => []
  | k + 1, bs => BitVec.ofNat 64 (leNat (bs.take 8)) :: laneWords k (bs.drop 8)

/-- Blocks of 136 bytes absorbed. -/
def absorb : Nat → List Word64 → List Byte → List Word64
  | 0, a, _ => a
  | k + 1, a, bs => absorb k (keccakF (List.zipWith (· ^^^ ·) a (laneWords 17 (bs.take 136) ++ List.replicate 8 0))) (bs.drop 136)

/-- The padding of SHAKE: bits 1111, then 1, zeros and 1 to the end of the last block. -/
def shakePad (bs : List Byte) : List Byte :=
  let z := 135 - bs.length % 136
  if z = 0 then bs ++ [0x9F] else bs ++ [0x1F] ++ List.replicate (z - 1) 0 ++ [0x80]

/-- SHAKE256 with at most 136 bytes of output. -/
def shake (n : Nat) (bs : List Byte) : List Byte :=
  ((absorb (bs.length / 136 + 1) (List.replicate 25 0) (shakePad bs)).flatMap (fun w => leBytes w.toNat 8)).take n

/-- SHAKE256 with 32 and with 64 bytes of output. -/
def shake256 (bs : List Byte) : List Byte := shake 32 bs
def shake512 (bs : List Byte) : List Byte := shake 64 bs

end Sys2Proof.Machine
end

