-- ==== Sys2Proof/Machine/Training.lean ====
section
/-! DEFINITION. Drift buckets, their reduction, pending versions and the step commit (R232 to R240). -/

namespace Sys2Proof.Machine

def State.setTrain (s : State) (t : Train) : State := { s with train := t }
def State.setSurv (s : State) (v : Survive) : State := { s with surv := v }

/-! Positions and shards (R234). -/

def State.memberCount (s : State) : Nat := s.members.ids.length
/-- The position of this module, M where it is no member. -/
def State.position (s : State) : Nat := s.members.ids.idxOf s.fab.id
/-- The identifier at a position. -/
def State.idAt (s : State) (p : Nat) : Nat := (s.members.ids.drop p).headD 0xFFFF
def State.posFenced (s : State) (p : Nat) : Bool := s.members.fenced.contains (s.idAt p)
/-- The positions this module serves: its own, and those of members it stands in for (R329). -/
def State.served (s : State) : List Nat :=
  s.position :: ((s.members.standIn.filter (fun p => decide (p.2 = s.fab.id))).map (fun p => s.members.ids.idxOf p.1))
/-- The commit leader: the live member at the lowest position (R239, R331). -/
def State.leader (s : State) : Nat := ((upTo 0 s.memberCount).find? (fun p => !s.posFenced p)).getD 0

def bucketAt (bs : List Bucket) (b : Nat) : Option Bucket := (bs.drop b).head?
def State.setBucket (s : State) (b : Nat) (x : Bucket) : State :=
  s.setTrain { s.train with buckets := setAt s.train.buckets b x }

/-- Element size in a bucket (R232). -/
def Bucket.elem (x : Bucket) : Nat := if x.wide then 12 else 4
/-- The elements of a shard: first and number (R234). -/
def Bucket.shard (x : Bucket) (m p : Nat) : Nat × Nat :=
  let g := x.elements / 256
  (g * p / m * 256, (g * (p + 1) / m - g * p / m) * 256)

/-- The 32 bytes of a bucket table entry (R232). -/
def Bucket.entry (x : Bucket) : List Byte :=
  leBytes (x.base + x.wide.toNat * 2 ^ 52 + x.elements * 2 ^ 64 + x.tok * 2 ^ 96 + x.sealCount * 2 ^ 112 + x.localCount * 2 ^ 128 +
    x.reducedCount * 2 ^ 160 + x.reducedBase * 2 ^ 192) 32

/-! The reduction tree (R235). -/

/-- One addition of the tree (R57). -/
def combineElem (wide : Bool) (a b : BitVec 96) : BitVec 96 :=
  if wide then BitVec.ofNat 96 (wideAdd (Wide.ofNat a.toNat) (Wide.ofNat b.toNat)).1.toNat
  else BitVec.ofNat 96 (arithTo fp32 ((decodeFloat fp32 (a.toNat % 2 ^ 32)).add (decodeFloat fp32 (b.toNat % 2 ^ 32))).1).1

/-- Two parts combined; an empty one leaves the other (R235). -/
def combineParts (wide : Bool) (a b : Part) : Part :=
  if b.empty then a else if a.empty then b
  else { a with hi := b.hi, count := a.count + b.count, vals := List.zipWith (combineElem wide) a.vals b.vals }

/-- The elements of a bucket's shard in memory. -/
def State.shardVals (s : State) (x : Bucket) (m p : Nat) : List (BitVec 96) :=
  let r := x.shard m p
  (upTo r.1 r.2).map (fun i => BitVec.ofNat 96 (leNat (s.stackedBytes (x.base + x.elem * i) x.elem)))

/-- A part of a bucket's run with no elements yet. -/
def State.partOf (s : State) (b : Nat) (x : Bucket) (p lo hi : Nat) : Part :=
  { bucket := BitVec.ofNat 12 b, shard := BitVec.ofNat 12 p, lo := BitVec.ofNat 13 lo, hi := BitVec.ofNat 13 hi
    epoch := BitVec.ofNat 32 s.members.epoch, run := BitVec.ofNat 16 x.run, empty := true, count := 0, vals := [] }

/-- A leaf that this module serves, none before its bucket is sealed: empty without micro-batches or for a fenced member. -/
def State.leafPart (s : State) (b : Nat) (x : Bucket) (p j : Nat) : Option Part :=
  let q := (p + j) % max 1 s.memberCount
  let e := s.partOf b x p j (j + 1)
  if q ≠ s.position then some e
  else if !x.closed then none
  else if x.localCount = 0 then some e
  else some { e with empty := false, count := BitVec.ofNat 32 x.localCount, vals := s.shardVals x s.memberCount p }

/-- A part that has arrived or was formed here. -/
def State.havePart (s : State) (b p lo hi : Nat) : Option Part :=
  s.train.parts.find? (fun y => decide (y.bucket.toNat = b) && decide (y.shard.toNat = p) && decide (y.lo.toNat = lo) &&
    decide (y.hi.toNat = hi))

/-- `node` of R235 as far as this module can know it. -/
def State.nodePart (b : Nat) (x : Bucket) (p : Nat) : Nat → State → Nat → Nat → Option Part
  | 0, _, _, _ => none
  | k + 1, s, lo, hi =>
    if !s.served.contains ((p + lo) % max 1 s.memberCount) then s.havePart b p lo hi
    else if hi ≤ lo + 1 then s.leafPart b x p lo
    else
      let mid := lo + (hi - lo + 1) / 2
      match State.nodePart b x p k s lo mid, State.nodePart b x p k s mid hi with
      | some a, some c => some { combineParts x.wide a c with lo := BitVec.ofNat 13 lo, hi := BitVec.ofNat 13 hi }
      | _, _ => none

/-- The tree nodes over a leaf, from the root down. -/
def nodesOver (j : Nat) : Nat → Nat → Nat → List (Nat × Nat)
  | 0, _, _ => []
  | k + 1, lo, hi =>
    (lo, hi) :: (if hi ≤ lo + 1 then [] else
      let mid := lo + (hi - lo + 1) / 2
      if j < mid then nodesOver j k lo mid else nodesOver j k mid hi)

/-- Bytes sent to a module in PUTs of at most 16 MiB (R256), from an address on: by the pairing port where `pair` says so, in a
class, under a tag. The last one asks for a COMPLETE where `last` says so. -/
def State.putChunks (pair last : Bool) (dest tag : Nat) (cls : Fin 3) (job shard : Option (Nat × Nat)) : Nat → State → Nat → List Byte → State
  | 0, s, _, _ => s
  | k + 1, s, a, bs =>
    if bs.isEmpty then s else
    let c := bs.take 0x1000000
    let fin := last && decide (bs.length ≤ 0x1000000)
    let h := hdrOf (1 + fin.toNat * 2 ^ 8 + s.levelOf s.train.step * 2 ^ 16 + c.length * 2 ^ 32 + a % 2 ^ 52 * 2 ^ 64 +
      s.train.step * 2 ^ 128 + tag % 2 ^ 32 * 2 ^ 192) dest 0 cls
    State.putChunks pair last dest tag cls job shard k (s.sendMsg pair h c fin 0 job (if fin then shard else none)) (a + 0x1000000)
      (bs.drop 0x1000000)
def State.putAll (s : State) (pair last : Bool) (dest tag : Nat) (cls : Fin 3) (job shard : Option (Nat × Nat)) (a : Nat)
    (bs : List Byte) : State := State.putChunks pair last dest tag cls job shard (bs.length / 0x1000000 + 1) s a bs

/-- The module that acts for a position: its member, or the stand-in of a lost one (R327, R329). -/
def State.actsFor (s : State) (q : Nat) : Nat := if s.posFenced q then tget (s.idAt q) s.members.standIn (s.idAt q) else s.idAt q

/-- A part sent to the member that forms its parent, at class 1 with the epoch and the run in its tag; the manual gives neither
the form of its data nor the address they go to, and an empty part brings no elements (R235, R259, R327; log 17). -/
def State.sendPart (s : State) (x : Bucket) (z : Part) (q : Nat) : State :=
  let f := s.free
  let data := leBytes (z.bucket.toNat + z.shard.toNat * 2 ^ 16 + z.lo.toNat * 2 ^ 32 + z.hi.toNat * 2 ^ 48) 8 ++ leBytes z.count.toNat 4 ++
    leBytes z.empty.toNat 4 ++ z.vals.flatMap (fun v => leBytes v.toNat x.elem)
  f.1.putAll false false (s.actsFor q) (Config.reductionTag z.epoch.toNat z.run.toNat).toNat 1 none none (f.2.toNat % 2 ^ 52) data

def State.keepPart (s : State) (z : Part) : State := s.setTrain { s.train with
  parts := s.train.parts.filter (fun w => !(decide (w.bucket = z.bucket) && decide (w.shard = z.shard) && decide (w.lo = z.lo) &&
    decide (w.hi = z.hi))) ++ [z] }

/-- The node `n` of a shard's tree, under its parent `up`, formed where this module forms it and now can: it is kept, and a right
child whose parent another member forms is sent there (R235). -/
def State.formNode (b : Nat) (x : Bucket) (p : Nat) (s : State) (n : (Nat × Nat) × Option (Nat × Nat)) : State :=
  let m := max 1 s.memberCount
  if !s.served.contains ((p + n.1.1) % m) || (s.havePart b p n.1.1 n.1.2).isSome then s else
  match State.nodePart b x p 14 s n.1.1 n.1.2 with
  | none => s
  | some z =>
    let s := s.keepPart z
    match n.2 with
    | some up => if up.1 ≠ n.1.1 ∧ !s.served.contains ((p + up.1) % m) then s.sendPart x z ((p + up.1) % m) else s
    | none => s

/-- The nodes over a leaf of a shard that can now be formed, from the leaf up. -/
def State.formOver (s : State) (b : Nat) (x : Bucket) (p j : Nat) : State :=
  let ns := nodesOver j 14 0 s.memberCount
  (ns.zip (none :: ns.map some)).reverse.foldl (State.formNode b x p) s

/-- REDUCTION_PART_RECEIVE: a part of the present run is kept, and every node above it that this module forms and now can is
formed (R235, R327). -/
def State.partReceive (s : State) (y : Part) : State :=
  match bucketAt s.train.buckets y.bucket.toNat with
  | none => s
  | some x =>
    if y.epoch.toNat ≠ s.members.epoch ∨ y.run.toNat ≠ x.run ∨ (x.reduced ∧ y.shard.toNat = s.position) then s else
    (s.keepPart y).formOver y.bucket.toNat x y.shard.toNat y.lo.toNat
def execReductionPartReceive (p : Part) (s : State) : Host.Outcome State Fault Refusal := .next (s.inService (s.partReceive p))

/-! Sealing (R233). -/

/-- Micro-batches that the job plans for the step, less those declared dropped. -/
def State.mbCount (s : State) : Nat :=
  (tget (0, []) s.train.plans s.train.step).1 - (s.train.drops.filter (fun d => decide (d.1 = s.train.step))).length

/-- The leaves of this module in a bucket's trees, and what can be formed over them: leaf j of shard p is the member at position
(p + j) mod M (R235). -/
def State.formLeaves (s : State) (b : Nat) (x : Bucket) : State :=
  let m := max 1 s.memberCount
  s.served.foldl (fun s q => (upTo 0 s.memberCount).foldl (fun s p => s.formOver b x p ((q + m - p % m) % m)) s) s

/-- BUCKET_SEAL: the buckets are sealed in table order, each with its counts of seal_tok consumed (R233). -/
def State.bucketSeal (s : State) (b : Nat) : State :=
  match bucketAt s.train.buckets b with
  | none => s
  | some x =>
    if x.closed || (s.train.buckets.take b).any (fun y => !y.closed) then s else
    let r := s.tokWaitAt s.cpIsland cpReq ⟨4, 0, x.tok % 16⟩ x.sealCount
    if !r.2 then r.1 else
    let y := { x with closed := true, localCount := r.1.mbCount }
    (r.1.setBucket b y).formLeaves b y
def execBucketSeal (b : BitVec 12) (s : State) : Host.Outcome State Fault Refusal := .next (s.inService (s.bucketSeal b.toNat))

/-! The division (R236) and the update (R238). -/

/-- One element of g: the quotient of the sum by the count, rounded once to FP32 (R57, R236). -/
def quotient (wide : Bool) (v : BitVec 96) (n : Nat) : Nat :=
  let x := if wide then (Wide.ofNat v.toNat).val else decodeFloat fp32 (v.toNat % 2 ^ 32)
  (arithTo fp32 (match x with
    | .fin g m e => divFin g m e n 0
    | x => x)).1

/-- The mirror's state: 0 NONE, 1 SYNCING, 2 MIRRORED, 3 UNMIRRORED (R321). -/
def State.mirror (s : State) : Nat := s.fld (reg0 .CP_PAIR_STATUS 0) F.CP_PAIR_STATUS_mirror_state
def State.setMirror (s : State) (x : Nat) : State := s.setF (reg0 .CP_PAIR_STATUS 0) F.CP_PAIR_STATUS_mirror_state x

/-- g of a bucket sent to the partner at class 2, its last PUT to be answered; the place in its mirror is not stated (R238, R256,
R264; log 17). -/
def State.sendShard (s : State) (b : Nat) (g : List Byte) : State :=
  if s.mirror ≠ 1 ∧ s.mirror ≠ 2 then s
  else s.putAll true true s.partner b 2 none (some (s.train.step, b)) (Config.mirrorG b) g

/-! Re-sharding (R334, R335). -/

/-- The entries of a RESHARD plan: the number of each and its 256 bits. -/
def planEntries (p : List Byte) : List (Nat × Nat) :=
  (upTo 0 (leNat ((p.drop 4).take 4))).map (fun i => (i, leNat ((p.drop (32 + 32 * i)).take 32)))

/-- PUTs of this module that belong to the RESHARD plan: the copy of groups at class 2, the g of later steps at class 1 (R259,
R335). -/
def State.reshardPut (s : State) (i dest a : Nat) (cls : Fin 3) (bs : List Byte) : State :=
  s.putAll false true dest s.fab.next cls (some (reshardJob, i)) none a bs

/-- The receivers that this module sends g to while a plan runs. -/
def State.reshardTo (s : State) : List Nat :=
  match s.surv.plan with
  | none => []
  | some p => if s.surv.placed = 0 then [] else
    (((planEntries p).filter (fun e => decide (bitsOf e.2 96 16 = s.fab.id))).map (fun e => bitsOf e.2 112 16)).eraseDups

/-- ROOT_DIVIDE: the owner of a shard divides its root (R236). -/
def State.rootDivide (s : State) (b : Nat) : State :=
  match bucketAt s.train.buckets b with
  | none => s
  | some x =>
    if x.reduced ∨ s.memberCount ≤ s.position then s else
    match State.nodePart b x s.position 14 s 0 s.memberCount with
    | none => s
    | some r =>
      let n := if r.empty then 0 else r.count.toNat
      let g := if r.empty then [] else r.vals.flatMap (fun v => leBytes (quotient x.wide v n) 4)
      let s := if r.empty then s else s.stackedWrite x.reducedBase g 0 1
      let s := s.setBucket b { x with reduced := true, reducedCount := n }
      let s := if r.empty then s else s.setTrain { s.train with retained := s.train.retained ++ [(s.train.step, b)] }
      let mirrored := decide (s.mirror = 2) && !r.empty
      let s := if r.empty then s else s.sendShard b g
      let s := if r.empty then s else s.reshardTo.foldl (fun (s : State) d => s.free.1.reshardPut b d (s.free.2.toNat % 2 ^ 52) 1 g) s
      if mirrored then s else s.bucketDone b

/-- The shard of a lost member's position, formed by its stand-in for its mirror of it (R329). -/
def State.standDivide (s : State) (b q : Nat) : State :=
  match bucketAt s.train.buckets b with
  | none => s
  | some x =>
    if q = s.position ∨ s.train.mirrorG.any (fun g => decide (g.1 = b) && decide (g.2.1 = q)) then s else
    match State.nodePart b x q 14 s 0 s.memberCount with
    | none => s
    | some r =>
      let g := if r.empty then [] else r.vals.flatMap (fun v => leBytes (quotient x.wide v r.count.toNat) 4)
      s.setTrain { s.train with mirrorG := s.train.mirrorG ++ [(b, q, g)] }
/-- ROOT_DIVIDE: this owner's shard is divided, and those it forms for lost positions; or the owner at another position has
reduced its shard, of which the manual gives no message (R236, R237, R328, R329; log 17). -/
def execRootDivide (b : BitVec 12) (other : Option (BitVec 12)) (s : State) : Host.Outcome State Fault Refusal :=
  .next (s.inService (match other with
    | some q => s.ownerDone b.toNat q.toNat
    | none => s.served.foldl (fun s q => s.standDivide b.toNat q) (s.rootDivide b.toNat)))


/-- A word of the protection policy: 64-byte entry `k`, its header at 0 (R315). -/
def policyWord (ps : List Byte) (k lo w : Nat) : Nat := bitsOf (leNat ((ps.drop (64 * k)).take 64)) lo w
def policyEntries (ps : List Byte) : List Nat := upTo 1 (ps.length / 64 - 1)

/-- The resolved method of an entry: 1 REPLAY, 2 SNAPSHOT, 3 REBUILD (R316). -/
def State.methodOf (s : State) (k : Nat) : Nat :=
  let p := s.surv.policy
  let reg := (s.train.replay.map (·.1)).contains (policyWord p k 0 32)
  match policyWord p k 32 2 with
  | 0 => if policyWord p k 38 1 = 0 ∧ policyWord p k 256 10 = 1000 ∧ 0x4000000 ≤ policyWord p k 192 64 ∧ reg then 1 else 2
  | 1 => if reg then 1 else 2
  | x => x

/-- The committed version of an entry's tensor: its address (R238, R315). -/
def State.committedAt (s : State) (k : Nat) : Nat :=
  if s.train.idx.contains (policyWord s.surv.policy k 0 32) then policyWord s.surv.policy k 128 52 else policyWord s.surv.policy k 64 52

/-! The update (R238). -/

/-- The pending version of an entry's tensor: the one that is not committed. A tensor kept in one version has no other. -/
def State.pendingAt (s : State) (k : Nat) : Nat :=
  let a := policyWord s.surv.policy k 64 52
  let b := policyWord s.surv.policy k 128 52
  if b = 0 then a else if s.train.idx.contains (policyWord s.surv.policy k 0 32) then a else b

/-- Bytes of a pending version written: what the registered program makes of the committed bytes and g, or for an empty bucket the
committed bytes (R236, R238). -/
def State.updateWrite (s : State) (tensor step : Nat) (empty : Bool) (src dst len : Nat) (g : List Byte) : State :=
  let old := s.stackedBytes src len
  let img := tget [] s.train.replay tensor
  let plan := (tget (0, []) s.train.plans step).2
  if 0x13B00000000 < dst + len then s else
  s.stackedWrite dst (if empty then old else (upTo 0 len).map (Config.updateByte img old g plan step)) 0 1

/-- The policy entry of a tensor. -/
def State.entryOf (s : State) (tensor : Nat) : Option Nat :=
  (policyEntries s.surv.policy).find? (fun k => decide (policyWord s.surv.policy k 0 32 = tensor))

/-- The first byte and the number of bytes that a bucket updates in a tensor's part of `size` bytes. -/
def spanIn (tensor b size : Nat) : Nat × Nat :=
  let x := Config.updateSpan tensor b
  (min x.1 size, min x.2 (size - min x.1 size))

/-- An update on this module's own versions: the registered program of a tensor runs for a bucket whose g is written, reads the
committed version and writes the pending one, unless a snapshot or the mirror's copy holds it (R238, R321, R322). -/
def State.updateRun (s : State) (tensor b : Nat) : State :=
  match bucketAt s.train.buckets b with
  | none => s
  | some x =>
    if !x.reduced || !(s.train.replay.map (·.1)).contains tensor || s.train.updated.contains (tensor, b) then s
    else if s.surv.copying ∧ s.surv.snapStep + 2 ≤ s.train.step then
      s.setF (reg0 .CP_SNAPSHOT_STATUS 0) F.CP_SNAPSHOT_STATUS_state 2
    else if s.mirror = 1 ∧ !s.surv.synced then s
    else
      let s := match s.entryOf tensor with
        | none => s
        | some k =>
          let z := spanIn tensor b (policyWord s.surv.policy k 192 64)
          s.updateWrite tensor s.train.step (decide (x.reducedCount = 0)) (s.committedAt k + z.1) (s.pendingAt k + z.1) z.2
            (s.stackedBytes x.reducedBase (4 * (x.shard s.memberCount s.position).2))
      s.setTrain { s.train with updated := s.train.updated ++ [(tensor, b)] }

/-- An update on the partner's mirror for a step in progress or just committed: the same program on the mirror's versions, with the g
that the partner sent or that this stand-in formed. A bucket empty here is empty there (R236, R238, R329; log 17). -/
def State.mirrorUpdate (s : State) (tensor b step : Nat) : State :=
  let t := s.train
  let given := t.mirrorG.find? (fun x => decide (x.1 = b))
  if !(t.replay.map (·.1)).contains tensor || !(decide (step = t.step) || decide (step + 1 = t.step)) ||
    t.mupdated.contains (step, tensor, b) then s else
  let cur := t.midx.contains tensor
  let z := Config.updateSpan tensor b
  let x := (bucketAt t.buckets b).getD ⟨0, false, 0, 0, 0, 0, 1, 0, false, false, 0⟩
  let g := match given with
    | some g => g.2.2
    | none => s.stackedBytes (Config.mirrorG b) (4 * (x.shard s.memberCount (s.members.ids.idxOf s.partner)).2)
  let empty := match given with
    | some g => g.2.2.isEmpty
    | none => x.reduced && decide (x.reducedCount = 0)
  let s := s.updateWrite tensor step empty (Config.mirrorAt tensor cur + z.1) (Config.mirrorAt tensor (!cur) + z.1) z.2 g
  s.setTrain { s.train with mupdated := s.train.mupdated ++ [(step, tensor, b)] }

def execUpdateRun (tensor : BitVec 32) (b : BitVec 12) (mirror : Option (BitVec 64)) (s : State) : Host.Outcome State Fault Refusal :=
  .next (s.inService (match mirror with
    | none => s.updateRun tensor.toNat b.toNat
    | some n => s.mirrorUpdate tensor.toNat b.toNat n.toNat))

/-! The step commit (R239, R240). -/

/-- The digest of the bucket table with each reduced_count (R239). -/
def State.countsDigest (s : State) : BitVec 256 :=
  BitVec.ofNat 256 (leNat (shake256 (s.train.buckets.flatMap Bucket.entry)))

/-- Every pending version of the owned shards is written. -/
def State.allWritten (s : State) : Bool :=
  !s.train.buckets.isEmpty && (mapFrom 0 (fun b (x : Bucket) => x.reduced && s.train.updated.any (fun u => decide (u.2 = b)))
    s.train.buckets).all id

/-- A ready report or a commit record sent to a member at class 0, or a record relayed to the partner by the pairing port; the
manual gives neither its op nor the address (R239, R259, R264; log 17). -/
def State.sendStep (s : State) (pair : Bool) (dest : Nat) (bs : List Byte) : State :=
  let f := s.free
  f.1.putAll pair false dest 0 0 none none (f.2.toNat % 2 ^ 52) bs

/-- The 64 bytes of a commit record (R239). -/
def commitBytes (r : CommitRec) : List Byte :=
  leBytes (r.step.toNat + r.epoch.toNat * 2 ^ 64 + r.membersM1.toNat * 2 ^ 96 + r.level.toNat * 2 ^ 112 + r.buckets.toNat * 2 ^ 128 +
    r.leader.toNat * 2 ^ 144 + r.refTime.toNat * 2 ^ 160 + r.digest.toNat * 2 ^ 256) 64

/-- Every g of a lost position that this module stands in for is formed (R329). -/
def State.standDone (s : State) (q : Nat) : Bool :=
  (upTo 0 s.train.buckets.length).all (fun b => s.train.mirrorG.any (fun g => decide (g.1 = b) && decide (g.2.1 = q)))

/-- READY_REPORT: this module's own report, sent to the leader once every pending version is written, or one that the leader
receives from another position; a later report replaces an earlier one. A stand-in reports for the lost position after its own (R239,
R329, R330). -/
def execReadyReport (other : Option (BitVec 12 × BitVec 256)) (s : State) : Host.Outcome State Fault Refusal :=
  .next (s.inService (match other with
    | some (p, d) => (s.setTrain { s.train with reports := tput p.toNat d s.train.reports }).edge 641
    | none =>
      if s.train.ready || !s.allWritten then s else
      let d := s.countsDigest
      let s := s.setTrain { s.train with ready := true, reports := tput s.position d s.train.reports }
      let s := if s.leader = s.position then s else s.sendStep false (s.idAt s.leader) (leBytes s.position 2 ++ leBytes d.toNat 32)
      ((s.served.drop 1).filter s.standDone).foldl (fun s q =>
        if s.leader = s.position then s.setTrain { s.train with reports := tput q d s.train.reports }
        else s.sendControl (s.idAt s.leader) 0x24 [(q, 2), (d.toNat, 32)] s.train.step) s))

/-- The step-divergence event (R239, R331). -/
def State.divergence (s : State) (step : Nat) (ps : List Nat) : State :=
  s.event s.cpIsland 0x0502 ((step, 8) :: ps.map (fun p => (p, 2)))

/-- The leader marks a step for a snapshot (R322). -/
def State.markStep (s : State) : State :=
  if s.surv.wanted || decide (s.surv.lastMark + s.surv.interval * 60000000000 ≤ s.clk.refTime) then
    let n := s.train.step
    let s := s.setSurv { s.surv with lastMark := s.clk.refTime, wanted := false, marks := s.surv.marks ++ [n] }
    (s.members.ids.filter (fun i => i != s.fab.id && !s.members.fenced.contains i)).foldl (fun s i =>
      s.sendControl i 0x25 [(n, 8)] n) s
  else s

/-- COMMIT_RECORD_FORM: with a report for every position and every bucket reduced at every owner, the leader forms the record and
sends it to every other live member, or finds digests that differ (R239, R322, R329, R330). -/
def State.formRecord (s : State) : State :=
  let t := s.train
  let ps := upTo 0 s.memberCount
  if s.leader ≠ s.position ∨ t.formed.isSome ∨ ps.isEmpty ∨ !ps.all (fun p => (t.reports.map (·.1)).contains p) ∨
    !(upTo 0 t.buckets.length).all t.freed.contains then s else
  let d := tget 0 t.reports s.position
  let bad := ps.filter (fun p => decide (tget 0 t.reports p ≠ d))
  if !bad.isEmpty then s.divergence t.step bad else
  let r : CommitRec := {
    step := BitVec.ofNat 64 t.step, epoch := BitVec.ofNat 32 s.members.epoch, membersM1 := BitVec.ofNat 12 (s.memberCount - 1)
    level := BitVec.ofNat 16 (s.levelOf t.step), buckets := BitVec.ofNat 16 t.buckets.length
    leader := BitVec.ofNat 16 s.position, refTime := BitVec.ofNat 64 s.clk.refTime, digest := d }
  ((s.members.ids.filter (fun i => i != s.fab.id && !s.members.fenced.contains i)).foldl (fun s i => s.sendStep false i (commitBytes r))
    (s.setTrain { t with formed := some r })).markStep
def execCommitRecordForm (s : State) : Host.Outcome State Fault Refusal := .next (s.inService s.formRecord)

/-- The bucket table of a step: its own, or that of every step. -/
def State.tableFor (s : State) (n : Nat) : List Bucket :=
  if (s.train.tables.map (·.1)).contains n then tget [] s.train.tables n else tget [] s.train.tables (2 ^ 64 - 1)

/-- The rows a sparse tensor's list names, none for a list that counts as a full copy (R325). -/
def State.rowList (s : State) (k : Nat) : Option (List Nat) :=
  let p := s.surv.policy
  let a := policyWord p k 320 52
  let n := leNat (s.stackedBytes a 4)
  if policyWord p k 384 32 < n then none else
  let rs := (upTo 0 n).map (fun i => leNat (s.stackedBytes (a + 4 + 4 * i) 4))
  if (rs.zip (rs.drop 1)).all (fun q => decide (q.1 < q.2)) then some rs else none

/-- The bytes that an entry's tensor adds to the step log; none where a full copy does not fit (R325). -/
def State.logBytes (s : State) (k : Nat) : Option Nat :=
  let p := s.surv.policy
  let size := policyWord p k 192 64
  let full := if size ≤ 0x4000000 then some size else none
  if s.methodOf k ≠ 2 then some 0
  else if policyWord p k 38 1 = 1 then
    match s.rowList k with
    | some rs => some (rs.length * 64 * policyWord p k 272 16)
    | none => full
  else if size ≤ 0x4000000 then some size else some 0

/-- The step log entry of the step just applied, written to the partner at class 2 (R325). -/
def State.stepLog (s : State) : State :=
  if s.surv.policy.isEmpty ∨ s.partner = 0xFFFF ∨ s.lnk 11 ≠ 5 ∨ s.fld (reg0 .CP_SNAPSHOT_STATUS 0) F.CP_SNAPSHOT_STATUS_log_full = 1 then s
  else
    let ks := policyEntries s.surv.policy
    let p := s.surv.policy
    let base := policyWord p 0 0 52 + 2 * Config.snapshotSlot (policyWord p 0 64 64)
    let room := policyWord p 0 0 52 + policyWord p 0 64 64 - base
    let need := ks.map s.logBytes
    let total := (need.map (fun x => x.getD 0)).sum
    if need.any (·.isNone) || decide (room < s.surv.logUsed + total) then
      s.setF (reg0 .CP_SNAPSHOT_STATUS 0) F.CP_SNAPSHOT_STATUS_log_full 1
    else
      let data := ks.flatMap (fun k =>
        if s.methodOf k ≠ 2 then []
        else if policyWord p k 38 1 = 1 then
          match s.rowList k with
          | some rs =>
            let z := 64 * policyWord p k 272 16
            rs.flatMap (fun r => s.stackedBytes (s.committedAt k + r * z) z)
          | none => s.stackedBytes (s.committedAt k) (policyWord p k 192 64)
        else if policyWord p k 192 64 ≤ 0x4000000 then s.stackedBytes (s.committedAt k) (policyWord p k 192 64) else [])
      let s := s.setSurv { s.surv with logUsed := s.surv.logUsed + total }
      if data.isEmpty then s else
      s.putAll true false s.partner 0 2 none none (base + (s.surv.logUsed - total)) data

/-- A membership list whose first step has come takes effect, and the stand-in's role ends (R234, R335). -/
def State.membersSwitch (s : State) (n : Nat) : State :=
  match s.membersNext with
  | some m =>
    if m.first ≤ n then
      let s := { s with members := m, membersNext := none }
      (s.setF (reg0 .CP_PAIR_STATUS 0) F.CP_PAIR_STATUS_stand_in 0).setF (reg0 .CP_PAIR_STATUS 0) F.CP_PAIR_STATUS_stood_for 0xFFFF
    else s
  | none => s

/-! Firn snapshots (R322 to R324). -/

/-- The sections of a snapshot of step `n`: type, tensor and bytes (R323). -/
def State.snapSects (s : State) (n : Nat) : List (Nat × Nat × List Byte) :=
  let p := s.surv.policy
  let tensors := ((policyEntries p).filter (fun k => decide (s.methodOf k ≠ 3))).map (fun k =>
    (1, policyWord p k 0 32, s.stackedBytes (s.committedAt k) (policyWord p k 192 64)))
  let plan := s.train.plans.find? (fun x => decide (x.1 = n + 1))
  let gens := (upTo 0 64).flatMap (fun c => (s.ve c).gens.flatMap Gen.bytes ++ (s.ope c).gens.flatMap Gen.bytes)
  let planBytes := p.drop 64 ++ (s.tableFor (n + 1)).flatMap Bucket.entry ++
    (plan.elim [] (fun x => leBytes x.1 8 ++ leBytes x.2.1 4 ++ x.2.2)) ++ s.train.replay.flatMap (fun r => leBytes r.1 4 ++ r.2)
  let mem := s.members.ids.flatMap (fun i => leBytes i 2) ++ s.surv.pairs.flatMap (fun x => leBytes x.1 2 ++ leBytes x.2.1 2) ++
    leBytes s.position 2
  tensors ++ plan.elim [] (fun x => [(2, 0, x.2.2)]) ++ [(3, 0, gens), (4, 0, planBytes), (5, 0, mem)]

/-- The section table and the sections of a snapshot (R323). -/
def snapBody (xs : List (Nat × Nat × List Byte)) : List Byte :=
  let offs := (xs.foldl (fun (a : Nat × List Nat) x => (a.1 + x.2.2.length, a.2 ++ [a.1])) (256 + 32 * xs.length, [])).2
  (xs.zip offs).flatMap (fun x => leBytes (x.1.1 + x.1.2.1 * 2 ^ 32 + x.2 * 2 ^ 64 + x.1.2.2.length * 2 ^ 128) 32) ++
    xs.flatMap (·.2.2)

/-- The pair table says that the module's partner names another: the pairing counts as absent (R320). -/
def State.pairAbsent (s : State) : Bool := s.surv.pairs.any (fun x => decide (x.1 = s.partner) && decide (x.2.1 ≠ s.fab.id))
/-- The partner's area is a destination: a partner, and the pairing port ACTIVE (R318). -/
def State.partnerUp (s : State) : Bool := decide (s.partner ≠ 0xFFFF) && decide (s.lnk 11 = 5) && !s.pairAbsent

/-- The 256 bytes of a snapshot header (R323). -/
def State.snapHeader (s : State) (n count refTime : Nat) (body : List Byte) : List Byte :=
  leBytes (0x4E524946 + 1 * 2 ^ 32 + count * 2 ^ 48) 8 ++ leBytes s.surv.number 8 ++ leBytes n 8 ++ leBytes s.members.epoch 4 ++
    leBytes (s.levelOf n) 2 ++ leBytes s.fab.id 2 ++ leBytes s.partner 2 ++
    leBytes (((s.train.plans.map (·.1)).contains (n + 1)).toNat + 2 * s.partnerUp.toNat +
      4 * s.fld (reg0 .CP_PAIR_STATUS 0) F.CP_PAIR_STATUS_override) 2 ++ zeros 4 ++ leBytes refTime 8 ++
    leBytes (256 + body.length) 8 ++ zeros 8 ++ shake512 body ++ zeros 128

/-- Bytes sent to the partner at class 2 in messages of at most 16 MiB, each answered, under one of the module's own tags (R256,
R318). -/
def State.partnerWrite (job : Nat) : Nat → State → Nat → List Byte → State
  | 0, s, _, _ => s
  | k + 1, s, a, bs =>
    if bs.isEmpty then s else
    let s := s.putAll true true s.partner s.fab.next 2 (some (job, a)) none a (bs.take 0x1000000)
    State.partnerWrite job k s (a + 0x1000000) (bs.drop 0x1000000)

/-- A snapshot of the step just committed, taken once its mark has come (R322, R323): the table and the sections are written
to the older slot of each destination, and the header follows. -/
def State.trySnapshot (s : State) : State :=
  let n := s.train.step - 1
  if s.surv.copying || s.train.step = 0 || !s.surv.marks.contains n || s.surv.policy.isEmpty then s else
  let slot := 1 - s.surv.slot
  let p := s.surv.policy
  let s := s.setSurv { s.surv with
    marks := s.surv.marks.filter (fun m => decide (n < m)), number := s.surv.number + 1, snapStep := n, copying := true
    slot := slot, logUsed := 0 }
  let st := reg0 .CP_SNAPSHOT_STATUS 0
  let s := (s.setF st F.CP_SNAPSHOT_STATUS_state 1).setF st F.CP_SNAPSHOT_STATUS_log_full 0
  let xs := s.snapSects n
  let body := snapBody xs
  let hdr := s.snapHeader n xs.length ((s.train.record.map (fun r => r.refTime.toNat)).getD 0) body
  let far := policyWord p 0 128 52 + slot * (policyWord p 0 192 64 / 2)
  let s := (s.devWrite .firmware (far + 256) body).st
  let s := s.setSurv { s.surv with header := hdr }
  if s.partnerUp then
    let dst := policyWord p 0 0 52 + slot * Config.snapshotSlot (policyWord p 0 64 64)
    let s : State := { s with mbx := { s.mbx with transfers := tdel snapJob s.mbx.transfers } }
    let s := State.partnerWrite snapJob (body.length / 0x1000000 + 1) s (dst + 256) body
    State.partnerWrite snapJob 1 s dst hdr
  else s

/-- At the first record applied after a plan was accepted, this module copies the groups it is the source of, from their committed
version, its own or for a stand-in the mirror's, or from its far-tier snapshot slot (R334, R335). The bytes of a group, whose it is and
its place in the slot are not stated (log 10). -/
def State.reshardCopy (s : State) : State :=
  match s.surv.plan with
  | none => s
  | some p =>
    if s.surv.placed ≠ 0 then s else
    (planEntries p).foldl (fun (s : State) e =>
      let w := e.2
      match (policyEntries s.surv.policy).find? (fun k => decide (policyWord s.surv.policy k 0 32 = bitsOf w 0 32)) with
      | none => s
      | some k =>
        if bitsOf w 96 16 ≠ s.fab.id then s else
        let f := s.free
        let z := f.2.toNat % 4096
        let far := policyWord s.surv.policy 0 128 52 + s.surv.slot * (policyWord s.surv.policy 0 192 64 / 2)
        let tensor := bitsOf w 0 32
        let base := if decide (1 < s.served.length) && f.2.getLsbD 63 then Config.mirrorAt tensor (s.train.midx.contains tensor)
          else s.committedAt k
        let r : Acc := if w.testBit 137 then f.1.devRead .firmware (far + f.2.toNat / 4096 % 2 ^ 40) (bitsOf w 64 32 * z) .ok
          else ⟨f.1, s.stackedBytes (base + bitsOf w 32 32 * z) (bitsOf w 64 32 * z), .ok⟩
        r.st.reshardPut e.1 (bitsOf w 112 16) (bitsOf w 192 64) 2 r.bytes) s

/-- The step boundary after step `n`: the next bucket table, the next policy, a membership list whose first step has come; the g of
step `n` are released that no partner has still to acknowledge (R232, R237, R315, R335). -/
def State.stepBoundary (s : State) (n : Nat) : State :=
  let s := s.setTrain { s.train with
    step := n + 1, buckets := s.tableFor (n + 1), parts := [], updated := [], ready := false, reports := [], formed := none
    freed := [], mirrored := [], mirrorG := [], owners := [], running := false, barred := s.train.barred.filter (fun k => decide (n < k))
    mupdated := s.train.mupdated.filter (fun u => decide (n ≤ u.1)), acked := s.train.acked.filter (fun r => decide (n < r.1))
    retained := s.train.retained.filter (fun r =>
      decide (r.1 ≠ n) || ((decide (s.mirror = 1) || decide (s.mirror = 2)) && !s.train.acked.contains r)) }
  let s := match s.surv.policyNext with
    | some p => s.setSurv { s.surv with policy := p, policyNext := none }
    | none => s
  let s := s.reshardCopy
  let s := if s.surv.plan.isSome then s.setSurv { s.surv with placed := s.surv.placed + 1 } else s
  let s := if (s.rd (reg0 .LNK_LEVEL_STEP 0)).toNat ≤ n + 1 then
      s.setF (reg0 .LNK_LEVEL 0) F.LNK_LEVEL_level_now (s.fld (reg0 .LNK_LEVEL 0) F.LNK_LEVEL_level_next) else s
  (s.membersSwitch (n + 1)).purBoundary

/-- COMMIT_RECORD_APPLY: the committed index of every tensor updated in the step is switched and the event raised (R240); a
record of a step already applied is ignored, or diverges; the record is relayed to the partner, and the next step may start
(R264, R331). -/
def State.applyRecord (s : State) (r : CommitRec) : State :=
  let s := s.edge 642
  if r.step.toNat ≠ s.train.step then
    match s.train.record with
    | some o => if o.step = r.step ∧ o.digest ≠ r.digest then s.divergence r.step.toNat [r.leader.toNat] else s
    | none => s
  else
    let ts := (s.train.updated.map (·.1)).eraseDups
    let s := s.setTrain { s.train with
      record := some r
      idx := s.train.idx.filter (fun t => !ts.contains t) ++ ts.filter (fun t => !s.train.idx.contains t) }
    let s := s.event s.cpIsland 0x0501 [(r.step.toNat, 8), (r.level.toNat, 2), (r.epoch.toNat, 4)]
    let s := (s.stepLog.stepBoundary r.step.toNat).trySnapshot
    (if s.partnerUp then s.sendStep true s.partner (commitBytes r) else s).stepGo
def execCommitRecordApply (rcd : CommitRec) (s : State) : Host.Outcome State Fault Refusal := .next (s.inService (s.applyRecord rcd))

/-- MIRROR_SWITCH: the partner's mirror of a tensor is switched once this module holds the record and its own finished mirror
update of that step (R240). -/
def execMirrorSwitch (tensor : BitVec 32) (s : State) : Host.Outcome State Fault Refusal :=
  .next (s.inService (
    let t := s.train
    let k := tensor.toNat
    let done (r : CommitRec) : Bool := t.mupdated.any (fun u => decide (u.1 = r.step.toNat) && decide (u.2.1 = k))
    if !t.record.any done ∨ s.partner = 0xFFFF ∨ t.mirrored.contains k then s else
    s.setTrain { t with
      mirrored := t.mirrored ++ [k]
      midx := if t.midx.contains k then t.midx.filter (· != k) else t.midx ++ [k] }))

end Sys2Proof.Machine
end

