-- ==== Sys2Proof/Machine/Programs.lean ====
section
/-! DEFINITION. Program images, contexts and time-slicing (R193 to R195, R301 to R303). -/

namespace Sys2Proof.Machine

/-! Images (R193, R194). -/

/-- A field of `w` bytes at an offset. -/
def at_ (bs : List Byte) (o w : Nat) : Nat := leNat ((bs.drop o).take w)

/-- A section: type, flags, load offset, size and file offset (R194). -/
structure Sect where
  type : Nat
  flags : Nat
  off : Nat
  size : Nat
  file : Nat
  deriving DecidableEq, Repr

def imageSects (img : List Byte) : List Sect :=
  let t := at_ img 0x24 4
  (upTo 0 (at_ img 0x0A 2)).map (fun i =>
    let o := t + 32 * i
    ⟨at_ img o 2, at_ img (o + 2) 2, at_ img (o + 8) 4, at_ img (o + 12) 4, at_ img (o + 16) 4⟩)

/-- The bytes of a section: zeros where its flags say so. -/
def Sect.data (x : Sect) (img : List Byte) : List Byte :=
  if x.flags % 2 = 1 then List.replicate x.size 0 else
  let bs := (img.drop x.file).take x.size
  bs ++ List.replicate (x.size - bs.length) 0

/-- The target of a section and its bytes: 1 tile memory, 2 instruction memory, 3 data memory, 0 none of them. -/
def Sect.target (x : Sect) : Nat × Nat :=
  if x.type = 1 ∨ x.type = 2 ∨ x.type = 3 ∨ x.type = 6 then (1, slotSize)
  else if x.type = 4 then (2, 0x10000) else if x.type = 5 then (3, 0x10000) else (0, 0)

/-- The registers that an image may write (R195). -/
def imageReg : RegName → Bool
  | .OPE_RING | .OPE_RING_SCALE | .OPE_DRAIN | .OPE_DRAIN_EXT | .OPE_SUMM | .OPE_CPL_BASE | .OPE_SAVE_BASE | .OPE_NUM_CTRL
  | .OPE_LOOPCNT | .VE_PARAM | .VE_LOOPCNT | .MOV_Q_BASE | .MOV_Q_CFG | .MOV_Q_TAIL | .MOV_Q_HEAD | .MOV_Q_ERR | .MOV_Q_CANCEL
  | .MOV_Q_CANCEL_TOK | .MOV_CTRL | .MOV_LATE_BUDGET | .PUR_CORE_CFG => true
  | _ => false

/-- The register entries of an image: offset and value. -/
def imageRegs (img : List Byte) : List (Nat × Nat) :=
  ((imageSects img).filter (fun x => decide (x.type = 7))).flatMap (fun x =>
    let d := x.data img
    (upTo 0 (x.size / 16)).map (fun i => (at_ d (16 * i) 4, at_ d (16 * i + 8) 8)))

/-- An entry that names an RW or WO field of a register of the list, and nothing else. -/
def imageRegOk (n : Nat) (e : Nat × Nat) : Bool :=
  match regAt (0x300000000000 + n * 0x10000 + e.1) with
  | none => false
  | some r =>
    let k := r.name.masks
    decide (e.1 < 0x10000) && imageReg r.name && decide (k.rw ||| k.wo ≠ 0) && decide (BitVec.ofNat 64 e.2 &&& ~~~(k.rw ||| k.wo) = 0)

/-- The token entries of an image: token and count. -/
def imageToks (img : List Byte) : List (Nat × Nat) :=
  ((imageSects img).filter (fun x => decide (x.type = 8))).flatMap (fun x =>
    let d := x.data img
    (upTo 0 (x.size / 4)).map (fun i => (at_ d (4 * i) 4 % 64, at_ d (4 * i + 2) 2)))

def sectsOverlap : List Sect → Bool
  | [] => false
  | x :: xs => xs.any (fun y => decide (x.target.1 ≠ 0) && decide (x.target.1 = y.target.1) && decide (x.off < y.off + y.size) &&
      decide (y.off < x.off + x.size)) || sectsOverlap xs

/-- An engine of a core that is not IDLE (R195). -/
def State.coreBusy (s : State) (n : Nat) : Bool :=
  decide (s.engSt false n ≠ 0) || decide (s.engSt true n ≠ 0) || (upTo 0 8).any (fun m => decide (s.qSt n m ≠ 0))

/-- The first check of R195 that an image fails on the named cores, 1 to 7; 0 for none. -/
def State.imageCheck (s : State) (img : List Byte) (cores : List Nat) : Nat :=
  let xs := imageSects img
  if at_ img 0 4 ≠ 0x0058444E ∨ at_ img 4 2 ≠ 1 ∨
    shake256 ((img.take (at_ img 0x28 4)).drop 0x60) ≠ (img.drop 0x40).take 32 then 1
  else if s.levelOf s.train.step < at_ img 8 2 then 2
  else if xs.any (fun x => decide (x.type = 0) || decide (10 < x.type)) then 3
  else if xs.any (fun x => decide (x.target.1 ≠ 0) && decide (x.target.2 < x.off + x.size)) then 4
  else if sectsOverlap xs then 5
  else if !(imageRegs img).all (imageRegOk 0) then 6
  else if cores.any s.coreBusy then 7
  else 0

/-- A section written to a core: tile memory, or the memories of its scalar processor. -/
def State.loadSect (s : State) (n : Nat) (img : List Byte) (x : Sect) : State :=
  let y := s.sca n
  match x.target.1 with
  | 1 => s.tmWrite n x.off (x.data img)
  | 2 => s.setSca n { y with imem := writeBytes y.imem x.off (x.data img) }
  | 3 => s.setSca n { y with dmem := writeBytes y.dmem x.off (x.data img) }
  | _ => s

/-- The register and token entries of an image written to a core. -/
def State.loadRegs (s : State) (n : Nat) (img : List Byte) : State :=
  let s := (imageRegs img).foldl (fun s e =>
    match regAt (0x300000000000 + n * 0x10000 + e.1) with
    | some r => s.coreRegWrite r (BitVec.ofNat 64 e.2) (BitVec.allOnes 64)
    | none => s) s
  (imageToks img).foldl (fun s t => s.setF (tokReg ⟨0, n, t.1⟩) F.TOK_CNT_count t.2) s

/-- A scalar processor released from reset at an address, its memories as they stand. -/
def State.scaStart (s : State) (n pc : Nat) : State :=
  s.setSca n { Scalar.reset with imem := (s.sca n).imem, dmem := (s.sca n).dmem, pc := BitVec.ofNat 32 pc, held := false }

/-- The engines of an image started at its addresses (R193, R195). -/
def State.startImage (s : State) (n : Nat) (img : List Byte) : State :=
  let pc (o : Nat) : Nat := at_ img o 4
  let s := if pc 0x20 = 0xFFFFFFFF then s.setSca n { s.sca n with held := true } else s.scaStart n (pc 0x20)
  let s := if pc 0x10 = 0xFFFFFFFF then s else
    (s.setProgram false n (pc 0x10) (pc 0x14)).opeRun n
  if pc 0x18 = 0xFFFFFFFF then s else
    (s.setProgram true n (pc 0x18) (pc 0x1C)).veRun n

def State.loadImage (s : State) (n : Nat) (img : List Byte) : State :=
  (((imageSects img).foldl (fun s x => s.loadSect n img x) s).loadRegs n img).startImage n img

/-! Contexts (R301, R302). -/

def State.slice (s : State) (n : Nat) : Slice := tget .reset s.slices n
def State.setSlice (s : State) (n : Nat) (x : Slice) : State := { s with slices := tput n x s.slices }
def Slice.ctx (x : Slice) (c : Nat) : Option Ctx := (x.ctxs.find? (fun p => decide (p.1 = c))).map (·.2)

/-- The registers of a core that belong to its context: those of R302, and those a program sets for its own passes, loops and
records, so that no other context changes its results (R59, log 16). -/
def ctxRegs (n : Nat) : List Reg :=
  [reg0 .OPE_STATUS n, reg0 .VE_STATUS n, pcReg false n, pcReg true n, endReg false n, endReg true n,
    reg0 .OPE_NUM_CTRL n, reg0 .OPE_NUM_STATE n, reg0 .OPE_CPL_BASE n, reg0 .OPE_SAVE_BASE n] ++
    (upTo 0 8).flatMap (fun m => [reg1 .OPE_RING n m, reg1 .OPE_RING_SCALE n m, reg1 .OPE_DRAIN n m, reg1 .OPE_DRAIN_EXT n m,
      loopCntReg false n m, loopCntReg true n m] ++ (upTo 0 4).map (fun k => (⟨.OPE_SUMM, n, m, k⟩ : Reg))) ++
    (upTo 0 16).map (reg1 .VE_PARAM n) ++
    (upTo 0 4).flatMap (fun j => [loopReg false n j, loopReg true n j, loopEndReg false n j, loopEndReg true n j]) ++
    (upTo 0 8).flatMap (fun m => [reg1 .MOV_Q_BASE n m, reg1 .MOV_Q_CFG n m, reg1 .MOV_Q_TAIL n m, reg1 .MOV_Q_HEAD n m,
      reg1 .MOV_Q_ERR n m, reg1 .MOV_Q_CANCEL n m, reg1 .MOV_Q_CANCEL_TOK n m]) ++
    (upTo 0 64).map (reg1 .TOK_CNT_CORE n)

def State.ctxPack (s : State) (n : Nat) (mid : Bool) : Saved := ⟨s.core n, (ctxRegs n).map (fun r => (r.addr, s.rd r)), mid⟩
/-- A context that has not run: its state as after reset (log 16). -/
def ctxFresh (n : Nat) : Saved := ⟨.reset n, (ctxRegs n).map (fun r => (r.addr, r.reset)), false⟩
def State.ctxUnpack (s : State) (n : Nat) (v : Saved) : State :=
  (ctxRegs n).foldl (fun s r => s.wr r (tget r.reset v.regs r.addr)) (s.setCore n v.core)
def State.savedCtx (s : State) (n c : Nat) : Saved := tget (ctxFresh n) s.saved (n * 8 + c)
def State.putSaved (s : State) (n c : Nat) (v : Saved) : State := { s with saved := tput (n * 8 + c) v s.saved }

/-- An action on a context of a core, in force or not. -/
def State.inContext (s : State) (n c : Nat) (f : State → State) : State :=
  if c = (s.slice n).cur then f s else
  let cur := s.ctxPack n false
  let v := s.savedCtx n c
  let t := f (s.ctxUnpack n v)
  (t.putSaved n c (t.ctxPack n v.mid)).ctxUnpack n cur

/-! Switches (R302, R303). -/

/-- The engines of a core held for a switch (R302, R303). -/
def State.sliceHold (s : State) (n : Nat) : State :=
  let x := s.slice n
  let h := (s.engSt false n, s.engSt true n, s.rd (reg0 .MOV_CTRL n), (s.sca n).held)
  let s := s.setSlice n { x with hold := some h }
  let s := if h.1 = 1 then s.setEngSt false n 2 else s
  let s := if h.2.1 = 1 then s.setEngSt true n 2 else s
  ((s.setVe n { s.ve n with sliced := true }).wr (reg0 .MOV_CTRL n) 0).setSca n { s.sca n with held := true }

def State.sliceRelease (s : State) (n : Nat) (h : Nat × Nat × BitVec 64 × Bool) : State :=
  let s := (s.setEngSt false n h.1).setEngSt true n h.2.1
  ((s.setVe n { s.ve n with sliced := false }).wr (reg0 .MOV_CTRL n) h.2.2.1).setSca n { s.sca n with held := h.2.2.2 }

/-- The waits of a core's engines withdrawn, wherever they stand (R178, R190). -/
def State.dropWaits (s : State) (n : Nat) : State :=
  let own (w : Wait) : Bool := decide (w.req / 16 = n)
  let sent := s.cross.flatMap (fun p => p.2.filterMap (fun e =>
    match e with
    | .wait w => some w
    | .grant w => some w
    | _ => none))
  ((s.waits ++ s.grants ++ sent).filter own).foldl (fun s w => s.tokDrop n (w.req % 16) w.tok w.n) s

/-- The outer-product engine stands at a point where a switch of this mode is allowed (R303). -/
def Ope.switchable (o : Ope) (mid : Bool) : Bool :=
  o.cwRun.isNone && o.saving.isNone && o.resume.isNone && o.replay.isNone &&
    (mid || (o.tile.isNone && o.run.isNone && o.closed.isEmpty && o.drain.isNone && o.fin.isEmpty))

/-- The line of the save area at the top of a partition: its top 2,600 KiB (R302). -/
def Ctx.saveLine (c : Ctx) : Nat := c.first + c.lines - 20800

/-- Every engine fetches again from its first instruction not issued, every queue from its start index (R302). -/
def State.refetch (s : State) (n : Nat) : State :=
  let again (ve : Bool) (st : Stream) : Stream :=
    { Stream.at (s.pc ve n) (s.archLoops ve n) with skip := if st.q.isEmpty then st.skip else none }
  let s := s.putOpe n { s.ope n with st := again false (s.ope n).st }
  let s := s.putVe n { s.ve n with st := again true (s.ve n).st }
  (upTo 0 8).foldl (fun s m => (s.putQue n m { s.que n m with fetched := [] }).setQ n m F.MOV_Q_HEAD_head (s.qStart n m)) s

/-- The switch itself, once every engine is held and every started descriptor has finished; a mid-pass switch freezes the array
as a suspend does (R90, R302). -/
def State.doSwitch (s : State) (n : Nat) (x : Slice) (h : Nat × Nat × BitVec 64 × Bool) (c : Nat) : State :=
  let s := (s.sliceRelease n h).dropWaits n
  let o := s.ope n
  let open_ := (o.tile.isSome || o.run.isSome || !o.closed.isEmpty || o.drain.isSome) && decide (h.1 ≠ 3)
  let s := match x.ctx x.cur with
    | some k => if open_ then (s.putOpe n o.freeze).writeSave n ⟨k.saveLine, true, false, false, o.nextId, s.pc false n⟩ else s
    | none => s
  let out := s.ctxPack n open_
  let inn := s.savedCtx n c
  let cur := s.ope n
  let s := (s.putSaved n x.cur out).ctxUnpack n inn
  let line := ((x.ctx c).map Ctx.saveLine).getD 0
  let s := s.putOpe n { s.ope n with
    cpls := cur.cpls, out := cur.out, nextId := cur.nextId, seq := cur.seq, parked := cur.parked
    resume := if inn.mid then some ⟨line, true, true, false, cur.nextId, s.pc false n⟩ else none
    tile := if inn.mid then none else (s.ope n).tile, run := if inn.mid then none else (s.ope n).run
    drain := if inn.mid then none else (s.ope n).drain }
  let s := (if inn.mid then s.setEngSt false n 2 else s).refetch n
  let s := s.setSlice n { x with cur := c, want := none, hold := none }
  let f := s.free
  f.1.event (f.1.phys n) 0x0208 [(n, 2), (x.cur, 1), (c, 1), (f.2.toNat % 2 ^ 32, 4)]

/-- A wanted switch goes as far as it can (R303). -/
def State.trySwitch (s : State) (n : Nat) : State :=
  let x := s.slice n
  match x.want with
  | none => s
  | some (c, mid) =>
    if !s.alive n then s
    else if c = x.cur then s.setSlice n { x with want := none }
    else
      let s := if x.hold.isNone && (s.ope n).switchable mid then s.sliceHold n else s
      match (s.slice n).hold with
      | none => s
      | some h =>
        if (upTo 0 8).all (fun m => (s.que n m).started.isEmpty && (s.que n m).old.isEmpty) then s.doSwitch n (s.slice n) h c else s

/-- A switch of a core to a context asked for. -/
def State.wantSwitch (s : State) (n c : Nat) (mid : Bool) : State :=
  (s.setSlice n { s.slice n with want := some (c, mid) }).trySwitch n

/-- The next context of the mask in ascending order that has a program loaded (R303). -/
def Slice.next (x : Slice) : Option Nat :=
  ((upTo (x.cur + 1) 8).map (· % 8)).find? (fun c => x.mask.testBit c && (x.ctx c).any (fun k => !k.image.isEmpty))

/-- SLICE_QUANTUM_EXPIRY: the quantum ends; a switch already wanted goes on (R303). -/
def execSliceQuantumExpiry (n : CoreId) (s : State) : Host.Outcome State Fault Refusal :=
  .next (
    let x := s.slice n
    if x.want.isSome then s.trySwitch n
    else if x.quantum = 0 then s
    else match x.next with
      | some c => s.wantSwitch n c x.mid
      | none => s)

/-- PASS_BOUNDARY_WAIT_EXPIRY: a switch that has waited 10 ms is made mid-pass (R303). -/
def execPassBoundaryWaitExpiry (n : CoreId) (s : State) : Host.Outcome State Fault Refusal :=
  .next (
    match (s.slice n).want with
    | some (c, false) => s.wantSwitch n c true
    | _ => s)

end Sys2Proof.Machine
end

