-- ==== Sys2Proof/Machine/Survival.lean ====
section
/-! DEFINITION. Surviving failure: pairing, mirrors, loss of a module, firn snapshots, core faults and spares (R314 to
R338). -/

namespace Sys2Proof.Machine

/-- PAIR_ANNOUNCE: the pair table takes a member's partner (R320). -/
def execPairAnnounce (own partner : BitVec 16) (ovr : Bool) (s : State) : Host.Outcome State Fault Refusal :=
  .next (s.inService (s.setSurv { s.surv with pairs := tput own.toNat (partner.toNat, ovr) s.surv.pairs }))

/-- The mirror is no longer kept: g alone meets this owner's condition, and the g of committed steps are released (R321, R328). -/
def State.unmirror (s : State) : State :=
  let s := s.setTrain { s.train with retained := s.train.retained.filter (fun r => decide (s.train.step ≤ r.1)) }
  (mapFrom 0 (fun b (_ : Bucket) => b) s.train.buckets).foldl State.bucketDone (s.setMirror 3)

/-- The pairing port has left ACTIVE while the partner answers (R321). -/
def State.partnerAnswers (s : State) : State := if s.lnk 11 ≠ 5 ∧ s.mirror ≠ 0 then s.unmirror else s

/-- PROBE: answered with PROBE_REPLY; a probe by the partner shows it alive (R321, R326). -/
def execProbe (src : BitVec 16) (num : BitVec 32) (s : State) : Host.Outcome State Fault Refusal :=
  .next (s.inService (
    let s := s.sendControl src.toNat 0x22 [(num.toNat, 4)] 0
    if src.toNat = s.partner then s.partnerAnswers else s))

/-- PROBE_REPLY: the partner is alive (R326). -/
def execProbeReply (num : BitVec 32) (s : State) : Host.Outcome State Fault Refusal :=
  .next (s.inService (
    if !s.surv.probing || decide (num.toNat ≠ s.surv.probe % 2 ^ 32) then s
    else (s.setSurv { s.surv with probing := false }).partnerAnswers))

/-! The job context (R327, R336). -/

/-- A queue cancelled. -/
def State.cancelAll (s : State) (n : Nat) : State := (upTo 0 8).foldl (fun s m => s.movCancel n m) s

/-- The job context stops: every engine halts at its boundary and the move queues are cancelled (R327, R336). -/
def State.jobStop (s : State) : State :=
  (upTo 0 64).foldl (fun s n =>
    if !s.alive n then s else
    let s := if s.engSt false n = 1 then s.setEngSt false n 2 else s
    let s := (s.veHalt n).cancelAll n
    s.setSca n { s.sca n with held := true }) (s.setSurv { s.surv with jobStopped := true })

/-- An engine stream put back to IDLE without loop levels. -/
def State.engIdle (s : State) (ve : Bool) (n : Nat) : State :=
  let s := (upTo 0 4).foldl (fun (s : State) j => s.wr (loopReg ve n j) 0) s
  let s := if ve then s.putVe n { s.ve n with st := .reset, halted := false, wld := 0, wst := 0 }
    else s.putOpe n { s.ope n with st := .reset, tile := none, run := none, cw := none, susp := none }
  s.setEngSt ve n 0

/-- A stopped job context restarted from its image's start addresses, with its registers and tokens written again (R337). -/
def State.jobRestart (s : State) (n : Nat) : State :=
  match (s.slice n).ctx (s.slice n).cur with
  | some c => if c.image.isEmpty || !s.alive n then s else (((s.engIdle false n).engIdle true n).loadRegs n c.image).startImage n c.image
  | none => s

/-! Losing a module (R326 to R332). -/

/-- A bucket's reduction starts again from the retained local bucket: its parts are discarded, its updates are made again
(R327, R330). -/
def State.rerunBucket (s : State) (b : Nat) : State :=
  match bucketAt s.train.buckets b with
  | none => s
  | some x =>
    if s.train.freed.contains b then s else
    let s := s.setBucket b { x with run := x.run + 1, reduced := false, reducedCount := 0 }
    let s := s.setTrain { s.train with
      parts := s.train.parts.filter (fun p => decide (p.bucket.toNat ≠ b))
      updated := s.train.updated.filter (fun u => decide (u.2 ≠ b))
      retained := s.train.retained.filter (fun r => r != (s.train.step, b))
      acked := s.train.acked.filter (fun r => r != (s.train.step, b)), owners := s.train.owners.filter (fun o => decide (o.1 ≠ b))
      mupdated := s.train.mupdated.filter (fun u => !(decide (u.1 = s.train.step) && decide (u.2.2 = b)))
      mirrorG := s.train.mirrorG.filter (fun g => decide (g.1 ≠ b)), ready := false }
    if x.closed then s.formLeaves b { x with run := x.run + 1, reduced := false, reducedCount := 0 } else s

/-- A loss notice of the present epoch applied (R327, R331). The port and cause of a notice that names this module are not
stated (log 10). -/
def State.applyNotice (s : State) (lost standIn : Nat) : State :=
  if lost = s.fab.id then
    let f := s.free
    (f.1.setSurv { f.1.surv with lostSelf := true }).jobStop.event f.1.cpIsland 0x0400
      [(f.2.toNat % 256, 1), (lost, 2), (f.2.toNat / 256 % 256, 1)]
  else
    let s := (upTo 5 7).foldl (fun s p =>
      if s.lnk p = 5 ∧ s.fld (reg0 .LNK_STATUS p) F.LNK_STATUS_peer_id = lost then s.fencePort p 0x0C else s) s
    if !s.members.ids.contains lost || s.members.fenced.contains lost then s else
    let led := s.leader
    let s := { s with members := { s.members with
      fenced := s.members.fenced ++ [lost], standIn := tput lost standIn s.members.standIn } }
    let s := (mapFrom 0 (fun b (_ : Bucket) => b) s.train.buckets).foldl State.rerunBucket s
    if s.leader = led then s else s.setTrain { s.train with ready := false }

/-- LOSS_NOTICE (R327). -/
def execLossNotice (lost standIn : BitVec 16) (epoch : BitVec 32) (_step : BitVec 64) (s : State) :
    Host.Outcome State Fault Refusal :=
  .next (s.inService (if epoch.toNat ≠ s.members.epoch then s else s.applyNotice lost.toNat standIn.toNat))

/-- PROBE_TIMEOUT: the partner is lost; this module stands in for it and tells every member (R326, R329). -/
def execProbeTimeout (s : State) : Host.Outcome State Fault Refusal :=
  .next (s.inService (
    if !s.surv.probing then s else
    let lost := s.partner
    let s := s.setSurv { s.surv with probing := false }
    let r := reg0 .CP_PAIR_STATUS 0
    let s := (s.setF r F.CP_PAIR_STATUS_stand_in 1).setF r F.CP_PAIR_STATUS_stood_for lost
    let s := (s.members.ids.filter (fun i => i != s.fab.id && i != lost)).foldl (fun s i =>
      s.sendControl i 0x23 [(lost, 2), (s.fab.id, 2), (s.members.epoch, 4)] s.train.step) s
    (if s.mirror = 0 then s else s.unmirror).applyNotice lost s.fab.id))

/-- STAND_IN_READY: the leader counts it as the lost position's ready report (R329). -/
def execStandInReady (pos : BitVec 16) (digest : BitVec 256) (s : State) : Host.Outcome State Fault Refusal :=
  .next (s.inService (if s.posFenced pos.toNat then s.setTrain { s.train with reports := tput pos.toNat digest s.train.reports } else s))

/-! Snapshots and mirrors (R321 to R323). -/

/-- SNAPSHOT_MARK: the snapshot of a step is taken once its record is applied too (R322). -/
def execSnapshotMark (step : BitVec 64) (s : State) : Host.Outcome State Fault Refusal :=
  .next (s.inService (s.setSurv { s.surv with marks := s.surv.marks ++ [step.toNat] }).trySnapshot)

/-- SNAPSHOT_COMPLETE: the header has landed at every destination (R323). -/
def execSnapshotComplete (s : State) : Host.Outcome State Fault Refusal :=
  .next (s.inService (
    if !s.surv.copying || s.fab.sent.any (fun m => decide (m.job.map (·.1) = some snapJob)) then s else
    let p := s.surv.policy
    let far := policyWord p 0 128 52 + s.surv.slot * (policyWord p 0 192 64 / 2)
    let s := (s.devWrite .firmware far s.surv.header).st
    let st := reg0 .CP_SNAPSHOT_STATUS 0
    let done := tget [] s.mbx.transfers snapJob
    let atPartner := !done.isEmpty && done.all (fun d => decide (d.2 = 0))
    let s := ((s.setF st F.CP_SNAPSHOT_STATUS_last_complete s.surv.number).setF st F.CP_SNAPSHOT_STATUS_state 0).setF st
      F.CP_SNAPSHOT_STATUS_partner_copy atPartner.toNat
    let s := s.wr (reg0 .CP_SNAPSHOT_STEP 0) (BitVec.ofNat 64 s.surv.snapStep)
    let s := (s.setSurv { s.surv with copying := false, header := [] }).event s.cpIsland 0x0503 [(s.surv.number, 8), (s.surv.snapStep, 8)]
    s.trySnapshot))

/-- MIRROR_SYNC_START: the committed version of every REPLAY tensor goes to the partner; its place there is not stated
(R321; log 10). -/
def execMirrorSyncStart (s : State) : Host.Outcome State Fault Refusal :=
  .next (s.inService (
    if !s.partnerUp || decide (s.mirror = 1) || decide (s.mirror = 2) then s else
    let s := (s.setMirror 1).setSurv { s.surv with synced := false }
    let ks := (policyEntries s.surv.policy).filter (fun k => decide (s.methodOf k = 1))
    if ks.isEmpty then s.setSurv { s.surv with synced := true } else
    ks.foldl (fun (s : State) k =>
      let f := s.free
      let n := policyWord s.surv.policy k 192 64
      State.partnerWrite syncJob (n / 0x1000000 + 1) f.1 (f.2.toNat % 2 ^ 52) (s.stackedBytes (s.committedAt k) n)) s))

/-! Cores and spares (R19, R336 to R338). -/

def remapReg (n : Nat) : Reg := reg1 .CP_CORE_REMAP 0 n
def State.setRemap (s : State) (n x : Nat) : State :=
  (((s.setF (remapReg n) F.CP_CORE_REMAP_state x).bumpF (remapReg n) F.CP_CORE_REMAP_remap_count).changed 9).purFollow (n / 16)

/-- A core fenced: its block is off, its island stops and its remap entry is UNAVAILABLE; a fault while a spare is filling waits for
one (R25, R336, R338, R359). The causes of CORE_FENCED are not stated (log 10). -/
def State.fenceCore (s : State) (n : Nat) : State :=
  if 2 ≤ s.remap n then s else
  let p := s.phys n
  let f := s.free
  let s := { f.1 with clk := { f.1.clk with stopped := if f.1.clk.stopped.contains p then f.1.clk.stopped else f.1.clk.stopped ++ [p] } }
  let s := (s.setF (reg1 .RST_BLOCK 0 p) F.RST_BLOCK_enable 0).setF (reg1 .RST_BLOCK 0 p) F.RST_BLOCK_state 2
  let s := (s.setRemap n 2).event p 0x0206 [(n, 2), (p, 2), (f.2.toNat % 256, 1)]
  let s := s.edge (562 + 4 * (n / 16))
  if s.surv.filling.isEmpty then s else
  s.setSurv { s.surv with filling := s.surv.filling.filter (· != n), waitFill := s.surv.waitFill ++ [n] }

/-- CORE_FAULT: the core, or the four of its cluster node, are fenced; the step's micro-batches are dropped and the job
context stops (R21, R336). -/
def State.coreFault (s : State) (n : Nat) (node : Bool) : State :=
  let cs := if node then upTo (n / 4 * 4) 4 else [n]
  let s := if node then { s with clk := { s.clk with stopped := s.clk.stopped ++ [clusterIsland (n / 4)] } } else s
  ((cs.foldl State.fenceCore s).dropStep).jobStop
def execCoreFault (n : CoreId) (node : Bool) (s : State) : Host.Outcome State Fault Refusal := .next (s.inService (s.coreFault n node))

/-- PURLIN_CRC_RESEND: a flit on its way to a member is sent again; after 8 failed sends in a row the hop has failed, which is a
fault of the receiving cluster's node, and the die runs in direct mode (R21, R154, R155). -/
def execPurlinCrcResend (n : CoreId) (s : State) : Host.Outcome State Fault Refusal :=
  .next (s.runsOn (dieIsland (n / 16)) (
    let d := n.val / 16
    let c := n.val % 16
    if !s.flitTo n then s else
    let x := s.die d
    let k := tget 0 x.fails c + 1
    let s := s.bumpF (reg0 .PUR_CORE_STATUS n) F.PUR_CORE_STATUS_crc_retries
    if k < 8 then s.setDie d { x with fails := tput c k x.fails } else (s.coreFault n true).hopFailed n))

/-- The register block of a core as after a reset; its interrupt target's registers belong to the logical number and stay (R374). -/
def State.blockReset (s : State) (n : Nat) : State :=
  let a := 0x300000000000 + n * 0x10000
  { s with regs := s.regs.filter (fun r =>
      !(decide (a ≤ r.1) && decide (r.1 < a + 0x10000)) || (decide (a + 0x5000 ≤ r.1) && decide (r.1 < a + 0x5040))) }

/-- SPARE_FILL: at the step boundary a spare takes an UNAVAILABLE number in FILLING; without one it is RETIRED, or stays
UNAVAILABLE when the spare of its die serves another number (R19, R21, R337, R338). -/
def execSpareFill (n : CoreId) (s : State) : Host.Outcome State Fault Refusal :=
  .next (s.inService (
    let n := n.val
    if s.remap n ≠ 2 ∨ s.train.running then s
    else if s.surv.waitFill.contains n ∧ !s.surv.filling.isEmpty then s
    else match s.spareFor n with
    | none => if s.surv.waitFill.contains n then
        (((s.setRemap n 3).setSurv { s.surv with waitFill := s.surv.waitFill.filter (· != n) }).event s.cpIsland 0x0207
          [(n, 2), (s.phys n, 2), (3, 1)]).stepGo
      else s
    | some d =>
      let p := 17 * d + 16
      let r := remapReg n
      let s := (s.setF r F.CP_CORE_REMAP_phys_core p).setF r F.CP_CORE_REMAP_borrowed (decide (d ≠ n / 16)).toNat
      let s := (s.blockReset n).setRemap n 1
      let s := (s.setCore n (.reset n)).setMem (lay s.mem (slotBase n) slotSize [])
      let s := { s with badWords := s.badWords.filter (fun w => !(decide (slotBase n ≤ w) && decide (w < slotBase n + slotSize))) }
      s.setSurv { s.surv with
        filling := s.surv.filling ++ [n], waitFill := s.surv.waitFill.filter (· != n) }))

/-- SPARE_FILL_COMPLETE: the images kept at PROGRAM_LOAD are in the spare and the entry is MAPPED; the other cores' stopped
job contexts restart, and the next step's token is no longer held (R337, R338). -/
def execSpareFillComplete (n : CoreId) (s : State) : Host.Outcome State Fault Refusal :=
  .next (s.inService (
    let n := n.val
    if !s.surv.filling.contains n || decide (s.remap n ≠ 1) || s.train.running then s else
    let s := (s.setRemap n 0).setSurv { s.surv with filling := s.surv.filling.filter (· != n) }
    let x := s.slice n
    let s := (x.ctxs.filter (fun c => decide (c.1 ≠ x.cur))).foldl (fun s c =>
      ((imageSects c.2.image).filter (fun t => decide (t.target.1 = 1))).foldl (fun s t => s.loadSect n c.2.image t) s) s
    let s := match x.ctx x.cur with
      | some c => if c.image.isEmpty then s else s.loadImage n c.image
      | none => s
    let s := s.event (s.phys n) 0x0207 [(n, 2), (s.phys n, 2), (0, 1)]
    let s := if !s.surv.filling.isEmpty || !s.surv.waitFill.isEmpty || !s.surv.jobStopped || s.jobBlocked then s else
      (upTo 0 64).foldl (fun s c => if c = n then s else s.jobRestart c) (s.setSurv { s.surv with jobStopped := false })
    s.stepGo))

/-- RESHARD_SWITCH: at the switch step the new list's positions and owners take effect and the stand-in's role ends (R335). -/
def execReshardSwitch (s : State) : Host.Outcome State Fault Refusal :=
  .next (s.inService (
    match s.membersNext with
    | some m =>
      if s.train.step < m.first then s else
      let s := s.membersSwitch s.train.step
      s.setSurv { s.surv with plan := none, placed := 0 }
    | none => s))

/-! The retry sources of a poisoned window page that are other modules (R223, R259, R264). -/

/-- The class-0 GET of a poisoned page: from the partner's mirror by the pairing port, whose address is not stated, or from the peer
that the host named, at its offset from the page's far-tier offset. The data come to the page's slot (R223, R259, R264). -/
def State.retryGet (s : State) (d k a src : Nat) : State :=
  let get (s : State) (pair : Bool) (dest addr : Nat) : State :=
    s.sendMsg pair (hdrOf (2 + s.levelOf s.train.step * 2 ^ 16 + 0x40000 * 2 ^ 32 + addr % 2 ^ 52 * 2 ^ 64 + s.train.step * 2 ^ 128 +
      s.fab.next % 2 ^ 32 * 2 ^ 192) dest 0 0) [] true ((s.win d).base + k * 0x40000) none none
  if src = 3 then get s.free.1 true s.partner s.free.2.toNat
  else if src = 4 then
    let q := tget (0, 0) s.retryPeer d
    get s false q.1 (a - 0x1000000000000 + q.2)
  else s

/-- RETRY_SOURCE_TIMEOUT: the source being tried fails and the next that has a copy is tried; after the last, the step is
abandoned (R223, R224). -/
def execRetrySourceTimeout (d : DieId) (slot : BitVec 16) (s : State) : Host.Outcome State Fault Refusal :=
  .next (s.runsOn (dieIsland d) (
    let k := slot.toNat
    let w := s.win d
    let src := tget 0 w.retry k
    match w.pageOf k with
    | none => s
    | some (layer, q, a) =>
      if s.slotSt d k ≠ 4 ∨ src = 0 ∨ src > 4 then s else
      let next := s.nextSource d (src + 1) a
      let s := s.setWin d { w with retry := tput k next w.retry }
      if next ≤ 4 then s.retryGet d k a next else
      let step := s.fld (winReg .WIN_STEP d) F.WIN_STEP_step_count
      let s := ((s.setSlot d k 3).edge (546 + 4 * d.val)).event (dieIsland d) 0x0302 [(d, 1), (layer, 4), (q, 4), (step, 4)]
      let s := if s.winState d = 3 ∨ s.winState d = 4 then s else s.setWinF d F.WIN_STATUS_state 2
      s.faultHeld))

end Sys2Proof.Machine
end

