-- ==== Sys2Proof/Machine/Mailbox.lean ====
section
/-! DEFINITION. The mailbox: rings, completions, events and the frame in which every Ulmas command runs (R288 to R300). -/

namespace Sys2Proof.Machine

def State.setMbx (s : State) (x : Mbx) : State := { s with mbx := x }
def State.ring (s : State) (m : Nat) : Ring := tget .reset s.mbx.rings m
def State.setRing (s : State) (m : Nat) (r : Ring) : State := s.setMbx { s.mbx with rings := tput m r s.mbx.rings }

def sqTail (m : Nat) : Reg := reg1 .PCI_MBX_SQ_TAIL 0 m
def sqHead (m : Nat) : Reg := reg1 .PCI_MBX_SQ_HEAD 0 m
def cqCfg (m : Nat) : Reg := reg1 .PCI_MBX_CQ_CFG 0 m
def cqHead (m : Nat) : Reg := reg1 .PCI_MBX_CQ_HEAD 0 m

/-- Entries between two indices modulo 2^16. -/
def ringGap (tail head : Nat) : Nat := (tail + 65536 - head) % 65536

/-- SQ_DOORBELL: the entries that the host wrote from the old tail on, and the new tail (R288, R289). -/
def State.sqDoorbell (s : State) (m tail : Nat) (entries : List (BitVec 512)) : State :=
  let t := s.fld (sqTail m) F.PCI_MBX_SQ_TAIL_tail
  let sq := (mapFrom t (fun i (e : BitVec 512) => (i % 512, e.toNat)) entries).foldl
    (fun q p => tput (m * 512 + p.1) p.2 q) s.mbx.sq
  (s.setMbx { s.mbx with sq := sq }).setF (sqTail m) F.PCI_MBX_SQ_TAIL_tail tail
def execSqDoorbell (m : Fin 16) (tail : BitVec 16) (entries : List (BitVec 512)) (s : State) :
    Host.Outcome State Fault Refusal := .next (s.sqDoorbell m tail.toNat entries)

/-! The command table (R300). -/

/-- The class of a command: 0 U, 1 Q, 2 C, 3 L, and whether it is served in frost state and in snowbound recovery mode; none
for a code that is not in the table. Classes that depend on an argument are given by `urgent`. -/
def cmdInfo (op : Nat) : Option (Nat × Bool × Bool) :=
  match op with
  | 0x0000 | 0x0001 => some (1, true, true)
  | 0x0002 | 0x0003 | 0x0004 | 0x0005 => some (2, true, true)
  | 0x0100 | 0x0101 | 0x0102 | 0x0104 => some (2, false, false)
  | 0x0103 => some (3, false, false)
  | 0x0105 => some (2, true, false)
  | 0x0200 | 0x0205 => some (3, false, false)
  | 0x0201 | 0x0301 | 0x0408 | 0x0502 => some (0, false, false)
  | 0x0202 | 0x0203 | 0x0204 | 0x0206 | 0x0300 | 0x0302 | 0x0303 | 0x0304 => some (2, false, false)
  | 0x0400 | 0x0401 | 0x0403 | 0x0404 | 0x0406 | 0x040A => some (2, false, false)
  | 0x0402 | 0x0405 | 0x0407 => some (3, false, false)
  | 0x0409 => some (1, false, false)
  | 0x0500 | 0x0501 | 0x0503 | 0x0505 => some (2, false, false)
  | 0x0504 | 0x0506 | 0x0507 | 0x0508 => some (3, false, false)
  | 0x0600 | 0x0601 => some (3, false, true)
  | 0x0602 => some (3, false, false)
  | 0x0603 | 0x0604 => some (2, false, true)
  | 0x0605 => some (2, true, true)
  | 0x0700 => some (1, true, false)
  | 0x0701 | 0x0702 => some (2, false, false)
  | 0x0800 => some (2, true, true)
  | 0x0801 | 0x0802 | 0x0900 | 0x0902 => some (2, false, false)
  | 0x0901 => some (1, true, false)
  | 0x0A00 => some (3, false, false)
  | 0x0A01 => some (2, true, true)
  | 0x0A02 => some (0, false, false)
  | 0x0A03 | 0x0A04 => some (1, true, true)
  | 0x0A05 => some (2, false, true)
  | 0x0A06 => some (3, false, true)
  | 0x0A07 => some (2, true, true)
  | _ => none

/-- A field of a submission entry: `w` bytes at byte `o` (R289). -/
def arg (e o w : Nat) : Nat := bitsOf e (8 * o) (8 * w)
def opcodeOf (e : Nat) : Nat := bitsOf e 0 16
def tagOf (e : Nat) : Nat := bitsOf e 32 32

/-- A command that rings 0 and 1 accept: class U or Q; of PORT_CTRL, the fence (R292, R300). -/
def urgent (e : Nat) : Bool :=
  if opcodeOf e = 0x0405 then decide (arg e 9 1 = 1)
  else match cmdInfo (opcodeOf e) with
    | some (c, _) => decide (c ≤ 1)
    | none => false

/-- A command is served in the present mode, or by the always-on responder (R300, R345). -/
def State.served_ (s : State) (e : Nat) : Bool :=
  let op := opcodeOf e
  let kind := arg e 8 2
  if s.rst.responder then decide (op = 0x0000) || decide (op = 0x0A03) || decide (op = 0x0A04) || decide (op = 0x0A01) else
  match s.mode with
  | 0 => decide (op = 0x0000) || decide (op = 0x0003) || decide (op = 0x0A04)
  | 3 => (cmdInfo op).any (fun c => c.2.1) && (decide (op ≠ 0x0700) || decide (kind = 4)) &&
      (decide (op ≠ 0x0800) || (([0x0D, 0x0E, 0x14, 0x15] : List Nat).contains kind))
  | 4 => (cmdInfo op).any (fun c => c.2.2) && (decide (op ≠ 0x0800) || (([0x0D, 0x0E, 0x14, 0x15] : List Nat).contains kind))
  | _ => true

/-! Completions and OP_COMPLETE (R290, R291, R294). -/

/-- OP_COMPLETE of a command (R291, R294, R298). -/
def State.opComplete (s : State) (m tag op status detail : Nat) (result : List Byte) : State :=
  s.event s.cpIsland 0x0001 [(tag, 4), (op, 2), (status, 2), (detail, 2), (m, 1), (leNat (result.take 16), 16)]

/-- The indices of a ring returned to zero, and enable cleared (R294). -/
def State.ringZero (s : State) (m : Nat) : State :=
  let s := (s.setF (sqTail m) F.PCI_MBX_SQ_TAIL_tail 0).wr (sqHead m) 0
  let s := (s.setF (cqCfg m) F.PCI_MBX_CQ_CFG_enable 0).setF (cqCfg m) F.PCI_MBX_CQ_CFG_reset 0
  s.setRing m { s.ring m with idx := 0, phase := none, orphan := false }

/-- The status of the command in a ring's synchronous part is decided (R290, R293, R294). -/
def State.decide_ (s : State) (m e status detail : Nat) (result : List Byte) : State :=
  let r := s.ring m
  if r.orphan then
    ((s.setRing m { r with cur := none, phase := none }).opComplete m (tagOf e) (opcodeOf e) status detail result).ringZero m
  else
    s.setRing m { r with
      cur := none, phase := none
      cpl := some ⟨tagOf e, opcodeOf e, status, detail, s.fld (sqHead m) F.PCI_MBX_SQ_HEAD_head, result, s.stamp s.cpIsland⟩ }

/-- Firmware serves the mailbox: an image runs, or the responder does, and no outage is in progress (R288, R293). -/
def State.mbxServed (s : State) : Bool := decide (s.mode ≠ 2) && (s.rst.booted || s.rst.responder)

/-- A ring from which an entry can be fetched (R289 to R291). -/
def State.fetchable (s : State) (m : Nat) : Bool :=
  let r := s.ring m
  let h := s.rd (sqHead m)
  s.mbxServed && decide (s.fld (cqCfg m) F.PCI_MBX_CQ_CFG_enable = 1) && decide (fget h F.PCI_MBX_SQ_HEAD_ring_error = 0) &&
    decide (fget h F.PCI_MBX_SQ_HEAD_paused = 0) && r.cur.isNone && r.cpl.isNone &&
    decide (fget h F.PCI_MBX_SQ_HEAD_head ≠ s.fld (sqTail m) F.PCI_MBX_SQ_TAIL_tail)

/-- COMMAND_FETCH: the next entry of a ring, urgent rings first; an overrun stops the ring; a code that is not in the table
completes at once (R289, R291, R292, R295). -/
def State.fetch (s : State) (m : Nat) : State :=
  if !s.fetchable m || (decide (2 ≤ m) && (s.fetchable 0 || s.fetchable 1)) then s else
  let h := s.fld (sqHead m) F.PCI_MBX_SQ_HEAD_head
  if 512 < ringGap (s.fld (sqTail m) F.PCI_MBX_SQ_TAIL_tail) h then s.setF (sqHead m) F.PCI_MBX_SQ_HEAD_ring_error 1 else
  let e := tget 0 s.mbx.sq (m * 512 + h % 512)
  let s := (s.setF (sqHead m) F.PCI_MBX_SQ_HEAD_head ((h + 1) % 65536)).setRing m { s.ring m with cur := some e, phase := none }
  if (cmdInfo (opcodeOf e)).isNone then s.decide_ m e 0x10 0 [] else s
def execCommandFetch (m : Fin 16) (s : State) : Host.Outcome State Fault Refusal := .next (s.fetch m)

/-- CQ_HEAD_WRITE: entries the host has consumed (R290). -/
def execCqHeadWrite (m : Fin 16) (head : BitVec 16) (s : State) : Host.Outcome State Fault Refusal :=
  .next (s.setF (cqHead m) F.PCI_MBX_CQ_HEAD_head head.toNat)

/-- RING_RESET: unfetched entries are discarded; a fetched command runs to its end, and its outcome goes to the event log
(R294). -/
def State.ringReset (s : State) (m : Nat) : State :=
  let s := s.setMbx { s.mbx with bg := s.mbx.bg.map (fun b => if b.ring = m then { b with orphan := true } else b) }
  let r := s.ring m
  match r.cpl with
  | some d => ((s.setRing m { r with cpl := none }).opComplete m d.tag d.opcode d.status d.detail d.result).ringZero m
  | none =>
    if r.cur.isNone then s.ringZero m else
    let h := s.fld (sqHead m) F.PCI_MBX_SQ_HEAD_head
    ((s.setRing m { r with orphan := true }).setF (sqTail m) F.PCI_MBX_SQ_TAIL_tail h).setF (cqCfg m) F.PCI_MBX_CQ_CFG_reset 1
def execRingReset (m : Fin 16) (s : State) : Host.Outcome State Fault Refusal := .next (s.ringReset m)

/-! Events (R296, R297). -/

/-- A code is delivered to the event ring: the last EVENT_MASK that covers it says so (R297). -/
def State.delivered (s : State) (code : Nat) : Bool :=
  ((s.mbx.masks.find? (fun k => decide (k.1 ≤ code) && decide (code ≤ k.2.1))).map (·.2.2)).getD true

/-- The 64 bytes of an event record (R296). Which severity an event has is not stated (log 10). -/
def eventRecord (v : EvRec) (sev phase seq : Nat) : List Byte :=
  leBytes (v.code + sev % 4 * 2 ^ 16 + phase * 2 ^ 18 + seq % 2 ^ 32 * 2 ^ 32) 8 ++ leBytes v.stamp 16 ++
    (v.payload ++ zeros 32).take 32 ++ zeros 8

def evCfg : Reg := reg0 .PCI_MBX_EV_CFG 0
def evStatus : Reg := reg0 .PCI_MBX_EV_STATUS 0

/-- A record written to the event ring, and its group's vector (R290, R296, R297). -/
def State.eventToRing (s : State) (v : EvRec) (sev seq : Nat) : State :=
  let x := s.mbx
  let size := 2 ^ s.fld evCfg F.PCI_MBX_CQ_CFG_size
  if !s.delivered v.code then s
  else if s.fld evCfg F.PCI_MBX_CQ_CFG_enable = 1 ∧
    ringGap (x.evIdx % 65536) (s.fld (reg0 .PCI_MBX_EV_HEAD 0) F.PCI_MBX_CQ_HEAD_head) < size then
    let base := fget (s.rd (reg0 .PCI_MBX_EV_BASE 0)) F.PCI_MBX_CQ_BASE_base_hi * 64
    let phase := (x.evIdx / size + 1) % 2
    let s := s.setMem (writeBytes s.mem (hostBase + base + 64 * (x.evIdx % size)) (eventRecord v sev phase seq))
    let s := s.setMbx { s.mbx with evIdx := x.evIdx + 1 }
    let s := match x.lost with
      | some (n, first) => (s.setMbx { s.mbx with lost := none }).event s.cpIsland 0x0003 [(n, 4), (first, 4)]
      | none => s
    let vec := tget 0 x.binds (v.code / 256)
    if 16 ≤ vec ∧ vec ≤ 63 then s.msixSend vec else s
  else
    let s := s.setF evStatus F.PCI_MBX_EV_STATUS_lost (min 65535 (s.fld evStatus F.PCI_MBX_EV_STATUS_lost + 1))
    s.setMbx { s.mbx with lost := some (((x.lost.map (·.1)).getD 0) + 1, (x.lost.map (·.2)).getD seq) }

/-- EVENT_RECORD_WRITE: the oldest event raised takes the next sequence number and goes to the event log and, if it is
delivered, to the event ring (R296, R297); events wait while the host cannot be reached and during an outage (R293,
R294). -/
def State.writeEvent (s : State) : State :=
  match s.evq with
  | [] => s
  | v :: vs =>
    if !s.mbxServed || (decide (s.fld evCfg F.PCI_MBX_CQ_CFG_enable = 1) && !s.hostUp) then s else
    let seq := s.fld evStatus F.PCI_MBX_EV_STATUS_next_seq
    let f := ({ s with evq := vs } : State).free
    let s := f.1.setF evStatus F.PCI_MBX_EV_STATUS_next_seq (seq + 1)
    let sev := f.2.toNat % 4
    let log := s.mbx.evlog ++ [(seq, eventRecord v sev 0 seq)]
    let s := s.setMbx { s.mbx with evlog := log.drop (log.length - 4096) }
    s.eventToRing v sev seq
def execEventRecordWrite (s : State) : Host.Outcome State Fault Refusal := .next s.writeEvent

/-! The frame of a command (R289 to R292, R295, R299, R300). -/

/-- What a command's synchronous part comes to: its final status, detail and result; ACCEPTED, with an argument that its end
looks at and its outcome where that is decided; or a wait for its effect, with the targets that failed and the lowest
failing status. -/
inductive Res where
  | done (status detail : Nat) (result : List Byte)
  | accept (arg : Nat) (out : Option (Nat × Nat × List Byte))
  | wait (failed status : Nat)
  deriving DecidableEq, Repr

def ok : Res := .done 0 0 []
def err (status : Nat) : Res := .done status 0 []
/-- INVALID_FIELD with the byte offset of the field. -/
def bad (offset : Nat) : Res := .done 0x11 offset []

/-- The first reserved byte of an entry that is not zero, outside the named argument bytes (R289, R299). -/
def reservedByte (e : Nat) (fields : List (Nat × Nat)) : Option Nat :=
  if bitsOf e 17 15 ≠ 0 then some 2 else
  (upTo 8 56).find? (fun o => decide (arg e o 1 ≠ 0) && !fields.any (fun f => decide (f.1 ≤ o) && decide (o < f.1 + f.2)))

/-- A command is accepted into the background while a slot is free (R291, R295). -/
def State.accept (s : State) (m e a : Nat) (out : Option (Nat × Nat × List Byte)) : State :=
  (s.setMbx { s.mbx with bg := s.mbx.bg ++ [⟨m, tagOf e, opcodeOf e, a, (s.ring m).orphan, out⟩] }).decide_ m e 1 0 []

/-- A command of a ring runs: the entry in the ring's synchronous part, of this code, once a fence lets it start; the checks
that every command shares, then its own part, which sees whether it has begun. -/
def State.command (s : State) (m op : Nat) (fields : List (Nat × Nat)) (f : State → Nat → Option (Nat × Nat) → State × Res) : State :=
  match (s.ring m).cur with
  | none => s
  | some e =>
    let ph := (s.ring m).phase
    if opcodeOf e ≠ op ∨ !s.mbxServed ∨ (e.testBit 16 ∧ s.mbx.bg.any (fun b => decide (b.ring = m) && !b.orphan)) then s
    else if ph.isNone ∧ !s.served_ e then s.decide_ m e 0x13 0 []
    else if m < 2 ∧ !urgent e then s.decide_ m e 0x12 0 []
    else match reservedByte e fields with
      | some o => s.decide_ m e 0x11 o []
      | none =>
        let r := f s e ph
        match r.2 with
        | .done st d res => r.1.decide_ m e st d res
        | .accept a out => if 64 ≤ s.mbx.bg.length then s.decide_ m e 0x1B 0 [] else r.1.accept m e a out
        | .wait k st => r.1.setRing m { r.1.ring m with phase := some (k, st) }

/-- A masked command: the action on each named target, the mask of those that failed and the lowest one's status (R299). -/
def eachTarget (s : State) (count mask : Nat) (f : State → Nat → State × Nat) : State × Nat × Nat :=
  ((upTo 0 count).filter (fun n => mask.testBit n)).foldl (fun r n =>
    let t := f r.1 n
    (t.1, if t.2 = 0 then r.2.1 else r.2.1 + 2 ^ n, if t.2 ≠ 0 ∧ r.2.1 = 0 then t.2 else r.2.2)) (s, 0, 0)

/-- The completion of a masked command (R295, R299). -/
def maskRes (mask failed status : Nat) : Res :=
  if failed = 0 then ok else if failed = mask then err status else .done 2 status (leBytes failed 8)

def masked (s : State) (count mask : Nat) (f : State → Nat → State × Nat) : State × Res :=
  let r := eachTarget s count (mask % 2 ^ count) f
  (r.1, maskRes (mask % 2 ^ count) r.2.1 r.2.2)

/-- The status of a logical core that a command cannot reach, 0 for one it can (R20, R25, R295). -/
def State.coreStatus (s : State) (n : Nat) : Nat :=
  if s.remap n ≠ 0 then 0x15 else if s.clk.stopped.contains (s.phys n) then 0x16 else 0

/-- A host buffer read for a command; HOST_ACCESS_ERROR where it fails (R299). -/
def withBuf (s : State) (b len : Nat) (f : State → List Byte → State × Res) : State × Res :=
  let r := s.bufRead b len
  match r.2 with
  | some bs => f r.1 bs
  | none => (r.1, err 0x19)

/-- A command's last action: bytes to a host buffer (R299). -/
def toBuf (s : State) (b : Nat) (bs : List Byte) (r : Res) : State × Res :=
  let w := s.bufWrite b bs
  (w.1, if w.2 then r else err 0x19)

/-! The end of accepted commands (R291). -/

/-- How an accepted command ends by what it was waiting for; none while it goes on. -/
def State.bgEnd (s : State) (b : Bg) : Option (Nat × Nat × List Byte) :=
  let port (p : Nat) : Option (Nat × Nat × List Byte) :=
    match s.lnk p with
    | 5 => some (0, 0, [])
    | 7 => some (0x16, 0, [])
    | 8 => some (0x29, 0, [])
    | 0 =>
      let c := s.fld (reg0 .LNK_STATUS p) F.LNK_STATUS_cause
      some (if c = 4 then 0x25 else if b.opcode = 0x0402 ∧ c = 5 then 0x29 else 0x14, if b.opcode = 0x0405 then c else 0, [])
    | _ => none
  match b.opcode with
  | 0x0103 =>
    match s.chSt b.arg with
    | 0 => some (0, 0, [])
    | 3 => some (0, 0, [])
    | 6 => some (0x1B, 0, [])
    | 7 => some (0x17, 0, [])
    | _ => none
  | 0x0205 =>
    let failed := b.arg / 2 ^ 64 % 2 ^ 64
    if (upTo 0 64).any (fun n => b.arg.testBit n && !failed.testBit n && (s.slice n).want.isSome) then none
    else some (if failed = 0 then (0, 0, []) else (2, b.arg / 2 ^ 128, leBytes failed 8))
  | 0x0A00 => if s.fld (reg1 .RST_BLOCK 0 b.arg) F.RST_BLOCK_reset = 0 then some (0, 0, []) else none
  | 0x0303 => if s.cxlSt b.arg = 4 then some (0, 0, []) else none
  | 0x0402 => port 11
  | 0x0405 =>
    let p := b.arg % 256
    if 256 ≤ b.arg ∧ s.lnk p = 5 ∧ s.fld (reg0 .LNK_CTRL p) F.LNK_CTRL_renegotiate = 1 then none else port p
  | 0x0407 =>
    let done := tget [] s.mbx.transfers b.tag
    if done.length < b.arg then none else
    match ((upTo 0 b.arg).filterMap (fun i => done.find? (fun d => decide (d.1 = i) && decide (d.2 ≠ 0)))).head? with
    | some d => some (0, 0, leBytes d.1 4 ++ leBytes d.2 4)
    | none => some (0, 0, leBytes b.arg 4)
  | 0x0506 => if b.arg < s.fld (reg0 .CP_SNAPSHOT_STATUS 0) F.CP_SNAPSHOT_STATUS_last_complete then some (0, 0, []) else none
  | 0x0508 =>
    if 2 ≤ s.surv.placed ∧ !s.fab.sent.any (fun x => decide (x.job.map (·.1) = some reshardJob)) then some (0, 0, []) else none
  | _ => none

/-- BACKGROUND_COMMAND_COMPLETE: an accepted command has ended; ABORTED and TIMEOUT are the statuses of one ended before it
finished (R291, R295). -/
def State.bgComplete (s : State) (tag status : Nat) : State :=
  match s.mbx.bg.find? (fun b => decide (b.tag = tag)) with
  | none => s
  | some b =>
    match (b.out.or (s.bgEnd b)).or (if status = 0x2A ∨ status = 0x2B then some (status, 0, []) else none) with
    | none => s
    | some (st, d, res) =>
      let s := s.setMbx { s.mbx with
        bg := s.mbx.bg.erase b
        transfers := if b.opcode = 0x0407 then tdel b.tag s.mbx.transfers else s.mbx.transfers }
      s.opComplete b.ring b.tag b.opcode st d res
def execBackgroundCommandComplete (tag : BitVec 32) (status : BitVec 16) (s : State) : Host.Outcome State Fault Refusal :=
  .next (if s.mbxServed then s.bgComplete tag.toNat status.toNat else s)

/-- The serving role moves to the other die: an outage begins (R293). -/
def State.outageBegin (s : State) (version : Nat) : State :=
  let g := reg0 .PCI_MBX_GLOBAL 0
  ((((s.setMode 2).setServing (1 - s.fld g F.PCI_MBX_GLOBAL_serving_die)).setStandby 0).setF g F.PCI_MBX_GLOBAL_fw_version
    version).edge 627

/-- MAILBOX_OUTAGE_END: a decided completion stands, a command without one runs; the step tokens that arrived are signalled
(R293). Its length, at most 40 µs, and the cause of CP_FAILOVER are not stated as numbers (log 10). -/
def State.outageEnd (s : State) : State :=
  if s.mode ≠ 2 then s else
  let f := s.free
  let ns := f.2.toNat % 40001
  let s := (f.1.setMode 1).setF (reg0 .RST_FAILOVER 0) F.RST_FAILOVER_last_outage_ns ns
  let s := if s.rst.failover then
      ({ s with rst := { s.rst with failover := false } } : State).event s.cpIsland 0x0601
        [(s.fld (reg0 .PCI_MBX_GLOBAL 0) F.PCI_MBX_GLOBAL_serving_die, 1), (f.2.toNat / 2 ^ 32 % 256, 1), (ns, 4)]
    else s
  s.stepGo
def execMailboxOutageEnd (s : State) : Host.Outcome State Fault Refusal := .next s.outageEnd

end Sys2Proof.Machine
end

