-- ==== Sys2Proof/Machine/UlmasGeneral.lean ====
section
/-! DEFINITION. General and memory commands of the Ulmas interface (R297, R299, R300, R307). -/

namespace Sys2Proof.Machine

def globalReg : Reg := reg0 .PCI_MBX_GLOBAL 0
def State.servingDie (s : State) : Nat := s.fld globalReg F.PCI_MBX_GLOBAL_serving_die
def State.fwVersion (s : State) : Nat := s.fld globalReg F.PCI_MBX_GLOBAL_fw_version

/-- The part number, "KSG-N64-H16" in ASCII, zero-filled to 12 bytes (R300). -/
def partText : List Byte := [0x4B, 0x53, 0x47, 0x2D, 0x4E, 0x36, 0x34, 0x2D, 0x48, 0x31, 0x36, 0x00]

/-- IDENTIFY (R300). -/
def execIdentifyCmd (m : Fin 16) (s : State) : Host.Outcome State Fault Refusal :=
  .next (s.command m 0x0000 [] (fun s _ _ =>
    (s, .done 0 0 (partText ++ leBytes Config.fuseSerial.toNat 8 ++ leBytes s.fwVersion 4 ++ leBytes Config.fuseRevision.toNat 2 ++
      leBytes s.fab.id 2 ++ leBytes s.mode 1 ++ leBytes s.servingDie 1))))

/-- Usable stacked bytes: 1,260 GiB less 2 MiB for each group released (R198, R216). -/
def State.usableBytes (s : State) : Nat := 0x13B00000000 - 0x200000 * s.hbm.released.length

/-- The 256 bytes of CAPABILITIES. -/
def State.capabilities (s : State) : List Byte :=
  let c := s.rd (reg0 .LNK_CAP 5)
  let l := s.rd (reg0 .LNK_LEVEL 0)
  leBytes (fget c F.LNK_CAP_proto_min) 1 ++ leBytes (fget c F.LNK_CAP_proto_max) 1 ++ leBytes (fget c F.LNK_CAP_level_mask) 2 ++
    leBytes (fget l F.LNK_LEVEL_level_now) 2 ++ leBytes (fget l F.LNK_LEVEL_level_next) 2 ++
    leBytes (s.rd (reg0 .LNK_LEVEL_STEP 0)).toNat 8 ++ leBytes (s.fld (reg0 .LNK_CAP 11) F.LNK_CAP_feed_id) 2 ++ leBytes s.fab.id 2 ++
    zeros 4 ++ leBytes s.usableBytes 8 ++
    (upTo 1 4).flatMap (fun k => leBytes (s.fld (reg0 .CXL_STATUS k) F.CXL_STATUS_capacity_gib * 2 ^ 30) 8) ++
    leBytes (((upTo 0 64).map (fun n => s.remap n * 4 ^ n)).sum) 16 ++ leBytes 8 1 ++ zeros 175

/-- CAPABILITIES (R300). -/
def execCapabilitiesCmd (m : Fin 16) (s : State) : Host.Outcome State Fault Refusal :=
  .next (s.command m 0x0001 [(8, 8)] (fun s e _ => toBuf s (arg e 8 8) s.capabilities ok))

/-- IDENTITY_CERT (R300). -/
def execIdentityCertCmd (m : Fin 16) (s : State) : Host.Outcome State Fault Refusal :=
  .next (s.command m 0x0002 [(8, 8), (16, 4)] (fun s e _ =>
    let bs := Config.identityKey.toList ++ Config.identityCerts
    if arg e 16 4 < bs.length then (s, bad 16) else toBuf s (arg e 8 8) bs (.done 0 0 (leBytes bs.length 4))))

/-- ATTACH: the result is the previous session, the next event sequence number and the accepted commands still running
(R307; their places are the model's, log 13). -/
def execAttachCmd (m : Fin 16) (s : State) : Host.Outcome State Fault Refusal :=
  .next (s.command m 0x0003 [(8, 8), (16, 1)] (fun s e _ =>
    let new := arg e 8 8
    let old := s.mbx.session
    if 1 < arg e 16 1 then (s, bad 16)
    else if old ≠ 0 ∧ old ≠ new ∧ arg e 16 1 = 0 then (s, err 0x14)
    else ((s.setMbx { s.mbx with session := new }).event s.cpIsland 0x0002 [(old, 8), (new, 8)],
      .done 0 0 (leBytes old 8 ++ leBytes (s.fld evStatus F.PCI_MBX_EV_STATUS_next_seq) 4 ++ leBytes s.mbx.bg.length 4))))

/-- EVENT_BIND: vectors 16 to 63; 0 and 0xFF bind the group to none (R297; log 13). -/
def execEventBindCmd (m : Fin 16) (s : State) : Host.Outcome State Fault Refusal :=
  .next (s.command m 0x0004 [(8, 1), (9, 1)] (fun s e _ =>
    let v := arg e 9 1
    if 0x0A < arg e 8 1 then (s, bad 8)
    else if v = 0 ∨ v = 0xFF then (s.setMbx { s.mbx with binds := tdel (arg e 8 1) s.mbx.binds }, ok)
    else if v < 16 ∨ 63 < v then (s, bad 9)
    else (s.setMbx { s.mbx with binds := tput (arg e 8 1) v s.mbx.binds }, ok)))

/-- EVENT_MASK (R297). -/
def execEventMaskCmd (m : Fin 16) (s : State) : Host.Outcome State Fault Refusal :=
  .next (s.command m 0x0005 [(8, 2), (10, 2), (12, 1)] (fun s e _ =>
    if arg e 10 2 < arg e 8 2 then (s, bad 10)
    else if 1 < arg e 12 1 then (s, bad 12)
    else (s.setMbx { s.mbx with masks := (arg e 8 2, arg e 10 2, decide (arg e 12 1 = 1)) :: s.mbx.masks }, ok)))

/-! Memory commands. -/

/-- A register written by firmware through its access codes. -/
def State.fwWrite (s : State) (r : Reg) (v : Nat) : State := s.wr r (regStore r (s.rd r) (BitVec.ofNat 64 v) (BitVec.allOnes 64))

/-- PMAP_WRITE (R204). -/
def execPmapWriteCmd (m : Fin 16) (s : State) : Host.Outcome State Fault Refusal :=
  .next (s.command m 0x0100 [(8, 2), (10, 2), (16, 8)] (fun s e _ =>
    let first := arg e 8 2
    let count := arg e 10 2
    if 4096 ≤ first then (s, bad 8)
    else if count = 0 ∨ 4096 < first + count then (s, bad 10)
    else withBuf s (arg e 16 8) (8 * count) (fun s bs =>
      ((upTo 0 count).foldl (fun s i => s.fwWrite (reg1 .HBM_PMAP 0 (first + i)) (at_ bs (8 * i) 8))
        (s.changed 7), ok))))

/-- CACHE_CTRL: with flush, it is accepted and the flush is done at once (R209, R300; log 3). -/
def execCacheCtrlCmd (m : Fin 16) (s : State) : Host.Outcome State Fault Refusal :=
  .next (s.command m 0x0101 [(8, 1), (9, 1)] (fun s e _ =>
    let s' := s.setF (reg0 .MSC_CTRL 0) F.MSC_CTRL_keep_ways (min 16 (arg e 8 1))
    if 1 < arg e 9 1 then (s, bad 9)
    else if arg e 9 1 = 0 then (s', ok)
    else (s'.mscFlush, .accept 0 (some (0, 0, [])))))

/-- ARB_SET (R210). -/
def execArbSetCmd (m : Fin 16) (s : State) : Host.Outcome State Fault Refusal :=
  .next (s.command m 0x0102 [(8, 1), (9, 1)] (fun s e _ =>
    if 63 < arg e 8 1 then (s, bad 8)
    else if 63 < arg e 9 1 then (s, bad 9)
    else (s.fwWrite (reg0 .HBM_ARB 0) (arg e 8 1 + arg e 9 1 * 2 ^ 6), ok)))

/-- CHANNEL_ACTION: repair or retirement of a NORMAL channel, repair of a RETIRED or LOST one, or the return of a RETIRED one; a channel on which one runs
already answers IN_PROGRESS, one in another state TARGET_BUSY (R214, R295). -/
def execChannelActionCmd (m : Fin 16) (s : State) : Host.Outcome State Fault Refusal :=
  .next (s.command m 0x0103 [(8, 2), (10, 1)] (fun s e _ =>
    let c := arg e 8 2
    let a := arg e 10 1
    if 1024 ≤ c then (s, bad 8)
    else if 2 < a then (s, bad 10)
    else if s.mbx.bg.any (fun b => decide (b.opcode = 0x0103) && decide (b.arg = c)) then (s, err 0x1C)
    else if a = 2 then
      if s.chSt c = 3 then ((s.setF (chReg c) F.HBM_CH_STATE_copy_ptr 0).setChSt c 5, .accept c none) else (s, err 0x14)
    else if s.chSt c = 0 then (s.takeOut c (decide (a = 0)), .accept c none)
    else if a = 0 ∧ s.chSt c = 3 then (s.setChSt c 4, .accept c none)
    else if a = 0 ∧ s.chSt c = 7 then (s.repairLost c, .accept c none)
    else (s, err 0x14)))

/-- A released group goes to the first DEGRADED channel, which is queued once it has what it needs (R216). -/
def State.grantGroup (s : State) (g : Nat) : State :=
  match s.hbm.degraded with
  | [] => s
  | (c, n) :: ds =>
    let s := { s with hbm := { s.hbm with
      granted := tmod [] c (· ++ [g]) s.hbm.granted, degraded := if n ≤ 1 then ds else (c, n - 1) :: ds } }.syncNeeded
    if n ≤ 1 then s.queueChan c false else s

/-- Groups released by the host (R216). -/
def State.releaseGroups (s : State) (first count : Nat) : State :=
  let r := reg0 .HBM_SPARE_STATUS 0
  let new := (upTo first count).filter (fun g => !s.hbm.released.contains g)
  let s := { s with hbm := { s.hbm with released := s.hbm.released ++ new } }
  let s := s.setF r F.HBM_SPARE_STATUS_groups_released (s.fld r F.HBM_SPARE_STATUS_groups_released + new.length)
  new.foldl State.grantGroup s

/-- GROUPS_RELEASE (R216). -/
def execGroupsReleaseCmd (m : Fin 16) (s : State) : Host.Outcome State Fault Refusal :=
  .next (s.command m 0x0104 [(8, 4), (12, 4)] (fun s e _ =>
    if 645120 ≤ arg e 8 4 then (s, bad 8)
    else if 645120 < arg e 8 4 + arg e 12 4 then (s, bad 12)
    else (s.releaseGroups (arg e 8 4) (arg e 12 4), ok)))

/-- REG_APERTURE_SET: 8 MiB aligned, in register space (R271). -/
def execRegApertureSetCmd (m : Fin 16) (s : State) : Host.Outcome State Fault Refusal :=
  .next (s.command m 0x0105 [(8, 8)] (fun s e _ =>
    let b := arg e 8 8
    if b % 0x800000 ≠ 0 ∨ region b ≠ .regs then (s, bad 8)
    else (s.setF (reg0 .PCI_REG_APERTURE 0) F.PCI_REG_APERTURE_base_hi (b / 0x800000), ok)))

end Sys2Proof.Machine
end

