-- ==== Sys2Proof/Machine/UlmasProgram.lean ====
section
/-! DEFINITION. The program, engine and context commands of the Ulmas interface (R195, R300 to R303). -/

namespace Sys2Proof.Machine

/-- The outcome of a class-L command whose work is done when it is accepted. -/
def accepted (r : Res) : Res :=
  match r with
  | .done st d res => .accept 0 (some (st, d, res))
  | r => r

/-- PROGRAM_LOAD: the image is checked for every named core before any is written; the copy is kept (R195, R337). -/
def execProgramLoadCmd (m : Fin 16) (s : State) : Host.Outcome State Fault Refusal :=
  .next (s.command m 0x0200 [(8, 8), (16, 4), (24, 8), (32, 1)] (fun s e _ =>
    let mask := arg e 24 8
    let c := arg e 32 1
    if 7 < c then (s, bad 32) else
    let r := withBuf s (arg e 8 8) (arg e 16 4) (fun s img =>
      let cores := (upTo 0 64).filter (fun n => mask.testBit n && decide (s.coreStatus n = 0))
      let k := s.imageCheck img cores
      if k ≠ 0 then (s, .done 0x20 k []) else
      masked s 64 mask (fun s n =>
        if s.coreStatus n ≠ 0 then (s, s.coreStatus n) else
        match (s.slice n).ctx c with
        | none => (s, 0x11)
        | some x =>
          let s := s.setSlice n { s.slice n with ctxs := tput c { x with image := img } (s.slice n).ctxs }
          let s := ({ s with rst := { s.rst with loaded := true } } : State).changed (600 + 8 * n + c)
          (s.inContext n c (fun s => s.loadImage n img), 0)))
    (r.1, accepted r.2)))

/-! ENGINE_CTRL. -/

/-- The actions that an engine has: 0 run, 1 halt, 2 suspend, 3 resume, 4 fault_clear, 5 cancel, 6 dump. -/
def engineAction (eng act : Nat) : Bool :=
  match eng with
  | 0 => decide (act = 0) || (decide (2 ≤ act) && decide (act ≤ 4)) || decide (act = 6)
  | 1 => decide (act ≤ 1) || decide (act = 4)
  | 2 => decide (act ≤ 1) || decide (act = 4) || decide (act = 5)
  | 3 => decide (act ≤ 1)
  | _ => false

/-- The save area named by a command: its line in OPE_SAVE_BASE, and whether the gutter belongs to it. -/
def State.saveTo (s : State) (n line gutter : Nat) (f : Fld) : State :=
  (s.setF (reg0 .OPE_SAVE_BASE n) F.OPE_SAVE_BASE_save_line_hi (line / 32)).setF (reg0 .OPE_CTRL n) f gutter

def State.eachQueue (s : State) (mask : Nat) (f : State → Nat → State) : State :=
  ((upTo 0 8).filter (fun m => mask.testBit m)).foldl f s

/-- One core's part of ENGINE_CTRL: what it starts, and TARGET_BUSY where the engine is not in the state it needs. -/
def State.engineStart (s : State) (eng act qs gutter line n : Nat) : State × Nat :=
  let busy (c : Bool) (t : State) : State × Nat := if c then (t, 0) else (s, 0x14)
  let o := s.engSt false n
  let v := s.engSt true n
  let en := reg0 .MOV_CTRL n
  let mask := BitVec.ofNat 64 qs
  match eng, act with
  | 0, 0 => busy (decide (o = 0)) (s.opeRun n)
  | 0, 2 => busy (decide (o < 2)) ((s.saveTo n line gutter F.OPE_CTRL_save_gutter).suspendReq n)
  | 0, 3 => busy (decide (o ≠ 3)) ((s.saveTo n line gutter F.OPE_CTRL_restore_gutter).resumeReq n)
  | 0, 4 => busy (decide (o = 3)) (s.opeFaultClear n)
  | 0, 6 => busy (decide (o = 3)) ((s.saveTo n line gutter F.OPE_CTRL_save_gutter).opeDump n)
  | 1, 0 => busy (decide (v = 0) || (decide (v = 2) && (s.ve n).halted)) (s.veRun n)
  | 1, 1 => busy (decide (v = 1) || decide (v = 2)) (s.veHalt n)
  | 1, 4 => busy (decide (v = 3)) (s.veFaultClear n)
  | 2, 0 => (s.wr en (s.rd en ||| mask), 0)
  | 2, 1 => (s.wr en (s.rd en &&& ~~~mask), 0)
  | 2, 4 => busy ((upTo 0 8).all (fun m => !qs.testBit m || decide (s.qSt n m = 2))) (s.eachQueue qs (fun s m => s.movFaultClear n m))
  | 2, 5 => (s.eachQueue qs (fun s m => s.movCancel n m), 0)
  | 3, 0 => busy (s.sca n).held (s.setSca n { s.sca n with held := false })
  | 3, 1 => (s.setSca n { s.sca n with held := true }, 0)
  | _, _ => (s, 0x11)

/-- An action that has not yet taken effect on a core. -/
def State.enginePending (s : State) (eng act qs n : Nat) : Bool :=
  let c (f : Fld) : Bool := decide (s.fld (reg0 .OPE_CTRL n) f = 1)
  s.alive n && (match eng, act with
    | 0, 2 => c F.OPE_CTRL_suspend_req
    | 0, 3 => c F.OPE_CTRL_resume_req
    | 0, 6 => c F.OPE_CTRL_dump
    | 2, 5 => (upTo 0 8).any (fun m => qs.testBit m && decide (s.qSt n m = 3))
    | _, _ => false)

/-- ENGINE_CTRL completes when the action has taken effect on every core (R300). -/
def execEngineCtrlCmd (m : Fin 16) (s : State) : Host.Outcome State Fault Refusal :=
  .next (s.command m 0x0201 [(8, 8), (16, 1), (17, 1), (18, 1), (19, 1), (20, 4)] (fun s e ph =>
    let mask := arg e 8 8
    let eng := arg e 16 1
    let act := arg e 17 1
    let qs := arg e 18 1
    let gutter := arg e 19 1
    let line := arg e 20 4
    let size := if gutter = 1 then 20800 else 8512
    if 3 < eng then (s, bad 16)
    else if !engineAction eng act then (s, bad 17)
    else if 1 < gutter then (s, bad 19)
    else if (eng = 0 ∧ (act = 2 ∨ act = 3 ∨ act = 6)) ∧ (line % 32 ≠ 0 ∨ 196608 < line + size) then (s, bad 20)
    else
      let r : State × Nat × Nat := match ph with
        | some p => (s, p.1, p.2)
        | none => eachTarget s 64 mask (fun s n =>
            if s.coreStatus n ≠ 0 then (s, s.coreStatus n) else s.engineStart eng act qs gutter line n)
      if (upTo 0 64).any (fun n => mask.testBit n && !r.2.1.testBit n && r.1.enginePending eng act qs n) then
        (r.1, .wait r.2.1 r.2.2)
      else (r.1, maskRes mask r.2.1 r.2.2)))

/-! Contexts. -/

/-- Context 0 keeps the lines below the lowest partition of another context (R301; log 16). -/
def Slice.trim (x : Slice) : Slice :=
  let low := ((x.ctxs.filter (fun c => decide (c.1 ≠ 0))).map (fun c => c.2.first)).foldl min 196608
  { x with ctxs := x.ctxs.map (fun c => if c.1 = 0 then (0, { c.2 with lines := low }) else c) }

/-- CONTEXT_CREATE (R301). -/
def execContextCreateCmd (m : Fin 16) (s : State) : Host.Outcome State Fault Refusal :=
  .next (s.command m 0x0202 [(8, 8), (16, 1), (20, 4), (24, 4), (32, 8)] (fun s e _ =>
    let c := arg e 16 1
    let first := arg e 20 4
    let lines := arg e 24 4
    let save := arg e 32 8
    if c = 0 ∨ 7 < c then (s, bad 16)
    else if save % 0x200000 ≠ 0 then (s, bad 32)
    else if 0x13B00000000 < save + 0x80000 ∨ s.released save then (s, err 0x18)
    else masked s 64 (arg e 8 8) (fun s n =>
      let x := s.slice n
      if s.coreStatus n ≠ 0 then (s, s.coreStatus n)
      else if 8 ≤ x.ctxs.length then (s, 0x1B)
      else if (x.ctx c).isSome then (s, 0x14)
      else if 196608 < first + lines ∨ x.ctxs.any (fun k => decide (k.1 ≠ 0) && decide (k.2.first < first + lines) &&
        decide (first < k.2.first + k.2.lines)) then (s, 0x1A)
      else (s.setSlice n ({ x with ctxs := tput c ⟨first, lines, save, []⟩ x.ctxs } : Slice).trim, 0))))

/-- CONTEXT_DESTROY (R300). -/
def execContextDestroyCmd (m : Fin 16) (s : State) : Host.Outcome State Fault Refusal :=
  .next (s.command m 0x0203 [(8, 8), (16, 1)] (fun s e _ =>
    let c := arg e 16 1
    if 7 < c then (s, bad 16)
    else masked s 64 (arg e 8 8) (fun s n =>
      let x := s.slice n
      if s.coreStatus n ≠ 0 then (s, s.coreStatus n)
      else if x.cur = c ∨ x.want.any (fun w => decide (w.1 = c)) then (s, 0x14)
      else if (x.ctx c).isNone then (s, 0x11)
      else ({ s.setSlice n ({ x with ctxs := tdel c x.ctxs } : Slice).trim with saved := tdel (n * 8 + c) s.saved }, 0))))

/-- SLICE_SET (R303). -/
def execSliceSetCmd (m : Fin 16) (s : State) : Host.Outcome State Fault Refusal :=
  .next (s.command m 0x0204 [(8, 8), (16, 4), (20, 1), (21, 1)] (fun s e _ =>
    let q := arg e 16 4
    if q ≠ 0 ∧ (q < 100 ∨ 1000000 < q) then (s, bad 16)
    else if 1 < arg e 20 1 then (s, bad 20)
    else masked s 64 (arg e 8 8) (fun s n =>
      if s.coreStatus n ≠ 0 then (s, s.coreStatus n)
      else (s.setSlice n { s.slice n with quantum := q, mid := decide (arg e 20 1 = 1), mask := arg e 21 1 }, 0))))

/-- CONTEXT_SWITCH: accepted, and ended by the last core's switch (R300, R302). -/
def execContextSwitchCmd (m : Fin 16) (s : State) : Host.Outcome State Fault Refusal :=
  .next (s.command m 0x0205 [(8, 8), (16, 1), (17, 1)] (fun s e _ =>
    let c := arg e 16 1
    let mask := arg e 8 8
    if 7 < c then (s, bad 16)
    else if 1 < arg e 17 1 then (s, bad 17)
    else
      let r := eachTarget s 64 mask (fun s n =>
        if s.coreStatus n ≠ 0 then (s, s.coreStatus n)
        else if ((s.slice n).ctx c).isNone then (s, 0x11)
        else if (s.slice n).want.isSome then (s, 0x1C)
        else (s.wantSwitch n c (decide (arg e 17 1 = 1)), 0))
      if r.2.1 = mask ∧ mask ≠ 0 then (r.1, err r.2.2)
      else (r.1, .accept (mask + r.2.1 * 2 ^ 64 + r.2.2 * 2 ^ 128) none)))

/-- JOB_LIMITS: 800 core cycles to a microsecond (R300). -/
def execJobLimitsCmd (m : Fin 16) (s : State) : Host.Outcome State Fault Refusal :=
  .next (s.command m 0x0206 [(8, 8), (16, 4)] (fun s e _ =>
    let us := arg e 16 4
    if 5000000 < us then (s, bad 16)
    else masked s 64 (arg e 8 8) (fun s n =>
      if s.coreStatus n ≠ 0 then (s, s.coreStatus n)
      else (s.setF (reg0 .MOV_LATE_BUDGET n) F.MOV_LATE_BUDGET_budget (us * 800), 0))))

end Sys2Proof.Machine
end

