-- ==== Sys2Proof/Machine/UlmasMemory.lean ====
section
/-! DEFINITION. The streamer and far-tier commands of the Ulmas interface (R223, R225, R283, R286, R300). -/

namespace Sys2Proof.Machine

/-- The status of a die's streamer that a command cannot reach, 0 for one it can (R25). -/
def State.dieStatus (s : State) (d : Nat) : Nat := if s.clk.stopped.contains (dieIsland d) then 0x16 else 0

/-- A die's streamer configured from the 128 bytes of WIN_CONFIG: WIN_SCHED, WIN_WINDOW and WIN_CTRL at 0, 8 and 16, the
replicas from 32, 24 bytes each (R300; log 13). Enable stays as it is. -/
def State.winConfig (s : State) (d : Nat) (bs : List Byte) : State :=
  let c := reg0 .WIN_CTRL d
  let s := (s.fwWrite (reg0 .WIN_SCHED d) (at_ bs 0 8)).fwWrite (reg0 .WIN_WINDOW d) (at_ bs 8 8)
  let v := BitVec.ofNat 64 (at_ bs 16 8)
  let s := ((s.setF c F.WIN_CTRL_lookahead_m1 (fget v F.WIN_CTRL_lookahead_m1)).setF c F.WIN_CTRL_ready_tok
    (fget v F.WIN_CTRL_ready_tok)).setF c F.WIN_CTRL_rel_tok (fget v F.WIN_CTRL_rel_tok)
  (upTo 0 4).foldl (fun s r =>
    ((s.fwWrite (reg1 .WIN_REPLICA d r) (at_ bs (32 + 24 * r) 8)).fwWrite (reg1 .WIN_REPLICA_SIZE d r)
      (at_ bs (40 + 24 * r) 8)).fwWrite (reg1 .WIN_REPLICA_ALT d r) (at_ bs (48 + 24 * r) 8)) s

/-- WIN_CONFIG (R300). -/
def execWinConfigCmd (m : Fin 16) (s : State) : Host.Outcome State Fault Refusal :=
  .next (s.command m 0x0300 [(8, 1), (16, 8)] (fun s e _ =>
    if 15 < arg e 8 1 then (s, bad 8) else
    withBuf s (arg e 16 8) 128 (fun s bs =>
      masked s 4 (arg e 8 1) (fun s d =>
        if s.dieStatus d ≠ 0 then (s, s.dieStatus d)
        else if s.winState d ≠ 0 then (s, 0x14) else (s.winConfig d bs, 0)))))

/-- WIN_CTRL: a cancel completes at its acknowledgement (R225, R300). -/
def execWinCtrlCmd (m : Fin 16) (s : State) : Host.Outcome State Fault Refusal :=
  .next (s.command m 0x0301 [(8, 1), (9, 1), (10, 2)] (fun s e ph =>
    let mask := arg e 8 1
    let act := arg e 9 1
    if 15 < mask then (s, bad 8)
    else if 3 < act then (s, bad 9)
    else if 4095 < arg e 10 2 then (s, bad 10)
    else
      let r : State × Nat × Nat := match ph with
        | some p => (s, p.1, p.2)
        | none => eachTarget s 4 mask (fun s d =>
            if s.dieStatus d ≠ 0 then (s, s.dieStatus d) else
            match act with
            | 0 => (s.winEnable d, 0)
            | 1 => (s.setF (reg0 .WIN_CTRL d) F.WIN_CTRL_enable 0, 0)
            | 2 => ((s.setF (reg0 .WIN_CANCEL d) F.WIN_CANCEL_restart_at (arg e 10 2)).winCancel d, 0)
            | _ => if s.winState d = 4 then (s.winFaultClear d, 0) else (s, 0x14))
      if act = 2 ∧ (upTo 0 4).any (fun d => mask.testBit d && !r.2.1.testBit d && decide (r.1.dieStatus d = 0) &&
        decide (r.1.winState d = 3)) then (r.1, .wait r.2.1 r.2.2)
      else (r.1, maskRes mask r.2.1 r.2.2)))

/-! HDM decoders (R283). -/

/-- A decoder of 16 bytes: base, size and their unit of 256 MiB, ways, ports; none where it is unused or disabled. -/
def hdmOf (w : Nat) : Option (Nat × Nat × List Nat) :=
  let ways := bitsOf w 50 2
  if bitsOf w 55 1 = 0 ∨ ways = 3 ∨ bitsOf w 52 3 = 7 then none
  else some (bitsOf w 0 17, bitsOf w 32 18, (upTo 0 (2 ^ ways)).map (fun i => bitsOf w (64 + 2 * i) 2))

/-- A decoder set keeps every rule of R283. -/
def State.hdmSetOk (s : State) (ws : List Nat) : Bool :=
  let ds := ws.filterMap hdmOf
  let rec apart : List (Nat × Nat × List Nat) → Bool
    | [] => true
    | x :: xs => xs.all (fun y => decide (x.1 + x.2.1 ≤ y.1) || decide (y.1 + y.2.1 ≤ x.1)) && apart xs
  ds.all (fun x => decide (x.2.1 % x.2.2.length = 0) && decide (x.1 + x.2.1 ≤ 131072) && decide (x.2.2.eraseDups = x.2.2) &&
    x.2.2.all (fun k => decide (s.cxlSt k = 2))) && apart ds &&
    (upTo 0 4).all (fun k => decide (((ds.filter (fun x => x.2.2.contains k)).map (fun x => x.2.1 / x.2.2.length)).sum ≤ 32768))

/-- HDM_WRITE: all or nothing (R283). -/
def execHdmWriteCmd (m : Fin 16) (s : State) : Host.Outcome State Fault Refusal :=
  .next (s.command m 0x0302 [(8, 8)] (fun s e _ =>
    withBuf s (arg e 8 8) 256 (fun s bs =>
      let ws := (upTo 0 16).map (fun k => at_ bs (16 * k) 16)
      if !s.hdmSetOk ws then (s, err 0x1A) else
      ((upTo 0 16).foldl (fun s k =>
        (s.fwWrite (reg1 .CXL_HDM 0 k) (at_ bs (16 * k) 8)).fwWrite (reg1 .CXL_HDM_TGT 0 k) (at_ bs (16 * k + 8) 8))
        { s with hdmLost := s.hdmLost.filter (fun k => !((ws.drop k).headD 0).testBit 55) }, ok))))

/-- CXL_CTRL: a managed removal is accepted and ends at REMOVED (R286, R300). -/
def execCxlCtrlCmd (m : Fin 16) (s : State) : Host.Outcome State Fault Refusal :=
  .next (s.command m 0x0303 [(8, 1), (9, 1), (10, 1)] (fun s e _ =>
    let k := arg e 8 1
    let st := s.cxlSt k
    if 3 < k then (s, bad 8)
    else match arg e 9 1 with
    | 0 => if st = 0 ∨ st = 4 ∨ st = 5 then (s.cxlTrain k, ok) else (s, err 0x14)
    | 1 => if st = 3 then (s, err 0x1C) else if st = 2 then (s.cxlRemove k, .accept k none) else (s, err 0x14)
    | 2 => if 15 < arg e 10 1 then (s, bad 10) else (s.setF (reg0 .CXL_CTRL (k + 1)) F.CXL_CTRL_cpl_timeout (min 9 (arg e 10 1)), ok)
    | _ => (s, bad 9)))

/-- RETRY_PEER_SET (R223). -/
def execRetryPeerSetCmd (m : Fin 16) (s : State) : Host.Outcome State Fault Refusal :=
  .next (s.command m 0x0304 [(8, 1), (10, 2), (16, 8)] (fun s e _ =>
    if 15 < arg e 8 1 then (s, bad 8)
    else masked s 4 (arg e 8 1) (fun s d =>
      ({ s with retryPeer := tput d (arg e 10 2, arg e 16 8) s.retryPeer }, 0))))

end Sys2Proof.Machine
end

