-- ==== Sys2Proof/Machine/UlmasFabric.lean ====
section
/-! DEFINITION. The membership, pairing, fabric and contract-level commands of the Ulmas interface (R15, R234, R250, R257,
R258, R263, R266, R300, R312, R318 to R320). -/

namespace Sys2Proof.Machine

/-- MODULE_ID_SET (R15). -/
def execModuleIdSetCmd (m : Fin 16) (s : State) : Host.Outcome State Fault Refusal :=
  .next (s.command m 0x0400 [(8, 2)] (fun s e _ =>
    let id := arg e 8 2
    if id = 0xFFFF then (s, bad 8)
    else if s.members.ids.contains s.fab.id || s.membersNext.any (fun l => l.ids.contains s.fab.id) then (s, err 0x14)
    else ({ s with fab := { s.fab with id := id } }, ok)))

/-- PAIR_ANNOUNCE to every member of a list; this module's own entry of the pair table is its pairing (R320, R326). -/
def State.announce (s : State) (ids : List Nat) : State :=
  let o := s.fld (reg0 .CP_PAIR_STATUS 0) F.CP_PAIR_STATUS_override
  (ids.filter (· != s.fab.id)).foldl (fun s i => s.sendControl i 0x20 [(s.fab.id, 2), (s.partner, 2), (o, 1)] 0)
    (s.setSurv { s.surv with pairs := tput s.fab.id (s.partner, decide (o = 1)) s.surv.pairs })

/-- A list put in force at its first step: also one that goes back to an earlier step (R333; log 17). -/
def State.installMembers (s : State) (l : Members) : State :=
  let s := ({ s with membersNext := some l } : State).membersSwitch l.first
  s.setTrain { s.train with
    step := l.first, buckets := s.tableFor l.first, parts := [], updated := [], ready := false, reports := [], formed := none
    freed := [], owners := [], acked := [], mupdated := [], mirrorG := [], running := false }

/-- MEMBERSHIP_SET (R234, R300, R335). -/
def execMembershipSetCmd (m : Fin 16) (s : State) : Host.Outcome State Fault Refusal :=
  .next (s.command m 0x0401 [(8, 4), (12, 2), (16, 8), (24, 8)] (fun s e _ =>
    let epoch := arg e 8 4
    let count := arg e 12 2
    let first := arg e 24 8
    if count = 0 ∨ 4096 < count then (s, bad 12)
    else withBuf s (arg e 16 8) (2 * count) (fun s bs =>
      let ids := (upTo 0 count).map (fun i => at_ bs (2 * i) 2)
      if (ids.zip (ids.drop 1)).any (fun p => decide (p.2 ≤ p.1)) || ids.contains 0xFFFF || !ids.contains s.fab.id then (s, err 0x1A)
      else if epoch ≤ s.members.epoch then (s, err 0x27)
      else if s.surv.plan.isSome ∧ (first < s.train.step ∨ first = s.train.step ∧ s.train.running) then (s, err 0x28)
      else
        let l : Members := ⟨ids, epoch, first, [], []⟩
        let s := if !s.members.ids.isEmpty ∧ s.train.step < first then { s with membersNext := some l } else s.installMembers l
        ((s.changed 8).announce ids, ok))))

/-- PAIR_SET names the partner and trains the pairing port (R250, R318, R319). -/
def execPairSetCmd (m : Fin 16) (s : State) : Host.Outcome State Fault Refusal :=
  .next (s.command m 0x0402 [(8, 2), (10, 1)] (fun s e _ =>
    let p := arg e 8 2
    let o := arg e 10 1
    let r := reg0 .CP_PAIR_STATUS 0
    if p = 0xFFFF ∨ p = s.fab.id then (s, bad 8)
    else if 1 < o then (s, bad 10)
    else if s.fab.id = 0xFFFF then (s, err 0x14)
    else
      let s := (s.setF r F.CP_PAIR_STATUS_partner_id p).setF r F.CP_PAIR_STATUS_override o
      let s := s.setF (reg0 .LNK_CTRL 11) F.LNK_CTRL_pair_override o
      let s := if s.lnk 11 = 8 ∧ o = 1 ∧ (s.port 11).failed = some 5 then s.lnkOverride 11 else s.lnkTrain 11
      ((s.changed 8).announce s.members.ids, .accept 11 none)))

/-- ROUTE_WRITE: LNK_ROUTE entries (R258). -/
def execRouteWriteCmd (m : Fin 16) (s : State) : Host.Outcome State Fault Refusal :=
  .next (s.command m 0x0403 [(8, 2), (10, 2), (16, 8)] (fun s e _ =>
    let first := arg e 8 2
    let count := arg e 10 2
    if 65536 < first + count then (s, bad 10)
    else withBuf s (arg e 16 8) count (fun s bs =>
      if bs.any (fun b => decide (15 < b.toNat)) then (s, err 0x1A) else
      ((mapFrom first (fun i (b : Byte) => (i, b.toNat)) bs).foldl (fun s x =>
        let r := reg1 .LNK_ROUTE 0 (x.1 / 16)
        s.wr r (setBits (s.rd r) (4 * (x.1 % 16)) 4 x.2)) s, ok))))

/-- RXWIN_WRITE: 4 KiB aligned, first byte in usable stacked memory (R257, R267). -/
def execRxwinWriteCmd (m : Fin 16) (s : State) : Host.Outcome State Fault Refusal :=
  .next (s.command m 0x0404 [(8, 1), (9, 1), (16, 8), (24, 8)] (fun s e _ =>
    let w := arg e 8 1
    let f := arg e 9 1
    let b := arg e 16 8
    if 15 < w then (s, bad 8)
    else if 3 < f then (s, bad 9)
    else if b % 4096 ≠ 0 then (s, bad 16)
    else if 2 ^ 52 ≤ arg e 24 8 then (s, bad 24)
    else if 0x13B00000000 ≤ b then (s, err 0x18)
    else ((s.wr (reg1 .LNK_RXWIN 0 w) (BitVec.ofNat 64 (b + f * 2 ^ 52))).wr (reg1 .LNK_RXWIN_SIZE 0 w)
      (BitVec.ofNat 64 (arg e 24 8)), ok)))

/-- PORT_CTRL: the fence completes on FENCED; training and renegotiation end by the port's state (R250, R253, R265). -/
def execPortCtrlCmd (m : Fin 16) (s : State) : Host.Outcome State Fault Refusal :=
  .next (s.command m 0x0405 [(8, 1), (9, 1), (10, 1)] (fun s e _ =>
    let p := arg e 8 1
    let st := s.lnk p
    if p < 5 ∨ 11 < p then (s, bad 8)
    else match arg e 9 1 with
    | 0 =>
      if st = 0 ∨ st = 7 ∨ st = 8 then
        ((s.setF (reg0 .LNK_CTRL p) F.LNK_CTRL_lane_mask (arg e 10 1)).lnkTrain p, .accept p none)
      else (s, err 0x14)
    | 1 => (if st = 7 then s else s.fencePort p 0x0C, ok)
    | 2 => if st = 5 then (s.setF (reg0 .LNK_CTRL p) F.LNK_CTRL_renegotiate 1, .accept (p + 256) none) else (s, err 0x14)
    | _ => (s, bad 9)))

/-- STEP_TOKEN_MAP (R180). -/
def execStepTokenMapCmd (m : Fin 16) (s : State) : Host.Outcome State Fault Refusal :=
  .next (s.command m 0x0406 [(8, 2), (10, 1), (11, 1)] (fun s e _ =>
    if 32767 < arg e 8 2 then (s, bad 8)
    else if 15 < arg e 10 1 then (s, bad 10)
    else if 1 < arg e 11 1 then (s, bad 11)
    else ({ s with stepMap := if arg e 11 1 = 1 then tput (arg e 8 2) (arg e 10 1) s.stepMap else tdel (arg e 8 2) s.stepMap }, ok)))

/-- One message of a TRANSFER: its header and local address. Its destination and class are not stated (log 10); data that
cannot be read locally end it with status 0x3. -/
def State.transferOne (s : State) (tag i : Nat) (bs : List Byte) : State :=
  let f := s.free
  let h := hdrOf (at_ bs 0 32) (f.2.toNat % 65536) 0 (Fin.ofNat 3 (f.2.toNat / 65536))
  let loc := at_ bs 32 8
  let r : Acc := if h.op = 1 ∨ h.op = 5 then f.1.devRead .firmware loc h.length.toNat .ok else ⟨f.1, [], .ok⟩
  if r.status ≠ .ok then
    r.st.finishMsg ⟨r.st.fab.next, 12, 0, 0, 0, false, 0, 0, some (tag, i), none⟩ 3
  else r.st.sendMsg false h r.bytes (h.op = 2 || h.wantComplete) loc (some (tag, i)) none

/-- TRANSFER: PUT, GET, SIGNAL and CONTROL messages (R256, R300). -/
def execTransferCmd (m : Fin 16) (s : State) : Host.Outcome State Fault Refusal :=
  .next (s.command m 0x0407 [(8, 8), (16, 4)] (fun s e _ =>
    let count := arg e 16 4
    let tag := tagOf e
    withBuf s (arg e 8 8) (40 * count) (fun s bs =>
      let ops := (upTo 0 count).map (fun i => at_ bs (40 * i) 1 % 16)
      if ops.any (fun o => o = 0 || o = 3 || decide (6 ≤ o)) then (s, err 0x1A)
      else if 64 ≤ s.mbx.bg.length then (s, err 0x1B)
      else
        let s := s.setMbx { s.mbx with transfers := tput tag [] s.mbx.transfers }
        ((upTo 0 count).foldl (fun s i => s.transferOne tag i ((bs.drop (40 * i)).take 40)) s, .accept count none))))

/-- MSG_ABANDON (R263). -/
def execMsgAbandonCmd (m : Fin 16) (s : State) : Host.Outcome State Fault Refusal :=
  .next (s.command m 0x0408 [(8, 1), (9, 1), (10, 1)] (fun s e _ =>
    if arg e 8 1 < 5 ∨ 11 < arg e 8 1 then (s, bad 8)
    else if 2 < arg e 9 1 then (s, bad 9)
    else if 1 < arg e 10 1 then (s, bad 10)
    else (s.abandonMsgs (arg e 8 1) (arg e 9 1) (arg e 10 1), ok)))

/-! Firmware slots, as the contract-level commands read them (R308, R312). -/

/-- A byte of a firmware slot: as staged, else as provisioned. -/
def State.slotByte (s : State) (slot o : Nat) : Byte :=
  (((if slot = 0 then s.firm.slotA else s.firm.slotB).find? (fun c => decide (c.1 = o))).map (·.2)).getD (Config.flashByte slot o)
def State.slotBytes (s : State) (slot o n : Nat) : List Byte := (upTo o n).map (s.slotByte slot)
def State.slotField (s : State) (slot o n : Nat) : Nat := leNat (s.slotBytes slot o n)
/-- The contract levels of an image; every image supports level 1 (R60). -/
def State.levelMask (s : State) (slot : Nat) : Nat := s.slotField slot 0x0E 2 ||| 2

/-- A contract level in the masks of both processors' images (R312). -/
def State.levelBoth (s : State) (l : Nat) : Bool :=
  decide (l < 16) && (s.levelMask s.firm.serve).testBit l && (s.levelMask s.firm.stand).testBit l

/-- LEVEL_QUERY (R312). -/
def execLevelQueryCmd (m : Fin 16) (s : State) : Host.Outcome State Fault Refusal :=
  .next (s.command m 0x0409 [(8, 2)] (fun s e _ => (s, .done 0 0 (leBytes (s.levelBoth (arg e 8 2)).toNat 1))))

/-- LEVEL_SET (R266, R312). -/
def execLevelSetCmd (m : Fin 16) (s : State) : Host.Outcome State Fault Refusal :=
  .next (s.command m 0x040A [(8, 2), (16, 8), (24, 4)] (fun s e _ =>
    if !s.levelBoth (arg e 8 2) then (s, err 0x24)
    else if arg e 16 8 ≤ s.train.step then (s, err 0x28)
    else if arg e 24 4 ≠ s.members.epoch then (s, err 0x27)
    else
      let r := reg0 .LNK_LEVEL 0
      let s := s.setF r F.LNK_LEVEL_level_now (s.levelOf s.train.step)
      ((s.setF r F.LNK_LEVEL_level_next (arg e 8 2)).wr (reg0 .LNK_LEVEL_STEP 0) (BitVec.ofNat 64 (arg e 16 8)), ok)))

end Sys2Proof.Machine
end

