-- ==== Sys2Proof/Machine/UlmasStep.lean ====
section
/-! DEFINITION. The training-step commands of the Ulmas interface (R120, R232, R233, R237, R300, R315, R322, R334). -/

namespace Sys2Proof.Machine

/-- A range of stacked memory of usable pages. -/
def usable (a n : Nat) : Bool := decide (a + n ≤ 0x13B00000000)

/-- Every page of a range is in the CORRECT class (R202, R204). -/
def State.correctRange (s : State) (a n : Nat) : Bool :=
  (upTo (a / 0x40000) ((a + n + 0x3FFFF) / 0x40000 - a / 0x40000)).all (fun p => !(s.pageClass p).1)

/-- A bucket table entry; none where it breaks a rule of R232. -/
def State.bucketOf (s : State) (w : Nat) : Option Bucket :=
  let base := bitsOf w 0 52
  let wide := w.testBit 52
  let n := bitsOf w 64 32
  let size := n * (if wide then 12 else 4)
  let tok := bitsOf w 96 9
  let red := bitsOf w 192 52
  if bitsOf w 53 11 ≠ 0 ∨ bitsOf w 105 7 ≠ 0 ∨ bitsOf w 244 12 ≠ 0 ∨ base % 0x200000 ≠ 0 ∨ red % 0x200000 ≠ 0 ∨ n % 256 ≠ 0 ∨
    size < 0x1000000 ∨ 0x10000000 < size ∨ tok / 64 ≠ 4 ∨ 16 ≤ tok % 64 ∨ bitsOf w 112 16 = 0 ∨ !usable base size ∨
    !usable red 1 ∨ !s.correctRange base size then none
  else some { base := base, wide := wide, elements := n, tok := tok, sealCount := bitsOf w 112 16, localCount := bitsOf w 128 32,
              reducedCount := bitsOf w 160 32, reducedBase := red, closed := false, reduced := false, run := 1 }

/-- BUCKET_TABLE: for one step, or for every step; a step whose table is refused does not start until one is accepted (R232). -/
def execBucketTableCmd (m : Fin 16) (s : State) : Host.Outcome State Fault Refusal :=
  .next (s.command m 0x0500 [(8, 8), (16, 2), (24, 8)] (fun s e _ =>
    let count := arg e 16 2
    let step := arg e 24 8
    let every := decide (step = 2 ^ 64 - 1)
    if count = 0 ∨ 4096 < count then (s, bad 16)
    else if !every && (decide (step < s.train.step) || (decide (step = s.train.step) && s.train.buckets.any (·.closed))) then
      (s, err 0x28)
    else withBuf s (arg e 8 8) (32 * count) (fun s bs =>
      let xs := (upTo 0 count).map (fun i => s.bucketOf (at_ bs (32 * i) 32))
      if xs.any (·.isNone) then (s.setTrain { s.train with barred := step :: s.train.barred }, err 0x1A) else
      let s := s.setTrain { s.train with
        tables := tput step (xs.filterMap id) s.train.tables, barred := s.train.barred.filter (· != step) }
      let now := decide (step = s.train.step) || (every && s.train.buckets.isEmpty)
      ((if now then s.setTrain { s.train with buckets := s.tableFor s.train.step } else s).stepGo, ok))))

/-- STEP_PLAN (R233, R323). -/
def execStepPlanCmd (m : Fin 16) (s : State) : Host.Outcome State Fault Refusal :=
  .next (s.command m 0x0501 [(8, 8), (16, 4), (24, 8), (32, 4)] (fun s e _ =>
    let step := arg e 8 8
    if step < s.train.step then (s, err 0x28)
    else withBuf s (arg e 24 8) (arg e 32 4) (fun s bs =>
      (s.setTrain { s.train with plans := tput step (arg e 16 4, bs) s.train.plans }, ok))))

/-- MB_DROP (R233). -/
def execMbDropCmd (m : Fin 16) (s : State) : Host.Outcome State Fault Refusal :=
  .next (s.command m 0x0502 [(8, 8), (16, 4)] (fun s e _ =>
    let d := (arg e 8 8, arg e 16 4)
    if d.1 < s.train.step then (s, err 0x28)
    else if s.train.drops.contains d then (s, ok)
    else (s.setTrain { s.train with drops := s.train.drops ++ [d] }, ok)))

/-- The rules of the policy header and its entries (R315). -/
def policyOk (bs : List Byte) (count : Nat) : Bool :=
  let f := policyWord bs
  let head := decide (f 0 0 52 % 0x200000 = 0) && decide (f 0 52 12 = 0) && decide (f 0 64 64 % 0x400000 = 0) &&
    decide (f 0 128 52 % 0x200000 = 0) && decide (f 0 180 12 = 0) && decide (f 0 192 64 % 0x400000 = 0) && decide (f 0 256 256 = 0)
  head && (upTo 1 count).all (fun k =>
    decide (f k 34 4 ≤ 5) && decide (f k 39 25 = 0) && decide (f k 116 12 = 0) && decide (f k 180 12 = 0) &&
      decide (f k 256 10 ≤ 1000) && decide (f k 266 6 = 0) && decide (f k 288 32 = 0) && decide (f k 372 12 = 0) &&
      decide (f k 416 96 = 0) && (decide (f k 38 1 = 0) || decide (f k 272 16 ≠ 0)) && usable (f k 64 52) 1 && usable (f k 128 52) 1)

/-- POLICY_WRITE: in force from the next step boundary (R315). -/
def execPolicyWriteCmd (m : Fin 16) (s : State) : Host.Outcome State Fault Refusal :=
  .next (s.command m 0x0503 [(8, 8), (16, 4)] (fun s e _ =>
    let count := arg e 16 4
    withBuf s (arg e 8 8) (64 + 64 * count) (fun s bs =>
      if !policyOk bs count then (s, err 0x1A)
      else (s.setSurv { s.surv with policyNext := some bs }, ok))))

/-- An update program that declares no input but those of R120: the image's flag, its digest, its level and the kinds of its
replay manifest (R120, R193 to R195). -/
def State.replayOk (s : State) (img : List Byte) : Bool :=
  let man := (imageSects img).filter (fun x => decide (x.type = 9))
  decide (s.imageCheck img [] = 0) && decide (at_ img 0x0C 4 % 2 = 1) && !man.isEmpty &&
    man.all (fun x =>
      let d := x.data img
      (upTo 0 (x.size / 16)).all (fun i => decide (1 ≤ at_ d (16 * i) 2) && decide (at_ d (16 * i) 2 ≤ 4)))

/-- REPLAY_REGISTER: a tensor whose program is refused is placed under snapshots, and one registered before no longer counts
(R120, R316). -/
def execReplayRegisterCmd (m : Fin 16) (s : State) : Host.Outcome State Fault Refusal :=
  .next (s.command m 0x0504 [(8, 4), (16, 8), (24, 4)] (fun s e _ =>
    let r := withBuf s (arg e 16 8) (arg e 24 4) (fun s img =>
      if !s.replayOk img then (s.setTrain { s.train with replay := tdel (arg e 8 4) s.train.replay }, err 0x2C)
      else (s.setTrain { s.train with replay := tput (arg e 8 4) img s.train.replay }, ok))
    (r.1, accepted r.2)))

/-- SNAPSHOT_CFG: 1 to 30 minutes, 0 gives 4 (R300, R322). -/
def execSnapshotCfgCmd (m : Fin 16) (s : State) : Host.Outcome State Fault Refusal :=
  .next (s.command m 0x0505 [(8, 1)] (fun s e _ =>
    let x := arg e 8 1
    if 30 < x then (s, bad 8) else (s.setSurv { s.surv with interval := if x = 0 then 4 else x }, ok)))

/-- SNAPSHOT_NOW: the next record formed marks its step; OP_COMPLETE comes with SNAPSHOT_DONE (R322). -/
def execSnapshotNowCmd (m : Fin 16) (s : State) : Host.Outcome State Fault Refusal :=
  .next (s.command m 0x0506 [] (fun s _ _ =>
    if s.mbx.bg.any (fun b => decide (b.opcode = 0x0506)) then (s, err 0x1C)
    else (s.setSurv { s.surv with wanted := true },
      .accept (s.fld (reg0 .CP_SNAPSHOT_STATUS 0) F.CP_SNAPSHOT_STATUS_last_complete) none)))

/-- RECOMMIT: the retained shards of a step go to the partner again, and in the step in progress their updates and the ready
report are made again (R237, R238; log 17). -/
def State.recommit (s : State) (step : Nat) : State :=
  let bs := (s.train.retained.filter (fun r => decide (r.1 = step))).map (·.2)
  let table := if step = s.train.step then s.train.buckets else s.tableFor step
  let s := bs.foldl (fun s b =>
    match bucketAt table b with
    | some x => s.sendShard b (s.stackedBytes x.reducedBase (4 * (x.shard s.memberCount s.position).2))
    | none => s) s
  if step ≠ s.train.step then s else
  s.setTrain { s.train with updated := s.train.updated.filter (fun u => !bs.contains u.2), ready := false }

/-- RECOMMIT (R237). -/
def execRecommitCmd (m : Fin 16) (s : State) : Host.Outcome State Fault Refusal :=
  .next (s.command m 0x0507 [(8, 8)] (fun s e _ =>
    if !s.train.retained.any (fun r => decide (r.1 = arg e 8 8)) then (s, err 0x14)
    else (s.recommit (arg e 8 8), .accept 0 (some (0, 0, [])))))

/-- A RESHARD plan's form, and receivers that the new epoch's list can name (R334; log 17). -/
def State.planOk (s : State) (p : List Byte) (len : Nat) : Bool :=
  let es := planEntries p
  decide (32 ≤ len) && decide (len = 32 + 32 * es.length) && decide (at_ p 16 16 = 0) && decide (s.members.epoch < at_ p 0 4) &&
    es.all (fun e => decide (bitsOf e.2 138 6 = 0) && decide (bitsOf e.2 144 48 = 0) &&
      s.members.ids.contains (bitsOf e.2 112 16) && !s.members.fenced.contains (bitsOf e.2 112 16))

/-- RESHARD (R334, R335). -/
def execReshardCmd (m : Fin 16) (s : State) : Host.Outcome State Fault Refusal :=
  .next (s.command m 0x0508 [(8, 8), (16, 4)] (fun s e _ =>
    if s.mbx.bg.any (fun b => decide (b.opcode = 0x0508)) then (s, err 0x1C)
    else withBuf s (arg e 8 8) (arg e 16 4) (fun s p =>
      if !s.planOk p (arg e 16 4) then (s, err 0x1A)
      else if at_ p 8 8 ≤ s.train.step then (s, err 0x28)
      else (s.setSurv { s.surv with plan := some p, placed := 0 }, .accept 0 none))))

end Sys2Proof.Machine
end

