-- ==== Sys2Proof/Machine/UlmasFirmware.lean ====
section
/-! DEFINITION. Firmware images, activation, the option area and attestation (R300, R308 to R313, R351, R352). -/

namespace Sys2Proof.Machine

def State.setFirm (s : State) (x : Firm) : State := { s with firm := x }

/-! Verification (R308, R309). -/

/-- The first check of R309 that a slot fails, 0 for none. -/
def State.verifyImage (s : State) (slot : Nat) : Nat :=
  let f := s.slotField slot
  let size := f 0x10 4
  let key := s.slotBytes slot 0x60 1952
  let k := f 0x14 1
  if f 0 4 ≠ 0x57464C55 ∨ f 4 2 ≠ 1 ∨ size = 0 ∨ 0x1FFE000 < size ∨ f 0x15 11 ≠ 0 ∨ f 0x14ED 2835 ≠ 0 then 1
  else if 1 < k ∨ shake256 key ≠ (Config.fuseKeyDigest k).toList ∨ Config.fuseKeyRevoked k = true then 2
  else if shake512 (s.slotBytes slot 0x2000 size) ≠ s.slotBytes slot 0x20 64 then 3
  else if !Config.mldsaVerify key (shake512 (s.slotBytes slot 0 0x800)) (s.slotBytes slot 0x800 3309) then 4
  else if f 6 2 < s.firm.svn then 5
  else 0

/-- The status that a failed check returns. -/
def checkStatus (k : Nat) : Nat :=
  match k with
  | 1 => 0x1A
  | 2 => 0x22
  | 5 => 0x23
  | _ => 0x21

/-- A slot marked verified. -/
def State.markVerified (s : State) (slot : Nat) : State :=
  s.setFirm { s.firm with verified := if s.firm.verified.contains slot then s.firm.verified else s.firm.verified ++ [slot] }

/-- The slot of the serving image; none under the recovery service (R358). -/
def State.servingSlot (s : State) : Option Nat := if s.mode = 4 then none else some s.firm.serve

/-- Bytes staged into a slot; its verified mark is cleared. -/
def State.stage (s : State) (slot o : Nat) (bs : List Byte) : State :=
  let put (cs : List (Nat × Byte)) : List (Nat × Byte) :=
    mapFrom o (fun k b => (k, b)) bs ++ cs.filter (fun c => decide (c.1 < o) || decide (o + bs.length ≤ c.1))
  let f := s.firm
  let f := if slot = 0 then { f with slotA := put f.slotA } else { f with slotB := put f.slotB }
  s.setFirm { f with verified := f.verified.filter (· != slot) }

/-- FW_STAGE (R300). -/
def execFwStageCmd (m : Fin 16) (s : State) : Host.Outcome State Fault Refusal :=
  .next (s.command m 0x0600 [(8, 1), (12, 4), (16, 8), (24, 4)] (fun s e _ =>
    let slot := arg e 8 1
    let o := arg e 12 4
    let len := arg e 24 4
    if 1 < slot then (s, bad 8)
    else if 0x100000 < len then (s, bad 24)
    else if 0x2000000 < o + len then (s, bad 12)
    else if s.servingSlot = some slot then (s, err 0x14)
    else
      let r := withBuf s (arg e 16 8) len (fun s bs => (s.stage slot o bs, ok))
      (r.1, accepted r.2)))

/-- FW_VERIFY (R309). -/
def execFwVerifyCmd (m : Fin 16) (s : State) : Host.Outcome State Fault Refusal :=
  .next (s.command m 0x0601 [(8, 1)] (fun s e _ =>
    let slot := arg e 8 1
    if 1 < slot then (s, bad 8) else
    let k := s.verifyImage slot
    if k = 0 then (s.markVerified slot, accepted ok) else (s, accepted (err (checkStatus k)))))

/-! Hitless activation (R311). -/

/-- FW_ACTIVATE. Without a standby, or with a slot that is not verified, it answers TARGET_BUSY. -/
def execFwActivateCmd (m : Fin 16) (s : State) : Host.Outcome State Fault Refusal :=
  .next (s.command m 0x0602 [(8, 1), (12, 4)] (fun s e _ =>
    let slot := arg e 8 1
    let ms := arg e 12 4
    if 1 < slot then (s, bad 8)
    else if s.firm.act.isSome then (s, err 0x1C)
    else if !s.firm.verified.contains slot ∨ s.fld globalReg F.PCI_MBX_GLOBAL_standby_ready = 0 then (s, err 0x14)
    else if 64 ≤ s.mbx.bg.length then (s, err 0x1B)
    else (s.setFirm { s.firm with act := some ⟨slot, (if ms = 0 then 10000 else ms) * 10, 0, false, false, tagOf e⟩ }, .accept slot none)))

/-- The activation's command has its outcome. -/
def State.actEnds (s : State) (status : Nat) : State :=
  match s.firm.act with
  | none => s
  | some a =>
    let s := s.setMbx { s.mbx with
      bg := s.mbx.bg.map (fun b => if b.opcode = 0x0602 ∧ b.tag = a.tag then { b with out := some (status, 0, []) } else b) }
    s.setFirm { s.firm with act := none }

/-- Why a verified image is not activated: a contract level in force or to come that it lacks, or a protocol version in use
that it excludes; 0 for neither. -/
def State.actRefused (s : State) (slot : Nat) : Nat :=
  let mask := s.levelMask slot
  let now := s.levelOf s.train.step
  let next := s.fld (reg0 .LNK_LEVEL 0) F.LNK_LEVEL_level_next
  let ahead := decide (s.train.step < (s.rd (reg0 .LNK_LEVEL_STEP 0)).toNat)
  if !mask.testBit now || (ahead && !mask.testBit next) then 0x24
  else if (upTo 5 7).any (fun p => decide (s.lnk p = 5) && (decide (s.fld (reg0 .LNK_STATUS p) F.LNK_STATUS_proto < s.slotField slot 0x0C 1) ||
    decide (s.slotField slot 0x0D 1 < s.fld (reg0 .LNK_STATUS p) F.LNK_STATUS_proto))) then 0x25
  else 0

/-- STANDBY_LOAD_DONE: the standby has loaded and verified the new image, and refuses or goes on; after the move, the former
serving processor has loaded it and is the standby. A load that fails of itself counts as a failed body digest. -/
def State.standbyLoaded (s : State) (pass : Bool) : State :=
  match s.firm.act with
  | none => s
  | some a =>
    if a.moved then
      if !pass then s else
      let s := (s.setFirm { s.firm with stand := a.slot }).changed 5
      let s := (s.setStandby 1).event s.cpIsland 0x0600 [(s.fwVersion, 4), (s.servingDie, 1),
        (s.fld (reg0 .RST_FAILOVER 0) F.RST_FAILOVER_last_outage_ns, 4)]
      s.actEnds 0
    else if a.loaded then s
    else
      let k := s.verifyImage a.slot
      if k ≠ 0 then s.actEnds (checkStatus k)
      else if !pass then s.actEnds 0x21
      else if s.actRefused a.slot ≠ 0 then s.actEnds (s.actRefused a.slot)
      else (s.setFirm { s.firm with act := some { a with loaded := true }, stand := a.slot }).changed 5
def execStandbyLoadDone (pass : Bool) (s : State) : Host.Outcome State Fault Refusal := .next (s.inService (s.standbyLoaded pass))

/-- A quiescent point (R311). -/
def State.quiescent (s : State) : Bool :=
  (upTo 0 16).all (fun m => (s.ring m).cur.isNone) && (upTo 0 64).all (fun n => (s.slice n).want.isNone) &&
    (upTo 5 7).all (fun p => decide (s.fld (reg0 .LNK_CTRL p) F.LNK_CTRL_renegotiate = 0)) && !s.train.ready &&
    !(decide (s.leader = s.position) && !s.train.reports.isEmpty)

/-- QUIESCENT_POINT_TEST: the serving role moves, or the time is over and nothing changes (R311). -/
def State.quiescentTest (s : State) : State :=
  match s.firm.act with
  | none => s
  | some a =>
    if !a.loaded || a.moved || decide (s.mode ≠ 1) then s
    else if s.quiescent then
      let v := s.slotField a.slot 8 4
      let caps (s : State) (p : Nat) : State :=
        let r := reg0 .LNK_CAP p
        ((s.setF r F.LNK_CAP_proto_min (s.slotField a.slot 0x0C 1)).setF r F.LNK_CAP_proto_max (s.slotField a.slot 0x0D 1)).setF r
          F.LNK_CAP_level_mask (s.levelMask a.slot)
      let s := ((upTo 5 7).foldl caps s).setFirm { s.firm with act := some { a with moved := true }, serve := a.slot }
      (s.changed 4).outageBegin v
    else if a.limit ≤ a.tests + 1 then
      ((s.setFirm { s.firm with stand := s.firm.serve }).changed 5).actEnds 0x26
    else s.setFirm { s.firm with act := some { a with tests := a.tests + 1 } }
def execQuiescentPointTest (s : State) : Host.Outcome State Fault Refusal := .next (s.inService s.quiescentTest)

/-! The option area (R351, R352). -/

/-- The 4,096 bytes of a copy. -/
def OptArea.bytes (o : OptArea) : List Byte :=
  let bs := leBytes 0x504F4C55 4 ++ leBytes 1 2 ++ leBytes o.seq 2 ++ leBytes o.bootSlot 1 ++ leBytes o.startLimit 1 ++
    leBytes o.autoTrain 1 ++ leBytes o.hbmPreserve 1 ++ leBytes o.wdPeriod 2 ++ leBytes o.rampSlope 2 ++ leBytes o.loadstepLead 2 ++
    leBytes o.powerLimit 2 ++ leBytes o.pcieRate 1 ++ zeros 4071
  bs ++ leBytes (Config.crc32 bs).toNat 4

/-- A field written, by its offset and size; none where they match no writable field or the value is out of range. The
ranges of auto_train and hbm_preserve are those of their defined bits. -/
def OptArea.put (o : OptArea) (off size v : Nat) : Option OptArea :=
  match off, size with
  | 0x08, 1 => if v ≤ 1 then some { o with bootSlot := v } else none
  | 0x09, 1 => if 1 ≤ v ∧ v ≤ 15 then some { o with startLimit := v } else none
  | 0x0A, 1 => if v ≤ 3 then some { o with autoTrain := v } else none
  | 0x0B, 1 => if v ≤ 1 then some { o with hbmPreserve := v } else none
  | 0x0C, 2 => if 50 ≤ v ∧ v ≤ 10000 then some { o with wdPeriod := v } else none
  | 0x0E, 2 => if 25 ≤ v ∧ v ≤ 400 then some { o with rampSlope := v } else none
  | 0x10, 2 => if 5 ≤ v ∧ v ≤ 100 then some { o with loadstepLead := v } else none
  | 0x12, 2 => if 1000 ≤ v ∧ v ≤ 3600 then some { o with powerLimit := v } else none
  | 0x14, 1 => if v ≤ 6 then some { o with pcieRate := v } else none
  | _, _ => none

/-- The copy in use. -/
def State.optInUse (s : State) : OptArea := if s.firm.inUse = 0 then s.firm.opt0 else s.firm.opt1

/-- The copy not in use written with the sequence number plus one; it is then the valid copy with the higher number (R351,
R352). -/
def State.optWrite (s : State) (o : OptArea) : State :=
  let o := { o with valid := true, seq := (s.optInUse.seq + 1) % 65536 }
  let f := s.firm
  let f := if f.inUse = 0 then { f with opt1 := o, inUse := 1 } else { f with opt0 := o, inUse := 0 }
  ((s.setFirm f).setF (reg0 .RST_STATUS 0) F.RST_STATUS_opt_copy f.inUse).changed 3

/-- FW_BOOT_SLOT: boot_slot in the option area (R300, R352). -/
def execFwBootSlotCmd (m : Fin 16) (s : State) : Host.Outcome State Fault Refusal :=
  .next (s.command m 0x0603 [(8, 1)] (fun s e _ =>
    let slot := arg e 8 1
    if 1 < slot then (s, bad 8)
    else if !s.firm.verified.contains slot then (s, err 0x14)
    else (s.optWrite { s.optInUse with bootSlot := slot }, ok)))

/-- FW_SVN_COMMIT (R310): the counter has 64 fuse bits. -/
def execFwSvnCommitCmd (m : Fin 16) (s : State) : Host.Outcome State Fault Refusal :=
  .next (s.command m 0x0604 [(8, 1)] (fun s e _ =>
    let n := arg e 8 1
    if 64 < n ∨ s.slotField s.firm.serve 6 2 < n then (s, bad 8)
    else if n ≤ s.firm.svn then (s, ok)
    else (s.setFirm { s.firm with svn := n }, ok)))

/-! Attestation (R313). -/

/-- The registers of a table as bytes. -/
def State.regBytes (s : State) (nm : RegName) (n : Nat) : List Byte :=
  (upTo 0 n).flatMap (fun i => leBytes (s.rd (reg1 nm 0 i)).toNat 8)

/-- The membership list and the pairing as measured; their form is the model's (log 13). -/
def State.memberBytes (s : State) : List Byte :=
  leBytes s.members.epoch 4 ++ leBytes s.members.first 8 ++ s.members.ids.flatMap (fun i => leBytes i 2) ++
    leBytes s.partner 2 ++ leBytes (s.fld (reg0 .CP_PAIR_STATUS 0) F.CP_PAIR_STATUS_override) 1

/-- The digest of an image loaded in a context: bytes 0x40 to 0x5F of its header (R193), zero where none is loaded. -/
def imageDigest (img : List Byte) : List Byte := (img.drop 0x40 ++ zeros 32).take 32

/-- The measurements of a kind: index, key of its last change, digest. -/
def State.measures (s : State) (kind : Nat) : List (Nat × Nat × List Byte) :=
  let one (bs : List Byte) : List (Nat × Nat × List Byte) := [(0, kind, shake256 bs)]
  match kind with
  | 1 => one Config.bootRom
  | 2 => one Config.fuseMap
  | 3 => one s.optInUse.bytes
  | 4 => one (s.slotBytes s.firm.serve 0 0x800)
  | 5 => one (s.slotBytes s.firm.stand 0 0x800)
  | 6 => (upTo 0 512).map (fun i => (i, 600 + i, imageDigest ((((s.slice (i / 8)).ctx (i % 8)).map (·.image)).getD [])))
  | 7 => one (s.regBytes .HBM_PMAP 4096)
  | 8 => one s.memberBytes
  | 9 => one (s.regBytes .CP_CORE_REMAP 64)
  | _ => []

/-- The report for a selector and a nonce. -/
def State.attestReport (s : State) (sel : Nat) (nonce : List Byte) : List Byte :=
  let ks := (upTo 0 9).filter (fun n => sel.testBit n)
  let ms := ks.flatMap (fun n => (s.measures (n + 1)).map (fun x => (n + 1, x)))
  let body := leBytes 0x54414C55 4 ++ leBytes 1 2 ++ leBytes ms.length 2 ++ leBytes Config.fuseSerial.toNat 8 ++ nonce ++
    leBytes s.clk.refTime 8 ++ leBytes s.firm.svn 1 ++ leBytes s.optInUse.bootSlot 1 ++ leBytes s.firm.serve 1 ++ zeros 5 ++
    ms.flatMap (fun x => leBytes x.1 2 ++ leBytes x.2.1 2 ++ zeros 4 ++ leBytes (tget 0 s.firm.changed x.2.2.1) 8 ++ x.2.2.2)
  body ++ (Config.mldsaSign 0 (shake512 body)).toList

/-- ATTEST. -/
def execAttestCmd (m : Fin 16) (s : State) : Host.Outcome State Fault Refusal :=
  .next (s.command m 0x0605 [(8, 32), (40, 4), (48, 8), (56, 4)] (fun s e _ =>
    let sel := arg e 40 4
    if sel = 0 ∨ 512 ≤ sel then (s, bad 40) else
    let n := ((upTo 0 9).filter (fun n => sel.testBit n)).foldl (fun t k => t + (s.measures (k + 1)).length) 0
    if arg e 56 4 < 0x40 + 48 * n + 3309 then (s, bad 56)
    else toBuf s (arg e 48 8) (s.attestReport sel (leBytes (arg e 8 32) 32)) ok))

end Sys2Proof.Machine
end

