-- ==== Sys2Proof/Machine/Frost.lean ====
section
/-! DEFINITION. Frost state: its triggers, the state of the module in it, the ramp and the record (R341 to R346). -/

namespace Sys2Proof.Machine

def rstStatus : Reg := reg0 .RST_STATUS 0
def pwrStatus : Reg := reg0 .PWR_STATUS 0
def pwrCtrl : Reg := reg0 .PWR_CTRL 0
def State.setFrost (s : State) (x : Frost) : State := { s with frost := x }
def State.setRst (s : State) (x : Rst) : State := { s with rst := x }
def State.frosted (s : State) : Bool := decide (s.fld rstStatus F.RST_STATUS_frost = 1)

def causeCode : FrostCause → Nat
  | .criticalState => 1
  | .lockstep => 2
  | .fuseMap => 3
  | .optionArea => 4
  | .supply => 5
  | .junction => 6
  | .regulator => 7
  | .containment => 8
  | .hostEnter => 9

/-- The LOADSTEP code driven; a change raises source 611 (R343, R365). -/
def State.setLoadstep (s : State) (c : Nat) : State :=
  if s.fld pwrStatus F.PWR_STATUS_loadstep = c then s else (s.setF pwrStatus F.PWR_STATUS_loadstep c).edge 611

/-- A start ends: its boot-log entry with the result (R357, R358). -/
def State.bootEnd (s : State) (result : Nat) : State :=
  let f := s.firm
  let ent : BootEnt :=
    { start := f.starts, cause := s.fld rstStatus F.RST_STATUS_reset_cause, slot := if s.rst.booted && decide (s.mode ≠ 4) then f.serve else 0xFF
      result := result, count := f.startCount, cycles := s.clk.refCyc - s.rst.startedAt, checkA := s.rst.check.1
      checkB := s.rst.check.2 }
  (s.setFirm { f with bootLog := (ent :: f.bootLog).take 64 }).setRst { s.rst with timer := false }

/-! The frost record (R346). -/

/-- The record at the latch. The times within their bounds are not stated (log 10). -/
def State.frostRecord (s : State) (cause : Nat) (detail : BitVec 128) : Frost :=
  let seq := s.fld evStatus F.PCI_MBX_EV_STATUS_next_seq
  let fr := Config.freeValue s.freeIdx
  let released := !s.clk.stopped.contains 90
  let t (bound sh : Nat) : Nat := fr.toNat / 2 ^ sh % (bound + 1)
  { entered := true, cause := cause, entries := min 255 (s.frost.entries + 1), secondary := 0
    flags := (if released then 6 else 0) + (if seq = 0 then 0 else 32), stamp := s.stamp 120, detail := detail.toNat
    mv := s.fld pwrStatus F.PWR_STATUS_input_mv, p0 := s.fld pwrStatus F.PWR_STATUS_input_w
    hottest := s.fld pwrStatus F.PWR_STATUS_hottest
    times := [t 20 0, t 200 16, if released then t 1000 32 else 0xFFFFFFFF, if released then t 1200 48 else 0xFFFFFFFF, 0xFFFFFFFF,
      0xFFFFFFFF]
    lastSeq := seq - 1, latchedAt := s.clk.refCyc, ramp := 1 }

/-- The 256 bytes of FROST_REPORT. -/
def Frost.bytes (f : Frost) : List Byte :=
  leBytes (if f.entered then 0x54535246 else 0) 4 ++ leBytes 1 2 ++ leBytes f.cause 1 ++ leBytes f.entries 1 ++
    leBytes f.secondary 4 ++ leBytes f.flags 4 ++ leBytes f.stamp 16 ++ leBytes f.detail 16 ++ leBytes f.mv 4 ++ leBytes f.p0 2 ++
    leBytes f.hottest 2 ++ f.times.flatMap (fun t => leBytes t 4) ++ leBytes f.lastSeq 4 ++ zeros 172

/-! The latch (R341, R342). -/

/-- A core in frost: what was in flight is abandoned, the scalar processor halts (R342). -/
def Core.abandon (c : Core) : Core :=
  { c with
    ve := { c.ve with pend := [], data := [], dead := [] }
    mov := c.mov.map (fun q => (q.1, { q.2 with started := q.2.started.map (fun d => { d with fly := [] }), old := [] }))
    sca := { c.sca with held := true } }

/-- A die in frost: fetches and flits in flight are dropped (R342). -/
def Die.abandon (d : Die) : Die := { d with chain := [], win := { d.win with fly := [], old := [] } }

/-- The islands that gate: the cores, the compute dies and, in self-refresh, the memory controller groups (R342). -/
def frostIslands : List Nat := upTo 0 88 ++ upTo 90 16

/-- Every output, port and memory reaches its frost state (R342). -/
def State.frostEnter (s : State) : State :=
  let s := if s.clk.stopped.contains 90 then s else s.mscFlush
  let s := { s with
    cores := s.cores.map (fun (p : Nat × Core) => (p.1, p.2.abandon)), dies := s.dies.map (fun (p : Nat × Die) => (p.1, p.2.abandon))
    clk := { s.clk with stopped := s.clk.stopped ++ frostIslands.filter (fun i => !s.clk.stopped.contains i) } }
  let s := (upTo 5 7).foldl (fun s p => s.setPort p { s.port p with fencing := true, air := (upTo 0 8).map (fun l => (l, fencePeriod l)) }) s
  let s := (upTo 0 2).foldl (fun s k => s.setF (reg1 .RST_WDOG 0 k) F.RST_WDOG_running 0) s
  let s := (s.aerLog 22).setRst { s.rst with faultLow := true }
  s

/-- FROST_LATCH: the first trigger is the cause; any later one is recorded in the secondary mask. A supply out of range is no
trigger before the release sequence starts (R341). -/
def State.frostLatch (s : State) (c : Nat) (detail : BitVec 128) : State :=
  if s.frosted then s.setFrost { s.frost with secondary := s.frost.secondary ||| 2 ^ c }
  else if s.rst.waiting ∧ c = 5 then s
  else
    let s := if s.rst.timer then s.bootEnd 4 else s
    let alone := !s.rst.booted || decide (c = 2)
    let r := s.frostRecord c detail
    let s := { s with frost := if alone then { r with flags := r.flags + 16 } else r, freeIdx := s.freeIdx + 1 }
    let s := s.setRst { s.rst with responder := s.rst.responder || alone, seq := none }
    let s := ((s.setF rstStatus F.RST_STATUS_frost 1).setF rstStatus F.RST_STATUS_frost_cause c).frostEnter
    let s := { s.setLoadstep 3 with pwr := { s.pwr with target := none, ramping := false } }
    let s := s.setMode 3
    if s.hostUp then s.event 120 0x0A01 [(c, 1)] else s
def execFrostLatch (cause : FrostCause) (detail : BitVec 128) (s : State) : Host.Outcome State Fault Refusal :=
  .next (s.frostLatch (causeCode cause) detail)

/-! The ramp (R344). -/

def State.frostLead (s : State) : Nat := s.fld pwrCtrl F.PWR_CTRL_loadstep_lead * 100

/-- FROST_RAMP_START. -/
def execFrostRampStart (s : State) : Host.Outcome State Fault Refusal :=
  .next (
    if s.frost.ramp ≠ 1 then s else
    (s.setFrost { s.frost with ramp := 2, times := setAt s.frost.times 4 s.frostLead }).setF rstStatus F.RST_STATUS_ramp_active 1)

/-- FROST_RAMP_END: the first reference cycle in which the falling power reaches the measured floor, at most 320 W. -/
def State.frostRampEnd (s : State) (floor : Nat) : State :=
  if s.frost.ramp ≠ 2 ∨ 320 < floor then s else
  let slope := max 1 (s.fld pwrCtrl F.PWR_CTRL_ramp_slope)
  let cyc := (s.frost.times[4]?).getD 0 + ((s.frost.p0 - floor) * 10000 + slope - 1) / slope
  let s := s.setFrost { s.frost with ramp := 0, times := setAt s.frost.times 5 cyc, flags := s.frost.flags ||| 8 }
  ((s.setF rstStatus F.RST_STATUS_ramp_active 0).setF pwrStatus F.PWR_STATUS_input_w (min floor s.frost.p0)).setLoadstep 0
def execFrostRampEnd (floor : BitVec 16) (s : State) : Host.Outcome State Fault Refusal := .next (s.frostRampEnd floor.toNat)

end Sys2Proof.Machine
end

