-- ==== Sys2Proof/Machine/Blocks.lean ====
section
/-! DEFINITION. The blocks that can be reset alone: shut-down, start and their requests (R359, R360, R363). -/

namespace Sys2Proof.Machine

def blockReg (b : Nat) : Reg := reg1 .RST_BLOCK 0 b
/-- 0 ON, 1 SHUTTING_DOWN, 2 OFF, 3 STARTING. -/
def State.blockSt (s : State) (b : Nat) : Nat := s.fld (blockReg b) F.RST_BLOCK_state
/-- 0 none, 1 ENABLE_PENDING, 2 DISABLE_PENDING. -/
def State.blockPend (s : State) (b : Nat) : Nat := s.fld (blockReg b) F.RST_BLOCK_pending
def State.setBlock (s : State) (b : Nat) (f : Fld) (x : Nat) : State := s.setF (blockReg b) f x

/-- The kind of a block, as BLOCK_RESET names it, and its index within the kind; none for 116 to 119 (R359, R363). -/
def blockKind (b : Nat) : Option (Nat × Nat) :=
  if b < 68 then some (0, b)
  else if b < 84 then some (1, b - 68)
  else if b < 100 then some (2, b - 84)
  else if b < 104 then some (3, b - 100)
  else if b < 116 then some (4, b - 104)
  else if b < 120 then none
  else if b < 124 then some (5, b - 120)
  else if b < 126 then some (6, b - 124)
  else none

/-- The logical cores that a physical core serves (R17). -/
def State.servedBy (s : State) (p : Nat) : List Nat :=
  (upTo 0 64).filter (fun n => decide (s.remap n < 2) && decide (s.phys n = p))

/-- The logical cores of a cluster number. -/
def clusterCores (c : Nat) : List Nat := upTo (4 * c) 4

/-- A block's clock stops, or runs with its counter at zero (R25, R28). -/
def State.stopIslands (s : State) (is : List Nat) : State :=
  { s with clk := { s.clk with stopped := s.clk.stopped ++ is.filter (fun i => !s.clk.stopped.contains i) } }
def State.startIslands (s : State) (is : List Nat) : State :=
  { s with clk := { s.clk with
      stopped := s.clk.stopped.filter (fun i => !is.contains i), cycles := is.foldl (fun t i => tput i 0 t) s.clk.cycles } }

/-- The islands of a block. -/
def State.blockIslands (s : State) (kind k : Nat) : List Nat :=
  match kind with
  | 0 => [k]
  | 1 => clusterIsland k :: (clusterCores k).map s.phys
  | 2 => [90 + k]
  | 3 => upTo (17 * k) 17 ++ upTo (68 + 5 * k) 5 ++ upTo (90 + 4 * k) 4
  | 4 => [106 + k]
  | 6 => [118 + k]
  | _ => []

/-- A block that firmware may shut down now: groups and dies before the first PROGRAM_LOAD, a control-processor pair that does
not serve (R359). -/
def State.blockFree (s : State) (kind k : Nat) : Bool :=
  match kind with
  | 2 | 3 => !s.rst.loaded
  | 6 => decide (s.servingDie ≠ k)
  | _ => true

/-- A core's engines stop at their boundaries without a save, and its move queues are cancelled (R190, R359). -/
def State.coreQuit (s : State) (n : Nat) : State :=
  let s := (s.veHalt n).cancelAll n
  let s := if s.engSt false n = 1 then s.setEngSt false n 2 else s
  s.setSca n { s.sca n with held := true }

/-- What a block does when its shut-down begins. -/
def State.blockQuit (s : State) (kind k : Nat) : State :=
  match kind with
  | 0 => (s.servedBy k).foldl State.coreQuit s
  | 1 => ((clusterCores k).foldl State.coreQuit s).setPurMode (k / 4) 2
  | 2 => s.mscFlush
  | 3 => (upTo (16 * k) 16).foldl State.coreQuit s
  | 4 =>
    if k = 0 then s.hostLinkReset
    else if k < 5 then
      let x := s.cxlPort (k - 1)
      (x.fly ++ x.wait).foldl State.farFail (s.setCxl (k - 1) { x with wait := [], fly := [] })
    else if s.lnk k = 7 then s else s.fencePort k 0x0C
  | 5 => s.winCancel k
  | 6 => (s.setStandby 0).setF (reg1 .RST_WDOG 0 k) F.RST_WDOG_running 0
  | _ => s

/-- The registers of a window of the register space return to their reset values. -/
def State.regsReset (s : State) (a len : Nat) : State :=
  { s with regs := s.regs.filter (fun r => !(decide (a ≤ r.1) && decide (r.1 < a + len))) }

/-- A logical core after its block's reset: engines, registers and tile memory (R21, R359). -/
def State.coreClear (s : State) (n : Nat) : State :=
  let s := (s.setCore n (Core.reset n)).blockReset n
  { s with
    mem := lay s.mem (slotBase n) slotSize [], badWords := clearWords s.badWords (slotBase n) slotSize
    slices := tput n { s.slice n with want := none, hold := none } s.slices }

/-- A window streamer after its block's reset. -/
def State.streamerClear (s : State) (d : Nat) : State :=
  (s.setWin d .reset).regsReset (0x301000202000 + d * 0x100000) 0x12000

/-- A memory controller group after its block's reset: its request queues, arbitration and cache lines, the counters of its
stack, and with an even stack the region's tokens. Memory and the retained channel states stay (R347, R359). -/
def State.groupClear (s : State) (k : Nat) : State :=
  let mine (c : Nat) : Bool := decide (c / 64 = k)
  let h := s.hbm
  let s := { s with hbm := { h with
    sets := h.sets.filter (fun x => !decide (x.1 / 8192 = k)), scrub := tdel k h.scrub
    chans := h.chans.map (fun (c : Nat × HChan) =>
      if mine c.1 then (c.1, { c.2 with q := [], hist := [], corrs := [], tries := 0 }) else c) } }
  let s := s.wr (reg1 .MSC_STATS 0 k) (reg1 .MSC_STATS 0 k).reset
  if k % 2 = 0 then s.regsReset (0x301000100000 + k / 2 * 0x10000) 0x10000 else s

/-- A block at its reset values. -/
def State.blockClear (s : State) (kind k : Nat) : State :=
  match kind with
  | 0 => (s.servedBy k).foldl State.coreClear s
  | 1 => ((clusterCores k).foldl State.coreClear s).regsReset (0x301000000000 + k * 0x10000) 0x10000
  | 2 => s.groupClear k
  | 3 =>
    let s := ((upTo (16 * k) 16).foldl State.coreClear s).regsReset (0x301000200000 + k * 0x100000) 0x100000
    let s := (upTo (4 * k) 4).foldl (fun s c => s.regsReset (0x301000000000 + c * 0x10000) 0x10000) s
    ((upTo (4 * k) 4).foldl State.groupClear s).setDie k .reset
  | 4 =>
    if k = 0 then s
    else if k < 5 then (s.setCxl (k - 1) .reset).regsReset (0x301002000000 + k * 0x100000) 0x100000
    else
      let cap := s.rd (reg0 .LNK_CAP k)
      ((s.setPort k .reset).regsReset (0x301002000000 + k * 0x100000) 0x100000).wr (reg0 .LNK_CAP k) cap
  | 5 => s.streamerClear k
  | _ => s

/-- A shut-down begins (R359). -/
def State.blockShut (s : State) (b kind k pending : Nat) : State :=
  ((s.setBlock b F.RST_BLOCK_state 1).setBlock b F.RST_BLOCK_pending pending).blockQuit kind k

/-- Writing enable (R360). -/
def State.blockEnable (s : State) (b : Nat) (on : Bool) : State :=
  match blockKind b with
  | none => s.accessErr .firmware (blockReg b).addr
  | some (kind, k) =>
    if !on && decide (s.blockSt b = 0) && !s.blockFree kind k then s else
    let s := s.setBlock b F.RST_BLOCK_enable on.toNat
    match s.blockSt b, on with
    | 0, false => s.blockShut b kind k 0
    | 1, true => s.setBlock b F.RST_BLOCK_pending 1
    | 2, true => s.setBlock b F.RST_BLOCK_state 3
    | 3, false => s.setBlock b F.RST_BLOCK_pending 2
    | _, _ => s.setBlock b F.RST_BLOCK_pending 0
def execBlockEnableWrite (b : Fin 126) (enable : Bool) (s : State) : Host.Outcome State Fault Refusal :=
  .next (s.inService (s.blockEnable b enable))

/-- Writing reset: a shut-down with ENABLE_PENDING latched (R360). -/
def State.blockResetReq (s : State) (b : Nat) : State :=
  match blockKind b with
  | none => s.accessErr .firmware (blockReg b).addr
  | some (kind, k) =>
    if s.blockSt b = 0 ∧ !s.blockFree kind k then s else
    let s := (s.setBlock b F.RST_BLOCK_reset 1).setBlock b F.RST_BLOCK_enable 1
    match s.blockSt b with
    | 0 => s.blockShut b kind k 1
    | 1 => s.setBlock b F.RST_BLOCK_pending 1
    | 2 => s.setBlock b F.RST_BLOCK_state 3
    | _ => s.setBlock b F.RST_BLOCK_pending 2
def execBlockResetWrite (b : Fin 126) (s : State) : Host.Outcome State Fault Refusal := .next (s.inService (s.blockResetReq b))

/-- The block's shut-down has nothing left to wait for: a streamer's cancel is acknowledged (R225, R359). -/
def State.blockQuiet (s : State) (kind k : Nat) : Bool := decide (kind ≠ 5) || decide (s.winState k ≠ 3)

/-- BLOCK_SHUTDOWN_COMPLETE: the clock is gated and the reset asserted; a pending enable starts the block (R359, R360). -/
def State.blockOff (s : State) (b : Nat) : State :=
  match blockKind b with
  | none => s
  | some (kind, k) =>
    if s.blockSt b ≠ 1 || !s.blockQuiet kind k then s else
    let s := ((s.stopIslands (s.blockIslands kind k)).blockClear kind k).edge 626
    if s.blockPend b = 1 then (s.setBlock b F.RST_BLOCK_pending 0).setBlock b F.RST_BLOCK_state 3
    else s.setBlock b F.RST_BLOCK_state 2
def execBlockShutdownComplete (b : Fin 126) (s : State) : Host.Outcome State Fault Refusal := .next (s.inService (s.blockOff b))

/-- BLOCK_START_COMPLETE: the block runs from its reset values; BLOCK_RESET_DONE follows a reset; a pending disable shuts it
down (R359, R360). A core is named by its logical number. -/
def State.blockOn (s : State) (b : Nat) : State :=
  match blockKind b with
  | none => s
  | some (kind, k) =>
    if s.blockSt b ≠ 3 then s else
    let s := ((s.startIslands (s.blockIslands kind k)).setBlock b F.RST_BLOCK_state 0).edge 626
    let again := s.fld (blockReg b) F.RST_BLOCK_reset = 1
    if s.blockPend b = 2 then s.blockShut b kind k (if again then 1 else 0)
    else if again then
      let i := if kind = 0 then ((s.servedBy k).head?).getD k else k
      (s.setBlock b F.RST_BLOCK_reset 0).event s.cpIsland 0x0A00 [(kind, 1), (i, 4)]
    else s
def execBlockStartComplete (b : Fin 126) (s : State) : Host.Outcome State Fault Refusal := .next (s.inService (s.blockOn b))

end Sys2Proof.Machine
end

