-- ==== Sys2Proof/Machine/Reset.lean ====
section
/-! DEFINITION. Reset, the release sequence, the start of the firmware, failed starts and failover (R347 to R362). -/

namespace Sys2Proof.Machine

/-! Reset (R347 to R349). -/

/-- Always-on registers and the retained state that a reset of a source keeps, and those of a frost ramp that goes on (R11, R344,
R347): the register file after it. -/
def State.keptRegs (s : State) (src : Nat) (keep : Bool) : Tbl (BitVec 64) :=
  let clear := decide (src = 0) || decide (src = 6)
  let kept (on : Bool) (r : Reg) (f : Fld) (t : State) : State := if on then t.setF r f (s.fld r f) else t
  let mine (r : Nat × BitVec 64) : Bool :=
    decide ((chReg 0).addr ≤ r.1) && decide (r.1 < (chReg 0).addr + 8192) || decide (r.1 = (reg0 .HBM_SPARE_STATUS 0).addr)
  let t : State := { State.reset with regs := if keep then s.regs.filter mine else [] }
  let t := t.setF rstStatus F.RST_STATUS_reset_cause src
  let t := kept (!clear) rstStatus F.RST_STATUS_frost_cause t
  let t := kept true rstStatus F.RST_STATUS_start_count t
  let t := kept (decide (src ≠ 0)) rstStatus F.RST_STATUS_ramp_active t
  let t := kept (!clear) (reg0 .RST_FAILOVER 0) F.RST_FAILOVER_failovers t
  let t := kept (decide (src ≠ 0)) evStatus F.PCI_MBX_EV_STATUS_next_seq t
  let ramp := decide (src ≠ 0) && decide (s.frost.ramp ≠ 0)
  let t := kept ramp pwrStatus F.PWR_STATUS_loadstep t
  let t := kept ramp pwrCtrl F.PWR_CTRL_ramp_slope (kept ramp pwrCtrl F.PWR_CTRL_loadstep_lead t)
  let t := if src = 0 then t else
    (upTo 0 64).foldl (fun t n =>
      let c := s.fld (remapReg n) F.CP_CORE_REMAP_remap_count
      if c = 0 then t else t.setF (remapReg n) F.CP_CORE_REMAP_remap_count c) t
  t.regs

/-- A copy with each field outside its range at its default (R351). -/
def OptArea.ranged (o : OptArea) : OptArea :=
  [(0x08, 1, o.bootSlot), (0x09, 1, o.startLimit), (0x0A, 1, o.autoTrain), (0x0B, 1, o.hbmPreserve), (0x0C, 2, o.wdPeriod),
    (0x0E, 2, o.rampSlope), (0x10, 2, o.loadstepLead), (0x12, 2, o.powerLimit), (0x14, 1, o.pcieRate)].foldl
      (fun d x => (d.put x.1 x.2.1 x.2.2).getD d) OptArea.default

/-- What is kept of stacked memory behind its addresses: the retained copies, or the groups that extended retirements of the
boot record use. -/
def State.keptHbm (s : State) (keep : Bool) : Hbm :=
  if keep then { s.hbm with sets := [], chans := s.hbm.chans.map (fun (c : Nat × HChan) => (c.1, { c.2 with q := [], hist := [], corrs := [] })) }
  else if s.firm.retired.any (fun r => decide (16 ≤ r.slot)) then { Hbm.reset with released := s.hbm.released }
  else Hbm.reset

/-- The state that a reset leaves: everything at its reset value but what the source keeps. Stacked memory is kept as the option
area that this reset loads says (R347, R348, R352). -/
def State.afterReset (s : State) (src : Nat) : State :=
  let clear := decide (src = 0) || decide (src = 6)
  let keep := !clear && decide (s.optInUse.ranged.hbmPreserve = 1) && !s.rst.lost
  let far (a : Nat) : Bool := match region a with
    | .stacked | .reserve => keep
    | .far | .host => true
    | _ => false
  { State.reset with
    pending := s.pending
    regs := s.keptRegs src keep
    mem := s.mem.filter (fun c => far c.1)
    poison := if keep then s.poison else []
    hbm := s.keptHbm keep
    pwr := { Power.reset with mv := s.pwr.mv, amps := s.pwr.amps, out := s.pwr.out, inrush := s.pwr.inrush }
    firm := { s.firm with act := none }
    frost := if clear then { Frost.reset with ramp := if src = 0 then 0 else s.frost.ramp }
      else if s.frost.entered then { s.frost with flags := s.frost.flags ||| 1 } else s.frost
    rst := { Rst.reset with source := src, lost := !keep, opt := s.rst.opt }
    mgmt := if src = 0 then .reset else s.mgmt
    clk := { Clocks.reset with refTime := if src = 0 then 0 else s.clk.refTime, refCyc := s.clk.refCyc }
    freeIdx := s.freeIdx }

/-- A module reset. It merges with one that is being applied; a power-on reset replaces it (R349). The memory-side cache is
written back first, except where the contents are lost (R348). A start in progress ends (R357). -/
def State.applyReset (s : State) (src : Nat) : State :=
  if s.rst.waiting ∧ src ≠ 0 then s else
  let s := if s.rst.timer then s.bootEnd 3 else s
  let s := if src = 0 ∨ src = 6 ∨ s.clk.stopped.contains 90 then s else s.mscFlush
  (s.afterReset src).mgmtNote

def execPowerOn (s : State) : Host.Outcome State Fault Refusal := .next (s.applyReset 0)

/-- A pulse on a reset pin: ignored up to 100 ns, taken from 1 µs, either in between (R349, R378). -/
def pulse (ns : Nat) (takes : Bool) : Bool := decide (1000 ≤ ns) || (decide (100 < ns) && takes)
def execResetNAssert (ns : BitVec 32) (takes : Bool) (s : State) : Host.Outcome State Fault Refusal :=
  .next (if pulse ns.toNat takes then s.applyReset 1 else s)
def execPerstNAssert (ns : BitVec 32) (takes : Bool) (s : State) : Host.Outcome State Fault Refusal :=
  .next (if pulse ns.toNat takes then s.applyReset 2 else s)
def execAlwaysOnStateError (s : State) : Host.Outcome State Fault Refusal := .next (s.applyReset 6)

/-! The release sequence (R350, R351, R353, R354). -/

/-- A failure of the fuse map or of the option area: only the PCI Express port island is released, and the always-on responder
serves (R350, R351). -/
def State.loadFails (s : State) (c : Nat) : State :=
  (s.setRst { s.rst with responder := true, seq := none }).startIslands [106] |>.frostLatch c 0

/-- The fuse map loaded: the remap table and the cores enabled at manufacture (R11, R17, R363; log 5). -/
def State.fuseLoad (s : State) : State :=
  let s := (upTo 0 64).foldl (fun s n =>
    let p := (Config.fuseRemap n).toNat % 68
    ((s.setF (remapReg n) F.CP_CORE_REMAP_phys_core p).setF (remapReg n) F.CP_CORE_REMAP_state (Config.fuseRemapState n).toNat).setF
      (remapReg n) F.CP_CORE_REMAP_borrowed (decide (p / 17 ≠ n / 16)).toNat) s
  (upTo 0 68).foldl (fun s p =>
    if Config.fuseCoreEnabled p then s else (s.setBlock p F.RST_BLOCK_enable 0).setBlock p F.RST_BLOCK_state 2) s

/-- RESET_RELEASE_START: once the frost ramp is over and the supply lies within 48 V to 58 V, the sequence starts with the fuse
load (R344, R350, R354). -/
def State.releaseStart (s : State) (fuseOk : Bool) : State :=
  if !s.rst.waiting || decide (s.frost.ramp ≠ 0) || decide (s.pwr.mv < 48000) || decide (58000 < s.pwr.mv) then s else
  let s := s.setRst { s.rst with waiting := false, seq := some 0 }
  if fuseOk then s.fuseLoad else s.loadFails 3
def execResetReleaseStart (fuseOk : Bool) (s : State) : Host.Outcome State Fault Refusal := .next (s.releaseStart fuseOk)

/-- The copy that is used: the valid one with the higher sequence number modulo 2^16, copy 0 on a tie (R351). -/
def newerCopy (a b : OptArea) : Option Nat :=
  if !a.valid && !b.valid then none
  else if !b.valid then some 0
  else if !a.valid then some 1
  else if b.seq ≠ a.seq ∧ (b.seq + 65536 - a.seq) % 65536 < 32768 then some 1 else some 0

/-- OPTION_AREA_LOAD: the option area and the boot record take effect (R351). -/
def State.optionLoad (s : State) : State :=
  if s.rst.seq ≠ some 0 then s else
  match newerCopy s.firm.opt0 s.firm.opt1 with
  | none => s.loadFails 4
  | some k =>
    let o := (if k = 0 then s.firm.opt0 else s.firm.opt1).ranged
    let s := (s.setFirm { s.firm with inUse := k }).setRst { s.rst with opt := o, seq := some 1 }
    let s := ((s.setF rstStatus F.RST_STATUS_opt_copy k).setF rstStatus F.RST_STATUS_start_limit o.startLimit).setF rstStatus
      F.RST_STATUS_start_count (min 15 s.firm.startCount)
    ((s.setF pwrCtrl F.PWR_CTRL_sustained_w o.powerLimit).setF pwrCtrl F.PWR_CTRL_ramp_slope o.rampSlope).setF pwrCtrl
      F.PWR_CTRL_loadstep_lead o.loadstepLead
def execOptionAreaLoad (s : State) : Host.Outcome State Fault Refusal := .next s.optionLoad

/-- Snowbound recovery mode is entered: only the primary pair, port 0 and I/O die A's network run, and the recovery service
serves (R358). -/
def State.snowbound (s : State) (result : Nat) : State :=
  let s := (s.bootEnd result).stopIslands ((upTo 0 120).filter (fun i => !([88, 106, 118] : List Nat).contains i))
  let s := s.setRst { s.rst with booted := true, responder := false }
  (s.setF rstStatus F.RST_STATUS_snowbound 1).setMode 4

/-- The strap value of the two halves of the sampling, with pull-downs and with pull-ups: 0xFFFF where a pin floats (R379). -/
def strapValue (down up : Nat) : Nat := if down = up then down else 0xFFFF

/-- FEED_ID sampled: the identifier advertised on the pairing port (R319, R353). -/
def State.strapSample (s : State) (straps : Nat) : State :=
  let same := decide (straps = Config.fuseFeed.toNat)
  let s := s.setRst { s.rst with strap := straps }
  (s.setF (reg0 .CP_PAIR_STATUS 0) F.CP_PAIR_STATUS_feed_mismatch (!same).toNat).setF (reg0 .LNK_CAP 11) F.LNK_CAP_feed_id
    (if same then straps else 0xFFFF)

/-- The control-processor islands released: the boot ROM runs, or the module is snowbound (R354, R357, R358). -/
def State.controlRelease (s : State) : State :=
  let s := (s.startIslands [118, 119]).setFirm { s.firm with starts := s.firm.starts + 1 }
  let s := s.setRst { s.rst with timer := true, startedAt := s.clk.refCyc, check := (0, 0) }
  if s.rst.opt.startLimit ≤ s.firm.startCount then s.snowbound 5 else s

/-- The place of a domain in the release order (R354). -/
def domainPlace : Domain → Nat
  | .pins => 1
  | .control => 2
  | .hostPort => 3
  | .ioDies => 4
  | .memory k => 5 + k
  | .die d => 21 + d
  | .core p => 25 + p
  | .ports => 93
  | .complete => 94

/-- The domain at the next place of the order, or in snowbound recovery mode the end of the sequence after the I/O die. -/
def State.releaseDue (s : State) (dom : Domain) : Bool :=
  let snow := decide (s.mode = 4)
  match s.rst.seq with
  | none => false
  | some k => decide (domainPlace dom = k) && (!snow || decide (k ≤ 4)) || (snow && decide (k = 5) && decide (dom = .complete))

/-- What the release of a domain does. LOADSTEP changes with the entry before the marked release (R354; log 3). -/
def State.release (s : State) (dom : Domain) (straps : Nat) : State :=
  let snow := decide (s.mode = 4)
  match dom with
  | .pins => s.strapSample straps
  | .control => s.controlRelease
  | .hostPort => s.startIslands [106]
  | .ioDies => if snow then s.startIslands [88] else (s.startIslands [88, 89]).setLoadstep 1
  | .memory k =>
    let s := s.startIslands [90 + k]
    if k = 15 then s.setLoadstep 0 else s
  | .die d =>
    let s := s.startIslands (upTo (68 + 5 * d) 5)
    if d = 3 then s.setLoadstep 1 else s
  | .core p => if s.fld (blockReg p) F.RST_BLOCK_enable = 1 then s.startIslands [p.val] else s
  | .ports =>
    let s := s.startIslands (upTo 107 11)
    let s := if s.rst.opt.autoTrain % 2 = 1 then (upTo 5 7).foldl State.lnkTrain s else s
    if s.rst.opt.autoTrain / 2 % 2 = 1 then (upTo 0 4).foldl State.cxlTrain s else s
  | .complete => (s.setF rstStatus F.RST_STATUS_seq_done 1).setLoadstep 0

/-- DOMAIN_RELEASE, with the FEED_ID pins as the two halves of their sampling read them (R379). -/
def State.domainRelease (s : State) (dom : Domain) (straps : Nat) : State :=
  if !s.releaseDue dom then s else
  let s := s.setRst { s.rst with seq := if dom = .complete then none else some (domainPlace dom + 1) }
  s.release dom straps
def execDomainRelease (dom : Domain) (down up : BitVec 16) (s : State) : Host.Outcome State Fault Refusal :=
  .next (s.domainRelease dom (strapValue down.toNat up.toNat))

/-! The start of the firmware (R355 to R358). -/

/-- The failed-start count, in the always-on island and in the boot record. -/
def State.setStartCount (s : State) (n : Nat) : State :=
  (s.setFirm { s.firm with startCount := n }).setF rstStatus F.RST_STATUS_start_count (min 15 n)

/-- An image runs: what it advertises (R265, R266, R288). -/
def State.bootImage (s : State) (slot : Nat) : State :=
  let caps (s : State) (p : Nat) : State :=
    let r := reg0 .LNK_CAP p
    ((s.setF r F.LNK_CAP_proto_min (s.slotField slot 0x0C 1)).setF r F.LNK_CAP_proto_max (s.slotField slot 0x0D 1)).setF r
      F.LNK_CAP_level_mask (s.levelMask slot)
  let s := ((s.markVerified slot).setFirm { (s.markVerified slot).firm with serve := slot, stand := slot }).setRst { s.rst with booted := true }
  ((((upTo 5 7).foldl caps s).setF globalReg F.PCI_MBX_GLOBAL_fw_version (s.slotField slot 8 4)).changed 4).changed 5

/-- BOOT_ROM_CHECK: the boot slot, then the other; when neither passes, the start fails at once (R355). -/
def State.bootRom (s : State) : State :=
  if !s.rst.timer || s.rst.booted || s.clk.stopped.contains 118 || s.frosted then s else
  let a := s.rst.opt.bootSlot
  let b := 1 - a
  let ca := s.verifyImage a
  let cb := if ca = 0 then 0 else s.verifyImage b
  let s := s.setRst { s.rst with check := if a = 0 then (ca, cb) else (cb, ca) }
  if ca = 0 then s.bootImage a
  else if cb = 0 then s.bootImage b
  else (s.setStartCount (s.firm.startCount + 1)).snowbound 2
def execBootRomCheck (s : State) : Host.Outcome State Fault Refusal := .next s.bootRom

/-- The channels listed as RETIRED in the boot record are retired again, with no migration (R348). -/
def State.retireAgain (s : State) : State :=
  if !s.rst.lost then s else
  let rs := s.firm.retired
  let s := { s with hbm := { s.hbm with retires := rs } }
  let s := rs.foldl (fun (s : State) (r : Retire) =>
    ((s.setF (chReg r.chan) F.HBM_CH_STATE_slot (if r.slot < 16 then r.slot else 0)).setF (chReg r.chan) F.HBM_CH_STATE_extended (decide (16 ≤ r.slot)).toNat).setChSt
      r.chan 3) s
  (s.syncSpare).setRst { s.rst with lost := false }

/-- BOOT_OK: the count is cleared, FAULT_N is released, the watchdogs run and the module is OPERATIONAL (R353, R356, R362). -/
def State.bootDone (s : State) : State :=
  if !s.rst.timer || !s.rst.booted || decide (s.mode ≠ 0) then s else
  let s := ((s.setStartCount 0).bootEnd 0).setF rstStatus F.RST_STATUS_boot_ok 1
  let s := s.setRst { s.rst with faultLow := false }
  let s := (upTo 0 2).foldl (fun s k =>
    (s.setF (reg1 .RST_WDOG 0 k) F.RST_WDOG_running 1).setF (reg1 .RST_WDOG 0 k) F.RST_WDOG_remaining_ms s.rst.opt.wdPeriod) s
  s.retireAgain.setMode 1
def execBootOk (s : State) : Host.Outcome State Fault Refusal := .next s.bootDone

/-- BOOT_WATCHDOG_EXPIRY: the start failed (R357). -/
def execBootWatchdogExpiry (s : State) : Host.Outcome State Fault Refusal :=
  .next (if !s.rst.timer then s else ((s.setStartCount (s.firm.startCount + 1)).bootEnd 1).applyReset 4)

/-! Failover and watchdogs (R361, R362). -/

/-- The serving pair has failed: the other takes the role, or without a standby the cause is 0x02 (R361). A moved activation has
no standby either. -/
def State.servingFails (s : State) : State :=
  let old := s.servingDie
  if s.fld globalReg F.PCI_MBX_GLOBAL_standby_ready = 0 then s.frostLatch 2 0 else
  let s := s.actEnds 0x2A
  let s := (s.setFirm { s.firm with serve := s.firm.stand }).setRst { s.rst with failover := true }
  let s := (s.outageBegin (s.slotField s.firm.serve 8 4)).bumpF (reg0 .RST_FAILOVER 0) F.RST_FAILOVER_failovers
  s.blockResetReq (124 + old)

/-- The standby pair is reset and reloads (R361). -/
def State.standbyFails (s : State) : State := (s.setStandby 0).blockResetReq (124 + (1 - s.servingDie))

/-- LOCKSTEP_MISMATCH. -/
def State.mismatch (s : State) (pair : Nat) : State :=
  if !s.rst.booted || decide (s.mode = 4) && decide (pair = 1) then s
  else if s.mode = 4 then s.frostLatch 2 0
  else if s.frosted then
    if pair ≠ s.servingDie then s.setStandby 0
    else if s.fld globalReg F.PCI_MBX_GLOBAL_standby_ready = 1 then (s.setServing (1 - pair)).setStandby 0
    else (s.frostLatch 2 0).setRst { (s.frostLatch 2 0).rst with responder := true }
  else if pair = s.servingDie then s.servingFails
  else (s.edge 624).standbyFails
def execLockstepMismatch (pair : Fin 2) (s : State) : Host.Outcome State Fault Refusal := .next (s.mismatch pair)

def wdogReg (k : Nat) : Reg := reg1 .RST_WDOG 0 k
def State.wdogRuns (s : State) (k : Nat) : Bool := decide (s.fld (wdogReg k) F.RST_WDOG_running = 1)

/-- RUNTIME_WATCHDOG_EXPIRY: of the serving pair, handled as a mismatch, but a reset without a standby; of the standby, its
reset (R362). -/
def State.wdogExpire (s : State) (k : Nat) : State :=
  if !s.wdogRuns k then s
  else if k = s.servingDie then
    if s.fld globalReg F.PCI_MBX_GLOBAL_standby_ready = 0 then s.applyReset 3 else s.servingFails
  else s.standbyFails
def execRuntimeWatchdogExpiry (pair : Fin 2) (s : State) : Host.Outcome State Fault Refusal := .next (s.wdogExpire pair)

/-- WATCHDOG_HALF_PERIOD (R365). -/
def execWatchdogHalfPeriod (pair : Fin 2) (s : State) : Host.Outcome State Fault Refusal :=
  .next (if s.wdogRuns pair then s.edge 625 else s)

/-- WATCHDOG_KICK: the watchdog restarts (R362, R363). -/
def State.wdogKick (s : State) (k : Nat) : State :=
  if s.wdogRuns k then s.setF (wdogReg k) F.RST_WDOG_remaining_ms s.rst.opt.wdPeriod else s
def execWatchdogKick (pair : Fin 2) (s : State) : Host.Outcome State Fault Refusal := .next (s.wdogKick pair)

/-- STANDBY_RELOAD_DONE: a pair out of reset has loaded the serving image; failing its self-test, it stays in reset (R355,
R361). -/
def State.standbyReload (s : State) (ok : Bool) : State :=
  let k := 1 - s.servingDie
  let g := s.fld globalReg F.PCI_MBX_GLOBAL_standby_ready
  if !s.rst.booted || decide (g = 1) || decide (s.mode ≠ 0 ∧ s.mode ≠ 1) || decide (s.blockSt (124 + k) ≠ 0) ||
    (s.firm.act.any (·.moved)) then s
  else if ok then
    let s := ((s.setFirm { s.firm with stand := s.firm.serve }).changed 5).setStandby 1
    if s.mode = 1 then (s.setF (wdogReg k) F.RST_WDOG_running 1).setF (wdogReg k) F.RST_WDOG_remaining_ms s.rst.opt.wdPeriod else s
  else
    (((s.setBlock (124 + k) F.RST_BLOCK_state 2).setBlock (124 + k) F.RST_BLOCK_enable 0).stopIslands [118 + k])
def execStandbyReloadDone (ok : Bool) (s : State) : Host.Outcome State Fault Refusal := .next (s.standbyReload ok)

end Sys2Proof.Machine
end

