-- ==== Sys2Proof/Machine/Power.lean ====
section
/-! DEFINITION. The 54 V feed, the power controller, LOADSTEP ramps, the sensors and the step period (R377, R382 to R389). -/

namespace Sys2Proof.Machine

def excReg : Reg := reg0 .PWR_EXCURSION 0
def tempReg (k : Nat) : Reg := reg1 .PWR_TEMP 0 k
def State.setPwr (s : State) (x : Power) : State := { s with pwr := x }

/-! The step period (R89, R386). -/

/-- The step period that a throttle cause other than the host minimum needs. -/
def State.needOf (s : State) (c : Nat) : Nat := max 1 (tget 1 s.pwr.need c)

/-- The step period of a logical core: the largest that any cause needs, and the lowest cause that gives it, 0 for none. -/
def State.periodOf (s : State) (n : Nat) : Nat × Nat :=
  ([(1, s.needOf 1), (2, s.needOf 2), (3, s.needOf 3), (4, s.needOf 4), (5, max 1 (tget 1 s.pwr.hostMin n)), (6, s.needOf 6)]).foldl
    (fun b x => if b.1 < x.2 then (x.2, x.1) else b) (1, 0)

/-- The period of the module: the largest of any core's. -/
def State.periodMax (s : State) : Nat × Nat :=
  (upTo 0 64).foldl (fun b n => let x := s.periodOf n; if b.1 < x.1 then x else b) (1, 0)

/-- Every core's period and PWR_STATUS follow; a change raises source 608, and THROTTLE at most once every 100 µs per cause
(R386). -/
def State.syncPeriod (s : State) : State :=
  let old := s.fld pwrStatus F.PWR_STATUS_period
  let p := s.periodMax
  let s := (upTo 0 64).foldl (fun s n =>
    if s.fld (reg0 .OPE_THROTTLE n) F.OPE_THROTTLE_period = (s.periodOf n).1 then s
    else s.setF (reg0 .OPE_THROTTLE n) F.OPE_THROTTLE_period (s.periodOf n).1) s
  let s := (s.setF pwrStatus F.PWR_STATUS_period p.1).setF pwrStatus F.PWR_STATUS_cause p.2
  if p.1 = old then s else
  let s := s.edge 608
  let soon := s.pwr.toldAt.any (fun x => decide (x.1 = p.2) && decide (s.clk.refTime < x.2 + 100000))
  if soon then s else
  (s.setPwr { s.pwr with toldAt := tput p.2 s.clk.refTime s.pwr.toldAt }).event 120 0x0900 [(p.1, 1), (p.2, 1)]

/-- A cause's need changed. -/
def State.setNeed (s : State) (c n : Nat) : State := (s.setPwr { s.pwr with need := tput c n s.pwr.need }).syncPeriod

/-! The supply (R377, R382, R383, R388). -/

/-- REFCLK_LOSS: 10 µs without edges (R377). -/
def execRefclkLoss (s : State) : Host.Outcome State Fault Refusal :=
  .next ((s.setF pwrStatus F.PWR_STATUS_refclk_lost 1).frostLatch 8 0)

/-- The range of an input voltage: 0 below 40 V, 1 below 47 V, 2 below 48 V, 3 rated, 4 up to 59 V, 5 above. -/
def supplyRange (mv : Nat) : Nat :=
  if mv < 40000 then 0 else if mv < 47000 then 1 else if mv < 48000 then 2 else if mv ≤ 58000 then 3 else if mv ≤ 59000 then 4 else 5

/-- The input voltage moves: entries counted, a ridden excursion counted when it ends, a power-on reset below 40 V, and cause 4
while the supply is low (R382). -/
def State.supplyChange (s : State) (mv : Nat) : State :=
  let old := supplyRange s.pwr.mv
  let r := supplyRange mv
  let started := !s.rst.waiting
  let s := (s.setPwr { s.pwr with mv := mv }).setF pwrStatus F.PWR_STATUS_input_mv (min 65535 mv)
  if r = 0 then s.applyReset 0 else
  let s := if s.pwr.out ∧ 1 < r ∧ r < 5 then (s.bumpF excReg F.PWR_EXCURSION_rides).setPwr { s.pwr with out := false } else s
  let s := if r ≠ old ∧ r = 2 then s.bumpF excReg F.PWR_EXCURSION_low else s
  let s := if r ≠ old ∧ r = 4 then s.bumpF excReg F.PWR_EXCURSION_high else s
  let s := if started ∧ (r = 1 ∨ r = 5) then s.setPwr { s.pwr with out := true } else s
  if r = 2 ∨ tget 1 s.pwr.need 4 ≤ 1 then s else s.setNeed 4 1
/-- SUPPLY_RANGE_CHANGE: a voltage beyond an absolute maximum rating has the effect of its range, and the excursion drives the module
into frost state as any other (R382, R388). -/
def execSupplyRangeChange (mv : BitVec 32) (s : State) : Host.Outcome State Fault Refusal := .next (s.supplyChange mv.toInt.toNat)

/-- SUPPLY_EXCURSION_TIMEOUT: out of range for more than 20 µs after release (R341, R382). -/
def execSupplyExcursionTimeout (s : State) : Host.Outcome State Fault Refusal :=
  .next (if s.pwr.out then (s.setPwr { s.pwr with out := false }).frostLatch 5 0 else s)

/-- LIVE_FEED_CONNECT: inrush is limited to 10 A until the input capacitance is charged (R383). The limit ends with the first
reading of the sensors. -/
def execLiveFeedConnect (s : State) : Host.Outcome State Fault Refusal := .next (s.setPwr { s.pwr with inrush := true })

/-! The sensors (R386). -/

/-- The period that the temperatures need (cause 1). -/
def thermalNeed (ts : List Int) : Nat :=
  let of (k : Nat) : Int := (ts[k]?).getD 0
  let hot := ((upTo 0 40 ++ upTo 56 8).map of).foldl max (-32768)
  let a := if hot < 1040 then 1 else 2 + ((hot - 1040) / 10).toNat
  let b := if (upTo 40 16).any (fun k => decide (950 ≤ of k)) then 4 else 1
  min 16 (max a b)

/-- SENSOR_READING: every sensor, the hottest junction, refresh, warnings, the step period, and frost from 115 °C (R386). An
evaluation with fewer than 64 sensors is none. -/
def State.sensorRead (s : State) (ts : List Int) (w : Periods) : State :=
  if ts.length ≠ 64 then s else
  let old := s.pwr.warned
  let s := (mapFrom 0 (fun k (t : Int) => (k, t)) ts).foldl (fun s x =>
    let r := tempReg x.1
    let top := max x.2 (BitVec.ofNat 16 (s.fld r F.PWR_TEMP_max)).toInt
    (s.setF r F.PWR_TEMP_temp (unsignedOf 16 x.2)).setF r F.PWR_TEMP_max (unsignedOf 16 top)) s
  let hot := ts.foldl max (-32768)
  let warm := (upTo 0 64).filter (fun k => decide (1000 ≤ (ts[k]?).getD 0))
  let new := warm.filter (fun k => !old.contains k)
  let s := (s.setF pwrStatus F.PWR_STATUS_hottest (unsignedOf 16 hot)).setF pwrStatus F.PWR_STATUS_input_w w.watts.toNat
  let s := s.setPwr { s.pwr with
    hot := !warm.isEmpty || (s.pwr.hot && ts.any (fun t => decide (980 ≤ t))), warned := warm, amps := w.amps.toNat, inrush := false
    refresh2 := (upTo 0 16).filter (fun k => decide (850 ≤ (ts[40 + k]?).getD 0))
    need := ([(1, thermalNeed ts), (2, w.sustained.val), (3, w.peak.val), (4, w.supply.val), (6, w.ramp.val)]).foldl
      (fun t x => tput x.1 x.2 t) s.pwr.need }
  let s := new.foldl (fun s k => s.event 120 0x0901 [(k, 1), (unsignedOf 16 ((ts[k]?).getD 0), 2)]) s
  let s := s.syncPeriod
  match (upTo 0 64).find? (fun k => decide (1150 ≤ (ts[k]?).getD 0)) with
  | some k => s.frostLatch 6 (BitVec.ofNat 128 k)
  | none => s
def execSensorReading (temps : List (BitVec 16)) (needed : Periods) (s : State) : Host.Outcome State Fault Refusal :=
  .next (s.sensorRead (temps.map BitVec.toInt) needed)

/-! Limits (R384). -/

/-- PEAK_LIMIT: the estimate reaches 4,400 W; the period that the controller chooses is counted and applied. -/
def execPeakLimit (period : Fin 17) (s : State) : Host.Outcome State Fault Refusal :=
  .next ((s.bumpF excReg F.PWR_EXCURSION_peaks).setNeed 3 period)

/-- EXCURSION_LIMIT_EXPIRY: 5 ms above the sustained limit; the power is brought to the limit. -/
def execExcursionLimitExpiry (period : Fin 17) (s : State) : Host.Outcome State Fault Refusal :=
  .next (s.setNeed 2 period)

/-! LOADSTEP ramps (R385). -/

/-- LOADSTEP_ANNOUNCE: a larger change is announced before its ramp; in frost, and while a code is shown, none is. -/
def execLoadstepAnnounce (rise : Bool) (target : BitVec 16) (s : State) : Host.Outcome State Fault Refusal :=
  .next (
    if s.frosted || decide (s.fld pwrStatus F.PWR_STATUS_loadstep ≠ 0) then s else
    (s.setLoadstep (if rise then 1 else 2)).setPwr { s.pwr with target := some target.toNat, ramping := false })

/-- LOAD_RAMP_START: after loadstep_lead. -/
def execLoadRampStart (s : State) : Host.Outcome State Fault Refusal :=
  .next (if s.pwr.target.isSome then s.setPwr { s.pwr with ramping := true } else s)

/-- LOAD_RAMP_END: at its target, or at the power reached where the demand changed. -/
def execLoadRampEnd (power : BitVec 16) (s : State) : Host.Outcome State Fault Refusal :=
  .next (
    if s.pwr.target.isNone || !s.pwr.ramping then s else
    let s := (s.setPwr { s.pwr with target := none, ramping := false }).setLoadstep 0
    (s.setF pwrStatus F.PWR_STATUS_input_w power.toNat).setNeed 6 1)

end Sys2Proof.Machine
end

