-- ==== Sys2Proof/Machine/Management.lean ====
section
/-! DEFINITION. The management target on the I3C port (R380, R381). -/

namespace Sys2Proof.Machine

def State.setMgmt (s : State) (x : Mgmt) : State := { s with mgmt := x }

/-- ENTDAA: a dynamic address for a target that has none; with one, it is no I2C target (R380, R381). -/
def execEntdaa (addr : BitVec 7) (s : State) : Host.Outcome State Fault Refusal :=
  .next (if s.mgmt.dyn.isSome then s else s.setMgmt { s.mgmt with dyn := some addr.toNat, alert := false })

/-- SETDASA from the static address 0x2C. -/
def execSetdasa (static7 addr : BitVec 7) (s : State) : Host.Outcome State Fault Refusal :=
  .next (
    if s.mgmt.dyn.isSome ∨ static7 ≠ 0x2C then s else s.setMgmt { s.mgmt with dyn := some addr.toNat, alert := false })

def execRstdaa (s : State) : Host.Outcome State Fault Refusal := .next (s.setMgmt { s.mgmt with dyn := none, ibi := none })
def execEnec (s : State) : Host.Outcome State Fault Refusal := .next (s.setMgmt { s.mgmt with events := true })
def execDisec (s : State) : Host.Outcome State Fault Refusal :=
  .next (s.setMgmt { s.mgmt with events := false, ibi := none })

/-- What the target drives on the bus. A direct CCC to a target without a dynamic address is not acknowledged. -/
def State.mgmtAnswer (s : State) (bs : List Byte) : State :=
  if s.mgmt.dyn.isNone then { s with rbytes := [], rstatus := .refused } else { s with rbytes := bs, rstatus := .ok }

/-- GETPID: the low 32 bits are those of the serial number. -/
def execGetpid (s : State) : Host.Outcome State Fault Refusal :=
  .next (s.mgmtAnswer (leBytes (Config.fuseSerial.toNat % 2 ^ 32 + Config.mgmtPidHigh.toNat * 2 ^ 32) 6))
def execGetbcr (s : State) : Host.Outcome State Fault Refusal := .next (s.mgmtAnswer [Config.mgmtBcr])
def execGetdcr (s : State) : Host.Outcome State Fault Refusal := .next (s.mgmtAnswer [Config.mgmtDcr])
/-- GETSTATUS: two bytes whose contents the manual leaves to I3C (log 10). -/
def execGetstatus (s : State) : Host.Outcome State Fault Refusal :=
  .next (let f := s.free; f.1.mgmtAnswer (leBytes f.2.toNat 2))
def execGetmxds (s : State) : Host.Outcome State Fault Refusal := .next (s.mgmtAnswer (leBytes Config.mgmtMxds.toNat 2))

/-- A write of one byte sets the read pointer (R381). -/
def execMgmtPointerWrite (b : BitVec 8) (s : State) : Host.Outcome State Fault Refusal :=
  .next (s.setMgmt { s.mgmt with ptr := b.toNat, sample := [] })

/-- The 16 bytes of the management target. -/
def State.mgmtBytes (s : State) : List Byte :=
  let p (f : Fld) : Nat := s.fld pwrStatus f
  leBytes s.mode 1 ++ leBytes (s.fld rstStatus F.RST_STATUS_frost_cause) 1 ++ leBytes (p F.PWR_STATUS_hottest) 2 ++
    leBytes (p F.PWR_STATUS_input_w) 2 ++ leBytes (p F.PWR_STATUS_input_mv) 2 ++
    leBytes (p F.PWR_STATUS_loadstep + s.rst.faultLow.toNat * 4 + p F.PWR_STATUS_period * 8) 1 ++
    leBytes s.firm.startCount 1 ++ leBytes s.fab.id 2 ++ leBytes s.rst.strap 2 ++ zeros 2

/-- MGMT_READ: the byte at the pointer, which moves on; a two-byte field is sampled with its first byte, a read past 0x0F
returns zero, and a read of byte 0x00 releases MGMT_ALERT_N (R381). -/
def State.mgmtRead (s : State) : State :=
  let g := s.mgmt
  let k := g.ptr
  let bs := s.mgmtBytes
  let two := ([2, 4, 6, 10, 12, 14] : List Nat).contains k
  let b : Byte := match g.sample with
    | x :: _ => x
    | [] => (bs[k]?).getD 0
  let s := s.setMgmt { g with
    ptr := min 255 (k + 1), sample := if g.sample.isEmpty && two then (bs.drop (k + 1)).take 1 else []
    alert := g.alert && decide (k ≠ 0) }
  { s with rbytes := [b], rstatus := .ok }
def execMgmtRead (s : State) : Host.Outcome State Fault Refusal := .next s.mgmtRead

end Sys2Proof.Machine
end

