-- ==== Sys2Proof/Machine/StateObjects.lean ====
section
/-! DEFINITION. The objects that READ_STATE and WRITE_STATE name (R304 to R306). The manual gives what each holds and not where;
the places are the model's (log 13). -/

namespace Sys2Proof.Machine

/-- Register values as bytes. -/
def State.regList (s : State) (rs : List Reg) : List Byte := rs.flatMap (fun r => leBytes (s.rd r).toNat 8)

/-- The size of a register window, by its base (R30). -/
def windowSize (a : Nat) : Option Nat :=
  if 0x300000000000 ≤ a ∧ a < 0x300000400000 ∧ a % 0x10000 = 0 then some 0x10000
  else if 0x301000000000 ≤ a ∧ a < 0x301000180000 ∧ a % 0x10000 = 0 then some 0x10000
  else if 0x301000200000 ≤ a ∧ a < 0x301000600000 ∧ a % 0x100000 = 0 then some 0x100000
  else if a = 0x301001000000 then some 0x1000000
  else if 0x301002000000 ≤ a ∧ a < 0x301002C00000 ∧ a % 0x100000 = 0 then some 0x100000
  else none

/-- The registers of a block as bytes from an offset: zero where no register lies. -/
def State.blockBytes (s : State) (a o len : Nat) : List Byte :=
  let first := o / 8
  let words := (upTo first (len / 8 + 2)).flatMap (fun k =>
    leBytes (((regAt (a + 8 * k)).map (fun r => (s.rd r).toNat)).getD 0) 8)
  (words.drop (o % 8)).take len

/-- An engine's stream: program counter, end, loop levels, pending SIGTOKs, queue. -/
def State.streamBytes (s : State) (ve : Bool) (n : Nat) : List Byte :=
  let st := if ve then (s.ve n).st else (s.ope n).st
  let sigs := if ve then [] else (s.ope n).sigs
  s.regList [pcReg ve n, endReg ve n] ++
    s.regList ((upTo 0 4).flatMap (fun j => [loopReg ve n j, loopEndReg ve n j])) ++
    leBytes sigs.length 4 ++ sigs.flatMap (fun g => leBytes g.ref 2 ++ leBytes g.n 2 ++ leBytes g.upto 4) ++
    leBytes st.q.length 4 ++ st.q.flatMap (fun e => leBytes e.pc 4 ++ leBytes e.bytes.length 4 ++ e.bytes)

/-- The registers of a move queue. -/
def queueRegs (n m : Nat) : List Reg :=
  [reg1 .MOV_Q_BASE n m, reg1 .MOV_Q_CFG n m, reg1 .MOV_Q_TAIL n m, reg1 .MOV_Q_HEAD n m, reg1 .MOV_Q_ERR n m, reg1 .MOV_Q_CANCEL n m,
    reg1 .MOV_Q_CANCEL_TOK n m]

/-- The move queues of a core: registers, then fetched descriptors. -/
def State.queueBytes (s : State) (n : Nat) : List Byte :=
  s.regList (reg0 .MOV_CTRL n :: reg0 .MOV_HOLD n :: (upTo 0 8).flatMap (queueRegs n)) ++
    (upTo 0 8).flatMap (fun m =>
      let ds := (s.que n m).started.map (fun d => (d.idx, d.d)) ++ (s.que n m).fetched
      leBytes ds.length 4 ++ ds.flatMap (fun d => leBytes d.1 4 ++ leBytes d.2 64))

/-- The tokens of an index: scope * 256 + number. -/
def tokensAt (idx : Nat) : Option (List Tok) :=
  let k := idx % 256
  match idx / 256 with
  | 0 => if k < 64 then some (unitToks 0 k) else none
  | 1 => if k < 16 then some (unitToks 1 k) else none
  | 2 => if k < 8 then some (unitToks 2 k) else none
  | 3 => if k < 4 then some (unitToks 3 k) else none
  | 4 => if k = 0 then some (unitToks 4 0) else none
  | _ => none

def State.genBytes (s : State) (n : Nat) : List Byte := (s.ve n).gens.flatMap Gen.bytes ++ (s.ope n).gens.flatMap Gen.bytes

/-- Channel states, copy pointers and redirect holder lists. -/
def State.channelBytes (s : State) : List Byte :=
  s.regBytes .HBM_CH_STATE 1024 ++ leBytes s.hbm.retires.length 4 ++ s.hbm.retires.flatMap (fun r =>
    leBytes r.chan 2 ++ leBytes r.slot 1 ++ leBytes r.repair.toNat 1 ++ leBytes r.groups.length 4 ++ r.groups.flatMap (fun g => leBytes g 4) ++
      leBytes r.holders.length 4 ++ r.holders.flatMap (fun h => leBytes h 2))

/-- A port's registers. -/
def State.portBytes (s : State) (p : Nat) : List Byte :=
  if p = 0 then s.regList ([reg0 .PCI_STATUS 0, reg0 .PCI_HOST_WIN 0, reg0 .PCI_REG_APERTURE 0] ++ (upTo 0 4).map (reg1 .PCI_APERTURE 0))
  else if p < 5 then s.regList [reg0 .CXL_STATUS p, reg0 .CXL_CTRL p, reg0 .CXL_ERR p]
  else s.regList ([reg0 .LNK_CTRL p, reg0 .LNK_STATUS p, reg0 .LNK_CAP p, reg0 .LNK_PEER_CAP p, reg0 .LNK_ERR p, reg0 .LNK_HB p] ++
    (upTo 0 3).map (reg1 .LNK_CREDIT p) ++ (upTo 0 8).map (reg1 .LNK_LANE p))

/-- A processor's threshold and status, then the pending and the enable bits of the 768 sources for it: bit i for source i (R304,
R375). -/
def State.interruptBytes (s : State) (t : Nat) : List Byte :=
  let bits (f : Nat → Bool) : List Byte := (upTo 0 96).map (fun k => BitVec.ofNat 8 (((upTo 0 8).filter (fun b => f (8 * k + b))).map (2 ^ ·)).sum)
  let pend := s.pendingSources
  leBytes (s.rd (thresholdReg t)).toNat 8 ++ leBytes (s.icuStatus t).toNat 8 ++ bits (fun i => s.routed i t && pend.contains i) ++ bits (fun i => s.routed i t && decide (s.prioOf i ≠ 0))

/-- The context table of a core. -/
def State.contextBytes (s : State) (n : Nat) : List Byte :=
  let x := s.slice n
  leBytes x.cur 1 ++ zeros 7 ++ (upTo 0 8).flatMap (fun c => match x.ctx c with
    | some k => leBytes 1 1 ++ leBytes (!k.image.isEmpty).toNat 1 ++ zeros 2 ++ leBytes k.first 4 ++ leBytes k.lines 4 ++ zeros 4 ++ leBytes k.save 8
    | none => zeros 24)

/-- Membership, pairing and step state: committed step, committed index per tensor, bucket table with counts, pair table (R320). -/
def State.stepBytes (s : State) : List Byte :=
  let t := s.train
  s.memberBytes ++ leBytes t.step 8 ++ leBytes ((t.record.map (fun r => r.step.toNat)).getD (2 ^ 64 - 1)) 8 ++ leBytes t.idx.length 4 ++
    t.idx.flatMap (fun k => leBytes k 4) ++ leBytes t.buckets.length 4 ++ t.buckets.flatMap (fun b =>
      leBytes b.base 8 ++ leBytes b.elements 4 ++ leBytes b.tok 2 ++ leBytes b.sealCount 4 ++ leBytes b.localCount 4 ++ leBytes b.reducedCount 4 ++
        leBytes b.reducedBase 8) ++
    leBytes s.surv.pairs.length 4 ++ s.surv.pairs.flatMap (fun p => leBytes p.1 2 ++ leBytes p.2.1 2 ++ leBytes p.2.2.toNat 1)

/-- A die's streamer: its registers, then its 65,536 slot states. -/
def State.streamerBytes (s : State) (d : Nat) : List Byte :=
  s.regList ([reg0 .WIN_CTRL d, reg0 .WIN_SCHED d, reg0 .WIN_WINDOW d, reg0 .WIN_STATUS d, reg0 .WIN_STEP d, reg0 .WIN_CANCEL d] ++
    (upTo 0 4).flatMap (fun r => [reg1 .WIN_REPLICA d r, reg1 .WIN_REPLICA_SIZE d r, reg1 .WIN_REPLICA_ALT d r])) ++
    (upTo 0 8192).flatMap (fun k => leBytes (s.rd (reg1 .WIN_SLOT_STATUS d k)).toNat 4)

/-! The scalar processor: registers, CSRs, instruction memory from byte 512, data memory from byte 66,048. -/

def State.scalarHead (s : State) (n : Nat) : List Byte :=
  let x := s.sca n
  ((upTo 0 32).flatMap (fun r => leBytes (tget 0 x.x r).toNat 4) ++ leBytes x.pc.toNat 4 ++
    leBytes (x.mie.toNat + x.mpie.toNat * 2 + x.meie.toNat * 4) 4 ++
    [x.mtvec, x.mepc, x.mcause, x.mtval, x.mscratch, x.toksel, x.qsel].flatMap (fun v => leBytes v.toNat 4) ++
    leBytes x.cycleOff.toNat 8 ++ leBytes x.instret.toNat 8 ++ zeros 512).take 512
def State.scalarBytes (s : State) (n : Nat) : List Byte :=
  s.scalarHead n ++ readBytes (s.sca n).imem 0 0x10000 ++ readBytes (s.sca n).dmem 0 0x10000
def State.scalarPut (s : State) (n : Nat) (bs : List Byte) : State :=
  let w (o : Nat) : BitVec 32 := BitVec.ofNat 32 (at_ bs o 4)
  let fl := at_ bs 132 4
  s.setSca n { s.sca n with
    x := (upTo 1 31).map (fun r => (r, w (4 * r))), pc := w 128, mie := fl.testBit 0, mpie := fl.testBit 1, meie := fl.testBit 2
    mtvec := w 136, mepc := w 140, mcause := w 144, mtval := w 148, mscratch := w 152, toksel := w 156, qsel := w 160
    cycleOff := BitVec.ofNat 64 (at_ bs 164 8), instret := BitVec.ofNat 64 (at_ bs 172 8)
    imem := writeBytes [] 0 ((bs.drop 512).take 0x10000), dmem := writeBytes [] 0 ((bs.drop 0x10200).take 0x10000) }

/-! Memory: a page number from 0, with the spare reserve, or 2^31 plus a logical core for its tile memory. -/

/-- The address and size of a memory object. -/
def memObject (idx : Nat) : Option (Nat × Nat) :=
  if idx < 5242880 then some (idx * 0x40000, 0x40000)
  else if 0x80000000 ≤ idx ∧ idx < 0x80000040 then some (slotBase (idx - 0x80000000), slotSize)
  else none

/-- The address whose byte lies at an address of the spare reserve: of the chunk redirected there, if any (R212). -/
def State.reserveAddr (s : State) (a : Nat) : Nat := s.copyAddr (chanOf a) (a / 0x200000) + a % 2048

/-- Bytes of a memory object, and whether any is uncorrectable or poisoned: those read as zero. -/
def State.memoryBytes (s : State) (a len : Nat) : List Byte × Bool :=
  let bad (x : Nat) : Bool :=
    if x < 0x13B00000000 then (s.cacheLine x).isNone && !s.released x && s.burstPoison x
    else if a < 0x14000000000 then s.burstPoison (s.reserveAddr x)
    else s.badWords.contains (x / 8 * 8)
  let xs := upTo a len
  (xs.map (fun x => if bad x then 0 else if x < 0x13B00000000 ∧ s.released x then 0
    else if 0x13B00000000 ≤ x ∧ x < 0x14000000000 then cget s.mem (s.reserveAddr x) else cget s.mem x), xs.any bad)

/-! The table of kinds (R304). -/

/-- The save area's line and size in lines (R92, R96). -/
def State.saveSpan (s : State) (n : Nat) : Nat × Nat :=
  (s.fld (reg0 .OPE_SAVE_BASE n) F.OPE_SAVE_BASE_save_line_hi * 32,
    if s.fld (reg0 .OPE_CTRL n) F.OPE_CTRL_save_gutter = 1 then 20800 else 8512)

/-- Events of the log from a sequence number on. -/
def State.eventBytes (s : State) (seq : Nat) : List Byte :=
  (s.mbx.evlog.filter (fun e => decide (seq ≤ e.1))).flatMap (·.2)

/-- The index of an object is in range. -/
def objIndex (kind idx : Nat) : Bool :=
  match kind with
  | 0x01 => (windowSize idx).isSome
  | 0x02 => decide (idx < 256)
  | 0x03 | 0x05 | 0x06 | 0x0F | 0x12 => decide (idx < 64)
  | 0x04 => (tokensAt idx).isSome
  | 0x07 => decide (idx < 1024)
  | 0x08 | 0x09 | 0x0A | 0x0D | 0x10 | 0x15 => decide (idx = 0)
  | 0x0B => decide (idx < 12)
  | 0x0C => decide (idx < 66)
  | 0x0E => true
  | 0x11 => decide (idx < 4)
  | 0x13 => (memObject idx).isSome
  | 0x14 => decide (idx < 2)
  | _ => false

/-- No drain is converting. -/
def State.noDrain (s : State) (n : Nat) : Bool := (s.ope n).drain.isNone

/-- The condition of a kind for reading (R304). -/
def State.objReady (s : State) (kind idx : Nat) : Bool :=
  match kind with
  | 0x05 => decide (2 ≤ s.engSt false idx)
  | 0x06 => decide (s.engSt true idx ≠ 1) && s.noDrain idx
  | 0x12 => (s.sca idx).held
  | _ => true

/-- The bytes of an object from an offset, up to its end; memory tells whether some are uncorrectable. -/
def State.objBytes (s : State) (kind idx o len : Nat) : List Byte × Bool :=
  let cut (bs : List Byte) : List Byte × Bool := ((bs.drop o).take len, false)
  match kind with
  | 0x01 => (s.blockBytes idx o (min len (((windowSize idx).getD 0) - o)), false)
  | 0x02 => cut (match idx % 4 with
    | 0 => s.streamBytes false (idx / 4)
    | 1 => s.streamBytes true (idx / 4)
    | 2 => s.queueBytes (idx / 4)
    | _ => leBytes (s.sca (idx / 4)).pc.toNat 4)
  | 0x03 => cut (s.queueBytes idx)
  | 0x04 => cut (s.regList (((tokensAt idx).getD []).map tokReg))
  | 0x05 =>
    let x := s.saveSpan idx
    (s.tmRead idx (x.1 * 128 + o) (min len (x.2 * 128 - o)), false)
  | 0x06 => cut (s.genBytes idx)
  | 0x07 => cut (tget [] (s.ve (idx / 16)).slots (idx % 16))
  | 0x08 => cut (s.regBytes .CP_CORE_REMAP 64)
  | 0x09 => cut (s.regBytes .HBM_PMAP 4096)
  | 0x0A => cut s.channelBytes
  | 0x0B => cut (s.portBytes idx)
  | 0x0C => cut (s.interruptBytes idx)
  | 0x0D => cut s.mbx.errlog.flatten
  | 0x0E => cut (s.eventBytes idx)
  | 0x0F => cut (s.contextBytes idx)
  | 0x10 => cut s.stepBytes
  | 0x11 => cut (s.streamerBytes idx)
  | 0x12 => cut (s.scalarBytes idx)
  | 0x13 =>
    let x := (memObject idx).getD (0, 0)
    s.memoryBytes (x.1 + o) (min len (x.2 - o))
  | 0x14 => cut (s.slotBytes idx 0 0x2000 ++ leBytes (s.firm.verified.contains idx).toNat 1 ++ leBytes s.firm.svn 1)
  | 0x15 => cut s.frost.bytes
  | _ => ([], false)

/-- No engine of a core is RUNNING. -/
def State.coreStill (s : State) (n : Nat) : Bool :=
  decide (s.engSt false n ≠ 1) && decide (s.engSt true n ≠ 1) && (upTo 0 8).all (fun m => decide (s.qSt n m ≠ 1))

/-- The object lies in one island whose target is not RUNNING: it is copied as of one moment (R305). -/
def State.objAtomic (s : State) (kind idx : Nat) : Bool :=
  match kind with
  | 0x01 => if idx < 0x300000400000 then s.coreStill ((idx - 0x300000000000) / 0x10000) else true
  | 0x02 => if idx % 4 = 0 then decide (s.engSt false (idx / 4) ≠ 1) else if idx % 4 = 1 then decide (s.engSt true (idx / 4) ≠ 1)
    else s.coreStill (idx / 4)
  | 0x03 => (upTo 0 8).all (fun m => decide (s.qSt idx m ≠ 1))
  | 0x04 => if idx < 256 then s.coreStill idx else true
  | 0x05 => true
  | 0x06 => decide (s.engSt false idx ≠ 1)
  | 0x07 => decide (s.engSt true (idx / 16) ≠ 1)
  | 0x0A => false
  | 0x11 => decide (s.winState idx ≠ 1)
  | 0x13 => decide (0x80000000 ≤ idx) && s.coreStill (idx - 0x80000000)
  | _ => true

/-! Writing (R306). -/

/-- The kinds that can be written. -/
def objWritable (kind idx : Nat) : Bool :=
  match kind with
  | 0x02 => decide (idx % 4 < 2)
  | 0x04 | 0x05 | 0x06 | 0x07 | 0x12 => true
  | 0x13 => decide (idx < 0x13B00000000 / 0x40000) || decide (0x80000000 ≤ idx)
  | _ => false

/-- The condition of a kind for writing (R304, R306). -/
def State.objWriteReady (s : State) (kind idx : Nat) : Bool :=
  match kind with
  | 0x02 => decide (s.engSt (decide (idx % 4 = 1)) (idx / 4) = 0)
  | 0x05 => decide (s.engSt false idx = 0)
  | k => s.objReady k idx

/-- Bytes laid over others from an offset. -/
def overlay (old : List Byte) (o : Nat) (bs : List Byte) : List Byte :=
  let pad := old ++ zeros (o - old.length)
  pad.take o ++ bs ++ pad.drop (o + bs.length)

/-- An object written from an offset. -/
def State.objPut (s : State) (kind idx o : Nat) (bs : List Byte) : State :=
  match kind with
  | 0x02 =>
    let ve := decide (idx % 4 = 1)
    let n := idx / 4
    let v := overlay (s.regList [pcReg ve n, endReg ve n]) o bs
    s.setProgram ve n (at_ v 0 8) (at_ v 8 8)
  | 0x04 =>
    let ts := (tokensAt idx).getD []
    let v := overlay (s.regList (ts.map tokReg)) o bs
    (mapFrom 0 (fun i t => (i, t)) ts).foldl (fun s x => s.wr (tokReg x.2) (BitVec.ofNat 64 (at_ v (8 * x.1) 8 % 2 ^ 17))) s
  | 0x05 =>
    let x := s.saveSpan idx
    s.tmWrite idx (x.1 * 128 + o) (bs.take (x.2 * 128 - o))
  | 0x06 =>
    let v := overlay (s.genBytes idx) o bs
    let gs (k : Nat) : List Gen := (upTo k 256).map (fun i => (Gen.ofBytes ((v.drop (16 * i)).take 16)).fix)
    (s.setVe idx { s.ve idx with gens := gs 0 }).setOpe idx { s.ope idx with gens := gs 256 }
  | 0x07 =>
    let n := idx / 16
    s.setVe n { s.ve n with slots := tput (idx % 16) (overlay (tget [] (s.ve n).slots (idx % 16)) o bs) (s.ve n).slots }
  | 0x12 => s.scalarPut idx (overlay (s.scalarBytes idx) o bs)
  | 0x13 =>
    let x := (memObject idx).getD (0, 0)
    let bs := bs.take (x.2 - o)
    if 0x80000000 ≤ idx then s.tmWrite (idx - 0x80000000) o bs else s.stackedWrite (x.1 + o) bs 0 1
  | _ => s

end Sys2Proof.Machine
end

