-- ==== Sys2Proof/Machine/UlmasTelemetry.lean ====
section
/-! DEFINITION. The telemetry, state and power commands of the Ulmas interface (R300, R304 to R306, R384, R386). -/

namespace Sys2Proof.Machine

/-! Counter sets (R300); the order of the counters in a set is the model's (log 13). -/

/-- A counter: its register and its field. -/
structure Ctr where
  reg : Reg
  fld : Fld
  deriving DecidableEq, Repr

def whole : Fld := ⟨0, 64⟩

/-- The counters of a set: 0 stalls, 1 ECC, 2 links, 3 cache, 4 power and thermal. -/
def telemetrySet (k : Nat) : List Ctr :=
  match k with
  | 0 => (upTo 0 64).flatMap (fun n =>
      [RegName.OPE_STALL, .VE_STALL, .MOV_STALL].flatMap (fun nm => (upTo 0 12).map (fun c => ⟨reg1 nm n c, whole⟩)))
  | 1 => (upTo 0 64).flatMap (fun n =>
      [⟨reg0 .TM_ECC_STATUS n, F.TM_ECC_STATUS_corrected⟩, ⟨reg0 .TM_ECC_STATUS n, F.TM_ECC_STATUS_uncorrectable⟩]) ++
      (upTo 0 1024).flatMap (fun c =>
        [⟨chReg c, F.HBM_CH_STATE_corrected⟩, ⟨chReg c, F.HBM_CH_STATE_uncorrectable⟩])
  | 2 => (upTo 5 7).flatMap (fun p =>
      [⟨reg0 .LNK_ERR p, F.LNK_ERR_uncorrectable⟩, ⟨reg0 .LNK_ERR p, F.LNK_ERR_crc_fail⟩, ⟨reg0 .LNK_ERR p, F.LNK_ERR_replays⟩,
        ⟨reg0 .LNK_ERR p, F.LNK_ERR_naks_sent⟩] ++ (upTo 0 3).map (fun c => ⟨reg1 .LNK_CREDIT p c, F.LNK_CREDIT_timeouts⟩) ++
        (upTo 0 8).map (fun l => ⟨reg1 .LNK_LANE p l, F.LNK_LANE_corrected⟩)) ++
      (upTo 1 4).flatMap (fun k =>
        [⟨reg0 .CXL_ERR k, F.CXL_ERR_poisoned⟩, ⟨reg0 .CXL_ERR k, F.CXL_ERR_timeouts⟩, ⟨reg0 .CXL_ERR k, F.CXL_ERR_crc_retries⟩])
  | 3 => (upTo 0 16).flatMap (fun k => [⟨reg1 .MSC_STATS 0 k, F.MSC_STATS_hits⟩, ⟨reg1 .MSC_STATS 0 k, F.MSC_STATS_misses⟩])
  | 4 =>
    [⟨pwrStatus, F.PWR_STATUS_input_mv⟩, ⟨pwrStatus, F.PWR_STATUS_input_w⟩, ⟨pwrStatus, F.PWR_STATUS_hottest⟩,
      ⟨pwrStatus, F.PWR_STATUS_loadstep⟩, ⟨pwrStatus, F.PWR_STATUS_period⟩, ⟨pwrStatus, F.PWR_STATUS_cause⟩,
      ⟨excReg, F.PWR_EXCURSION_rides⟩, ⟨excReg, F.PWR_EXCURSION_low⟩, ⟨excReg, F.PWR_EXCURSION_high⟩,
      ⟨excReg, F.PWR_EXCURSION_peaks⟩] ++
      (upTo 0 64).flatMap (fun k => [⟨tempReg k, F.PWR_TEMP_temp⟩, ⟨tempReg k, F.PWR_TEMP_max⟩])
  | _ => []

def State.ctr (s : State) (c : Ctr) : Nat := s.fld c.reg c.fld

/-- A counter cleared: a count goes to zero, the largest temperature to the present one, a measured value stays (R9, R389). -/
def State.ctrClear (s : State) (c : Ctr) : State :=
  match c.reg.name with
  | .PWR_STATUS => s
  | .PWR_TEMP => if c.fld = F.PWR_TEMP_max then s.setF c.reg c.fld (s.fld c.reg F.PWR_TEMP_temp) else s
  | _ => if s.ctr c = 0 then s else s.setF c.reg c.fld 0

/-- TELEMETRY_READ: RC fields are copied without clearing. -/
def execTelemetryReadCmd (m : Fin 16) (s : State) : Host.Outcome State Fault Refusal :=
  .next (s.command m 0x0700 [(8, 2), (16, 8)] (fun s e _ =>
    if 4 < arg e 8 2 then (s, bad 8) else
    toBuf s (arg e 16 8) ((telemetrySet (arg e 8 2)).flatMap (fun c => leBytes (s.ctr c) 8)) ok))

/-- COUNTERS_CLEAR. -/
def execCountersClearCmd (m : Fin 16) (s : State) : Host.Outcome State Fault Refusal :=
  .next (s.command m 0x0701 [(8, 2)] (fun s e _ =>
    if 4 < arg e 8 2 then (s, bad 8) else ((telemetrySet (arg e 8 2)).foldl State.ctrClear s, ok)))

/-- THRESHOLD_SET: 0 is off; the event comes at the next crossing. -/
def execThresholdSetCmd (m : Fin 16) (s : State) : Host.Outcome State Fault Refusal :=
  .next (s.command m 0x0702 [(8, 2), (10, 2), (16, 8)] (fun s e _ =>
    let v := arg e 16 8
    let key := arg e 8 2 * 65536 + arg e 10 2
    if 4 < arg e 8 2 then (s, bad 8) else
    match (telemetrySet (arg e 8 2))[arg e 10 2]? with
    | none => (s, bad 10)
    | some c =>
      (s.setMbx { s.mbx with
        thresholds := if v = 0 then tdel key s.mbx.thresholds else tput key (v, decide (v ≤ s.ctr c)) s.mbx.thresholds }, ok)))

/-- COUNTER_THRESHOLD, once per crossing (R298, R300). -/
def State.thresholdCheck (s : State) : State :=
  s.mbx.thresholds.foldl (fun (s : State) (x : Nat × Nat × Bool) =>
    match (telemetrySet (x.1 / 65536))[x.1 % 65536]? with
    | none => s
    | some c =>
      let now := decide (x.2.1 ≤ s.ctr c)
      let t := if now = x.2.2 then s else s.setMbx { s.mbx with thresholds := tput x.1 (x.2.1, now) s.mbx.thresholds }
      if now && !x.2.2 then t.event t.cpIsland 0x0700 [(x.1 / 65536, 2), (x.1 % 65536, 2), (s.ctr c, 8)] else t) s

/-! READ_STATE and WRITE_STATE (R304 to R306). -/

/-- More than 1 MiB makes the command class L. -/
def longWhen (len : Nat) (r : Res) : Res := if 0x100000 < len then accepted r else r

/-- READ_STATE. The 32-bit index of a register block is its window base without the 16 low bits, which are zero (log 13). -/
def execReadStateCmd (m : Fin 16) (s : State) : Host.Outcome State Fault Refusal :=
  .next (s.command m 0x0800 [(8, 2), (12, 4), (16, 8), (24, 4), (28, 4)] (fun s e _ =>
    let kind := arg e 8 2
    let idx := arg e 12 4
    let len := arg e 24 4
    if kind = 0 ∨ 0x15 < kind then (s, bad 8)
    else if !objIndex kind (if kind = 0x01 then idx * 0x10000 else idx) then (s, bad 12)
    else
      let i := if kind = 0x01 then idx * 0x10000 else idx
      if !s.objReady kind i then (s, err 0x14) else
      let r := s.objBytes kind i (arg e 28 4) len
      let bs := r.1 ++ zeros (len - r.1.length)
      let t := toBuf s (arg e 16 8) bs (.done (if r.2 then 0x17 else 0) 0 [BitVec.ofNat 8 (s.objAtomic kind i).toNat])
      (t.1, longWhen len t.2)))

/-- WRITE_STATE. -/
def execWriteStateCmd (m : Fin 16) (s : State) : Host.Outcome State Fault Refusal :=
  .next (s.command m 0x0801 [(8, 2), (12, 4), (16, 8), (24, 4), (28, 4)] (fun s e _ =>
    let kind := arg e 8 2
    let idx := arg e 12 4
    let len := arg e 24 4
    if kind = 0 ∨ 0x15 < kind then (s, bad 8)
    else if !objWritable kind idx then (s, err 0x1D)
    else if !objIndex kind idx then (s, bad 12)
    else if !s.objWriteReady kind idx then (s, err 0x14)
    else
      let t := withBuf s (arg e 16 8) len (fun s bs => (s.objPut kind idx (arg e 28 4) bs, ok))
      (t.1, longWhen len t.2)))

/-- ERRLOG_CLEAR. -/
def execErrlogClearCmd (m : Fin 16) (s : State) : Host.Outcome State Fault Refusal :=
  .next (s.command m 0x0802 [] (fun s _ _ => (s.setMbx { s.mbx with errlog := [] }, ok)))

/-! Power commands (R300, R384, R386). -/

/-- POWER_LIMIT: at once, without the option area (R352). -/
def execPowerLimitCmd (m : Fin 16) (s : State) : Host.Outcome State Fault Refusal :=
  .next (s.command m 0x0900 [(8, 2)] (fun s e _ =>
    let w := arg e 8 2
    if w < 1000 ∨ 3600 < w then (s, bad 8) else (s.setF pwrCtrl F.PWR_CTRL_sustained_w w, ok)))

/-- POWER_READ: watts, millivolts, amperes, hottest junction in 0.1 °C; two bytes each (log 13). -/
def execPowerReadCmd (m : Fin 16) (s : State) : Host.Outcome State Fault Refusal :=
  .next (s.command m 0x0901 [] (fun s _ _ =>
    (s, .done 0 0 (leBytes (s.fld pwrStatus F.PWR_STATUS_input_w) 2 ++ leBytes (s.fld pwrStatus F.PWR_STATUS_input_mv) 2 ++
      leBytes s.pwr.amps 2 ++ leBytes (s.fld pwrStatus F.PWR_STATUS_hottest) 2))))

/-- THROTTLE_SET. -/
def execThrottleSetCmd (m : Fin 16) (s : State) : Host.Outcome State Fault Refusal :=
  .next (s.command m 0x0902 [(8, 8), (16, 1)] (fun s e _ =>
    let n := arg e 16 1
    if n = 0 ∨ 16 < n then (s, bad 16) else
    let r := masked s 64 (arg e 8 8) (fun s k =>
      if s.coreStatus k ≠ 0 then (s, s.coreStatus k)
      else (s.setPwr { s.pwr with hostMin := tput k n s.pwr.hostMin }, 0))
    (r.1.syncPeriod, r.2)))

end Sys2Proof.Machine
end

