-- ==== Sys2Proof/Machine/UlmasReset.lean ====
section
/-! DEFINITION. The reset, frost and option commands of the Ulmas interface, and the completion entries that some of them wait
for (R290, R300, R341, R346, R347, R352, R358, R359). -/

namespace Sys2Proof.Machine

/-- The block that BLOCK_RESET names: its index of RST_BLOCK_n. A core is named by its logical number (R359). -/
def State.blockOf (s : State) (kind i : Nat) : Option Nat :=
  match kind with
  | 0 => if i < 64 then some (s.phys i) else none
  | 1 => if i < 16 then some (68 + i) else none
  | 2 => if i < 16 then some (84 + i) else none
  | 3 => if i < 4 then some (100 + i) else none
  | 4 => if i < 12 then some (104 + i) else none
  | 5 => if i < 4 then some (120 + i) else none
  | 6 => if i < 2 then some (124 + i) else none
  | _ => none

/-- BLOCK_RESET: accepted, and ended by the block's start. -/
def execBlockResetCmd (m : Fin 16) (s : State) : Host.Outcome State Fault Refusal :=
  .next (s.command m 0x0A00 [(8, 1), (12, 4)] (fun s e _ =>
    let kind := arg e 8 1
    let i := arg e 12 4
    if 6 < kind then (s, bad 8) else
    match s.blockOf kind i with
    | none => (s, bad 12)
    | some b =>
      let k := ((blockKind b).map (·.2)).getD 0
      if kind = 0 ∧ 2 ≤ s.remap i then (s, err 0x15)
      else if !s.blockFree kind k then (s, err 0x14)
      else if s.fld (blockReg b) F.RST_BLOCK_reset = 1 then (s, err 0x1C)
      else (s.blockResetReq b, .accept b none)))

/-- MODULE_RESET: the module resets once the completion is written. -/
def execModuleResetCmd (m : Fin 16) (s : State) : Host.Outcome State Fault Refusal :=
  .next (s.command m 0x0A01 [] (fun s _ _ => (s, ok)))

/-- FROST_ENTER: frost state is entered once the completion is written. -/
def execFrostEnterCmd (m : Fin 16) (s : State) : Host.Outcome State Fault Refusal :=
  .next (s.command m 0x0A02 [] (fun s _ _ => (s, ok)))

/-- FROST_REPORT. -/
def execFrostReportCmd (m : Fin 16) (s : State) : Host.Outcome State Fault Refusal :=
  .next (s.command m 0x0A03 [(8, 8)] (fun s e _ => toBuf s (arg e 8 8) s.frost.bytes ok))

/-- A boot-log entry (R358). -/
def BootEnt.bytes (b : BootEnt) : List Byte :=
  leBytes b.start 4 ++ leBytes b.cause 1 ++ leBytes b.slot 1 ++ leBytes b.result 1 ++ leBytes b.count 1 ++ leBytes b.cycles 8 ++
    leBytes b.checkA 1 ++ leBytes b.checkB 1 ++ zeros 14

/-- BOOT_LOG: the entries, oldest first (log 13). -/
def execBootLogCmd (m : Fin 16) (s : State) : Host.Outcome State Fault Refusal :=
  .next (s.command m 0x0A04 [(8, 8)] (fun s e _ => toBuf s (arg e 8 8) (s.firm.bootLog.reverse.flatMap BootEnt.bytes) ok))

/-- START_COUNT_CLEAR. -/
def execStartCountClearCmd (m : Fin 16) (s : State) : Host.Outcome State Fault Refusal :=
  .next (s.command m 0x0A05 [] (fun s _ _ => (s.setStartCount 0, ok)))

/-- The writable fields of the option area: offset and size (R351, R352). -/
def optFields : List (Nat × Nat) :=
  [(0x08, 1), (0x09, 1), (0x0A, 1), (0x0B, 1), (0x0C, 2), (0x0E, 2), (0x10, 2), (0x12, 2), (0x14, 1)]

/-- OPTION_WRITE (R352). -/
def execOptionWriteCmd (m : Fin 16) (s : State) : Host.Outcome State Fault Refusal :=
  .next (s.command m 0x0A06 [(8, 2), (10, 2), (16, 8)] (fun s e _ =>
    let o := arg e 8 2
    let size := arg e 10 2
    if !(optFields.map (·.1)).contains o then (s, bad 8)
    else if !optFields.contains (o, size) then (s, bad 10)
    else
      let r := withBuf s (arg e 16 8) size (fun s bs =>
        match s.optInUse.put o size (leNat bs) with
        | some x => (s.optWrite x, ok)
        | none => (s, bad 16))
      (r.1, accepted r.2)))

/-- OPTION_READ: the copy in use; result byte 0 is its number. -/
def execOptionReadCmd (m : Fin 16) (s : State) : Host.Outcome State Fault Refusal :=
  .next (s.command m 0x0A07 [(8, 8)] (fun s e _ => toBuf s (arg e 8 8) s.optInUse.bytes (.done 0 0 (leBytes s.firm.inUse 1))))

/-! Completion entries (R290). -/

/-- The 64 bytes of a completion entry. -/
def Done.bytes (d : Done) (phase : Nat) : List Byte :=
  leBytes (d.tag + d.opcode * 2 ^ 32 + d.status * 2 ^ 48) 8 ++ leBytes (d.detail + d.head * 2 ^ 16 + phase * 2 ^ 32) 8 ++ (d.result ++ zeros 32).take 32 ++
    leBytes d.stamp 16

/-- COMPLETION_ENTRY_WRITE: a decided completion goes to the host's ring and its vector is raised; a full ring pauses the ring
until the host advances its head. MODULE_RESET and FROST_ENTER take effect once theirs is written (R290, R294, R300). -/
def State.completionWrite (s : State) (m : Nat) : State :=
  let r := s.ring m
  match r.cpl with
  | none => s
  | some d =>
    let size := 2 ^ s.fld (cqCfg m) F.PCI_MBX_CQ_CFG_size
    if !s.mbxServed || !s.hostUp || decide (s.fld (cqCfg m) F.PCI_MBX_CQ_CFG_enable = 0) then s
    else if size ≤ ringGap (r.idx % 65536) (s.fld (cqHead m) F.PCI_MBX_CQ_HEAD_head) then s.setF (sqHead m) F.PCI_MBX_SQ_HEAD_paused 1
    else
      let base := fget (s.rd (reg1 .PCI_MBX_CQ_BASE 0 m)) F.PCI_MBX_CQ_BASE_base_hi * 64
      let phase := (r.idx / size + 1) % 2
      let s := s.setMem (writeBytes s.mem (hostBase + base + 64 * (r.idx % size)) (d.bytes phase))
      let s := (s.setRing m { r with cpl := none, idx := r.idx + 1 }).setF (sqHead m) F.PCI_MBX_SQ_HEAD_paused 0
      let s := if s.fld (cqCfg m) F.PCI_MBX_CQ_CFG_int_en = 1 then s.msixSend m else s
      if d.status ≠ 0 then s
      else if d.opcode = 0x0A01 then s.applyReset 5
      else if d.opcode = 0x0A02 then s.frostLatch 9 0
      else s
def execCompletionEntryWrite (m : Fin 16) (s : State) : Host.Outcome State Fault Refusal := .next (s.completionWrite m)

end Sys2Proof.Machine
end

