-- ==== Sys2Proof/Machine/Registers.lean ====
section
/-! DEFINITION. Reads and writes of registers that have no row of their own, accesses that reach nothing, crossings, and the
register aperture (R9, R20, R23, R25, R30, R271); what the block does on an empty queue. -/

namespace Sys2Proof.Machine

/-! The effects of writes outside the core blocks. -/

/-- WIN_CTRL: the fields, then fault_clear, then enable turning 1 (R226). -/
def State.winCtrlWrite (s : State) (d : Nat) (v m : BitVec 64) : State :=
  let r := winReg .WIN_CTRL d
  let on := s.fld r F.WIN_CTRL_enable
  let w := regStore r (s.rd r) v m
  let s := s.wr r (if fget w F.WIN_CTRL_enable = 1 ∧ on = 0 then fset w F.WIN_CTRL_enable 0 else w)
  let s := s.onBit (v &&& m) 22 (·.winFaultClear d)
  if fget w F.WIN_CTRL_enable = 1 ∧ on = 0 then s.winEnable d else s

/-- LNK_CTRL: the fields, then train, fence, renegotiate and the override (R250, R253, R265, R267). -/
def State.lnkCtrlWrite (s : State) (p : Nat) (v m : BitVec 64) : State :=
  let r := reg0 .LNK_CTRL p
  let m := if p = 11 then m else m &&& ~~~8
  let s := s.wr r (regStore r (s.rd r) v m)
  let s := s.onBit (v &&& m) 0 (·.lnkTrain p)
  let s := s.onBit (v &&& m) 1 (fun s => if s.lnk p = 7 then s else s.fencePort p 0x0C)
  let s := s.onBit (v &&& m) 2 (fun s => if s.lnk p = 5 then s.setF r F.LNK_CTRL_renegotiate 1 else s)
  s.lnkOverride p

/-- PCI_MBX_CQ_CFG and PCI_MBX_EV_CFG: the fields; a ring that is enabled begins its first pass; reset (R290, R294). -/
def State.cqCfgWrite (s : State) (m : Nat) (v b : BitVec 64) : State :=
  let r := cqCfg m
  let on := s.fld r F.PCI_MBX_CQ_CFG_enable
  let s := s.wr r (regStore r (s.rd r) v b)
  let s := if on = 0 ∧ s.fld r F.PCI_MBX_CQ_CFG_enable = 1 then s.setRing m { s.ring m with idx := 0 } else s
  s.onBit (v &&& b) 6 (·.ringReset m)
def State.evCfgWrite (s : State) (v b : BitVec 64) : State :=
  let on := s.fld evCfg F.PCI_MBX_CQ_CFG_enable
  let s := s.wr evCfg (regStore evCfg (s.rd evCfg) v b)
  let zero (s : State) : State := s.setMbx { s.mbx with evIdx := 0 }
  let s := if on = 0 ∧ s.fld evCfg F.PCI_MBX_CQ_CFG_enable = 1 then zero s else s
  s.onBit (v &&& b) 6 (fun s => (zero s).setF evCfg F.PCI_MBX_CQ_CFG_enable 0)

/-- RST_BLOCK: reset, or else enable (R360, R363). -/
def State.blockWrite (s : State) (b : Nat) (v m : BitVec 64) : State :=
  if (v &&& m).getLsbD 1 then s.blockResetReq b
  else if m.getLsbD 0 then s.blockEnable b (v.getLsbD 0) else s

/-- A write of `v` to the bits `m` of a register, with what it starts. -/
def State.regWrite (s : State) (r : Reg) (v m : BitVec 64) : State :=
  let plain := s.wr r (regStore r (s.rd r) v m)
  let x := v &&& m
  match r.name with
  | .WIN_CTRL => s.winCtrlWrite r.u v m
  | .WIN_CANCEL => plain.onBit x 0 (·.winCancel r.u)
  | .PUR_DIE_CFG => plain.setPurMode r.u (plain.purMode r.u (plain.rd r))
  | .LNK_CTRL => s.lnkCtrlWrite r.u v m
  | .CXL_CTRL => (plain.onBit x 4 (·.cxlRemove (r.u - 1))).onBit x 5 (·.cxlTrain (r.u - 1))
  | .MSC_CTRL => plain.onBit x 5 (·.mscFlush)
  | .HBM_PMAP => plain.changed 7
  | .ICU_FW_SET => s.fwSet r.i x
  | .PCI_MBX_CQ_CFG => s.cqCfgWrite r.i v m
  | .PCI_MBX_EV_CFG => s.evCfgWrite v m
  | .RST_STATUS => s.onBit x 6 (·.bootDone)
  | .RST_BLOCK => s.blockWrite r.i v m
  | .RST_WDOG => s.onBit x 0 (·.wdogKick r.i)
  | _ => s.coreRegWrite r v m

/-- REGISTER_WRITE (R9, R10). -/
def execRegisterWrite (r : Reg) (v hw : BitVec 64) (s : State) : Host.Outcome State Fault Refusal :=
  .next (
    if !r.valid then { s.accessErr .firmware r.addr with rstatus := .decodeError }
    else
      let st := s.regStatus r
      if st ≠ .ok then { s with rstatus := st } else { (s.regWrite r v (BitVec.allOnes 64)).hwSet r hw with rstatus := .ok })

/-- REGISTER_READ_CLEAR (R9, R10). -/
def execRegisterReadClear (r : Reg) (hw : BitVec 64) (s : State) : Host.Outcome State Fault Refusal :=
  .next (
    if !r.valid then { s.accessErr .firmware r.addr with rdata := 0, rstatus := .decodeError }
    else
      let st := s.regStatus r
      if st ≠ .ok then { s with rdata := 0, rstatus := st } else
      let x := s.regRead r (BitVec.allOnes 64) hw
      { x.1 with rdata := x.2, rstatus := .ok })

/-! Accesses that reach nothing (R20, R30). -/

/-- An address in register space that no register covers, or in the unused top of a tile-memory slot. -/
def reachesNothing (a : Nat) : Bool :=
  match region a with
  | .regs => (regAt (a / 8 * 8)).isNone
  | .slot _ o => decide (slotSize ≤ o)
  | _ => false

/-- DECODE_ERROR_ACCESS (R30). -/
def execDecodeErrorAccess (q : Requester) (a : BitVec 52) (write : Bool) (s : State) : Host.Outcome State Fault Refusal :=
  .next (
    if !reachesNothing a.toNat then s else
    let s := s.accessErr q a.toNat
    if write then { s with rstatus := .decodeError } else { s with rdata := 0, rbytes := [], rstatus := .decodeError })

/-- UNAVAILABLE_TARGET_ACCESS (R20). -/
def execUnavailableTargetAccess (q : Requester) (n : CoreId) (write : Bool) (s : State) :
    Host.Outcome State Fault Refusal :=
  .next (
    if s.remap n = 0 then s else
    let s := s.noTarget q (slotBase n)
    if write then { s with rstatus := .unavailableTarget } else { s with rdata := 0, rbytes := [], rstatus := .unavailableTarget })

/-! Crossings (R23, R25). -/

/-- CROSSING_ENTRY_ARRIVE: the oldest entry of a crossing takes effect at its destination; a stopped island discards it, and a
wait or a withdrawal, which expects a response, is answered with the fenced status. A grant of a withdrawn wait is returned by a
signal of the same count (R190). -/
def State.arrive (s : State) (src dst : Nat) : State :=
  match tget [] s.cross (src * 128 + dst) with
  | [] => s
  | e :: es =>
    let s := { s with cross := if es.isEmpty then tdel (src * 128 + dst) s.cross else tput (src * 128 + dst) es s.cross }
    if s.clk.stopped.contains dst then
      (match e with
      | .wait _ => { s with rstatus := .fenced }
      | .drop w => ({ s with rstatus := .fenced }).send dst src (.dropped w)
      | _ => s)
    else
    match e with
    | .signal t n => s.tokAdd t n
    | .wait w => { s with waits := s.waits ++ [w] }
    | .grant w =>
      if s.withdrawn.contains w then ({ s with withdrawn := s.withdrawn.erase w }).send dst src (.signal w.tok w.n)
      else { s with grants := s.grants ++ [w] }
    | .drop w => if s.waits.contains w then ({ s with waits := s.waits.erase w }).send dst src (.dropped w) else s
    | .dropped w => { s with withdrawn := s.withdrawn.erase w }
def execCrossingEntryArrive (src dst : IslandId) (s : State) : Host.Outcome State Fault Refusal := .next (s.arrive src dst)

/-! The register aperture (R271). -/

/-- The host may write these registers through the aperture: the core windows, the tokens, and the PCI_ registers but for
PCI_REG_APERTURE (R271, R287; log 25). -/
def hostWritable (r : Reg) : Bool :=
  decide (r.addr < 0x300000400000) || (regTok r).isSome || decide (r.name = .PCI_HOST_WIN) || decide (r.name = .PCI_APERTURE)

/-- A host write that the aperture lets through. A signal of a token crosses from the host port's island to the token's as an
entry of its crossing (R23, R179). -/
def State.hostRegWrite (s : State) (r : Reg) (v m : BitVec 64) : State :=
  match r.name, regTok r with
  | .TOK_SIG_CORE, some t | .TOK_SIG_CLUSTER, some t | .TOK_SIG_REGION, some t | .TOK_SIG_DIE, some t | .TOK_SIG_MODULE, some t =>
    s.send 106 (s.tokIsland t) (.signal t ((v &&& m).toNat % 65536))
  | _, _ => s.coreRegWrite r v m

/-- REGISTER_APERTURE_ACCESS: naturally aligned accesses of 32 or 64 bits. -/
def State.aperture (s : State) (o : Nat) (acc : ApAcc) : State :=
  let size := acc.size.toNat
  let a := s.fld (reg0 .PCI_REG_APERTURE 0) F.PCI_REG_APERTURE_base_hi * 0x800000 + o
  if !(decide (size = 4) || decide (size = 8)) || decide (a % size ≠ 0) then { s.aerLog 15 with rdata := 0, rstatus := .refused } else
  let m := if size = 8 then BitVec.allOnes 64 else halfMask a
  let sh := if size = 8 then 0 else a % 8 * 8
  match acc.write, regAt (a / 8 * 8) with
  | none, none => { s.accessErr .host a with rdata := 0, rstatus := .decodeError }
  | some _, none => { s.accessErr .host a with rstatus := .decodeError }
  | none, some r =>
    let st := s.regStatus r
    if st ≠ .ok then { s with rdata := 0, rstatus := st } else
    let x := s.regRead r m acc.hw
    { x.1 with rdata := (x.2 &&& m) >>> sh, rstatus := .ok }
  | some v, some r =>
    if !hostWritable r then { s.accessErr .host a with rstatus := .decodeError } else
    let st := s.regStatus r
    if st ≠ .ok then { s with rstatus := st } else { (s.hostRegWrite r (v <<< sh) m).hwSet r (acc.hw &&& m) with rstatus := .ok }

/-! The rest of BAR0 (R269, R288). -/

/-- A read or a write of some bits of a 64-bit word of BAR0: what the word becomes, where it is written. -/
def barWord (o : Nat) (acc : ApAcc) (old : Nat) : Nat × Option Nat :=
  let size := acc.size.toNat
  let m := if size = 8 then BitVec.allOnes 64 else halfMask o
  let sh := if size = 8 then 0 else o % 8 * 8
  let x := BitVec.ofNat 64 old
  (((x &&& m) >>> sh).toNat, acc.write.map (fun (v : BitVec 64) => ((x &&& ~~~m) ||| ((v <<< sh) &&& m)).toNat))

/-- An entry of the MSI-X table as its two 64-bit words: the address, and the data with the mask bit. -/
def Msix.words (e : Msix) : Nat × Nat := (e.addr, e.data + e.mask.toNat * 2 ^ 32)
def msixOf (lo hi : Nat) : Msix := ⟨lo / 4 * 4, hi % 2 ^ 32, hi.testBit 32⟩

/-- An access of BAR0: the mailbox area, the MSI-X table, its pending bits, the register aperture; a reserved range reads zero and
discards writes (R269, R288). -/
def State.bar0 (s : State) (o : Nat) (acc : ApAcc) : State :=
  let done (s : State) (x : Nat) : State := { s with rdata := if acc.write.isSome then s.rdata else BitVec.ofNat 64 x, rstatus := .ok }
  if 0x800000 ≤ o then s.aperture (o - 0x800000) acc
  else if o < 0x80000 then
    let k := o / 64
    let e := tget 0 s.mbx.sq k
    let w := barWord o acc (bitsOf e (o % 64 / 8 * 64) 64)
    match w.2 with
    | some x =>
      let sh := 2 ^ (o % 64 / 8 * 64)
      done { s with mbx := { s.mbx with sq := tput k (e - bitsOf e (o % 64 / 8 * 64) 64 * sh + x * sh) s.mbx.sq } } 0
    | none => done s w.1
  else if o < 0x100000 then
    match regAt (0x10000000000000 + o / 8 * 8) with
    | some r =>
      let m := if acc.size = 8 then BitVec.allOnes 64 else halfMask o
      let sh := if acc.size = 8 then 0 else o % 8 * 8
      match acc.write with
      | some v => done ((s.regWrite r (v <<< sh) m).hwSet r (acc.hw &&& m)) 0
      | none =>
        let x := s.regRead r m acc.hw
        done x.1 ((x.2 &&& m) >>> sh).toNat
    | none => done s 0
  else if o < 0x100400 then
    let v := (o - 0x100000) / 16
    let e := tget ⟨0, 0, true⟩ s.host.msix v
    let hi := decide (8 ≤ o % 16)
    let w := barWord o acc (if hi then e.words.2 else e.words.1)
    match w.2 with
    | some x =>
      let e' := if hi then msixOf e.words.1 x else msixOf x e.words.2
      done (s.setHost { s.host with msix := tput v e' s.host.msix }).msixFlush 0
    | none => done s w.1
  else if 0x101000 ≤ o ∧ o < 0x101008 then done s (barWord o acc (s.host.pend.map (2 ^ ·)).sum).1
  else done s 0

/-- REGISTER_APERTURE_ACCESS: a host access of BAR0 at an offset. -/
def execRegisterApertureAccess (o : BitVec 24) (a : ApAcc) (s : State) : Host.Outcome State Fault Refusal :=
  .next (s.bar0 o.toNat a)

/-! What passes with time on an empty queue (log 1). -/

/-- The cycles of an island in reference cycle `k`, at its nominal rate: 800 MHz for a core, 1,562.5 MHz for a network segment,
1,250 MHz for a memory controller group, 100 MHz for the always-on island (R6, R150, R199). -/
def islandCycles (isl k : Nat) : Nat :=
  if isl < 68 then 8
  else if isl < 90 then (k + 1) * 125 / 8 - k * 125 / 8
  else if isl < 106 then (k + 1) * 25 / 2 - k * 25 / 2
  else if isl = 120 then 1
  else Config.islandCycles isl k

/-- The cycle counters after a reference cycle: those of islands whose clock runs go on (R28). -/
def Clocks.run (c : Clocks) : Tbl Nat :=
  (upTo 0 121).foldl (fun t i => if c.stopped.contains i then t else tmod 0 i (· + islandCycles i c.refCyc) t) c.cycles

/-- The code under which an engine of a core counts a cycle in which it has nothing to do: 7 where time-slicing holds it, else 3,
its queue empty (R157). -/
def State.idleCode (s : State) (n : Nat) (suspended : Bool) : Nat := if suspended && (s.slice n).hold.isSome then 7 else 3

/-- The engines of a core that have nothing to do count the core cycles of a reference cycle; an engine with work counts its
cycles in its own commands (R157). -/
def State.idleStalls (s : State) (n : Nat) : State :=
  if !s.alive n then s else
  let o := s.ope n
  let st := s.engSt false n
  let busy := o.saving.isSome || o.resume.isSome || o.replay.isSome || o.susp.isSome || o.cwRun.isSome
  let s := if busy || (decide (st = 1) && !(o.free && o.st.q.isEmpty)) then s
    else s.opeCycles n (s.idleCode n (decide (st = 2))) 8
  let v := s.ve n
  let s := if !v.sliced && decide (s.engSt true n = 1) && !v.st.q.isEmpty then s else s.stalls .ve n (s.idleCode n v.sliced) 8
  let q := (upTo 0 8).any (fun m =>
    decide (s.qDone n m ≠ s.qTail n m) || !(s.que n m).started.isEmpty || !(s.que n m).old.isEmpty)
  if q && (s.slice n).hold.isNone then s else s.stalls .mov n (s.idleCode n q) 8

/-- One reference cycle: the cycle counters go on, and the reference time unless it is held back; idle engines count it, context
switches go as far as they can, counter thresholds are looked at, level lines are sampled, alarms fire and hold-off timers count down (R28, R29,
R157, R300, R303, R366, R371 to R373). -/
def State.tick (s : State) : State :=
  let c := s.clk
  let held := min 10 c.hold
  let s := { s with clk := { c with
    cycles := c.run, refTime := c.refTime + 10 - held, refCyc := c.refCyc + 1, hold := c.hold - held
    waits := c.waits && decide (held < c.hold) } }
  let s := (upTo 0 64).foldl (fun s n => s.idleStalls n) s
  let s := (s.slices.foldl (fun (s : State) (x : Nat × Slice) => s.trySwitch x.1) s).thresholdCheck
  (upTo 0 48).foldl State.holdoffTick ((upTo 0 16).foldl State.alarmFire ((upTo 0 768).foldl State.sample s))

end Sys2Proof.Machine
end

