-- ==== Sys2Proof/Machine/Dispatch.lean ====
section
/-! DEFINITION. The meaning of each command, one arm per constructor. -/

namespace Sys2Proof.Machine

/-- The effect of a command on everything but the queue. -/
def exec (i : Instr) (s : State) : Host.Outcome State Fault Refusal :=
  match i with
  | .registerWrite r v hw => Sys2Proof.Machine.execRegisterWrite r v hw s
  | .registerReadClear r hw => Sys2Proof.Machine.execRegisterReadClear r hw s
  | .decodeErrorAccess q a write => Sys2Proof.Machine.execDecodeErrorAccess q a write s
  | .unavailableTargetAccess q n write => Sys2Proof.Machine.execUnavailableTargetAccess q n write s
  | .crossingEntryArrive src dst => Sys2Proof.Machine.execCrossingEntryArrive src dst s
  | .opeNop n => Sys2Proof.Machine.execOpeNop n s
  | .pass n => Sys2Proof.Machine.execPass n s
  | .stepIssue n e lost => Sys2Proof.Machine.execStepIssue n e lost s
  | .spill n => Sys2Proof.Machine.execSpill n s
  | .drain n e => Sys2Proof.Machine.execDrain n e s
  | .cellwise n => Sys2Proof.Machine.execCellwise n s
  | .cellwiseStart n e => Sys2Proof.Machine.execCellwiseStart n e s
  | .cellwiseComplete n => Sys2Proof.Machine.execCellwiseComplete n s
  | .tileCopy n => Sys2Proof.Machine.execTileCopy n s
  | .drainRow n e => Sys2Proof.Machine.execDrainRow n e s
  | .shadowRelease n => Sys2Proof.Machine.execShadowRelease n s
  | .drainComplete n => Sys2Proof.Machine.execDrainComplete n s
  | .suspend n => Sys2Proof.Machine.execSuspend n s
  | .suspendReq n => Sys2Proof.Machine.execSuspendReq n s
  | .suspendTakeEffect n => Sys2Proof.Machine.execSuspendTakeEffect n s
  | .saveComplete n lost => Sys2Proof.Machine.execSaveComplete n lost s
  | .resume n => Sys2Proof.Machine.execResume n s
  | .resumeReq n => Sys2Proof.Machine.execResumeReq n s
  | .resumeStart n => Sys2Proof.Machine.execResumeStart n s
  | .replayBegin n lost => Sys2Proof.Machine.execReplayBegin n lost s
  | .opeDump n => Sys2Proof.Machine.execOpeDump n s
  | .opeFaultClear n => Sys2Proof.Machine.execOpeFaultClear n s
  | .completionRecordWrite n => Sys2Proof.Machine.execCompletionRecordWrite n s
  | .opeLoop n => Sys2Proof.Machine.execOpeLoop n s
  | .opeEndloop n => Sys2Proof.Machine.execOpeEndloop n s
  | .opeWaittok n => Sys2Proof.Machine.execOpeWaittok n s
  | .opeSigtok n => Sys2Proof.Machine.execOpeSigtok n s
  | .sigtokPendingFire n => Sys2Proof.Machine.execSigtokPendingFire n s
  | .veBundleIssue n h => Sys2Proof.Machine.execVeBundleIssue n h s
  | .veResultWriteback n e h => Sys2Proof.Machine.execVeResultWriteback n e h s
  | .fadd n pred vd va vb => Sys2Proof.Machine.execFadd n pred vd va vb s
  | .fsub n pred vd va vb => Sys2Proof.Machine.execFsub n pred vd va vb s
  | .fmul n pred vd va vb => Sys2Proof.Machine.execFmul n pred vd va vb s
  | .ffma n pred vd va vb vc => Sys2Proof.Machine.execFfma n pred vd va vb vc s
  | .fmin n pred vd va vb => Sys2Proof.Machine.execFmin n pred vd va vb s
  | .fmax n pred vd va vb => Sys2Proof.Machine.execFmax n pred vd va vb s
  | .badd n pred vd va vb => Sys2Proof.Machine.execBadd n pred vd va vb s
  | .bmul n pred vd va vb => Sys2Proof.Machine.execBmul n pred vd va vb s
  | .bfma n pred vd va vb vc => Sys2Proof.Machine.execBfma n pred vd va vb vc s
  | .recip n pred vd va => Sys2Proof.Machine.execRecip n pred vd va s
  | .rsqrt n pred vd va => Sys2Proof.Machine.execRsqrt n pred vd va s
  | .cvt n pred vd va k => Sys2Proof.Machine.execCvt n pred vd va k s
  | .iadd n pred d a b => Sys2Proof.Machine.execIadd n pred d a b s
  | .isub n pred d a b => Sys2Proof.Machine.execIsub n pred d a b s
  | .imul n pred d a b => Sys2Proof.Machine.execImul n pred d a b s
  | .andOp n pred d a b => Sys2Proof.Machine.execAndOp n pred d a b s
  | .orOp n pred d a b => Sys2Proof.Machine.execOrOp n pred d a b s
  | .xorOp n pred d a b => Sys2Proof.Machine.execXorOp n pred d a b s
  | .shl n pred d a b => Sys2Proof.Machine.execShl n pred d a b s
  | .shr n pred d a b => Sys2Proof.Machine.execShr n pred d a b s
  | .sar n pred d a b => Sys2Proof.Machine.execSar n pred d a b s
  | .mov n pred d a => Sys2Proof.Machine.execMov n pred d a s
  | .sel n pred d a b pk => Sys2Proof.Machine.execSel n pred d a b pk s
  | .laneid n pred d => Sys2Proof.Machine.execLaneid n pred d s
  | .fcmp n pred pd a b cc => Sys2Proof.Machine.execFcmp n pred pd a b cc s
  | .icmp n pred pd a b cc => Sys2Proof.Machine.execIcmp n pred pd a b cc s
  | .pand n pred pd pa pb => Sys2Proof.Machine.execPand n pred pd pa pb s
  | .por n pred pd pa pb => Sys2Proof.Machine.execPor n pred pd pa pb s
  | .pnot n pred pd pa => Sys2Proof.Machine.execPnot n pred pd pa s
  | .wadd n pred wd wa wb => Sys2Proof.Machine.execWadd n pred wd wa wb s
  | .f2w n pred wd a => Sys2Proof.Machine.execF2w n pred wd a s
  | .w2f n pred vd wa k => Sys2Proof.Machine.execW2f n pred vd wa k s
  | .rnd n pred vd => Sys2Proof.Machine.execRnd n pred vd s
  | .rget n pred vd q => Sys2Proof.Machine.execRget n pred vd q s
  | .rput n pred a q => Sys2Proof.Machine.execRput n pred a q s
  | .drget n pred vd q => Sys2Proof.Machine.execDrget n pred vd q s
  | .drput n pred a q => Sys2Proof.Machine.execDrput n pred a q s
  | .tf n pred vd va slot bf16 => Sys2Proof.Machine.execTf n pred vd va slot bf16 s
  | .td n pred vd va slot bf16 => Sys2Proof.Machine.execTd n pred vd va slot bf16 s
  | .tblld n slot ak => Sys2Proof.Machine.execTblld n slot ak s
  | .tblldRead n e h => Sys2Proof.Machine.execTblldRead n e h s
  | .tblldTakeEffect n => Sys2Proof.Machine.execTblldTakeEffect n s
  | .ld n pred vd areg off => Sys2Proof.Machine.execLd n pred vd areg off s
  | .ldb n pred vd areg off word => Sys2Proof.Machine.execLdb n pred vd areg off word s
  | .wld n pred wd areg off => Sys2Proof.Machine.execWld n pred wd areg off s
  | .st n pred vs areg off => Sys2Proof.Machine.execSt n pred vs areg off s
  | .wst n pred ws areg off => Sys2Proof.Machine.execWst n pred ws areg off s
  | .veLoadRead n e h => Sys2Proof.Machine.execVeLoadRead n e h s
  | .aadd n ad src imm => Sys2Proof.Machine.execAadd n ad src imm s
  | .amov n ad k => Sys2Proof.Machine.execAmov n ad k s
  | .seed n drain k j => Sys2Proof.Machine.execSeed n drain k j s
  | .veLoop n => Sys2Proof.Machine.execVeLoop n s
  | .veEndloop n => Sys2Proof.Machine.execVeEndloop n s
  | .veWaittok n => Sys2Proof.Machine.execVeWaittok n s
  | .veSigtok n => Sys2Proof.Machine.execVeSigtok n s
  | .veFaultClear n => Sys2Proof.Machine.execVeFaultClear n s
  | .opeRun n => Sys2Proof.Machine.execOpeRun n s
  | .veRun n => Sys2Proof.Machine.execVeRun n s
  | .veHalt n => Sys2Proof.Machine.execVeHalt n s
  | .codeFetch n vector e => Sys2Proof.Machine.execCodeFetch n vector e s
  | .movTailWrite n m tail => Sys2Proof.Machine.execMovTailWrite n m tail s
  | .descriptorFetch n m e => Sys2Proof.Machine.execDescriptorFetch n m e s
  | .descriptorStart n m => Sys2Proof.Machine.execDescriptorStart n m s
  | .moveNop n m => Sys2Proof.Machine.execMoveNop n m s
  | .copy n m e => Sys2Proof.Machine.execCopy n m e s
  | .panel n m e => Sys2Proof.Machine.execPanel n m e s
  | .gather n m e => Sys2Proof.Machine.execGather n m e s
  | .scatter n m e => Sys2Proof.Machine.execScatter n m e s
  | .chain n m e => Sys2Proof.Machine.execChain n m e s
  | .transferIssue n m e h => Sys2Proof.Machine.execTransferIssue n m e h s
  | .transferWriteLand n m e => Sys2Proof.Machine.execTransferWriteLand n m e s
  | .descriptorRetire n m => Sys2Proof.Machine.execDescriptorRetire n m s
  | .movFaultClear n m => Sys2Proof.Machine.execMovFaultClear n m s
  | .movSkipClear n m => Sys2Proof.Machine.execMovSkipClear n m s
  | .movCancel n m => Sys2Proof.Machine.execMovCancel n m s
  | .cancelAck n m => Sys2Proof.Machine.execCancelAck n m s
  | .clrOpe n => Sys2Proof.Machine.execClrOpe n s
  | .clrVe n => Sys2Proof.Machine.execClrVe n s
  | .clrMov n => Sys2Proof.Machine.execClrMov n s
  | .lateWeights n eng => Sys2Proof.Machine.execLateWeights n eng s
  | .scrubberRead n e => Sys2Proof.Machine.execScrubberRead n e s
  | .chainPageInject d e => Sys2Proof.Machine.execChainPageInject d e s
  | .flitHop d => Sys2Proof.Machine.execFlitHop d s
  | .memberPageAccept n => Sys2Proof.Machine.execMemberPageAccept n s
  | .memberPageWritten n => Sys2Proof.Machine.execMemberPageWritten n s
  | .purlinCrcResend n => Sys2Proof.Machine.execPurlinCrcResend n s
  | .chainReconfigure d cfg => Sys2Proof.Machine.execChainReconfigure d cfg s
  | .scalarInstruction n e => Sys2Proof.Machine.execScalarInstruction n e s
  | .fence n => Sys2Proof.Machine.execFence n s
  | .wfi n => Sys2Proof.Machine.execWfi n s
  | .mcycleWrite n high v => Sys2Proof.Machine.execMcycleWrite n high v s
  | .scalarTrap n cause tval => Sys2Proof.Machine.execScalarTrap n cause tval s
  | .ndtokwait n v => Sys2Proof.Machine.execNdtokwait n v s
  | .ndtoksig n v => Sys2Proof.Machine.execNdtoksig n v s
  | .ndtoktry n rd v => Sys2Proof.Machine.execNdtoktry n rd v s
  | .ndqpush n rd v => Sys2Proof.Machine.execNdqpush n rd v s
  | .ndqcancel n v => Sys2Proof.Machine.execNdqcancel n v s
  | .tokenSignal t n => Sys2Proof.Machine.execTokenSignal t n s
  | .tokenWaitServe t => Sys2Proof.Machine.execTokenWaitServe t s
  | .tokCntWrite t v => Sys2Proof.Machine.execTokCntWrite t v s
  | .tokSigWrite t v => Sys2Proof.Machine.execTokSigWrite t v s
  | .stepTokenArrive st n => Sys2Proof.Machine.execStepTokenArrive st n s
  | .stackedAccess c arrivals e => Sys2Proof.Machine.execStackedAccess c arrivals e s
  | .hbmScrub stack e => Sys2Proof.Machine.execHbmScrub stack e s
  | .retrainSlice c converged => Sys2Proof.Machine.execRetrainSlice c converged s
  | .migrationChunkCopy c e => Sys2Proof.Machine.execMigrationChunkCopy c e s
  | .migrationComplete c => Sys2Proof.Machine.execMigrationComplete c s
  | .channelSourceFail c => Sys2Proof.Machine.execChannelSourceFail c s
  | .channelFail c => Sys2Proof.Machine.execChannelFail c s
  | .repairTestDone c ok => Sys2Proof.Machine.execRepairTestDone c ok s
  | .mscFlush => Sys2Proof.Machine.execMscFlush s
  | .winEnable d => Sys2Proof.Machine.execWinEnable d s
  | .layerFetch d => Sys2Proof.Machine.execLayerFetch d s
  | .windowPageLand d => Sys2Proof.Machine.execWindowPageLand d s
  | .streamerInject d e => Sys2Proof.Machine.execStreamerInject d e s
  | .layerRelease d => Sys2Proof.Machine.execLayerRelease d s
  | .pagePoison d slot => Sys2Proof.Machine.execPagePoison d slot s
  | .retrySourceAnswer d slot => Sys2Proof.Machine.execRetrySourceAnswer d slot s
  | .retrySourceTimeout d slot => Sys2Proof.Machine.execRetrySourceTimeout d slot s
  | .winCancel d => Sys2Proof.Machine.execWinCancel d s
  | .winCancelAck d => Sys2Proof.Machine.execWinCancelAck d s
  | .winFaultClear d => Sys2Proof.Machine.execWinFaultClear d s
  | .bucketSeal b => Sys2Proof.Machine.execBucketSeal b s
  | .reductionPartReceive p => Sys2Proof.Machine.execReductionPartReceive p s
  | .rootDivide b other => Sys2Proof.Machine.execRootDivide b other s
  | .updateRun tensor b mirror => Sys2Proof.Machine.execUpdateRun tensor b mirror s
  | .readyReport other => Sys2Proof.Machine.execReadyReport other s
  | .commitRecordForm => Sys2Proof.Machine.execCommitRecordForm s
  | .commitRecordApply rcd => Sys2Proof.Machine.execCommitRecordApply rcd s
  | .mirrorSwitch tensor => Sys2Proof.Machine.execMirrorSwitch tensor s
  | .lnkTrain p => Sys2Proof.Machine.execLnkTrain p s
  | .detectActivity p lanes => Sys2Proof.Machine.execDetectActivity p lanes s
  | .equalizeComplete p errors farAdmitted => Sys2Proof.Machine.execEqualizeComplete p errors farAdmitted s
  | .alignComplete p => Sys2Proof.Machine.execAlignComplete p s
  | .capabilityExchange p cap far => Sys2Proof.Machine.execCapabilityExchange p cap far s
  | .trainingTimeout p => Sys2Proof.Machine.execTrainingTimeout p s
  | .flitSlot p => Sys2Proof.Machine.execFlitSlot p s
  | .dataFlitReceive p f => Sys2Proof.Machine.execDataFlitReceive p f s
  | .linkCtrlReceive p c => Sys2Proof.Machine.execLinkCtrlReceive p c s
  | .groupFlitReceive p f => Sys2Proof.Machine.execGroupFlitReceive p f s
  | .laneFaultDetect p why => Sys2Proof.Machine.execLaneFaultDetect p why s
  | .degradeRequest p lane => Sys2Proof.Machine.execDegradeRequest p lane s
  | .degradeTimeout p => Sys2Proof.Machine.execDegradeTimeout p s
  | .heartbeatSend p => Sys2Proof.Machine.execHeartbeatSend p s
  | .heartbeatTimeout p => Sys2Proof.Machine.execHeartbeatTimeout p s
  | .fenceRecognize p seen => Sys2Proof.Machine.execFenceRecognize p seen s
  | .lnkFence p => Sys2Proof.Machine.execLnkFence p s
  | .lnkRenegotiate p peerMin peerMax asked accepted => Sys2Proof.Machine.execLnkRenegotiate p peerMin peerMax asked accepted s
  | .put p h data => Sys2Proof.Machine.execPut p h data s
  | .get p h => Sys2Proof.Machine.execGet p h s
  | .getData p h data => Sys2Proof.Machine.execGetData p h data s
  | .signal p h => Sys2Proof.Machine.execSignal p h s
  | .control p h data => Sys2Proof.Machine.execControl p h data s
  | .complete p h => Sys2Proof.Machine.execComplete p h s
  | .messageForward p h data => Sys2Proof.Machine.execMessageForward p h data s
  | .creditTimeout p cls sub => Sys2Proof.Machine.execCreditTimeout p cls sub s
  | .bar2Access o a => Sys2Proof.Machine.execBar2Access o a s
  | .registerApertureAccess o a => Sys2Proof.Machine.execRegisterApertureAccess o a s
  | .hostCompletion n m k => Sys2Proof.Machine.execHostCompletion n m k s
  | .hostCompletionTimeout n m => Sys2Proof.Machine.execHostCompletionTimeout n m s
  | .hostLinkReset => Sys2Proof.Machine.execHostLinkReset s
  | .ptmDialogue ok hostTime => Sys2Proof.Machine.execPtmDialogue ok hostTime s
  | .farTierRequest q a write prio => Sys2Proof.Machine.execFarTierRequest q a write prio s
  | .farTierResponse port poison => Sys2Proof.Machine.execFarTierResponse port poison s
  | .farTierTimeout port => Sys2Proof.Machine.execFarTierTimeout port s
  | .cxlSurpriseRemoval port => Sys2Proof.Machine.execCxlSurpriseRemoval port s
  | .cxlRemove port => Sys2Proof.Machine.execCxlRemove port s
  | .cxlRemoveComplete port => Sys2Proof.Machine.execCxlRemoveComplete port s
  | .cxlTrain port => Sys2Proof.Machine.execCxlTrain port s
  | .devloadReport port load => Sys2Proof.Machine.execDevloadReport port load s
  | .mediaEvent port a kind => Sys2Proof.Machine.execMediaEvent port a kind s
  | .sqDoorbell m tail entries => Sys2Proof.Machine.execSqDoorbell m tail entries s
  | .commandFetch m => Sys2Proof.Machine.execCommandFetch m s
  | .completionEntryWrite m => Sys2Proof.Machine.execCompletionEntryWrite m s
  | .cqHeadWrite m head => Sys2Proof.Machine.execCqHeadWrite m head s
  | .ringReset m => Sys2Proof.Machine.execRingReset m s
  | .eventRecordWrite => Sys2Proof.Machine.execEventRecordWrite s
  | .backgroundCommandComplete tag status => Sys2Proof.Machine.execBackgroundCommandComplete tag status s
  | .mailboxOutageEnd => Sys2Proof.Machine.execMailboxOutageEnd s
  | .identifyCmd m => Sys2Proof.Machine.execIdentifyCmd m s
  | .capabilitiesCmd m => Sys2Proof.Machine.execCapabilitiesCmd m s
  | .identityCertCmd m => Sys2Proof.Machine.execIdentityCertCmd m s
  | .attachCmd m => Sys2Proof.Machine.execAttachCmd m s
  | .eventBindCmd m => Sys2Proof.Machine.execEventBindCmd m s
  | .eventMaskCmd m => Sys2Proof.Machine.execEventMaskCmd m s
  | .pmapWriteCmd m => Sys2Proof.Machine.execPmapWriteCmd m s
  | .cacheCtrlCmd m => Sys2Proof.Machine.execCacheCtrlCmd m s
  | .arbSetCmd m => Sys2Proof.Machine.execArbSetCmd m s
  | .channelActionCmd m => Sys2Proof.Machine.execChannelActionCmd m s
  | .groupsReleaseCmd m => Sys2Proof.Machine.execGroupsReleaseCmd m s
  | .regApertureSetCmd m => Sys2Proof.Machine.execRegApertureSetCmd m s
  | .programLoadCmd m => Sys2Proof.Machine.execProgramLoadCmd m s
  | .engineCtrlCmd m => Sys2Proof.Machine.execEngineCtrlCmd m s
  | .contextCreateCmd m => Sys2Proof.Machine.execContextCreateCmd m s
  | .contextDestroyCmd m => Sys2Proof.Machine.execContextDestroyCmd m s
  | .sliceSetCmd m => Sys2Proof.Machine.execSliceSetCmd m s
  | .contextSwitchCmd m => Sys2Proof.Machine.execContextSwitchCmd m s
  | .jobLimitsCmd m => Sys2Proof.Machine.execJobLimitsCmd m s
  | .winConfigCmd m => Sys2Proof.Machine.execWinConfigCmd m s
  | .winCtrlCmd m => Sys2Proof.Machine.execWinCtrlCmd m s
  | .hdmWriteCmd m => Sys2Proof.Machine.execHdmWriteCmd m s
  | .cxlCtrlCmd m => Sys2Proof.Machine.execCxlCtrlCmd m s
  | .retryPeerSetCmd m => Sys2Proof.Machine.execRetryPeerSetCmd m s
  | .moduleIdSetCmd m => Sys2Proof.Machine.execModuleIdSetCmd m s
  | .membershipSetCmd m => Sys2Proof.Machine.execMembershipSetCmd m s
  | .pairSetCmd m => Sys2Proof.Machine.execPairSetCmd m s
  | .routeWriteCmd m => Sys2Proof.Machine.execRouteWriteCmd m s
  | .rxwinWriteCmd m => Sys2Proof.Machine.execRxwinWriteCmd m s
  | .portCtrlCmd m => Sys2Proof.Machine.execPortCtrlCmd m s
  | .stepTokenMapCmd m => Sys2Proof.Machine.execStepTokenMapCmd m s
  | .transferCmd m => Sys2Proof.Machine.execTransferCmd m s
  | .msgAbandonCmd m => Sys2Proof.Machine.execMsgAbandonCmd m s
  | .levelQueryCmd m => Sys2Proof.Machine.execLevelQueryCmd m s
  | .levelSetCmd m => Sys2Proof.Machine.execLevelSetCmd m s
  | .bucketTableCmd m => Sys2Proof.Machine.execBucketTableCmd m s
  | .stepPlanCmd m => Sys2Proof.Machine.execStepPlanCmd m s
  | .mbDropCmd m => Sys2Proof.Machine.execMbDropCmd m s
  | .policyWriteCmd m => Sys2Proof.Machine.execPolicyWriteCmd m s
  | .replayRegisterCmd m => Sys2Proof.Machine.execReplayRegisterCmd m s
  | .snapshotCfgCmd m => Sys2Proof.Machine.execSnapshotCfgCmd m s
  | .snapshotNowCmd m => Sys2Proof.Machine.execSnapshotNowCmd m s
  | .recommitCmd m => Sys2Proof.Machine.execRecommitCmd m s
  | .reshardCmd m => Sys2Proof.Machine.execReshardCmd m s
  | .fwStageCmd m => Sys2Proof.Machine.execFwStageCmd m s
  | .fwVerifyCmd m => Sys2Proof.Machine.execFwVerifyCmd m s
  | .fwActivateCmd m => Sys2Proof.Machine.execFwActivateCmd m s
  | .fwBootSlotCmd m => Sys2Proof.Machine.execFwBootSlotCmd m s
  | .fwSvnCommitCmd m => Sys2Proof.Machine.execFwSvnCommitCmd m s
  | .attestCmd m => Sys2Proof.Machine.execAttestCmd m s
  | .telemetryReadCmd m => Sys2Proof.Machine.execTelemetryReadCmd m s
  | .countersClearCmd m => Sys2Proof.Machine.execCountersClearCmd m s
  | .thresholdSetCmd m => Sys2Proof.Machine.execThresholdSetCmd m s
  | .readStateCmd m => Sys2Proof.Machine.execReadStateCmd m s
  | .writeStateCmd m => Sys2Proof.Machine.execWriteStateCmd m s
  | .errlogClearCmd m => Sys2Proof.Machine.execErrlogClearCmd m s
  | .powerLimitCmd m => Sys2Proof.Machine.execPowerLimitCmd m s
  | .powerReadCmd m => Sys2Proof.Machine.execPowerReadCmd m s
  | .throttleSetCmd m => Sys2Proof.Machine.execThrottleSetCmd m s
  | .blockResetCmd m => Sys2Proof.Machine.execBlockResetCmd m s
  | .moduleResetCmd m => Sys2Proof.Machine.execModuleResetCmd m s
  | .frostEnterCmd m => Sys2Proof.Machine.execFrostEnterCmd m s
  | .frostReportCmd m => Sys2Proof.Machine.execFrostReportCmd m s
  | .bootLogCmd m => Sys2Proof.Machine.execBootLogCmd m s
  | .startCountClearCmd m => Sys2Proof.Machine.execStartCountClearCmd m s
  | .optionWriteCmd m => Sys2Proof.Machine.execOptionWriteCmd m s
  | .optionReadCmd m => Sys2Proof.Machine.execOptionReadCmd m s
  | .sliceQuantumExpiry n => Sys2Proof.Machine.execSliceQuantumExpiry n s
  | .quiescentPointTest => Sys2Proof.Machine.execQuiescentPointTest s
  | .standbyLoadDone pass => Sys2Proof.Machine.execStandbyLoadDone pass s
  | .pairAnnounce own partner ovr => Sys2Proof.Machine.execPairAnnounce own partner ovr s
  | .probe src num => Sys2Proof.Machine.execProbe src num s
  | .probeReply num => Sys2Proof.Machine.execProbeReply num s
  | .probeTimeout => Sys2Proof.Machine.execProbeTimeout s
  | .lossNotice lost standIn epoch step => Sys2Proof.Machine.execLossNotice lost standIn epoch step s
  | .standInReady pos digest => Sys2Proof.Machine.execStandInReady pos digest s
  | .snapshotMark step => Sys2Proof.Machine.execSnapshotMark step s
  | .snapshotComplete => Sys2Proof.Machine.execSnapshotComplete s
  | .mirrorSyncStart => Sys2Proof.Machine.execMirrorSyncStart s
  | .coreFault n node => Sys2Proof.Machine.execCoreFault n node s
  | .spareFill n => Sys2Proof.Machine.execSpareFill n s
  | .spareFillComplete n => Sys2Proof.Machine.execSpareFillComplete n s
  | .reshardSwitch => Sys2Proof.Machine.execReshardSwitch s
  | .frostLatch cause detail => Sys2Proof.Machine.execFrostLatch cause detail s
  | .frostRampStart => Sys2Proof.Machine.execFrostRampStart s
  | .frostRampEnd floor => Sys2Proof.Machine.execFrostRampEnd floor s
  | .powerOn => Sys2Proof.Machine.execPowerOn s
  | .resetNAssert ns takes => Sys2Proof.Machine.execResetNAssert ns takes s
  | .perstNAssert ns takes => Sys2Proof.Machine.execPerstNAssert ns takes s
  | .alwaysOnStateError => Sys2Proof.Machine.execAlwaysOnStateError s
  | .resetReleaseStart fuseOk => Sys2Proof.Machine.execResetReleaseStart fuseOk s
  | .optionAreaLoad => Sys2Proof.Machine.execOptionAreaLoad s
  | .domainRelease dom down up => Sys2Proof.Machine.execDomainRelease dom down up s
  | .bootRomCheck => Sys2Proof.Machine.execBootRomCheck s
  | .bootOk => Sys2Proof.Machine.execBootOk s
  | .bootWatchdogExpiry => Sys2Proof.Machine.execBootWatchdogExpiry s
  | .runtimeWatchdogExpiry pair => Sys2Proof.Machine.execRuntimeWatchdogExpiry pair s
  | .watchdogHalfPeriod pair => Sys2Proof.Machine.execWatchdogHalfPeriod pair s
  | .watchdogKick pair => Sys2Proof.Machine.execWatchdogKick pair s
  | .lockstepMismatch pair => Sys2Proof.Machine.execLockstepMismatch pair s
  | .standbyReloadDone ok => Sys2Proof.Machine.execStandbyReloadDone ok s
  | .blockEnableWrite b enable => Sys2Proof.Machine.execBlockEnableWrite b enable s
  | .blockResetWrite b => Sys2Proof.Machine.execBlockResetWrite b s
  | .blockShutdownComplete b => Sys2Proof.Machine.execBlockShutdownComplete b s
  | .blockStartComplete b => Sys2Proof.Machine.execBlockStartComplete b s
  | .refclkLoss => Sys2Proof.Machine.execRefclkLoss s
  | .supplyRangeChange mv => Sys2Proof.Machine.execSupplyRangeChange mv s
  | .supplyExcursionTimeout => Sys2Proof.Machine.execSupplyExcursionTimeout s
  | .liveFeedConnect => Sys2Proof.Machine.execLiveFeedConnect s
  | .sensorReading temps needed => Sys2Proof.Machine.execSensorReading temps needed s
  | .peakLimit period => Sys2Proof.Machine.execPeakLimit period s
  | .excursionLimitExpiry period => Sys2Proof.Machine.execExcursionLimitExpiry period s
  | .loadstepAnnounce rise target => Sys2Proof.Machine.execLoadstepAnnounce rise target s
  | .loadRampStart => Sys2Proof.Machine.execLoadRampStart s
  | .loadRampEnd power => Sys2Proof.Machine.execLoadRampEnd power s
  | .sourceEdge k => Sys2Proof.Machine.execSourceEdge k s
  | .levelLineChange k => Sys2Proof.Machine.execLevelLineChange k s
  | .icuClaim t => Sys2Proof.Machine.execIcuClaim t s
  | .icuComplete t v => Sys2Proof.Machine.execIcuComplete t v s
  | .holdoffExpiry g => Sys2Proof.Machine.execHoldoffExpiry g s
  | .alarmFire k => Sys2Proof.Machine.execAlarmFire k s
  | .icuFwSet w v => Sys2Proof.Machine.execIcuFwSet w v s
  | .claimAbandon t => Sys2Proof.Machine.execClaimAbandon t s
  | .entdaa addr => Sys2Proof.Machine.execEntdaa addr s
  | .setdasa static7 addr => Sys2Proof.Machine.execSetdasa static7 addr s
  | .rstdaa => Sys2Proof.Machine.execRstdaa s
  | .enec => Sys2Proof.Machine.execEnec s
  | .disec => Sys2Proof.Machine.execDisec s
  | .getpid => Sys2Proof.Machine.execGetpid s
  | .getbcr => Sys2Proof.Machine.execGetbcr s
  | .getdcr => Sys2Proof.Machine.execGetdcr s
  | .getstatus => Sys2Proof.Machine.execGetstatus s
  | .getmxds => Sys2Proof.Machine.execGetmxds s
  | .mgmtPointerWrite b => Sys2Proof.Machine.execMgmtPointerWrite b s
  | .mgmtRead => Sys2Proof.Machine.execMgmtRead s
  | .undefinedOpcode n => Sys2Proof.Machine.execUndefinedOpcode n s
  | .configurationSpaceWrite f => Sys2Proof.Machine.execConfigurationSpaceWrite f s
  | .pcieLinkTrained speed width => Sys2Proof.Machine.execPcieLinkTrained speed width s
  | .cxlTrainingComplete port dev => Sys2Proof.Machine.execCxlTrainingComplete port dev s
  | .passBoundaryWaitExpiry n => Sys2Proof.Machine.execPassBoundaryWaitExpiry n s

end Sys2Proof.Machine
end

