-- ==== Sys2Proof/Safety.lean ====
section
/-! DEFINITION. The terms that the statements about the machine use: what a command leaves unchanged, the invariant of
memory, and a core whose engines can act. -/

namespace Sys2Proof.Machine

/-- Every byte of the address map reads after as before. -/
def MemSame (s t : State) : Prop := ∀ a, cget t.mem a = cget s.mem a

/-- Every byte of the address map outside `len` bytes from `lo` reads after as before. -/
def MemSameBut (lo len : Nat) (s t : State) : Prop := ∀ a, ¬(lo ≤ a ∧ a < lo + len) → cget t.mem a = cget s.mem a

/-- Every register but those of a list reads after as before. -/
def RegsSameBut (rs : List Reg) (s t : State) : Prop := ∀ r : Reg, (∀ x ∈ rs, x.addr ≠ r.addr) → t.rd r = s.rd r

/-- The memory of the address map and the memories of the scalar processors are in canonical form. -/
def State.Canonical (s : State) : Prop :=
  Memory.wf s.mem ∧ ∀ x ∈ s.cores, Memory.wf x.2.sca.imem ∧ Memory.wf x.2.sca.dmem

/-- A step of the machine ends in neither a fault nor a refusal. -/
def State.Runs (s : State) : Prop := ∃ t, step s = .next t

/-! Registers. -/

/-- Registers whose write does nothing but store: their RW bits take the value written, their W1C bits clear where a 1 is
written, and every other bit stays (the access codes of the register maps). -/
def plainRegisters : List RegName :=
  [.OPE_NUM_CTRL, .OPE_NUM_FLAGS, .OPE_SAVE_BASE, .OPE_RING, .OPE_RING_SCALE, .OPE_DRAIN, .OPE_DRAIN_EXT,
    .OPE_LOOPCNT, .VE_NUM_FLAGS, .VE_PARAM, .VE_LOOPCNT, .MOV_LATE_BUDGET, .MOV_Q_CANCEL_TOK, .TOK_CNT_CORE,
    .TOK_CNT_CLUSTER, .TOK_CNT_REGION, .TOK_CNT_DIE, .TOK_CNT_MODULE, .WIN_SCHED, .WIN_WINDOW, .WIN_REPLICA,
    .WIN_REPLICA_ALT, .LNK_ROUTE, .LNK_RXWIN, .PCI_APERTURE, .ICU_ALARM, .ICU_ALARM_CTL, .ICU_THRESHOLD]

/-! The outer-product engine. -/

/-- Word `q`, with opcode `op`, is at the head of the queue of an outer-product engine that can take it. -/
abbrev opeHead (s : State) (n op : Nat) (q : QEnt) : Prop :=
  s.opeReady n = true ∧ (s.ope n).st.q.head? = some q ∧ q.fault = 0 ∧ q.word % 256 = op

/-- Only the outer-product engine of core `n` and the registers of a list differ. -/
def OpeOnly (n : Nat) (rs : List Reg) (s t : State) : Prop :=
  RegsSameBut rs s t ∧ (∀ k, k ≠ n → t.core k = s.core k) ∧ t.core n = { s.core n with ope := t.ope n } ∧
    t = { s with regs := t.regs, cores := t.cores }

/-- The head of the queue has issued: nothing but the engine and its own registers differs, the queue is without its head,
the program counter is at the next word, and the engine is IDLE at the end of its stream. -/
def OpeIssued (n : Nat) (rs : List Reg) (s t : State) : Prop :=
  OpeOnly n ([reg0 .OPE_STATUS n, reg0 .OPE_STREAM n, reg0 .OPE_PC n] ++ rs) s t ∧
    t.pc false n = (t.ope n).st.nextPc % 2 ^ 25

/-- The engine one core cycle later. -/
def Ope.cycled (o : Ope) : Ope := { o with cyc := o.cyc + 1, late := 0, lateRaised := false }

/-- The engine faults: FAULTED, the fault register, one event and one record requested; memory is as it was. -/
def OpeFaults (n pc cause step : Nat) (s t : State) : Prop :=
  t.engSt false n = 3 ∧ t.fld (reg0 .OPE_FAULT n) F.OPE_FAULT_cause = cause ∧
    t.fld (reg0 .OPE_FAULT n) F.OPE_FAULT_step_reached = step % 65536 ∧
    t.fld (reg0 .OPE_FAULT n) F.OPE_FAULT_fault_pc = pc % 2 ^ 32 ∧ (∃ e, t.evq = s.evq ++ [e] ∧ e.code = 0x0200) ∧
    (∃ c, (t.ope n).cpls = (s.ope n).cpls ++ [c] ∧ c.cause = cause ∧ c.stepReached = step) ∧ t.mem = s.mem

/-- The outer-product engine is at a point where only tokens, backpressure, bank conflicts and the throttle can withhold the next
step of the running pass `r`. -/
abbrev opeStepGate (s : State) (n : Nat) (r : Run) : Prop :=
  s.alive n = true ∧ s.engSt false n = 1 ∧ (s.ope n).susp = none ∧ (s.ope n).saving = none ∧ (s.ope n).resume = none ∧
    (s.ope n).replay = none ∧ (s.ope n).nextAt ≤ (s.ope n).cyc ∧
    (r.t = 0 → (s.ope n).shapeReady (passOf r.word.toNat).shape = true)

/-- The next step of the running pass issues: nothing withholds it, no spill is due, no trap is set, and its reads meet no
error. -/
abbrev opeStepReady (s : State) (n : Nat) (r : Run) (x : Tile) : Prop :=
  opeStepGate s n r ∧ fget r.ringL F.OPE_RING_feed_en = 0 ∧ fget r.ringR F.OPE_RING_feed_en = 0 ∧ x.spillDue = 0 ∧
    ((passOf r.word.toNat).ends = true → r.t + 1 = r.steps → (s.ope n).copyReady (passOf r.word.toNat).shape = true) ∧
    s.throttled n = false ∧
    fget x.numCtrl F.OPE_NUM_CTRL_range_trap = 0 ∧ fget x.numCtrl F.OPE_NUM_CTRL_nan_trap = 0 ∧ s.badWords = []

/-! The vector engine. -/

/-- Only the vector engine of core `n` and the registers of a list differ. -/
def VeOnly (n : Nat) (rs : List Reg) (s t : State) : Prop :=
  RegsSameBut rs s t ∧ (∀ k, k ≠ n → t.core k = s.core k) ∧ t.core n = { s.core n with ve := t.ve n } ∧
    t = { s with regs := t.regs, cores := t.cores }

/-- The vector engine can issue, with nothing in flight and no guard. -/
abbrev veQuiet (s : State) (n : Nat) : Prop :=
  s.veReady n = true ∧ (s.ve n).pend = [] ∧ (s.ve n).guard = false ∧ (s.ve n).wld = 0 ∧ (s.ve n).wst = 0

/-- The outer-product engine leaves the drain-path generators to the vector engine (R119). -/
abbrev drainGensFree (s : State) (n : Nat) : Prop := (s.ope n).converting = false

/-- The outcome `o` is a bundle issued from `s`: one engine cycle more, what is in flight as listed (cycles from issue, and
effect), the generators as given, and no register of the engine changed yet. -/
def VeIssues (n slot : Nat) (as : List (Nat × VAct)) (g : List Gen) (w : Nat × Nat) (s : State)
    (o : Host.Outcome State Fault Refusal) : Prop :=
  ∃ t, o = .next t ∧
    t.ve n = { s.ve n with
      cyc := (s.ve n).cyc + 1, seq := (s.ve n).seq + 1, late := 0, lateRaised := false, gens := g, wld := w.1, wst := w.2
      pend := as.map (fun a => ⟨(s.ve n).cyc + a.1, (s.ve n).seq, s.pc true n, slot, a.2⟩) } ∧
    VeOnly n [reg0 .VE_STATUS n, reg0 .VE_STREAM n, reg1 .VE_STALL n 0] s t

/-- An ALU0 operation of two sources: its results and flags lane by lane, four cycles later. -/
def fp2 (s : State) (n : Nat) (f : BitVec 32 → BitVec 32 → Nat × Nat) (pred : Fin 8) (vd : Fin 64) (a b : Src) : VAct :=
  let rs := List.zipWith f (s.vsrc n a) (s.vsrc n b)
  .v vd ((s.ve n).preg pred) (BitVec.allOnes 32) (rs.map (fun r => BitVec.ofNat 32 r.1)) (laneFlags ((s.ve n).preg pred) rs)

/-- An integer operation: its results lane by lane, one cycle later, without flags. -/
def int2 (s : State) (n : Nat) (f : BitVec 32 → BitVec 32 → BitVec 32) (pred : Fin 8) (d : Fin 64) (a b : Src) : VAct :=
  .v d ((s.ve n).preg pred) (BitVec.allOnes 32) (List.zipWith f (s.vsrc n a) (s.vsrc n b)) 0

/-- The exact value of an FP32 lane, and of a half of a packed BF16 lane. -/
def f32 (a : BitVec 32) : Val := decodeFloat fp32 a.toNat
def bfLo (a : BitVec 32) : Val := decodeFloat bf16 (a.toNat % 65536)
def bfHi (a : BitVec 32) : Val := decodeFloat bf16 (a.toNat / 65536)

/-! The move engine. -/

/-- Beside memory, only queue `m` of the move engine of core `n`, its wait counter and the registers of a list differ. -/
def MovKeeps (n m : Nat) (rs : List Reg) (s t : State) : Prop :=
  RegsSameBut rs s t ∧ (∀ k, k ≠ n → t.core k = s.core k) ∧ (∀ k, k ≠ m → t.que n k = s.que n k) ∧
    t.core n = { s.core n with
      mov := (t.core n).mov, movLate := (t.core n).movLate, movLateRaised := (t.core n).movLateRaised } ∧
    t = { s with regs := t.regs, cores := t.cores, mem := t.mem }

/-- The same with every byte of memory unchanged. -/
def MovOnly (n m : Nat) (rs : List Reg) (s t : State) : Prop := MovKeeps n m rs s t ∧ t.mem = s.mem

/-- A queue that can start its next descriptor, with nothing started or in flight. -/
abbrev movQuiet (s : State) (n m : Nat) : Prop :=
  s.alive n = true ∧ s.qEnabled n m = true ∧ s.qSt n m = 1 ∧ (s.que n m).started = [] ∧ (s.que n m).old = [] ∧
    (s.que n m).held = [] ∧ (s.que n m).bad = []

/-- The queue holds the one started descriptor `d`, from which nothing has issued, and its moves meet no hold and no error. -/
abbrev movReady (s : State) (n m d : Nat) : Prop :=
  s.alive n = true ∧ s.qSt n m ≠ 3 ∧ (s.que n m).started.length = 1 ∧
    (∀ x ∈ (s.que n m).started, x = MDesc.fresh x.idx d) ∧ (s.que n m).old = [] ∧
    (s.que n m).fetched = [] ∧ s.srcSlots d = [] ∧ s.badWords = []

/-- The queue after the last transfer of its one descriptor landed: nothing in flight, nothing left to issue. -/
abbrev movDone (s : State) (n m : Nat) : Prop :=
  ∃ x, (s.que n m).started = [x] ∧ xferEnd x.d x.i = true ∧ x.fly = []

/-- `len` bytes from `a` lie in the tile memory of one logical core that runs. -/
abbrev inTile (s : State) (a len : Nat) : Prop :=
  ∃ k, k < 64 ∧ s.alive k = true ∧ slotBase k ≤ a ∧ a + len ≤ slotBase k + slotSize

/-! The scalar processor. -/

/-- Only the scalar processor of core `n` differs. -/
def ScaOnly (n : Nat) (s t : State) : Prop :=
  (∀ k, k ≠ n → t.core k = s.core k) ∧ t.core n = { s.core n with sca := t.sca n } ∧ t = { s with cores := t.cores }

/-- The scalar processor of core `n` runs and takes no interrupt before its next instruction. -/
abbrev scaRuns (s : State) (n : Nat) : Prop := s.scaReady n = true ∧ s.scaTakes n = false

/-- The processor's state after an instruction that writes `v` to `rd` and goes on at `pc`. -/
def Scalar.retired (x : Scalar) (rd : Nat) (v pc : BitVec 32) : Scalar :=
  { x.put rd v with pc := pc, instret := x.instret + 1, waiting := false }

/-- The outcome is an instruction retired, with nothing else changed. -/
def ScaRetires (n rd : Nat) (v pc : BitVec 32) (s : State) (o : Host.Outcome State Fault Refusal) : Prop :=
  ∃ t, o = .next t ∧ ScaOnly n s t ∧ t.sca n = (s.sca n).retired rd v pc

/-- The outcome is a trap taken (R173), with nothing else changed. -/
def ScaTraps (n : Nat) (code tval : BitVec 32) (s : State) (o : Host.Outcome State Fault Refusal) : Prop :=
  ∃ t, o = .next t ∧ ScaOnly n s t ∧ t.sca n = { s.sca n with
    mepc := (s.sca n).pc, mcause := code, mtval := tval, mpie := (s.sca n).mie, mie := false, pc := (s.sca n).mtvec
    waiting := false }

/-! Stacked memory, the window streamer, the far tier. -/

/-- Nothing is cached, poisoned, released or out of service in stacked memory. -/
abbrev stackedClean (s : State) : Prop :=
  s.hbm.sets = [] ∧ s.hbm.released = [] ∧ s.poison = [] ∧ s.hbm.chans = [] ∧ s.hbm.retires = [] ∧ s.hbm.queue = [] ∧
    s.hbm.degraded = [] ∧ s.hbm.granted = [] ∧ ∀ c, c < 1024 → s.chSt c = 0

/-- Only the pseudo-channel state of stacked memory and the registers of a list differ. -/
def HbmOnly (rs : List Reg) (s t : State) : Prop :=
  RegsSameBut rs s t ∧ t = { s with regs := t.regs, hbm := t.hbm, rbytes := t.rbytes, rstatus := t.rstatus }

/-- Only the streamers, the tokens' waits and the registers of a list differ. -/
def WinOnly (rs : List Reg) (s t : State) : Prop :=
  RegsSameBut rs s t ∧ t = { s with regs := t.regs, dies := t.dies, evq := t.evq, waits := t.waits }

/-! Links, training, the module. -/

/-- Only port `q` and the registers of a list differ; no message of the module, no event. -/
def LnkOnly (q : Nat) (rs : List Reg) (s t : State) : Prop :=
  RegsSameBut rs s t ∧ (∀ k, k ≠ q → t.port k = s.port k) ∧
    t = { s with regs := t.regs, fab := { s.fab with ports := t.fab.ports }, freeIdx := t.freeIdx }

/-- A message for this module that is acted on: its header is well formed and its level is this module's (R256, R266). -/
abbrev msgGood (s : State) (q op : Nat) (h : MsgHdr) : Prop :=
  s.portLive q = true ∧ s.fab.id ≠ 0xFFFF ∧ h.dest.toNat = s.fab.id ∧ h.src.toNat ∉ s.members.fenced ∧ h.op.toNat = op ∧ h.rsv9 = 0 ∧
    h.rsv116 = 0 ∧ h.status.toNat ≤ 7 ∧ h.length.toNat ≤ 0x1000000 ∧ (h.cls.val = 0 ∨ h.level.toNat = s.levelOf h.step.toNat)

/-- The port that an answer to a message leaves by: the pairing port, to the partner, or the route of its source; not fenced. -/
abbrev answerPort (s : State) (q : Nat) (h : MsgHdr) (r : Nat) : Prop :=
  (if q = 11 then r = 11 ∧ h.src.toNat = s.partner else r = 5 + s.route h.src.toNat % 8 ∧ s.route h.src.toNat % 8 < 6) ∧ s.lnk r ≠ 7

/-- An answer to a message waits at port `r`, behind what waited there. -/
def answered (r op status : Nat) (cls : Fin 3) (data : List Byte) (h : MsgHdr) (s t : State) : Prop :=
  ∃ m, tget [] (t.port r).vc (cls * 2) = tget [] (s.port r).vc (cls * 2) ++ [m] ∧ m.h.op.toNat = op ∧ m.h.status.toNat = status ∧
    m.h.dest = h.src ∧ m.h.tag = h.tag ∧ m.data = data

/-! The Ulmas interface. -/

/-- Firmware takes up the entry in the synchronous part of ring `m`: it serves the mailbox, the command has not begun, no fence
holds it and its ring was not reset. -/
abbrev cmdTaken (m : Fin 16) (e : Nat) (s : State) : Prop :=
  (s.ring m).phase = none ∧ (s.ring m).orphan = false ∧ e.testBit 16 = false ∧ s.mbxServed = true

/-- The entry is taken up and is command `op`, served in the present mode, on a ring that accepts it, with every byte outside
its arguments zero. -/
abbrev cmdReady (m : Fin 16) (op : Nat) (fields : List (Nat × Nat)) (e : Nat) (s : State) : Prop :=
  cmdTaken m e s ∧ opcodeOf e = op ∧ s.served_ e = true ∧ (m.val < 2 → urgent e = true) ∧ reservedByte e fields = none

/-- The completion of entry `e` in ring `m` is decided: its tag, opcode, status, detail, result and the ring's head. The ring
has no command left in its synchronous part, and the other rings are as they were. -/
def cmdEnds (m : Fin 16) (e status detail : Nat) (result : List Byte) (s t : State) : Prop :=
  (t.ring m).cur = none ∧ (t.ring m).phase = none ∧
    (∃ k, (t.ring m).cpl = some k ∧ k.tag = tagOf e ∧ k.opcode = opcodeOf e ∧ k.status = status ∧ k.detail = detail ∧
      k.result = result ∧ k.head = s.fld (sqHead m) F.PCI_MBX_SQ_HEAD_head) ∧
    ∀ k, k ≠ m.val → t.ring k = s.ring k

/-- The command completes and changes nothing beside its ring. -/
def CmdAnswers (m : Fin 16) (e status detail : Nat) (result : List Byte) (s : State) (o : Host.Outcome State Fault Refusal) : Prop :=
  ∃ t, o = .next t ∧ cmdEnds m e status detail result s t ∧ t = { s with mbx := { s.mbx with rings := t.mbx.rings } }

/-- The command completes with SUCCESS and changes only registers of a list beside its ring. -/
def cmdSets (m : Fin 16) (e : Nat) (rs : List Reg) (s t : State) : Prop :=
  cmdEnds m e 0 0 [] s t ∧ RegsSameBut rs s t ∧ t = { s with regs := t.regs, mbx := { s.mbx with rings := t.mbx.rings } }

/-- The command completes with ACCEPTED and runs on in the background; `out` is its outcome where that is decided. -/
def cmdAccepted (m : Fin 16) (e : Nat) (out : Option (Nat × Nat × List Byte)) (s t : State) : Prop :=
  cmdEnds m e 1 0 [] s t ∧ ∃ b, t.mbx.bg = s.mbx.bg ++ [b] ∧ b.ring = m.val ∧ b.tag = tagOf e ∧ b.opcode = opcodeOf e ∧
    b.orphan = false ∧ b.out = out

/-- The status, detail and result of a command with a mask of targets, of which `bad` gives the status of each that it cannot act
on, 0 for the others (R290, R295, R299): SUCCESS, PARTIAL with the mask of the failed targets and the status of the lowest, or
that status where all fail. -/
def maskOutcome (count mask : Nat) (bad : Nat → Nat) : Nat × Nat × List Byte :=
  let named := (upTo 0 count).filter mask.testBit
  let failed := named.filter (fun n => decide (bad n ≠ 0))
  match failed with
  | [] => (0, 0, [])
  | n :: _ => if failed.length = named.length then (bad n, 0, []) else (2, bad n, leBytes (failed.map (2 ^ ·)).sum 8)

/-- A command with a mask of targets completes. -/
def cmdMasked (m : Fin 16) (e count mask : Nat) (bad : Nat → Nat) (s t : State) : Prop :=
  cmdEnds m e (maskOutcome count mask bad).1 (maskOutcome count mask bad).2.1 (maskOutcome count mask bad).2.2 s t

/-- A host buffer of `len` bytes that firmware can reach (R272, R275, R299). -/
abbrev bufGood (b len : Nat) (s : State) : Prop :=
  b + len ≤ 0x8000000000000 ∧ s.hostOk (hostBase + b + len - 1) = true ∧ s.hostUp = true

/-- The bytes of a host buffer. -/
def bufBytes (s : State) (b len : Nat) : List Byte := readBytes s.mem (hostBase + b) len

/-- A command whose last action wrote `bs` to a host buffer and that changed nothing else beside its ring. -/
def CmdWrites (m : Fin 16) (e : Nat) (result : List Byte) (b : Nat) (bs : List Byte) (s : State)
    (o : Host.Outcome State Fault Refusal) : Prop :=
  ∃ t, o = .next t ∧ cmdEnds m e 0 0 result s t ∧ bufBytes t b bs.length = bs ∧ MemSameBut (hostBase + b) bs.length s t ∧
    t = { s with mem := t.mem, mbx := { s.mbx with rings := t.mbx.rings } }

end Sys2Proof.Machine
end

