-- ==== Sys2Proof/WellFormed.lean ====
section
/-! DEFINITION. The checks on a command that its operands' types do not make: what its sender or its environment cannot
send. -/

namespace Sys2Proof

/-- A token lies in its scope: 64 tokens of a core, 16 of each wider scope, and the units of the scope (R176). -/
def Tok.wf (t : Tok) : Bool :=
  match t.scope with
  | 0 => decide (t.unit < 64) && decide (t.k < 64)
  | 1 => decide (t.unit < 16) && decide (t.k < 16)
  | 2 => decide (t.unit < 8) && decide (t.k < 16)
  | 3 => decide (t.unit < 4) && decide (t.k < 16)
  | 4 => decide (t.unit = 0) && decide (t.k < 16)

/-- The part width of a conversion code (R168). -/
def Conv.width (code : Fin 6) : Nat := if code = 0 then 32 else if code.val ≤ 2 then 16 else 8

/-- A CVT that is not reserved: one side is FP32 and pos names a part (R168). -/
def Conv.wf (k : Conv) : Bool :=
  (decide (k.src = 0) || decide (k.dst = 0)) &&
    (decide (min (Conv.width k.src) (Conv.width k.dst) ≠ 16) || decide (k.pos.val < 2))

/-- A request of a channel addresses one of its chunks (R200) and stays inside one 64-byte burst (R205); a write has at least
one byte. -/
def HReq.wf (c : Fin 1024) (r : HReq) : Bool :=
  decide (Machine.chanOf r.addr.toNat = c.val) && match r.write with
  | none => true
  | some bs => !bs.isEmpty && decide (r.addr.toNat % 64 + bs.length ≤ 64)

/-- A part that is not empty carries its count of elements (R235). -/
def Part.wf (p : Part) : Bool := p.empty || decide (p.vals.length = p.count.toNat)

/-- A message carries the bytes its header announces (R256). -/
def MsgHdr.carries (h : MsgHdr) (data : List (BitVec 8)) : Bool := decide (data.length = h.length.toNat)

/-- A host access moves at least one byte and at most 4,096 (R270). -/
def HostAcc.wf : HostAcc → Bool
  | .read len _ => decide (0 < len.toNat) && decide (len.toNat ≤ 4096)
  | .write bs _ => !bs.isEmpty && decide (bs.length ≤ 4096)

/-- An access of BAR0 of 32 or 64 bits, naturally aligned (R271). -/
def ApAcc.wf (o : BitVec 24) (a : ApAcc) : Bool :=
  (decide (a.size = 4) || decide (a.size = 8)) && decide (o.toNat % a.size.toNat = 0)

/-- A dynamic or static address that the I3C bus may use (R380). -/
def i3cAddr (a : BitVec 7) : Bool := decide (8 ≤ a.toNat) && decide (a ≠ 0x7E)

/-- A command that can be sent. -/
def Instr.WellFormed : Instr → Bool
  | .registerWrite r _ _ => r.valid
  | .registerReadClear r _ => r.valid
  | .decodeErrorAccess .. => true
  | .unavailableTargetAccess .. => true
  | .crossingEntryArrive .. => true
  | .opeNop .. => true
  | .pass .. => true
  | .stepIssue .. => true
  | .spill .. => true
  | .drain .. => true
  | .cellwise .. => true
  | .cellwiseStart .. => true
  | .cellwiseComplete .. => true
  | .tileCopy .. => true
  | .drainRow .. => true
  | .shadowRelease .. => true
  | .drainComplete .. => true
  | .suspend .. => true
  | .suspendReq .. => true
  | .suspendTakeEffect .. => true
  | .saveComplete .. => true
  | .resume .. => true
  | .resumeReq .. => true
  | .resumeStart .. => true
  | .replayBegin .. => true
  | .opeDump .. => true
  | .opeFaultClear .. => true
  | .completionRecordWrite .. => true
  | .opeLoop .. => true
  | .opeEndloop .. => true
  | .opeWaittok .. => true
  | .opeSigtok .. => true
  | .sigtokPendingFire .. => true
  | .veBundleIssue .. => true
  | .veResultWriteback .. => true
  | .fadd .. => true
  | .fsub .. => true
  | .fmul .. => true
  | .ffma .. => true
  | .fmin .. => true
  | .fmax .. => true
  | .badd .. => true
  | .bmul .. => true
  | .bfma .. => true
  | .recip .. => true
  | .rsqrt .. => true
  | .cvt _ _ _ _ k => k.wf
  | .iadd .. => true
  | .isub .. => true
  | .imul .. => true
  | .andOp .. => true
  | .orOp .. => true
  | .xorOp .. => true
  | .shl .. => true
  | .shr .. => true
  | .sar .. => true
  | .mov .. => true
  | .sel .. => true
  | .laneid .. => true
  | .fcmp .. => true
  | .icmp .. => true
  | .pand .. => true
  | .por .. => true
  | .pnot .. => true
  | .wadd .. => true
  | .f2w .. => true
  | .w2f .. => true
  | .rnd .. => true
  | .rget .. => true
  | .rput .. => true
  | .drget .. => true
  | .drput .. => true
  | .tf .. => true
  | .td .. => true
  | .tblld .. => true
  | .tblldRead .. => true
  | .tblldTakeEffect .. => true
  | .ld .. => true
  | .ldb .. => true
  | .wld .. => true
  | .st .. => true
  | .wst .. => true
  | .veLoadRead .. => true
  | .aadd .. => true
  | .amov .. => true
  | .seed .. => true
  | .veLoop .. => true
  | .veEndloop .. => true
  | .veWaittok .. => true
  | .veSigtok .. => true
  | .veFaultClear .. => true
  | .opeRun .. => true
  | .veRun .. => true
  | .veHalt .. => true
  | .codeFetch .. => true
  | .movTailWrite .. => true
  | .descriptorFetch .. => true
  | .descriptorStart .. => true
  | .moveNop .. => true
  | .copy .. => true
  | .panel .. => true
  | .gather .. => true
  | .scatter .. => true
  | .chain .. => true
  | .transferIssue .. => true
  | .transferWriteLand .. => true
  | .descriptorRetire .. => true
  | .movFaultClear .. => true
  | .movSkipClear .. => true
  | .movCancel .. => true
  | .cancelAck .. => true
  | .clrOpe .. => true
  | .clrVe .. => true
  | .clrMov .. => true
  | .lateWeights .. => true
  | .scrubberRead .. => true
  | .chainPageInject .. => true
  | .flitHop .. => true
  | .memberPageAccept .. => true
  | .memberPageWritten .. => true
  | .purlinCrcResend .. => true
  | .chainReconfigure .. => true
  | .scalarInstruction .. => true
  | .fence .. => true
  | .wfi .. => true
  | .mcycleWrite .. => true
  | .scalarTrap .. => true
  | .ndtokwait .. => true
  | .ndtoksig .. => true
  | .ndtoktry .. => true
  | .ndqpush .. => true
  | .ndqcancel .. => true
  | .tokenSignal t _ => t.wf
  | .tokenWaitServe t => t.wf
  | .tokCntWrite t _ => t.wf
  | .tokSigWrite t _ => t.wf
  | .stepTokenArrive .. => true
  | .stackedAccess c arrivals _ => arrivals.all (·.wf c)
  | .hbmScrub .. => true
  | .retrainSlice .. => true
  | .migrationChunkCopy .. => true
  | .migrationComplete .. => true
  | .channelSourceFail .. => true
  | .channelFail .. => true
  | .repairTestDone .. => true
  | .mscFlush => true
  | .winEnable .. => true
  | .layerFetch .. => true
  | .windowPageLand .. => true
  | .streamerInject .. => true
  | .layerRelease .. => true
  | .pagePoison .. => true
  | .retrySourceAnswer .. => true
  | .retrySourceTimeout .. => true
  | .winCancel .. => true
  | .winCancelAck .. => true
  | .winFaultClear .. => true
  | .bucketSeal .. => true
  | .reductionPartReceive p => p.wf
  | .rootDivide .. => true
  | .updateRun .. => true
  | .readyReport .. => true
  | .commitRecordForm => true
  | .commitRecordApply .. => true
  | .mirrorSwitch .. => true
  | .lnkTrain .. => true
  | .detectActivity .. => true
  | .equalizeComplete _ errors _ => decide (errors.length = 8)
  | .alignComplete .. => true
  | .capabilityExchange .. => true
  | .trainingTimeout .. => true
  | .flitSlot .. => true
  | .dataFlitReceive _ f => decide (f.bytes.length = 528)
  | .linkCtrlReceive _ c => decide (c.credits.length = 6)
  | .groupFlitReceive _ f => decide (f.bytes.length = 528)
  | .laneFaultDetect .. => true
  | .degradeRequest .. => true
  | .degradeTimeout .. => true
  | .heartbeatSend .. => true
  | .heartbeatTimeout .. => true
  | .fenceRecognize _ seen => decide (seen.length = 8)
  | .lnkFence .. => true
  | .lnkRenegotiate .. => true
  | .put _ h data => h.carries data
  | .get .. => true
  | .getData _ h data => h.carries data
  | .signal .. => true
  | .control _ h data => h.carries data
  | .complete .. => true
  | .messageForward _ h data => h.carries data
  | .creditTimeout .. => true
  | .bar2Access _ a => a.wf
  | .registerApertureAccess o a => a.wf o
  | .hostCompletion .. => true
  | .hostCompletionTimeout .. => true
  | .hostLinkReset => true
  | .ptmDialogue .. => true
  | .farTierRequest .. => true
  | .farTierResponse .. => true
  | .farTierTimeout .. => true
  | .cxlSurpriseRemoval .. => true
  | .cxlRemove .. => true
  | .cxlRemoveComplete .. => true
  | .cxlTrain .. => true
  | .devloadReport .. => true
  | .mediaEvent .. => true
  | .sqDoorbell _ _ entries => decide (entries.length ≤ 512)
  | .commandFetch .. => true
  | .completionEntryWrite .. => true
  | .cqHeadWrite .. => true
  | .ringReset .. => true
  | .eventRecordWrite => true
  | .backgroundCommandComplete .. => true
  | .mailboxOutageEnd => true
  | .identifyCmd .. => true
  | .capabilitiesCmd .. => true
  | .identityCertCmd .. => true
  | .attachCmd .. => true
  | .eventBindCmd .. => true
  | .eventMaskCmd .. => true
  | .pmapWriteCmd .. => true
  | .cacheCtrlCmd .. => true
  | .arbSetCmd .. => true
  | .channelActionCmd .. => true
  | .groupsReleaseCmd .. => true
  | .regApertureSetCmd .. => true
  | .programLoadCmd .. => true
  | .engineCtrlCmd .. => true
  | .contextCreateCmd .. => true
  | .contextDestroyCmd .. => true
  | .sliceSetCmd .. => true
  | .contextSwitchCmd .. => true
  | .jobLimitsCmd .. => true
  | .winConfigCmd .. => true
  | .winCtrlCmd .. => true
  | .hdmWriteCmd .. => true
  | .cxlCtrlCmd .. => true
  | .retryPeerSetCmd .. => true
  | .moduleIdSetCmd .. => true
  | .membershipSetCmd .. => true
  | .pairSetCmd .. => true
  | .routeWriteCmd .. => true
  | .rxwinWriteCmd .. => true
  | .portCtrlCmd .. => true
  | .stepTokenMapCmd .. => true
  | .transferCmd .. => true
  | .msgAbandonCmd .. => true
  | .levelQueryCmd .. => true
  | .levelSetCmd .. => true
  | .bucketTableCmd .. => true
  | .stepPlanCmd .. => true
  | .mbDropCmd .. => true
  | .policyWriteCmd .. => true
  | .replayRegisterCmd .. => true
  | .snapshotCfgCmd .. => true
  | .snapshotNowCmd .. => true
  | .recommitCmd .. => true
  | .reshardCmd .. => true
  | .fwStageCmd .. => true
  | .fwVerifyCmd .. => true
  | .fwActivateCmd .. => true
  | .fwBootSlotCmd .. => true
  | .fwSvnCommitCmd .. => true
  | .attestCmd .. => true
  | .telemetryReadCmd .. => true
  | .countersClearCmd .. => true
  | .thresholdSetCmd .. => true
  | .readStateCmd .. => true
  | .writeStateCmd .. => true
  | .errlogClearCmd .. => true
  | .powerLimitCmd .. => true
  | .powerReadCmd .. => true
  | .throttleSetCmd .. => true
  | .blockResetCmd .. => true
  | .moduleResetCmd .. => true
  | .frostEnterCmd .. => true
  | .frostReportCmd .. => true
  | .bootLogCmd .. => true
  | .startCountClearCmd .. => true
  | .optionWriteCmd .. => true
  | .optionReadCmd .. => true
  | .sliceQuantumExpiry .. => true
  | .quiescentPointTest => true
  | .standbyLoadDone .. => true
  | .pairAnnounce .. => true
  | .probe .. => true
  | .probeReply .. => true
  | .probeTimeout => true
  | .lossNotice .. => true
  | .standInReady .. => true
  | .snapshotMark .. => true
  | .snapshotComplete => true
  | .mirrorSyncStart => true
  | .coreFault .. => true
  | .spareFill .. => true
  | .spareFillComplete .. => true
  | .reshardSwitch => true
  | .frostLatch .. => true
  | .frostRampStart => true
  | .frostRampEnd .. => true
  | .powerOn => true
  | .resetNAssert .. => true
  | .perstNAssert .. => true
  | .alwaysOnStateError => true
  | .resetReleaseStart .. => true
  | .optionAreaLoad => true
  | .domainRelease .. => true
  | .bootRomCheck => true
  | .bootOk => true
  | .bootWatchdogExpiry => true
  | .runtimeWatchdogExpiry .. => true
  | .watchdogHalfPeriod .. => true
  | .watchdogKick .. => true
  | .lockstepMismatch .. => true
  | .standbyReloadDone .. => true
  | .blockEnableWrite .. => true
  | .blockResetWrite .. => true
  | .blockShutdownComplete .. => true
  | .blockStartComplete .. => true
  | .refclkLoss => true
  | .supplyRangeChange .. => true
  | .supplyExcursionTimeout => true
  | .liveFeedConnect => true
  | .sensorReading temps _ => decide (temps.length = 64)
  | .peakLimit .. => true
  | .excursionLimitExpiry .. => true
  | .loadstepAnnounce .. => true
  | .loadRampStart => true
  | .loadRampEnd .. => true
  | .sourceEdge .. => true
  | .levelLineChange .. => true
  | .icuClaim .. => true
  | .icuComplete .. => true
  | .holdoffExpiry .. => true
  | .alarmFire .. => true
  | .icuFwSet .. => true
  | .claimAbandon .. => true
  | .entdaa a => i3cAddr a
  | .setdasa _ a => i3cAddr a
  | .rstdaa => true
  | .enec => true
  | .disec => true
  | .getpid => true
  | .getbcr => true
  | .getdcr => true
  | .getstatus => true
  | .getmxds => true
  | .mgmtPointerWrite .. => true
  | .mgmtRead => true
  | .undefinedOpcode .. => true
  | .configurationSpaceWrite .. => true
  | .pcieLinkTrained .. => true
  | .cxlTrainingComplete _ dev => decide (dev.type ≠ 0)
  | .passBoundaryWaitExpiry .. => true

end Sys2Proof
end

