-- ==== Sys2Proof/Certificates/Slice0/Obligations.lean ====
section
/-! DEFINITION. The statements for the provers, family by family in the order of the opcode table. -/

section

open Sys2Proof Sys2Proof.Machine

/-! The queue and the block as a whole. -/

/-- A step with a command at the front of the queue is that command's effect on the state with the rest of the queue. -/
def Obligations.StepRunsTheFrontCommand : Prop :=
  ∀ (c : Instr) (cs : List Instr) (s : State), s.pending = c :: cs → step s = exec c { s with pending := cs }

/-- With no command waiting the block passes one reference cycle of 10 ns: the model's choice for an empty queue (log 1). Where no
context switch is wanted and no threshold is set, every island whose clock runs counts its cycles and a stopped one none, the
reference time goes on unless it is held back, and beside the clocks only stall counters, the states of level lines, alarms and
hold-off timers change. -/
def Obligations.EmptyQueuePassesOneReferenceCycle : Prop :=
  ∀ s : State, s.pending = [] → s.slices = [] → s.mbx.thresholds = [] →
    ∃ t, step s = .next t ∧ t = { s with clk := t.clk, regs := t.regs, cores := t.cores } ∧
      t.clk = { s.clk with
        cycles := t.clk.cycles, refTime := s.clk.refTime + 10 - min 10 s.clk.hold, refCyc := s.clk.refCyc + 1
        hold := s.clk.hold - min 10 s.clk.hold, waits := s.clk.waits && decide (10 < s.clk.hold) } ∧
      (∀ i, i < 121 → t.cycles i = s.cycles i + (if s.clk.stopped.contains i then 0 else islandCycles i s.clk.refCyc)) ∧
      RegsSameBut ((upTo 0 64).flatMap (fun n => (upTo 0 12).flatMap (fun c =>
          [reg1 .OPE_STALL n c, reg1 .VE_STALL n c, reg1 .MOV_STALL n c])) ++ (upTo 0 768).map (reg1 .ICU_SRC 0) ++
        (upTo 0 48).map (reg1 .ICU_GROUP 0) ++ (upTo 0 16).map (reg1 .ICU_ALARM_CTL 0)) s t

/-- Every command of the table, whatever its operands and in every state, answers a next state: the manual names no act at which
the module stops. -/
def Obligations.EveryCommandAnswersANextState : Prop := ∀ (c : Instr) (s : State), ∃ t, exec c s = .next t

/-- No command takes a command from the queue or puts one into it. -/
def Obligations.NoCommandTouchesTheQueue : Prop :=
  ∀ (c : Instr) (s t : State), exec c s = .next t → t.pending = s.pending

/-- At reset the memory of the module is in canonical form. -/
def Obligations.ResetMemoryIsCanonical : Prop := State.reset.Canonical

/-- Every step keeps the memory of the address map and of the scalar processors in canonical form: addresses strictly
rising, and no byte equal to what an unlisted address reads as. -/
def Obligations.EveryStepKeepsMemoryCanonical : Prop :=
  ∀ s t : State, s.Canonical → step s = .next t → t.Canonical

/-! Registers, accesses that reach nothing, crossings and tokens. -/

/-- REGISTER_WRITE to a register that only stores, in a block that answers. A W1C bit that hardware sets in the same cycle is 1
afterwards, and an RW bit holds the value written. -/
def Obligations.RegisterWriteFollowsTheAccessCodes : Prop :=
  ∀ (r : Reg) (v hw : BitVec 64) (s : State), r.name ∈ plainRegisters → r.valid = true → s.regStatus r = .ok →
    ∃ t, exec (.registerWrite r v hw) s = .next t ∧ t.rstatus = .ok ∧
      (∀ i, (t.rd r).getLsbD i =
        if r.name.masks.w1c.getLsbD i then hw.getLsbD i || ((s.rd r).getLsbD i && !v.getLsbD i)
        else if r.name.masks.rw.getLsbD i then v.getLsbD i else (s.rd r).getLsbD i) ∧
      RegsSameBut [r] s t ∧ t = { s with regs := t.regs, rstatus := .ok }

/-- REGISTER_READ_CLEAR of a register other than the claim, status and pending registers of the interrupt controller: the
value before the read is returned; an RC field falls to its reset value, and one that hardware sets in the same cycle holds the
value newly set. The maximum of PWR_TEMP falls to the current reading instead (R389). -/
def Obligations.RegisterReadReturnsThenClears : Prop :=
  (∀ (r : Reg) (hw : BitVec 64) (s : State), r.valid = true → s.regStatus r = .ok →
    r.name ∉ [RegName.ICU_CLAIM, .ICU_CP_CLAIM, .ICU_CORE_SRC, .ICU_STATUS, .ICU_CP_STATUS, .ICU_PEND, .PWR_TEMP] →
    ∃ t, exec (.registerReadClear r hw) s = .next t ∧ t.rdata = s.rd r ∧ t.rstatus = .ok ∧
      (∀ i, (t.rd r).getLsbD i =
        if r.name.masks.rc.getLsbD i then
          (if getBits (hw &&& r.name.masks.rc) (16 * (i / 16)) 16 = 0 then r.reset.getLsbD i else hw.getLsbD i)
        else (s.rd r).getLsbD i) ∧
      RegsSameBut [r] s t ∧ t = { s with regs := t.regs, rdata := t.rdata, rstatus := .ok }) ∧
  ∀ (k : Fin 64) (s : State), ∃ t, exec (.registerReadClear (reg1 .PWR_TEMP 0 k) 0) s = .next t ∧
    t.rdata = s.rd (reg1 .PWR_TEMP 0 k) ∧
    t.fld (reg1 .PWR_TEMP 0 k) F.PWR_TEMP_max = s.fld (reg1 .PWR_TEMP 0 k) F.PWR_TEMP_temp ∧
    t.fld (reg1 .PWR_TEMP 0 k) F.PWR_TEMP_temp = s.fld (reg1 .PWR_TEMP 0 k) F.PWR_TEMP_temp

/-- A register access through the aperture (REGISTER_APERTURE_ACCESS at an offset from 0x800000): an aligned 64-bit read of a
register that answers returns its value; a host write to a register that is neither in a core window, nor of a token, nor one of
the two PCI_ registers of the host is discarded with a decode error; and a signal of a token that the host writes crosses to the
token's island behind what was sent before it. -/
def Obligations.ApertureReadsAndRestricts : Prop :=
  (∀ (o : BitVec 23) (hw : BitVec 64) (s : State) (r : Reg), o.toNat % 8 = 0 →
    regAt (s.fld (reg0 .PCI_REG_APERTURE 0) F.PCI_REG_APERTURE_base_hi * 0x800000 + o.toNat) = some r →
    s.regStatus r = .ok → r.name.masks.rc = 0 →
    r.name ∉ [RegName.ICU_CLAIM, .ICU_CP_CLAIM, .ICU_CORE_SRC, .ICU_STATUS, .ICU_CP_STATUS, .ICU_PEND] →
    exec (.registerApertureAccess (BitVec.ofNat 24 (0x800000 + o.toNat)) ⟨8, none, hw⟩) s =
      .next { s with rdata := s.rd r, rstatus := .ok }) ∧
  (∀ (o : BitVec 23) (v hw : BitVec 64) (s : State) (r : Reg), o.toNat % 8 = 0 →
    regAt (s.fld (reg0 .PCI_REG_APERTURE 0) F.PCI_REG_APERTURE_base_hi * 0x800000 + o.toNat) = some r →
    0x300000400000 ≤ r.addr → regTok r = none → r.name ∉ [RegName.PCI_HOST_WIN, .PCI_APERTURE] →
    ∃ t, exec (.registerApertureAccess (BitVec.ofNat 24 (0x800000 + o.toNat)) ⟨8, some v, hw⟩) s = .next t ∧
      t.rstatus = .decodeError ∧ MemSame s t ∧ (∃ e, t.evq = s.evq ++ [e] ∧ e.code = 0x0105) ∧
      t.fld (reg1 .ICU_SRC 0 531) F.ICU_SRC_pending = 1) ∧
  (∀ (o : BitVec 23) (v hw : BitVec 64) (s : State) (k : Tok), o.toNat % 8 = 0 → k.wf = true →
    regAt (s.fld (reg0 .PCI_REG_APERTURE 0) F.PCI_REG_APERTURE_base_hi * 0x800000 + o.toNat) = some (sigReg k) →
    s.regStatus (sigReg k) = .ok →
    exec (.registerApertureAccess (BitVec.ofNat 24 (0x800000 + o.toNat)) ⟨8, some v, hw⟩) s =
      .next { s.send 106 (s.tokIsland k) (.signal k (v.toNat % 65536)) with rstatus := .ok })

/-- Accesses that reach nothing, and why. One to register space that reaches no register, or to the unused top of a tile-memory
slot: zero on a read, nothing written, and a decode-error event; any requester other than a core's own raises source 531, a
core's own source 8n + 7. One to a logical core that is FILLING, UNAVAILABLE or RETIRED reaches no core: zero on a read, nothing
written, the unavailable-target status, and no event but the host's. -/
def Obligations.FailedAccessesReachNothing : Prop :=
  (∀ (q : Requester) (a : BitVec 52) (w : Bool) (s : State), reachesNothing a.toNat = true →
    ∃ t, exec (.decodeErrorAccess q a w) s = .next t ∧ t.rstatus = .decodeError ∧ (w = false → t.rdata = 0) ∧
      MemSame s t ∧ (∃ e, t.evq = s.evq ++ [e] ∧ e.code = 0x0105) ∧
      RegsSameBut [reg1 .ICU_SRC 0 (match q with
        | .move n _ => 8 * n.val + 7
        | .scalar n => 8 * n.val + 7
        | _ => 531)] s t) ∧
  (∀ (q : Requester) (n : CoreId) (w : Bool) (s : State), s.remap n ≠ 0 →
    ∃ t, exec (.unavailableTargetAccess q n w) s = .next t ∧ t.rstatus = .unavailableTarget ∧ (w = false → t.rdata = 0) ∧
      MemSame s t ∧ t.cores = s.cores ∧ (q ≠ .host → t.evq = s.evq ∧ t.regs = s.regs))

/-- The oldest entry of a crossing arrives, in order. In an island whose clock runs a signal adds its counts to its token, a wait
or a grant stands at its destination, the grant of a withdrawn wait is returned by a signal of the same count, and a withdrawal
takes its wait away and is answered. An island whose clock is stopped discards the entry; a wait, which expects a response, is
answered with the fenced status, and so is a withdrawal, whose wait then stands no longer. -/
def Obligations.CrossingKeepsOrderAndDiscards : Prop :=
  ∀ (src dst : IslandId) (s : State) (e : CrossEntry) (es : List CrossEntry), src ≠ dst →
    tget [] s.cross (src * 128 + dst) = e :: es →
    ∃ t, exec (.crossingEntryArrive src dst) s = .next t ∧ tget [] t.cross (src * 128 + dst) = es ∧ MemSame s t ∧
      (s.clk.stopped.contains dst.val = true →
        match e with
        | .wait _ => t = { s with cross := t.cross, rstatus := .fenced }
        | .drop w => t = { s with cross := t.cross, rstatus := .fenced } ∧
            tget [] t.cross (dst * 128 + src) = tget [] s.cross (dst * 128 + src) ++ [.dropped w]
        | _ => t = { s with cross := t.cross }) ∧
      (s.clk.stopped.contains dst.val = false →
        match e with
        | .signal k n => t.tokCount k = min 65535 (s.tokCount k + n) ∧ t = { s with cross := t.cross, regs := t.regs, evq := t.evq }
        | .wait w => t = { s with cross := t.cross, waits := s.waits ++ [w] }
        | .grant w =>
          if s.withdrawn.contains w then
            t = { s with cross := t.cross, withdrawn := s.withdrawn.erase w } ∧
              tget [] t.cross (dst * 128 + src) = tget [] s.cross (dst * 128 + src) ++ [.signal w.tok w.n]
          else t = { s with cross := t.cross, grants := s.grants ++ [w] }
        | .drop w =>
          if s.waits.contains w then
            t = { s with cross := t.cross, waits := s.waits.erase w } ∧
              tget [] t.cross (dst * 128 + src) = tget [] s.cross (dst * 128 + src) ++ [.dropped w]
          else t = { s with cross := t.cross }
        | .dropped w => t = { s with cross := t.cross, withdrawn := s.withdrawn.erase w })

/-- What sets a token. A signal adds its count; a sum above 65,535 leaves 65,535, sets ovf and raises the token-overflow event,
and nothing else changes. TOK_SIG does the same with the low 16 bits written. A write to TOK_CNT stores the count, and clears
ovf where bit 16 of the value is 1. A core that is not served and an island that is stopped discard all three. -/
def Obligations.SignalsAndWritesSetTokens : Prop :=
  (∀ (t : Tok) (n : BitVec 16) (s : State), t.wf = true → s.regStatus (tokReg t) = .ok →
    ∃ u, exec (.tokenSignal t n) s = .next u ∧ u.tokCount t = min 65535 (s.tokCount t + n.toNat) ∧
      RegsSameBut [tokReg t] s u ∧ u = { s with regs := u.regs, evq := u.evq } ∧
      (s.tokCount t + n.toNat ≤ 65535 → u.evq = s.evq ∧ u.fld (tokReg t) F.TOK_CNT_ovf = s.fld (tokReg t) F.TOK_CNT_ovf) ∧
      (65535 < s.tokCount t + n.toNat → u.fld (tokReg t) F.TOK_CNT_ovf = 1 ∧ ∃ e, u.evq = s.evq ++ [e] ∧ e.code = 0x0205)) ∧
  (∀ (t : Tok) (v : BitVec 64) (s : State), t.wf = true → s.regStatus (tokReg t) = .ok →
    ∃ u, exec (.tokSigWrite t v) s = .next u ∧ u.tokCount t = min 65535 (s.tokCount t + v.toNat % 65536) ∧
      RegsSameBut [tokReg t] s u ∧ (65535 < s.tokCount t + v.toNat % 65536 → u.fld (tokReg t) F.TOK_CNT_ovf = 1)) ∧
  (∀ (t : Tok) (v : BitVec 64) (s : State), t.wf = true → s.regStatus (tokReg t) = .ok →
    ∃ u, exec (.tokCntWrite t v) s = .next u ∧ u.tokCount t = v.toNat % 65536 ∧
      u.fld (tokReg t) F.TOK_CNT_ovf = (if v.getLsbD 16 then 0 else s.fld (tokReg t) F.TOK_CNT_ovf) ∧
      RegsSameBut [tokReg t] s u ∧ u = { s with regs := u.regs }) ∧
  (∀ (t : Tok) (n : BitVec 16) (v : BitVec 64) (s : State), s.regStatus (tokReg t) ≠ .ok →
    exec (.tokenSignal t n) s = .next s ∧ exec (.tokSigWrite t v) s = .next s ∧ exec (.tokCntWrite t v) s = .next s)

/-- The one wait that stands on a token of its own island is served exactly when the count covers it, and takes its counts. -/
def Obligations.WaitIsServedWhenTheCountCoversIt : Prop :=
  ∀ (w : Wait) (s : State), w.tok.wf = true → s.waits = [w] → s.reqIsland w.req = s.tokIsland w.tok →
    s.regStatus (tokReg w.tok) = .ok →
    (w.n ≤ s.tokCount w.tok → ∃ u, exec (.tokenWaitServe w.tok) s = .next u ∧ u.tokCount w.tok = s.tokCount w.tok - w.n ∧
      u.waits = [] ∧ u.grants = s.grants ++ [w] ∧ RegsSameBut [tokReg w.tok] s u ∧ MemSame s u) ∧
    (s.tokCount w.tok < w.n → exec (.tokenWaitServe w.tok) s = .next s)

/-- A system step token raises source 640. Where the next step may start it becomes at once a signal of the module token that the
host mapped it to, and for a member of the list the step has begun; where it may not (an outage, the step before still in
progress, a refused table, a spare to be filled) it is held. A token that the host mapped nowhere signals nothing. -/
def Obligations.StepTokenBecomesAModuleSignal : Prop :=
  ∀ (st : BitVec 15) (n : BitVec 16) (s : State),
    ∃ t, exec (.stepTokenArrive st n) s = .next t ∧ t.fld (reg1 .ICU_SRC 0 640) F.ICU_SRC_pending = 1 ∧ MemSame s t ∧
      (s.stepFree = false →
        t.heldSteps = s.heldSteps ++ [⟨st.toNat, n.toNat, none⟩] ∧ RegsSameBut [reg1 .ICU_SRC 0 640] s t) ∧
      (s.stepFree = true → t.heldSteps = s.heldSteps ∧
        ((s.stepMap.map (·.1)).contains st.toNat = false → RegsSameBut [reg1 .ICU_SRC 0 640] s t ∧ t.train = s.train) ∧
        (∀ k, k < 16 → (s.stepMap.map (·.1)).contains st.toNat = true → tget 0 s.stepMap st.toNat = k →
          t.tokCount ⟨4, 0, k⟩ = min 65535 (s.tokCount ⟨4, 0, k⟩ + n.toNat) ∧
            RegsSameBut [reg1 .ICU_SRC 0 640, tokReg ⟨4, 0, k⟩] s t ∧
            (s.members.ids.contains s.fab.id = true → t.train.running = true)))

/-! The outer-product engine. -/

/-- NOP, SPILL, CELLWISE, SUSPEND and RESUME at the head of the queue: what each leaves in the engine, and nothing else. A
SPILL, a DRAIN or a CELLWISE with no tile open faults with cause 0x04. -/
def Obligations.OuterProductWordsIssue : Prop :=
  ∀ (n : CoreId) (q : QEnt) (s : State),
    (opeHead s n 0x00 q → ∃ t, exec (.opeNop n) s = .next t ∧ OpeIssued n [reg1 .OPE_STALL n 0] s t ∧
      t.ope n = { (s.ope n).cycled with st := (s.ope n).st.pop } ∧
      t.engSt false n = if t.pcEnd false n ≤ t.pc false n then 0 else 1) ∧
    (opeHead s n 0x02 q → ∀ x, (s.ope n).tile = some x → ∃ t, exec (.spill n) s = .next t ∧
      OpeIssued n [reg1 .OPE_STALL n 0] s t ∧
      t.ope n = { (s.ope n).cycled with st := (s.ope n).st.pop, tile := some { x with spillDue := x.spillDue + 1 } } ∧
      t.engSt false n = if t.pcEnd false n ≤ t.pc false n then 0 else 1) ∧
    (opeHead s n 0x04 q → (s.ope n).tile.isSome = true → ∃ t, exec (.cellwise n) s = .next t ∧ OpeIssued n [] s t ∧
      t.ope n = { s.ope n with st := (s.ope n).st.pop, cw := some q } ∧ t.engSt false n = 1) ∧
    (opeHead s n 0x05 q → ∃ t, exec (.suspend n) s = .next t ∧ OpeIssued n [reg1 .OPE_STALL n 0] s t ∧
      t.ope n = { (s.ope n).cycled with
        st := (s.ope n).st.pop, nextId := (s.ope n).nextId + 1, out := (s.ope n).out ++ [(s.ope n).nextId]
        susp := some ⟨bitsOf q.word 32 18 / 32 * 32, bitsOf q.word 8 1 = 1, true, false, (s.ope n).nextId, q.pc⟩ } ∧
      t.engSt false n = 1) ∧
    (opeHead s n 0x06 q → ∃ t, exec (.resume n) s = .next t ∧ OpeIssued n [reg1 .OPE_STALL n 0] s t ∧
      t.ope n = { (s.ope n).cycled with
        st := (s.ope n).st.pop
        resume := some ⟨bitsOf q.word 32 18 / 32 * 32, bitsOf q.word 8 1 = 1, true, false, (s.ope n).nextId, q.pc⟩ } ∧
      t.engSt false n = 1) ∧
    ((s.ope n).tile = none → ∀ e : Ecc,
      (opeHead s n 0x02 q → ∃ t, exec (.spill n) s = .next t ∧ OpeFaults n q.pc 0x04 0 s t) ∧
      (opeHead s n 0x03 q → isDrainFmt (s.fld (reg1 .OPE_DRAIN n (bitsOf q.word 8 3)) F.OPE_DRAIN_fmt_out) = true →
        ∃ t, exec (.drain n e) s = .next t ∧ OpeFaults n q.pc 0x04 0 s t) ∧
      (opeHead s n 0x04 q → ∃ t, exec (.cellwise n) s = .next t ∧ OpeFaults n q.pc 0x04 0 s t))

/-- LOOP, ENDLOOP, WAITTOK and SIGTOK. A LOOP with a count enters a level, a LOOP of count zero does not; ENDLOOP counts the
innermost level down and leaves it at zero; a wait that the count covers takes its counts; a signal with when = 0 adds at
once (through the crossing for a wider scope), one with when = 1 waits in the list of eight. A reserved token reference
faults with cause 0x03, and so does a word whose opcode is not in the table (UNDEFINED_OPCODE). -/
def Obligations.OuterProductControlWordsAct : Prop :=
  ∀ (n : CoreId) (q : QEnt) (s : State),
    (opeHead s n 0x10 q → ∀ off, bitsOf q.word 64 25 = off →
      ∀ count, (if bitsOf q.word 8 1 = 1 then s.fld (reg1 .OPE_LOOPCNT n (bitsOf q.word 9 3)) F.OPE_LOOPCNT_count
        else bitsOf q.word 32 32) = count →
      if off = 0 ∨ off % 16 ≠ 0 ∨ s.pcEnd false n ≤ q.pc + off ∨ (count ≠ 0 ∧ 4 ≤ s.loopDepth false n) then
        ∃ t, exec (.opeLoop n) s = .next t ∧ OpeFaults n q.pc 0x03 0 s t
      else ∃ t, exec (.opeLoop n) s = .next t ∧
        OpeIssued n [loopReg false n (s.loopDepth false n), loopEndReg false n (s.loopDepth false n)] s t ∧
        (count ≠ 0 → t.fld (loopReg false n (s.loopDepth false n)) F.OPE_LOOP_remaining = count ∧
          t.fld (loopReg false n (s.loopDepth false n)) F.OPE_LOOP_active = 1 ∧
          t.fld (loopReg false n (s.loopDepth false n)) F.OPE_LOOP_start_pc = (q.pc + 16) % 2 ^ 25 ∧
          t.fld (loopEndReg false n (s.loopDepth false n)) F.OPE_LOOP_END_end_pc = (q.pc + off) % 2 ^ 25) ∧
        (count = 0 → t.rd (loopReg false n (s.loopDepth false n)) = s.rd (loopReg false n (s.loopDepth false n)))) ∧
    (opeHead s n 0x11 q → ∀ d, s.loopDepth false n = d + 1 → s.fld (loopEndReg false n d) F.OPE_LOOP_END_end_pc = q.pc →
      ∃ t, exec (.opeEndloop n) s = .next t ∧ OpeIssued n [loopReg false n d] s t ∧
        (t.ope n).st = (s.ope n).st.pop ∧
        t.fld (loopReg false n d) F.OPE_LOOP_remaining = s.fld (loopReg false n d) F.OPE_LOOP_remaining - 1 ∧
        (s.fld (loopReg false n d) F.OPE_LOOP_remaining ≤ 1 → t.fld (loopReg false n d) F.OPE_LOOP_active = 0)) ∧
    (opeHead s n 0x12 q → ∀ k, bitsOf q.word 8 9 = k → k < 64 →
      bitsOf q.word 32 16 ≤ s.tokCount ⟨0, n, k⟩ → s.grants = [] → s.waits = [] → s.withdrawn = [] →
      ∃ t, exec (.opeWaittok n) s = .next t ∧ OpeIssued n [reg1 .TOK_CNT_CORE n k] s t ∧
        (t.ope n).st = (s.ope n).st.pop ∧ t.tokCount ⟨0, n, k⟩ = s.tokCount ⟨0, n, k⟩ - bitsOf q.word 32 16) ∧
    (opeHead s n 0x13 q → ∀ k, bitsOf q.word 8 9 = k → k < 64 →
      (bitsOf q.word 17 1 = 0 → s.tokCount ⟨0, n, k⟩ + bitsOf q.word 32 16 ≤ 65535 →
        ∃ t, exec (.opeSigtok n) s = .next t ∧ OpeIssued n [reg1 .TOK_CNT_CORE n k] s t ∧
          (t.ope n).st = (s.ope n).st.pop ∧ t.tokCount ⟨0, n, k⟩ = s.tokCount ⟨0, n, k⟩ + bitsOf q.word 32 16) ∧
      (bitsOf q.word 17 1 = 1 → (s.ope n).sigs.length < 8 →
        ∃ t, exec (.opeSigtok n) s = .next t ∧ OpeIssued n [] s t ∧ (t.ope n).st = (s.ope n).st.pop ∧
          (t.ope n).sigs = (s.ope n).sigs ++ [⟨k, bitsOf q.word 32 16, (s.ope n).nextId⟩])) ∧
    (opeHead s n 0x12 q → ∀ k, bitsOf q.word 8 9 = k → k < 64 → s.tokCount ⟨0, n, k⟩ < bitsOf q.word 32 16 → s.grants = [] →
      s.waits = [] → s.withdrawn = [] → ∃ t, exec (.opeWaittok n) s = .next t ∧ (t.ope n).st = (s.ope n).st ∧
        t.waits = [⟨⟨0, n, k⟩, reqId n 0, bitsOf q.word 32 16⟩] ∧ t.tokCount ⟨0, n, k⟩ = s.tokCount ⟨0, n, k⟩ ∧
        t.pc false n = s.pc false n) ∧
    (opeHead s n 0x13 q → ∀ k, tokRef n (bitsOf q.word 8 9) = some k → k.scope ≠ 0 → bitsOf q.word 17 1 = 0 →
      ∃ t, exec (.opeSigtok n) s = .next t ∧ (t.ope n).st = (s.ope n).st.pop ∧
        tget [] t.cross (s.phys n * 128 + s.tokIsland k) =
          tget [] s.cross (s.phys n * 128 + s.tokIsland k) ++ [.signal k (bitsOf q.word 32 16)]) ∧
    (tokRef n (bitsOf q.word 8 9) = none →
      (opeHead s n 0x12 q → ∃ t, exec (.opeWaittok n) s = .next t ∧ OpeFaults n q.pc 0x03 0 s t) ∧
      (opeHead s n 0x13 q → ∃ t, exec (.opeSigtok n) s = .next t ∧ OpeFaults n q.pc 0x03 0 s t)) ∧
    (opeHead s n (q.word % 256) q → 6 < q.word % 256 → q.word % 256 < 0x10 ∨ 0x13 < q.word % 256 →
      ∃ t, exec (.undefinedOpcode n) s = .next t ∧ OpeFaults n q.pc 0x03 0 s t)

/-- A pending signal fires once every record with an earlier identifier is written; OPE_RUN starts an IDLE engine at its
program counter; OPE_FAULT_CLEAR leaves FAULTED for IDLE with an empty queue. -/
def Obligations.PendingSignalRunAndFaultClear : Prop :=
  ∀ (n : CoreId) (s : State), s.alive n = true →
    (∀ g gs, (s.ope n).sigs = g :: gs → (∀ i ∈ (s.ope n).out, g.upto ≤ i) → ∀ k, g.ref = k → k < 64 →
      s.tokCount ⟨0, n, k⟩ + g.n ≤ 65535 →
      ∃ t, exec (.sigtokPendingFire n) s = .next t ∧ (t.ope n).sigs = gs ∧
        t.tokCount ⟨0, n, k⟩ = s.tokCount ⟨0, n, k⟩ + g.n ∧
        OpeOnly n [reg0 .OPE_STATUS n, reg0 .OPE_STREAM n, reg1 .TOK_CNT_CORE n k] s t) ∧
    (s.engSt false n = 0 → s.pc false n < s.pcEnd false n →
      ∃ t, exec (.opeRun n) s = .next t ∧ t.engSt false n = 1 ∧ t.pc false n = s.pc false n ∧
        (t.ope n).st.fpc = s.pc false n ∧ (t.ope n).st.q = [] ∧
        OpeOnly n [reg0 .OPE_STATUS n, reg0 .OPE_STREAM n] s t) ∧
    (s.engSt false n = 3 → ∃ t, exec (.opeFaultClear n) s = .next t ∧ t.engSt false n = 0 ∧ (t.ope n).st = .reset ∧
        t.rd (reg0 .OPE_FAULT n) = s.rd (reg0 .OPE_FAULT n) ∧ OpeOnly n [reg0 .OPE_STATUS n, reg0 .OPE_STREAM n] s t)

/-- PASS at the head of the queue. The checks come in the order of their causes and the first that fails names the cause;
ranks that differ, a reserved code or a drain code that is no output format leave the arrays and the flags alone (R33); a PASS
that passes the checks begins at step 0, a begin PASS with a new tile, its spill count and segment length zero. -/
def Obligations.PassChecksAndBegins : Prop :=
  ∀ (n : CoreId) (q : QEnt) (s : State), opeHead s n 0x01 q → ∀ p, passOf q.word = p →
    (∀ c, s.passCheck n p = c → c ≠ 0 → ∃ t, exec (.pass n) s = .next t ∧ OpeFaults n q.pc c 0 s t) ∧
    (fmtRank p.fmtL ≠ fmtRank p.fmtR ∨ fmtRank p.fmtL = none ∨
      (p.ends = true ∧ isDrainFmt (s.fld (reg1 .OPE_DRAIN n p.dset) F.OPE_DRAIN_fmt_out) = false) →
      s.passCheck n p = 0x01 ∧ ∃ t, exec (.pass n) s = .next t ∧ OpeFaults n q.pc 0x01 0 s t ∧ (t.ope n).run = none ∧
        (t.ope n).main = (s.ope n).main ∧ (t.ope n).shadow = (s.ope n).shadow ∧ (t.ope n).gut0 = (s.ope n).gut0 ∧
        (t.ope n).gut1 = (s.ope n).gut1 ∧ t.rd (reg0 .OPE_NUM_FLAGS n) = s.rd (reg0 .OPE_NUM_FLAGS n)) ∧
    (∀ k, fmtRank p.fmtL = some k → fmtRank p.fmtR = some k → p.ends = false →
      (p.spillL = 0 ∨ 32768 < p.spillL ∨ p.spillL % k ≠ 0 → s.passCheck n p = 0x02) ∧
      (¬(p.spillL = 0 ∨ 32768 < p.spillL ∨ p.spillL % k ≠ 0) →
        ((shapeOf p.shape).h ≤ p.mAct ∨ (shapeOf p.shape).w ≤ p.nAct → s.passCheck n p = 0x03) ∧
        (¬((shapeOf p.shape).h ≤ p.mAct ∨ (shapeOf p.shape).w ≤ p.nAct) → p.begins = false → (s.ope n).tile = none →
          s.passCheck n p = 0x04))) ∧
    (s.passCheck n p = 0 → ∃ t, exec (.pass n) s = .next t ∧ t.mem = s.mem ∧
      OpeIssued n [reg0 .OPE_NUM_STATE n] s t ∧ (t.ope n).st = (s.ope n).st.pop ∧ (t.ope n).main = (s.ope n).main ∧
      t.fld (reg0 .OPE_STATUS n) F.OPE_STATUS_steps_issued = 0 ∧
      ((t.ope n).run.map fun r => (r.t, r.steps, r.word.toNat, r.pc)) =
        some (0, if p.k = 0 then 1 else (p.k + (fmtRank p.fmtL).getD 1 - 1) / (fmtRank p.fmtL).getD 1, q.word % 2 ^ 128, q.pc) ∧
      (p.begins = true → t.spills n p.slot = 0 ∧ t.segLen n = 0 ∧
        ((t.ope n).tile.map fun x => (x.slot, x.shape, x.clearDue, x.needAnchor, x.spillDue, x.bias)) =
          some (p.slot, p.shape, true, true, 0,
            if p.bias then some (s.fld (reg1 .OPE_DRAIN n p.dset) F.OPE_DRAIN_bias_mode,
              s.fld (reg1 .OPE_DRAIN n p.dset) F.OPE_DRAIN_bias_line) else none)) ∧
      (p.begins = false → ∀ x, (s.ope n).tile = some x → t.rd (reg0 .OPE_NUM_STATE n) = s.rd (reg0 .OPE_NUM_STATE n) ∧
        ((t.ope n).tile.map fun y => (y.anchors, y.clearDue, y.needAnchor, y.spillDue, y.bias)) =
          some (x.anchors, x.clearDue, x.needAnchor, x.spillDue, x.bias)))

/-- STEP_ISSUE of a step of a running pass that nothing withholds: every cell adds the step's rounded products to its
window, after it is cleared where the step is the first of a begin PASS; the step counts, and the pass leaves issue after
its last step. An empty step adds nothing and counts nothing. -/
def Obligations.StepAddsItsProducts : Prop :=
  ∀ (n : CoreId) (s : State) (r : Run), (s.ope n).run = some r → ∀ x, (s.ope n).tile = some x → opeStepReady s n r x →
    ∃ t, exec (.stepIssue n .ok false) s = .next t ∧ t.mem = s.mem ∧
      (t.ope n).cyc = (s.ope n).cyc + 1 ∧
      (r.empty = true → (t.ope n).main = if x.clearDue then (s.ope n).main.map (fun _ => .zero) else (s.ope n).main) ∧
      (r.empty = false →
        (t.ope n).main = ((stepCells r r.t none (s.tm n)
          { x with anchors := if x.needAnchor then s.takeAnchors n (passOf r.word.toNat) else x.anchors }
          (if x.clearDue then (s.ope n).main.map (fun _ => .zero) else (s.ope n).main)).map (·.1)) ∧
        t.fld (reg0 .OPE_STATUS n) F.OPE_STATUS_steps_issued = (r.t + 1) % 65536) ∧
      (r.t + 1 ≠ r.steps → (t.ope n).run.map (·.t) = some (r.t + 1) ∧ (t.ope n).cpls = (s.ope n).cpls ∧
        (r.empty = false → t.segLen n = (s.segLen n + (fmtRank (passOf r.word.toNat).fmtL).getD 1) % 65536)) ∧
      (r.t + 1 = r.steps → (t.ope n).run = none ∧
        ((passOf r.word.toNat).ends = false → (t.ope n).tile.isSome = true ∧
          ∃ c, (t.ope n).cpls = (s.ope n).cpls ++ [c] ∧ c.id = r.id ∧ c.cause = 0 ∧ c.kind = 1) ∧
        ((passOf r.word.toNat).ends = true → (t.ope n).tile = none ∧
          (t.ope n).closed.map (·.rows) = (s.ope n).closed.map (·.rows) ++ [256] ∧
          (t.ope n).closed.getLast?.map (·.wins) = some (t.ope n).main ∧
          (t.ope n).cpls = (s.ope n).cpls ∧ t.segLen n = 0))

/-- A withheld step counts one stall cycle and issues nothing: code 2 while a feed token is short, the other feeder taking its
own token meanwhile; code 5 while the closing step would be copied before the shadow set is released; code 4 where a line of the
step lost a bank conflict; code 6 while only the throttle withholds it. -/
def Obligations.WithheldStepCountsItsCause : Prop :=
  ∀ (n : CoreId) (s : State) (r : Run), (s.ope n).run = some r → ∀ x, (s.ope n).tile = some x → opeStepGate s n r →
    s.fld (reg0 .TM_STALL_CTRL n) F.TM_STALL_CTRL_freeze = 0 →
    let held (c : Nat) (rs : List Reg) (t : State) : Prop :=
      (t.ope n).main = (s.ope n).main ∧ (t.ope n).run.map (·.t) = some r.t ∧
        t.rd (reg1 .OPE_STALL n c) = s.rd (reg1 .OPE_STALL n c) + 1 ∧ OpeOnly n (reg1 .OPE_STALL n c :: rs) s t
    let short (ring : BitVec 64) (taken : Nat) : Prop :=
      fget ring F.OPE_RING_feed_en = 1 ∧ taken ≤ r.t / (fget ring F.OPE_RING_grant_m1 + 1) ∧
        s.tokCount ⟨0, n, fget ring F.OPE_RING_feed_tok⟩ = 0 ∧
        (s.rd (reg0 .MOV_HOLD n)).getLsbD (fget ring F.OPE_RING_feed_tok) = false
    let closing : Prop := (passOf r.word.toNat).ends = true ∧ r.t + 1 = r.steps ∧
      (s.ope n).copyReady (passOf r.word.toNat).shape = false
    (r.empty = false → short r.ringL r.groupsL → fget r.ringR F.OPE_RING_feed_en = 0 →
      ∃ t, exec (.stepIssue n .ok false) s = .next t ∧ held 2 [] t) ∧
    (r.empty = false → short r.ringL r.groupsL → fget r.ringR F.OPE_RING_feed_en = 1 →
      r.groupsR ≤ r.t / (fget r.ringR F.OPE_RING_grant_m1 + 1) →
      ∀ k, fget r.ringR F.OPE_RING_feed_tok = k → 0 < s.tokCount ⟨0, n, k⟩ →
      ∃ t, exec (.stepIssue n .ok false) s = .next t ∧ held 2 [reg1 .TOK_CNT_CORE n k] t ∧
        t.tokCount ⟨0, n, k⟩ = s.tokCount ⟨0, n, k⟩ - 1 ∧ (t.ope n).run.map (·.groupsR) = some (r.groupsR + 1)) ∧
    (fget r.ringL F.OPE_RING_feed_en = 0 → fget r.ringR F.OPE_RING_feed_en = 0 → x.spillDue = 0 →
      (closing → ∃ t, exec (.stepIssue n .ok false) s = .next t ∧ held 5 [] t) ∧
      (¬closing → ∃ t, exec (.stepIssue n .ok true) s = .next t ∧ held 4 [] t) ∧
      (¬closing → s.throttled n = true → ∃ t, exec (.stepIssue n .ok false) s = .next t ∧ held 6 [] t))

/-- Rounded products stay below 2^47 window units (R42); the sum of a segment of up to 32,768 of them stays below 2^62 and the
window never wraps; a window is the same in whatever order the products arrive, and whatever step they arrive in. -/
def Obligations.WindowSumsDoNotDependOnOrder : Prop :=
  (∀ (anchor : Int) (a b : Val), (product anchor a b).1.natAbs < 2 ^ 47) ∧
  (∀ ps : List (Int × Bool × Bool), (∀ p, p ∈ ps → p.1.natAbs < 2 ^ 47) → ps.length ≤ 32768 →
    (ps.map Prod.fst).sum.natAbs < 2 ^ 62 ∧ (ps.foldl Win.step Win.zero).s.toInt = (ps.map Prod.fst).sum) ∧
  (∀ (c : Win) (ps qs : List (Int × Bool × Bool)), ps.Perm qs → ps.foldl Win.step c = qs.foldl Win.step c) ∧
  ∀ (c : Win) (anchor : Int) (as bs : List Val),
    c.step (stepSum anchor as bs) = ((as.zip bs).map (fun x => product anchor x.1 x.2)).foldl Win.step c

/-- A tile closes, is copied, drains row by row, and is released. DRAIN closes the open tile with the drain set as sampled;
TILE_COPY moves the windows that the oldest closed tile closed with into the shadow set; SHADOW_RELEASE and DRAIN_COMPLETE free
the set, request the record and signal the drain token; COMPLETION_RECORD_WRITE writes the 32 bytes of the oldest record and
counts seq. -/
def Obligations.ClosedTilesDrainAndComplete : Prop :=
  ∀ (n : CoreId) (s : State),
    (∀ q, (s.ope n).st.q.head? = some q → opeHead s n 0x03 q → ∀ x, (s.ope n).tile = some x → ∀ d, bitsOf q.word 8 3 = d →
      isDrainFmt (s.fld (reg1 .OPE_DRAIN n d) F.OPE_DRAIN_fmt_out) = true →
      (s.fld (reg1 .OPE_DRAIN n d) F.OPE_DRAIN_stride_lines = 0 →
        ∃ t, exec (.drain n .ok) s = .next t ∧ OpeFaults n q.pc 0x05 0 s t) ∧
      (s.fld (reg1 .OPE_DRAIN n d) F.OPE_DRAIN_stride_lines ≠ 0 → (s.ope n).copyReady x.shape = true →
        x.spillDue = 0 → (s.ope n).nextAt ≤ (s.ope n).cyc → (s.ope n).shapeReady x.shape = true → s.throttled n = false →
        ∃ t, exec (.drain n .ok) s = .next t ∧ (t.ope n).tile = none ∧
          (t.ope n).closed.map (fun c => (c.dset, c.dext, c.tile, c.spilled, c.rows, c.wins)) =
            (s.ope n).closed.map (fun c => (c.dset, c.dext, c.tile, c.spilled, c.rows, c.wins)) ++
              [(s.rd (reg1 .OPE_DRAIN n d), s.rd (reg1 .OPE_DRAIN_EXT n d), x, s.spills n x.slot != 0, 256, (s.ope n).main)] ∧
          t.segLen n = 0 ∧ (t.ope n).st = (s.ope n).st.pop ∧
          OpeIssued n [reg0 .OPE_NUM_STATE n, reg1 .OPE_STALL n 0] s t)) ∧
    (∀ d ds, (s.ope n).closed = d :: ds → (s.ope n).drain = none → (s.ope n).saving = none → (s.ope n).replay = none →
      ∃ t, exec (.tileCopy n) s = .next t ∧
        t.ope n = { s.ope n with shadow := d.wins, closed := ds, drain := some { d with wins := [] } } ∧
        OpeOnly n [reg0 .OPE_STATUS n, reg0 .OPE_STREAM n] s t) ∧
    (∀ d, (s.ope n).drain = some d → d.rows = 0 → (s.ope n).saving = none → (s.ope n).replay = none →
      ∃ t, exec (.shadowRelease n) s = .next t ∧ t.ope n = { s.ope n with drain := none, fin := (s.ope n).fin ++ [d] } ∧
        t.fld (reg0 .OPE_STATUS n) F.OPE_STATUS_shadow_busy = 0 ∧ OpeOnly n [reg0 .OPE_STATUS n, reg0 .OPE_STREAM n] s t) ∧
    (∀ d ds, (s.ope n).fin = d :: ds → s.fld (reg0 .OPE_CTRL n) F.OPE_CTRL_dump = 0 →
      ∀ k, (dsetOf d.dset d.dext).tok = k → s.tokCount ⟨0, n, k⟩ < 65535 →
      ∃ t, exec (.drainComplete n) s = .next t ∧ t.ope n = { s.ope n with fin := ds, cpls := (s.ope n).cpls ++ [d.cpl] } ∧
        t.tokCount ⟨0, n, k⟩ = s.tokCount ⟨0, n, k⟩ + (dsetOf d.dset d.dext).tokEn.toNat ∧
        OpeOnly n [reg0 .OPE_STATUS n, reg0 .OPE_STREAM n, reg1 .TOK_CNT_CORE n k] s t) ∧
    (∀ c cs, (s.ope n).cpls = c :: cs → s.alive n = true →
      ∀ a, s.fld (reg0 .OPE_CPL_BASE n) F.OPE_CPL_BASE_base_line * 128 +
        32 * ((s.ope n).seq.toNat % 2 ^ s.fld (reg0 .OPE_CPL_BASE n) F.OPE_CPL_BASE_size) = a → a + 32 ≤ slotSize → s.badWords = [] →
      ∃ t, exec (.completionRecordWrite n) s = .next t ∧ (t.ope n).cpls = cs ∧ (t.ope n).seq = (s.ope n).seq + 1 ∧
        readBytes t.mem (slotBase n + a) 32 = c.bytes (s.ope n).seq ∧ MemSameBut (slotBase n + a) 32 s t ∧
        RegsSameBut [reg0 .OPE_STATUS n, reg0 .OPE_STREAM n] s t)

/-- DRAIN_ROW of a tile that never spilled and has no bias, to FP32 with rounding to nearest: every active element of the
row is its window's exact value rounded once, at dest_line × 128 + i × stride_lines × 128 + 4j, and no byte outside the row
changes. -/
def Obligations.DrainRowRoundsEachElementOnce : Prop :=
  ∀ (n : CoreId) (s : State) (d : Drain), (s.ope n).drain = some d → ∀ i, d.rows = i + 1 → s.alive n = true →
    (s.ope n).saving = none → (s.ope n).replay = none → d.spilled = false → d.tile.bias = none → fget d.dset F.OPE_DRAIN_fmt_out = 0 →
    fget d.dset F.OPE_DRAIN_round = 0 → i < 256 →
    ∀ a, fget d.dset F.OPE_DRAIN_dest_line * 128 + i * fget d.dset F.OPE_DRAIN_stride_lines * 128 = a →
    a + 1024 ≤ slotSize → s.badWords = [] →
    ∃ t, exec (.drainRow n .ok) s = .next t ∧ (t.ope n).drain.map (·.rows) = some i ∧
      MemSameBut (slotBase n + a) 1024 s t ∧
      ∀ j, j < 256 → ∀ c, (s.ope n).shadow[256 * i + j]? = some c → ((s.ope n).gut d.tile.slot)[256 * i + j]?.isSome = true →
        (s.ope n).gens[j]?.isSome = true → (shapeOf d.tile.shape).la i ≤ d.tile.mAct →
        (shapeOf d.tile.shape).lb j ≤ d.tile.nAct →
        readBytes t.mem (slotBase n + a + 4 * j) 4 =
          leBytes (cvtFloat fp32 (decide (fget d.dset F.OPE_DRAIN_ovf = 1)) none
            (c.wide (d.tile.anchors.getD ((shapeOf d.tile.shape).sub i j) 0)).val).1 4

/-- CELLWISE begins once every step has reached every cell and the shadow set is free. Where no bias is read, with x and y
immediate values, every cell's gutter word becomes v × x + y rounded once, the windows clear, the spill count rises by one; its
record is requested when it completes, 262 core cycles later. -/
def Obligations.CellwiseFoldsTheTile : Prop :=
  ∀ (n : CoreId) (s : State),
    (∀ q, (s.ope n).cw = some q → ∀ x, (s.ope n).tile = some x → s.alive n = true → s.engSt false n = 1 →
      (s.ope n).susp = none → (s.ope n).saving = none → (s.ope n).settled = true → (s.ope n).closed = [] → (s.ope n).drain = none →
      x.bias = none →
      bitsOf q.word 8 2 = 3 → bitsOf q.word 10 2 = 3 → s.spills n x.slot < 0xFFFF →
      ∃ t, exec (.cellwiseStart n .ok) s = .next t ∧ t.mem = s.mem ∧ t.spills n x.slot = s.spills n x.slot + 1 ∧
        t.segLen n = 0 ∧ (t.ope n).cw = none ∧ (t.ope n).cwRun.isSome = true ∧
        ((t.ope n).tile.map fun y => (y.spillDue, y.needAnchor)) = some (0, true) ∧
        (∀ k : Nat, ∀ c, (s.ope n).main[k]? = some c → ∀ g, ((s.ope n).gut x.slot)[k]? = some g →
          ((t.ope n).gut x.slot)[k]? = some (cellwiseCell
            (x.sum (if s.spills n x.slot = 0 then none else some g) c (k / 256) (k % 256)).1
            (bitsOf q.word 32 32) (bitsOf q.word 64 32)) ∧
          ((t.ope n).main[k]?.map fun w => (w.s, w.range)) = some (0, c.range)) ∧
        (x.slot ≤ 1 → (t.ope n).gut (1 - x.slot) = (s.ope n).gut (1 - x.slot))) ∧
    (∀ c, (s.ope n).cwRun = some c → s.engSt false n ≠ 1 ∨ s.pc false n < s.pcEnd false n →
      ∃ t, exec (.cellwiseComplete n) s = .next t ∧ t.ope n = { s.ope n with
          cyc := (s.ope n).cyc + 262, late := 0, lateRaised := false, cwRun := none, cpls := (s.ope n).cpls ++ [c] } ∧
        OpeOnly n [reg0 .OPE_STATUS n, reg0 .OPE_STREAM n, reg1 .OPE_STALL n 0] s t)

/-- Suspending and resuming. A suspend request samples the save line, freezes the array at the step boundary, writes the save area
(its header begins with the running PASS word) and leaves the engine SUSPENDED with a record of cause 0x30; a resume
restores the header's counters from the area named, and replay sets the engine RUNNING. A dump in FAULTED writes the area
and leaves the engine FAULTED. -/
def Obligations.SuspendSavesAndResumeRestores : Prop :=
  ∀ (n : CoreId) (s : State), s.alive n = true →
    (s.engSt false n < 2 → (s.ope n).susp = none → (s.ope n).saving = none →
      ∃ t, exec (.suspendReq n) s = .next t ∧ t.fld (reg0 .OPE_CTRL n) F.OPE_CTRL_suspend_req = 1 ∧
        (t.ope n).susp = some ⟨s.fld (reg0 .OPE_SAVE_BASE n) F.OPE_SAVE_BASE_save_line_hi * 32,
          s.fld (reg0 .OPE_CTRL n) F.OPE_CTRL_save_gutter = 1, false, false, (s.ope n).nextId, s.pc false n⟩ ∧
        OpeOnly n [reg0 .OPE_STATUS n, reg0 .OPE_STREAM n, reg0 .OPE_CTRL n] s t) ∧
    (∀ sv, (s.ope n).susp = some sv → (s.ope n).cwRun = none → (s.ope n).replay = none → s.engSt false n ≠ 3 →
      ∃ t, exec (.suspendTakeEffect n) s = .next t ∧ t.ope n = { (s.ope n).freeze with susp := none, saving := some sv } ∧
        t.engSt false n = 2 ∧ OpeOnly n [reg0 .OPE_STATUS n, reg0 .OPE_STREAM n] s t) ∧
    (∀ sv, (s.ope n).saving = some sv → sv.queued = false → sv.line * 128 + 0x1000 ≤ slotSize →
      ∀ lost, ∃ t, exec (.saveComplete n lost) s = .next t ∧ t.engSt false n = s.engSt false n ∧
        (s.fld (reg0 .TM_STALL_CTRL n) F.TM_STALL_CTRL_freeze = 0 →
          t.rd (reg1 .OPE_STALL n 4) = s.rd (reg1 .OPE_STALL n 4) + lost.setWidth 64) ∧
        t.fld (reg0 .OPE_CTRL n) F.OPE_CTRL_suspend_req = 0 ∧ (t.ope n).saving = none ∧
        (∃ c, (t.ope n).cpls = (s.ope n).cpls ++ [c] ∧ c.cause = 0x30 ∧ c.id = sv.id) ∧
        readBytes t.mem (slotBase n + sv.line * 128) 16 = leBytes ((s.ope n).savedRun.elim 0 (·.word.toNat)) 16 ∧
        ∀ a, ¬(slotBase n + sv.line * 128 ≤ a ∧ a < slotBase n + slotSize) → cget t.mem a = cget s.mem a) ∧
    (s.engSt false n ≠ 3 → (s.ope n).saving = none → (s.ope n).resume = none →
      ∃ t, exec (.resumeReq n) s = .next t ∧ t.fld (reg0 .OPE_CTRL n) F.OPE_CTRL_resume_req = 1 ∧
        (t.ope n).resume = some ⟨s.fld (reg0 .OPE_SAVE_BASE n) F.OPE_SAVE_BASE_save_line_hi * 32,
          s.fld (reg0 .OPE_CTRL n) F.OPE_CTRL_restore_gutter = 1, false, false, (s.ope n).nextId, s.pc false n⟩ ∧
        OpeOnly n [reg0 .OPE_STATUS n, reg0 .OPE_STREAM n, reg0 .OPE_CTRL n] s t) ∧
    (∀ sv, (s.ope n).resume = some sv → s.engSt false n ≠ 3 → (s.ope n).closed = [] → (s.ope n).drain = none →
      (s.ope n).cwRun = none → (s.ope n).saving = none → (s.ope n).settled = true →
      (bitsOf (leNat (s.tmRead n (sv.line * 128 + 0x88) 8)) 0 9 = 0 →
       bitsOf (leNat (s.tmRead n (sv.line * 128 + 0x88) 8)) 9 7 = 0 →
        ∃ t, exec (.resumeStart n) s = .next t ∧ (t.ope n).tile = none ∧ (t.ope n).run = none ∧ (t.ope n).drain = none ∧
          (t.ope n).resume = none ∧ (t.ope n).replay = some sv ∧ t.mem = s.mem ∧
          t.fld (reg0 .OPE_STATUS n) F.OPE_STATUS_steps_issued =
            bitsOf (leNat (s.tmRead n (sv.line * 128 + 0x80) 8)) 0 16 ∧
          t.segLen n = bitsOf (leNat (s.tmRead n (sv.line * 128 + 0x80) 8)) 16 16 ∧
          t.spills n 0 = bitsOf (leNat (s.tmRead n (sv.line * 128 + 0x80) 8)) 32 16 ∧
          t.spills n 1 = bitsOf (leNat (s.tmRead n (sv.line * 128 + 0x80) 8)) 48 16) ∧
      (256 < bitsOf (leNat (s.tmRead n (sv.line * 128 + 0x88) 8)) 0 9 →
        ∃ t, exec (.resumeStart n) s = .next t ∧ OpeFaults n sv.pc 0x03 0 s t ∧
          (t.ope n).main = (s.ope n).main)) ∧
    (∀ sv, (s.ope n).replay = some sv → (s.ope n).run = none → s.pc false n < s.pcEnd false n → s.engSt false n ≠ 3 →
      ∀ lost, ∃ t, exec (.replayBegin n lost) s = .next t ∧ t.engSt false n = 1 ∧ (t.ope n).replay = none ∧
        ((s.ope n).hist = [] → (t.ope n).main = (s.ope n).main) ∧ t.mem = s.mem ∧
        (sv.queued = false → t.fld (reg0 .OPE_CTRL n) F.OPE_CTRL_resume_req = 0)) ∧
    (s.engSt false n = 3 → (s.ope n).drain = none → (s.ope n).closed = [] → (s.ope n).fin = [] →
      ∀ l, s.fld (reg0 .OPE_SAVE_BASE n) F.OPE_SAVE_BASE_save_line_hi * 32 = l → l * 128 + 0x1000 ≤ slotSize →
      ∃ t, exec (.opeDump n) s = .next t ∧ t.engSt false n = 3 ∧
        readBytes t.mem (slotBase n + l * 128) 16 = leBytes ((s.ope n).run.elim 0 (·.word.toNat)) 16 ∧
        (t.ope n).cpls = (s.ope n).cpls ∧
        ∀ a, ¬(slotBase n + l * 128 ≤ a ∧ a < slotBase n + slotSize) → cget t.mem a = cget s.mem a)

/-! The vector engine. -/

/-- The arithmetic, logic, predicate and wide operations read their sources at issue, compute every lane, and put the
result in flight at their latency: rounded once for FP32, half by half for packed BF16, modulo 2^32 for the integers. The
lanes whose predicate is 1 count in the flags; a conversion with stochastic rounding draws once in every lane. -/
def Obligations.VectorArithmeticReadsThenWritesLater : Prop :=
  ∀ (n : CoreId) (s : State), veQuiet s n → ∀ (p : Fin 8) (d : Fin 64) (a b c : Src),
    let go (slot lat : Nat) (x : VAct) (o : Host.Outcome State Fault Refusal) : Prop :=
      VeIssues n slot [(lat, x)] (s.ve n).gens (0, 0) s o
    let fp (f : BitVec 32 → BitVec 32 → Nat × Nat) (o : Host.Outcome State Fault Refusal) : Prop := go 0 4 (fp2 s n f p d a b) o
    let int (f : BitVec 32 → BitVec 32 → BitVec 32) (o : Host.Outcome State Fault Refusal) : Prop :=
      go 1 1 (int2 s n f p d a b) o
    let pr (pd : Fin 8) (bs : List Bool) (o : Host.Outcome State Fault Refusal) : Prop := go 1 1 (.p pd ((s.ve n).preg p) bs) o
    let draws (on : Bool) : List (Option Nat) :=
      if on then (s.ve n).gens.map (fun g => some (drawU g.draw.1)) else List.replicate 256 none
    let gens (on : Bool) : List Gen := if on then (s.ve n).gens.map (fun g => g.draw.2) else (s.ve n).gens
    fp (fun x y => fpAdd fp32 (f32 x) (f32 y)) (exec (.fadd n p d a b) s) ∧
    fp (fun x y => fpAdd fp32 (f32 x) (f32 y).negate) (exec (.fsub n p d a b) s) ∧
    fp (fun x y => fpMul fp32 (f32 x) (f32 y)) (exec (.fmul n p d a b) s) ∧
    fp (fun x y => (fpPick false x y, 0)) (exec (.fmin n p d a b) s) ∧
    fp (fun x y => (fpPick true x y, 0)) (exec (.fmax n p d a b) s) ∧
    fp (fun x y => ((fpAdd bf16 (bfLo x) (bfLo y)).1 + (fpAdd bf16 (bfHi x) (bfHi y)).1 * 65536,
      (fpAdd bf16 (bfLo x) (bfLo y)).2 ||| (fpAdd bf16 (bfHi x) (bfHi y)).2)) (exec (.badd n p d a b) s) ∧
    fp (fun x y => ((fpMul bf16 (bfLo x) (bfLo y)).1 + (fpMul bf16 (bfHi x) (bfHi y)).1 * 65536,
      (fpMul bf16 (bfLo x) (bfLo y)).2 ||| (fpMul bf16 (bfHi x) (bfHi y)).2)) (exec (.bmul n p d a b) s) ∧
    go 0 12 (fp2 s n (fun x _ => fpRecip (f32 x)) p d a a) (exec (.recip n p d a) s) ∧
    go 0 12 (fp2 s n (fun x _ => fpRsqrt (f32 x)) p d a a) (exec (.rsqrt n p d a) s) ∧
    (
      let rs := ((s.vsrc n a).zip ((s.vsrc n b).zip (s.vsrc n c))).map
        (fun x => fpFma fp32 (f32 x.1) (f32 x.2.1) (f32 x.2.2))
      go 0 4 (.v d ((s.ve n).preg p) (BitVec.allOnes 32) (rs.map (fun r => BitVec.ofNat 32 r.1))
        (laneFlags ((s.ve n).preg p) rs)) (exec (.ffma n p d a b c) s)) ∧
    (
      let rs := ((s.vsrc n a).zip ((s.vsrc n b).zip (s.vsrc n c))).map
        (fun x => ((fpFma bf16 (bfLo x.1) (bfLo x.2.1) (bfLo x.2.2)).1 +
            (fpFma bf16 (bfHi x.1) (bfHi x.2.1) (bfHi x.2.2)).1 * 65536,
          (fpFma bf16 (bfLo x.1) (bfLo x.2.1) (bfLo x.2.2)).2 ||| (fpFma bf16 (bfHi x.1) (bfHi x.2.1) (bfHi x.2.2)).2))
      go 0 4 (.v d ((s.ve n).preg p) (BitVec.allOnes 32) (rs.map (fun r => BitVec.ofNat 32 r.1))
        (laneFlags ((s.ve n).preg p) rs)) (exec (.bfma n p d a b c) s)) ∧
    (∀ k : Conv, convOk k = true →
      let rs := List.zipWith (fun x u => cvtLane k u x) (s.vsrc n a) (draws k.stoch)
      VeIssues n 0 [(4, .v d ((s.ve n).preg p) (convMask k) (rs.map (fun r => BitVec.ofNat 32 r.1))
        (laneFlags ((s.ve n).preg p) rs))] (gens k.stoch) (0, 0) s (exec (.cvt n p d a k) s)) ∧
    int (· + ·) (exec (.iadd n p d a b) s) ∧ int (· - ·) (exec (.isub n p d a b) s) ∧
    int (· * ·) (exec (.imul n p d a b) s) ∧ int (· &&& ·) (exec (.andOp n p d a b) s) ∧
    int (· ||| ·) (exec (.orOp n p d a b) s) ∧ int (· ^^^ ·) (exec (.xorOp n p d a b) s) ∧
    int (fun x y => x <<< (y.toNat % 32)) (exec (.shl n p d a b) s) ∧
    int (fun x y => x >>> (y.toNat % 32)) (exec (.shr n p d a b) s) ∧
    int (fun x y => x.sshiftRight (y.toNat % 32)) (exec (.sar n p d a b) s) ∧
    go 1 1 (int2 s n (fun x _ => x) p d a a) (exec (.mov n p d a) s) ∧
    (∀ pk : Fin 8, go 1 1 (.v d ((s.ve n).preg p) (BitVec.allOnes 32)
      ((((s.ve n).preg pk).zip ((s.vsrc n b).zip (s.vsrc n a))).map (fun x => if x.1 then x.2.2 else x.2.1)) 0)
      (exec (.sel n p d a b pk) s)) ∧
    go 1 1 (.v d ((s.ve n).preg p) (BitVec.allOnes 32) ((upTo 0 256).map (BitVec.ofNat 32)) 0) (exec (.laneid n p d) s) ∧
    (∀ (pd : Fin 8) (cc : Cond),
      pr pd (List.zipWith (fun x y => condOf cc ((f32 x).lt (f32 y)) ((f32 x).eqv (f32 y)) ((f32 y).lt (f32 x)))
        (s.vsrc n a) (s.vsrc n b)) (exec (.fcmp n p pd a b cc) s) ∧
      pr pd (List.zipWith (fun x y => condOf cc (x.slt y) (decide (x = y)) (y.slt x)) (s.vsrc n a) (s.vsrc n b))
        (exec (.icmp n p pd a b cc) s)) ∧
    (∀ pd pa pb : Fin 8,
      pr pd (List.zipWith (· && ·) ((s.ve n).preg pa) ((s.ve n).preg pb)) (exec (.pand n p pd pa pb) s) ∧
      pr pd (List.zipWith (· || ·) ((s.ve n).preg pa) ((s.ve n).preg pb)) (exec (.por n p pd pa pb) s) ∧
      pr pd (((s.ve n).preg pa).map (!·)) (exec (.pnot n p pd pa) s)) ∧
    (∀ wd wa wb : Fin 8,
      let rs := List.zipWith wideAdd ((s.ve n).wreg wa) ((s.ve n).wreg wb)
      go 1 6 (.w wd ((s.ve n).preg p) (rs.map (·.1)) (laneFlags ((s.ve n).preg p) (rs.map (fun r => (0, 4 * r.2.toNat)))))
        (exec (.wadd n p wd wa wb) s)) ∧
    (∀ wd : Fin 8, go 1 6 (.w wd ((s.ve n).preg p) ((s.vsrc n a).map (fun x => wideOfFp32 x.toNat))
      (laneFlags ((s.ve n).preg p) ((s.vsrc n a).map (fun x => (0, match f32 x with | .inf _ => 1 | _ => 0)))))
      (exec (.f2w n p wd a) s)) ∧
    (∀ (wa : Fin 8) (k : WConv),
      let rs := List.zipWith (fun x u => w2fLane k u x) ((s.ve n).wreg wa) (draws k.stoch)
      VeIssues n 1 [(6, .v d ((s.ve n).preg p) (wconvMask k) (rs.map (fun r => BitVec.ofNat 32 r.1))
        (laneFlags ((s.ve n).preg p) rs))] (gens k.stoch) (0, 0) s (exec (.w2f n p d wa k) s))

/-- The random, table, load, store and address operations. A draw advances every lane generator once; a load reads its
bytes two cycles after issue and lands in its class's latency; a store samples its register at issue; a table image is read
in 33 parts. -/
def Obligations.VectorMemoryTableAndRandomOpsIssue : Prop :=
  ∀ (n : CoreId) (s : State), veQuiet s n → ∀ (p : Fin 8) (d : Fin 64) (a : Src) (r : Fin 16) (off : BitVec 8),
    let g := (s.ve n).gens
    let mask := (s.ve n).preg p
    let line := ((s.ve n).areg r + off.signExtend 32).toNat
    let id (slot : Nat) : Nat := (s.ve n).seq * 8 + slot
    VeIssues n 1 [(2, .v d mask (BitVec.allOnes 32) (g.map (fun x => x.draw.1)) 0)] (g.map (fun x => x.draw.2)) (0, 0) s
      (exec (.rnd n p d) s) ∧
    (∀ q : Fin 4,
      VeIssues n 1 [(2, .v d mask (BitVec.allOnes 32) (g.map (fun x => x.word q)) 0)] g (0, 0) s (exec (.rget n p d q) s) ∧
      VeIssues n 1 [(2, .rput false q mask (s.vsrc n a))] g (0, 0) s (exec (.rput n p a q) s) ∧
      (drainGensFree s n →
        VeIssues n 1 [(2, .v d mask (BitVec.allOnes 32) ((s.ope n).gens.map (fun x => x.word q)) 0)] g (0, 0) s
          (exec (.drget n p d q) s) ∧
        VeIssues n 1 [(2, .rput true q mask (s.vsrc n a))] g (0, 0) s (exec (.drput n p a q) s))) ∧
    (∀ (slot : Fin 16) (half : Bool),
      let rs := (s.vsrc n a).map (tblLane (tget [] (s.ve n).slots slot) false half)
      let rs' := (s.vsrc n a).map (tblLane (tget [] (s.ve n).slots slot) true half)
      VeIssues n 2 [(7, .v d mask (BitVec.allOnes 32) (rs.map (fun x => BitVec.ofNat 32 x.1)) (laneFlags mask rs))] g (0, 0) s
        (exec (.tf n p d a slot half) s) ∧
      VeIssues n 2 [(7, .v d mask (BitVec.allOnes 32) (rs'.map (fun x => BitVec.ofNat 32 x.1)) (laneFlags mask rs'))] g (0, 0) s
        (exec (.td n p d a slot half) s)) ∧
    (∀ slot : Fin 16, VeIssues n 2
      ((upTo 0 33).map (fun k => (2 + k, .tblRead (id 2) ((s.ve n).areg r).toNat k)) ++ [(36, .tblEffect (id 2) slot)])
      g (0, 0) s (exec (.tblld n slot r) s)) ∧
    VeIssues n 3 [(2, .loadRead (id 3) (line * 128) 1024 (decide (line + 8 > 196608))), (9, .loadV (id 3) d mask)] g (0, 0) s
      (exec (.ld n p d r off) s) ∧
    (∀ w : Fin 32, VeIssues n 3 [(2, .loadRead (id 3) (line * 128 + 4 * w) 4 (decide (line + 1 > 196608))),
      (9, .loadB (id 3) d mask)] g (0, 0) s (exec (.ldb n p d r off w) s)) ∧
    (∀ wd : Fin 8, VeIssues n 3 [(2, .loadRead (id 3) (line * 128) 1024 (decide (line + 24 > 196608))),
      (3, .loadRead (id 3) ((line + 8) * 128) 1024 false), (4, .loadRead (id 3) ((line + 16) * 128) 1024 false), (11, .loadW (id 3) wd mask)] g
      (2, 0) s (exec (.wld n p wd r off) s)) ∧
    VeIssues n 4 [(6, .store line (laneBytes mask (((s.ve n).vreg d).map (fun x => leBytes x.toNat 4)))
      (decide (line + 8 > 196608)))] g (0, 0) s (exec (.st n p d r off) s) ∧
    (∀ ws : Fin 8,
      let bs := laneBytes mask (((s.ve n).wreg ws).map (fun x => leBytes x.toNat 12))
      VeIssues n 4 [(6, .store line (bs.take 1024) (decide (line + 24 > 196608))),
        (7, .store (line + 8) ((bs.drop 1024).take 1024) false), (8, .store (line + 16) ((bs.drop 2048).take 1024) false)] g
        (0, 2) s (exec (.wst n p ws r off) s)) ∧
    (∀ (ad src : Fin 16) (imm : BitVec 19),
      VeIssues n 5 [(1, .a ad ((s.ve n).areg src + imm.signExtend 32))] g (0, 0) s (exec (.aadd n ad src imm) s) ∧
      VeIssues n 5 [(1, .a ad (s.vparam n src))] g (0, 0) s (exec (.amov n ad src) s)) ∧
    (∀ (drain : Bool) (k : Fin 8), (drain = true → drainGensFree s n) →
      VeIssues n 5 [(2, .seed drain ((upTo 0 256).map (fun l => seedGen
        ((s.vparam n (2 * k)).setWidth 64 ||| ((s.vparam n (2 * k + 1)).setWidth 64 <<< 32))
        (BitVec.ofNat 64 (((s.ve n).areg r).toNat * 256 + l)))))] g (0, 0) s (exec (.seed n drain k r) s))

/-- What is in flight lands at its cycle: a lane register, a wide register, a predicate or an address register takes its value in
the lanes whose mask is 1; p0 and a0 take none; a store writes its bytes; a load reads tile memory and then fills its register.
An access that loses a bank conflict stalls the engine for one cycle, which counts under code 4, and stays in flight. -/
def Obligations.VectorResultsLandUnderTheirMask : Prop :=
  ∀ (n : CoreId) (s : State) (x : Pend) (xs : List Pend), (s.ve n).pend = x :: xs → s.alive n = true →
    x.due ≤ (s.ve n).cyc → ∀ (e : Ecc) (h : Hold),
    (∀ r mask vals fl, x.act = .v r mask (BitVec.allOnes 32) vals fl →
      ∃ t, exec (.veResultWriteback n e h) s = .next t ∧ (t.ve n).pend = xs ∧
        (t.ve n).vreg r = (mask.zip (((s.ve n).vreg r).zip vals)).map (fun q => if q.1 then q.2.2 else q.2.1) ∧
        (∀ k, k ≠ r → (t.ve n).vreg k = (s.ve n).vreg k) ∧
        t.rd (reg0 .VE_NUM_FLAGS n) = s.rd (reg0 .VE_NUM_FLAGS n) ||| BitVec.ofNat 64 fl ∧
        VeOnly n [reg0 .VE_STATUS n, reg0 .VE_STREAM n, reg0 .VE_NUM_FLAGS n] s t) ∧
    (∀ r mask vals fl, x.act = .w r mask vals fl →
      ∃ t, exec (.veResultWriteback n e h) s = .next t ∧ (t.ve n).pend = xs ∧
        (t.ve n).wreg r = (mask.zip (((s.ve n).wreg r).zip vals)).map (fun q => if q.1 then q.2.2 else q.2.1) ∧
        VeOnly n [reg0 .VE_STATUS n, reg0 .VE_STREAM n, reg0 .VE_NUM_FLAGS n] s t) ∧
    (∀ r mask vals, x.act = .p r mask vals →
      ∃ t, exec (.veResultWriteback n e h) s = .next t ∧ (t.ve n).pend = xs ∧
        (t.ve n).preg r = (if r = 0 then List.replicate 256 true
          else (mask.zip (((s.ve n).preg r).zip vals)).map (fun q => if q.1 then q.2.2 else q.2.1)) ∧
        VeOnly n [reg0 .VE_STATUS n, reg0 .VE_STREAM n] s t) ∧
    (∀ r val, x.act = .a r val →
      ∃ t, exec (.veResultWriteback n e h) s = .next t ∧ (t.ve n).pend = xs ∧ (t.ve n).areg r = (if r = 0 then 0 else val) ∧
        VeOnly n [reg0 .VE_STATUS n, reg0 .VE_STREAM n] s t) ∧
    (∀ gs, x.act = .seed false gs →
      ∃ t, exec (.veResultWriteback n e h) s = .next t ∧ (t.ve n).pend = xs ∧ (t.ve n).gens = gs ∧
        VeOnly n [reg0 .VE_STATUS n, reg0 .VE_STREAM n] s t) ∧
    (∀ q mask vals, x.act = .rput false q mask vals →
      ∃ t, exec (.veResultWriteback n e h) s = .next t ∧ (t.ve n).pend = xs ∧
        (t.ve n).gens = (mask.zip ((s.ve n).gens.zip vals)).map (fun y => if y.1 then y.2.1.setWord q y.2.2 else y.2.1) ∧
        VeOnly n [reg0 .VE_STATUS n, reg0 .VE_STREAM n] s t) ∧
    (∀ line bs, x.act = .store line bs false → line * 128 + bs.length ≤ slotSize → s.badWords = [] →
      ∃ t, exec (.veResultWriteback n .ok .none) s = .next t ∧ (t.ve n).pend = xs ∧
        MemSameBut (slotBase n + line * 128) bs.length s t ∧
        (∀ (k : Nat) (b : Option Byte), bs[k]? = some b → cget t.mem (slotBase n + line * 128 + k) =
          b.getD (cget s.mem (slotBase n + line * 128 + k))) ∧
        RegsSameBut [reg0 .VE_STATUS n, reg0 .VE_STREAM n] s t) ∧
    (∀ id off len, x.act = .loadRead id off len false → (s.ve n).dead = [] → s.badWords = [] →
      ∃ t, exec (.veLoadRead n .ok .none) s = .next t ∧ (t.ve n).pend = xs ∧ t.mem = s.mem ∧
        tget [] (t.ve n).data id = tget [] (s.ve n).data id ++ s.tmRead n off len ∧
        VeOnly n [reg0 .VE_STATUS n, reg0 .VE_STREAM n] s t) ∧
    (∀ id off len, x.act = .loadRead id off len false → (s.ve n).dead = [] → off < slotSize →
      ∃ t, exec (.veLoadRead n .double .none) s = .next t ∧ (s.engSt true n ≠ 3 → t.engSt true n = 3 ∧
        t.fld (reg0 .VE_FAULT n) F.VE_FAULT_cause = 0x20) ∧ (t.ve n).dead = [id]) ∧
    (∀ id r mask, x.act = .loadV id r mask → (s.ve n).dead = [] →
      ∃ t, exec (.veResultWriteback n e h) s = .next t ∧ (t.ve n).pend = xs ∧
        (t.ve n).vreg r = (mask.zip (((s.ve n).vreg r).zip ((upTo 0 256).map
          (fun l => BitVec.ofNat 32 (leNat (((tget [] (s.ve n).data id).drop (4 * l)).take 4)))))).map
          (fun q => if q.1 then q.2.2 else q.2.1) ∧ tget [] (t.ve n).data id = [] ∧
        VeOnly n [reg0 .VE_STATUS n, reg0 .VE_STREAM n] s t) ∧
    (∀ id r mask, x.act = .loadB id r mask → (s.ve n).dead = [] →
      ∃ t, exec (.veResultWriteback n e h) s = .next t ∧ (t.ve n).pend = xs ∧
        (t.ve n).vreg r = (mask.zip (((s.ve n).vreg r).zip (List.replicate 256
          (BitVec.ofNat 32 (leNat ((tget [] (s.ve n).data id).take 4)))))).map (fun q => if q.1 then q.2.2 else q.2.1) ∧
        VeOnly n [reg0 .VE_STATUS n, reg0 .VE_STREAM n] s t) ∧
    (∀ line bs derr, x.act = .store line bs derr → exec (.veResultWriteback n e .bank) s = .next (s.stall .ve n 4)) ∧
    (∀ id off len derr, x.act = .loadRead id off len derr → exec (.veLoadRead n e .bank) s = .next (s.stall .ve n 4)) ∧
    (∀ id line k, x.act = .tblRead id line k → exec (.tblldRead n e .bank) s = .next (s.stall .ve n 4)) ∧
    (∀ id line k, x.act = .tblRead id line (k + 1) → (s.ve n).dead = [] → s.badWords = [] →
      ∃ t, exec (.tblldRead n .ok .none) s = .next t ∧ (t.ve n).pend = xs ∧ (t.ve n).slots = (s.ve n).slots ∧
        tget [] (t.ve n).data id = tget [] (s.ve n).data id ++
          s.tmRead n (line * 128 + 256 * (k + 1)) (min 256 (8320 - 256 * (k + 1))) ∧
        VeOnly n [reg0 .VE_STATUS n, reg0 .VE_STREAM n] s t) ∧
    (∀ id slot, x.act = .tblEffect id slot → (s.ve n).dead = [] →
      ∃ t, exec (.tblldTakeEffect n) s = .next t ∧ (t.ve n).pend = xs ∧
        tget [] (t.ve n).slots slot = tget [] (s.ve n).data id ∧
        VeOnly n [reg0 .VE_STATUS n, reg0 .VE_STREAM n] s t)

/-- The vector stream. A bundle of one operation issues exactly what the operation's own command issues, and the stream moves to
the next bundle; a malformed bundle faults with cause 0x01; LOOP, ENDLOOP, WAITTOK and SIGTOK act as in the other stream; the
bundle period of a rising ramp withholds a bundle under code 6; run, halt and fault_clear move the engine between its states; a
code line is fetched into the queue. -/
def Obligations.VectorStreamRunsItsBundles : Prop :=
  ∀ (n : CoreId) (s : State),
    (∀ q qs, (s.ve n).st.q = q :: qs → veQuiet s n → q.fault = 0 → s.pc true n = q.pc →
      (∀ slot, decBundle n q.bytes = .error slot →
        ∃ t, exec (.veBundleIssue n .none) s = .next t ∧ t.engSt true n = 3 ∧
          t.fld (reg0 .VE_FAULT n) F.VE_FAULT_cause = 0x01 ∧ (t.ve n).pend = [] ∧ t.mem = s.mem) ∧
      (∀ (p : Fin 8) (d : Fin 64) (a b : Src), decBundle n q.bytes = .ok ⟨[.int .add p d a b], false⟩ →
        ∃ t, exec (.veBundleIssue n .none) s = .next t ∧ (∃ u, exec (.iadd n p d a b) s = .next u ∧
          (t.ve n).pend = (u.ve n).pend ∧ (t.ve n).v = (u.ve n).v ∧ (t.ve n).cyc = (u.ve n).cyc) ∧
          (t.ve n).st = (s.ve n).st.pop ∧ t.pc true n = (s.ve n).st.pop.nextPc % 2 ^ 25) ∧
      (∀ (p : Fin 8) (d : Fin 64) (a b : Src), decBundle n q.bytes = .ok ⟨[.int .add p d a b], false⟩ →
        s.fld (reg0 .PWR_STATUS 0) F.PWR_STATUS_loadstep = 1 → s.fld (reg0 .TM_STALL_CTRL n) F.TM_STALL_CTRL_freeze = 0 →
        ∃ t, exec (.veBundleIssue n .ramp) s = .next t ∧ (t.ve n).st = (s.ve n).st ∧ (t.ve n).pend = [] ∧
          t.rd (reg1 .VE_STALL n 6) = s.rd (reg1 .VE_STALL n 6) + 1) ∧
      (∀ ref k, decBundle n q.bytes = .ok ⟨[.sigtok ref k], false⟩ → ref < 64 → (s.ve n).cyc < (s.ve n).stored →
        ∃ t, exec (.veSigtok n) s = .next t ∧ (t.ve n).st = (s.ve n).st ∧
          t.tokCount ⟨0, n, ref⟩ = s.tokCount ⟨0, n, ref⟩) ∧
      (∀ ref k, decBundle n q.bytes = .ok ⟨[.sigtok ref k], false⟩ → ref < 64 → s.tokCount ⟨0, n, ref⟩ + k ≤ 65535 →
        (s.ve n).stored ≤ (s.ve n).cyc →
        ∃ t, exec (.veSigtok n) s = .next t ∧ (t.ve n).st = (s.ve n).st.pop ∧
          t.tokCount ⟨0, n, ref⟩ = s.tokCount ⟨0, n, ref⟩ + k) ∧
      (∀ ref k, decBundle n q.bytes = .ok ⟨[.waittok ref k], false⟩ → ref < 64 → s.waits = [] → s.grants = [] → s.withdrawn = [] →
        (k ≤ s.tokCount ⟨0, n, ref⟩ → ∃ t, exec (.veWaittok n) s = .next t ∧ (t.ve n).st = (s.ve n).st.pop ∧
          t.tokCount ⟨0, n, ref⟩ = s.tokCount ⟨0, n, ref⟩ - k) ∧
        (s.tokCount ⟨0, n, ref⟩ < k → ∃ t, exec (.veWaittok n) s = .next t ∧ (t.ve n).st = (s.ve n).st ∧
          t.tokCount ⟨0, n, ref⟩ = s.tokCount ⟨0, n, ref⟩ ∧ t.waits = [⟨⟨0, n, ref⟩, reqId n 3, k⟩])) ∧
      (∀ count creg off, decBundle n q.bytes = .ok ⟨[.loop false count creg off], false⟩ → q.pc + off < s.pcEnd true n →
        count ≠ 0 → ∀ d, s.loopDepth true n = d → d < 4 →
        ∃ t, exec (.veLoop n) s = .next t ∧ t.fld (loopReg true n d) F.OPE_LOOP_remaining = count % 2 ^ 32 ∧
          t.fld (loopReg true n d) F.OPE_LOOP_active = 1 ∧
          t.fld (loopReg true n d) F.OPE_LOOP_start_pc = (q.pc + q.bytes.length) % 2 ^ 25 ∧
          t.fld (loopEndReg true n d) F.OPE_LOOP_END_end_pc = (q.pc + off) % 2 ^ 25) ∧
      (decBundle n q.bytes = .ok ⟨[.endloop], false⟩ → ∀ d, s.loopDepth true n = d + 1 →
        s.fld (loopEndReg true n d) F.OPE_LOOP_END_end_pc = q.pc →
        ∃ t, exec (.veEndloop n) s = .next t ∧ (t.ve n).st = (s.ve n).st.pop ∧
          t.fld (loopReg true n d) F.OPE_LOOP_remaining = s.fld (loopReg true n d) F.OPE_LOOP_remaining - 1 ∧
          (s.fld (loopReg true n d) F.OPE_LOOP_remaining ≤ 1 → t.fld (loopReg true n d) F.OPE_LOOP_active = 0))) ∧
    (s.alive n = true → s.engSt true n = 0 → s.pc true n < s.pcEnd true n →
      ∃ t, exec (.veRun n) s = .next t ∧ t.engSt true n = 1 ∧ (t.ve n).st.fpc = s.pc true n ∧ (t.ve n).st.q = [] ∧
        VeOnly n [reg0 .VE_STATUS n, reg0 .VE_STREAM n] s t) ∧
    (s.engSt true n = 1 → ∃ t, exec (.veHalt n) s = .next t ∧ t.engSt true n = 2 ∧ (t.ve n).st = (s.ve n).st ∧
        (t.ve n).pend = (s.ve n).pend ∧ VeOnly n [reg0 .VE_STATUS n, reg0 .VE_STREAM n] s t) ∧
    (s.engSt true n = 3 → ∃ t, exec (.veFaultClear n) s = .next t ∧ t.engSt true n = 0 ∧ (t.ve n).st.q = [] ∧
        t.pc true n = s.pc true n ∧ (t.ve n).v = (s.ve n).v ∧
        VeOnly n [reg0 .VE_STATUS n, reg0 .VE_STREAM n] s t) ∧
    (s.alive n = true → s.engSt false n = 1 → (s.ope n).st = .at 0 [] → 128 ≤ s.pcEnd false n → s.badWords = [] →
      (∀ k, k < 8 → (cget s.mem (slotBase n + 16 * k)).toNat ≠ 0x10 ∧ (cget s.mem (slotBase n + 16 * k)).toNat ≠ 0x11) →
      ∃ t, exec (.codeFetch n false .ok) s = .next t ∧ (t.ope n).st.q.length = 8 ∧
        (∀ k q, (t.ope n).st.q[k]? = some q → q.pc = 16 * k ∧ q.bytes = s.tmRead n (16 * k) 16 ∧ q.fault = 0) ∧
        t.mem = s.mem)

/-! The move engine. -/

/-- The life of a descriptor in its queue: the producer advances the tail, a burst of entries is fetched, the next fetched
one starts once its token is there, and a completed one retires, advances done, signals and raises its event. -/
def Obligations.MoveQueueFetchesStartsAndRetires : Prop :=
  ∀ (n : CoreId) (m : Fin 8) (s : State), s.alive n = true →
    let head := reg1 .MOV_Q_HEAD n m
    let st := reg1 .MOV_STALL n
    (∀ tail : BitVec 16, ∃ t, exec (.movTailWrite n m tail) s = .next t ∧ t.qTail n m = tail.toNat ∧
      (s.qSt n m < 2 → t.qSt n m = if s.qDone n m = tail.toNat then 0 else 1) ∧ (2 ≤ s.qSt n m → t.qSt n m = s.qSt n m) ∧
      t.cores = s.cores ∧ MovOnly n m [reg1 .MOV_Q_TAIL n m, head] s t) ∧
    (s.qEnabled n m = true → s.qSt n m < 2 → (s.que n m).old = [] → s.badWords = [] → ∀ h, s.qHead n m = h →
      ∀ left, sub16 (s.qTail n m) h = left → left ≠ 0 →
      (s.qSize n m < left → ∃ t, exec (.descriptorFetch n m .ok) s = .next t ∧ t.qSt n m = 2 ∧
        t.fld (reg1 .MOV_Q_ERR n m) F.MOV_Q_ERR_cause = 0x06 ∧ t.que n m = s.que n m ∧ t.mem = s.mem) ∧
      (left ≤ s.qSize n m → ∀ k, min left (s.fld (reg1 .MOV_Q_CFG n m) F.MOV_Q_CFG_burst_m1 + 1) = k →
        (s.que n m).fetched.length + k ≤ 32 → (∀ i ∈ upTo 0 k, s.qEntry n m ((h + i) % 65536) + 64 ≤ slotSize) →
        ∃ t, exec (.descriptorFetch n m .ok) s = .next t ∧ t.qHead n m = (h + k) % 65536 ∧
          (t.que n m).fetched = (s.que n m).fetched ++ (upTo 0 k).map (fun i =>
            ((h + i) % 65536, leNat (s.tmRead n (s.qEntry n m ((h + i) % 65536)) 64))) ∧
          (t.que n m).started = (s.que n m).started ∧ MovOnly n m [head, st 0] s t)) ∧
    (movQuiet s n m → ∀ f fs, (s.que n m).fetched = f :: fs → s.descCheck n f.2 = 0 → s.srcSlots f.2 = [] ∨ dOp f.2 = 0 →
      ∀ idx, (f.1 + 1) % 65536 = idx →
      (dWaitEn f.2 = false → ∃ t, exec (.descriptorStart n m) s = .next t ∧ t.qStart n m = idx ∧
        (t.que n m).fetched = fs ∧ (t.que n m).started = [MDesc.fresh f.1 f.2] ∧ MovOnly n m [head, st 0] s t) ∧
      (dWaitEn f.2 = true → ∀ k, dWaitTok f.2 = k → k < 64 → s.waits = [] → s.grants = [] → s.withdrawn = [] →
        (1 ≤ s.tokCount ⟨0, n, k⟩ → ∃ t, exec (.descriptorStart n m) s = .next t ∧
          t.tokCount ⟨0, n, k⟩ = s.tokCount ⟨0, n, k⟩ - 1 ∧ (t.que n m).started = [MDesc.fresh f.1 f.2]) ∧
        (s.tokCount ⟨0, n, k⟩ = 0 → ∃ t, exec (.descriptorStart n m) s = .next t ∧ (t.que n m).started = [] ∧
          (t.que n m).fetched = f :: fs ∧ t.tokCount ⟨0, n, k⟩ = 0 ∧ t.waits = [⟨⟨0, n, k⟩, reqId n (4 + m), 1⟩])) ∧
      (dOp f.2 = 0 → dWaitEn f.2 = false → ∃ t, exec (.moveNop n m) s = .next t ∧ t.qStart n m = idx ∧
        (t.que n m).fetched = fs ∧ (t.que n m).started = [MDesc.fresh f.1 f.2] ∧ MovOnly n m [head, st 0] s t)) ∧
    (∀ x xs, (s.que n m).started = x :: xs → s.qSt n m ≠ 3 → xferEnd x.d x.i = true → x.fly = [] → x.badEntry = none →
      dOp x.d ≠ 2 ∨ dSummEn x.d = false → ∀ done, (x.idx + 1) % 65536 = done →
      (dSigEn x.d = false → bitsOf x.d 28 1 = 0 → ∃ t, exec (.descriptorRetire n m) s = .next t ∧
        t.qDone n m = done ∧ (t.que n m).started = xs ∧ (t.que n m).fetched = (s.que n m).fetched ∧
        MovOnly n m [head, st 0] s t) ∧
      (dSigEn x.d = true → ∀ k, dSigTok x.d = k → k < 64 → s.tokCount ⟨0, n, k⟩ < 65535 → bitsOf x.d 28 1 = 1 →
        ∃ t, exec (.descriptorRetire n m) s = .next t ∧ t.qDone n m = done ∧ (t.que n m).started = xs ∧
          t.tokCount ⟨0, n, k⟩ = s.tokCount ⟨0, n, k⟩ + 1 ∧ t.mem = s.mem ∧
          t.fld (reg1 .ICU_SRC 0 (8 * n + 3)) F.ICU_SRC_pending = 1 ∧
          ∃ e, t.evq = s.evq ++ [e] ∧ e.code = 0x0202))

/-- What one transfer of each operation moves within tile memory: a row of a COPY; the elements of one lane in one step of a
PANEL, packed into the lane's four bytes; the row that an index table names, to or from a granule, and for the skip index
zeros into a GATHER's granule and nothing for a SCATTER. TRANSFER_ISSUE reads, TRANSFER_WRITE_LAND writes; a
transfer that loses a bank conflict, or waits for a fabric credit, counts its code and stays to be issued. -/
def Obligations.TransfersMoveTheBytesOfTheirDescriptor : Prop :=
  ∀ (n : CoreId) (m : Fin 8) (d : Nat) (s : State), movReady s n m d → dHint d < 3 → dSummEn d = false →
    (dOp d = 1 → dCountA d = 1 → 0 < dCountB d → dTrans d = false → dSrc d % 2048 + dCountB d ≤ 2048 →
      inTile s (dSrc d) (dCountB d) → inTile s (dDst d) (dCountB d) →
      (∃ t, exec (.copy n m .ok) s = .next t ∧ movDone t n m ∧
        readBytes t.mem (dDst d) (dCountB d) = readBytes s.mem (dSrc d) (dCountB d) ∧
        MemSameBut (dDst d) (dCountB d) s t ∧ MovKeeps n m [reg1 .MOV_Q_HEAD n m, reg1 .MOV_STALL n 0] s t) ∧
      (∃ t, exec (.transferIssue n m .ok .none) s = .next t ∧
        (∃ x, (t.que n m).started = [x] ∧ x.i = 1 ∧
          x.fly.map (·.writes) = [[(dDst d, readBytes s.mem (dSrc d) (dCountB d))]]) ∧
        MovOnly n m [reg1 .MOV_Q_HEAD n m, reg1 .MOV_STALL n 0] s t ∧
        ∃ u, exec (.transferWriteLand n m .ok) t = .next u ∧ movDone u n m ∧
          readBytes u.mem (dDst d) (dCountB d) = readBytes s.mem (dSrc d) (dCountB d) ∧
          MemSameBut (dDst d) (dCountB d) s u ∧ MovKeeps n m [reg1 .MOV_Q_HEAD n m] t u) ∧
      exec (.transferIssue n m .ok .bank) s = .next (s.stall .mov n 4) ∧
      exec (.transferIssue n m .ok .fabric) s = .next (s.stall .mov n 9)) ∧
    (∀ r, fmtRank (dFmt d) = some r → dOp d = 2 → dCountA d = 1 → 0 < dCountB d → dCountB d ≤ r → dMx d = false →
      dPackedRun d = false →
      (∀ k ∈ upTo 0 (dCountB d), inTile s (dSrc d + k * dStrideB d) (dSrcBits d / 8)) →
      ∀ a, panelAddr d (panelRow d 0 0) 0 = a → inTile s a 4 →
      ∃ t, exec (.panel n m .ok) s = .next t ∧ movDone t n m ∧ MemSameBut a 4 s t ∧
        readBytes t.mem a 4 = laneWord d ((upTo 0 (dCountB d)).map (fun k =>
          leNat (readBytes s.mem (dSrc d + k * dStrideB d) (dSrcBits d / 8))))) ∧
    (∀ v, leNat (readBytes s.mem (dAux d) 4) = v → dOp d = 3 → dCountA d = 1 → inTile s (dAux d) 4 →
      (v < dCountB d → dGran d ≤ 2048 →
        inTile s (dSrc d + v * dStrideA d) (dGran d) → inTile s (dDst d) (dGran d) →
        ∃ t, exec (.gather n m .ok) s = .next t ∧ movDone t n m ∧ MemSameBut (dDst d) (dGran d) s t ∧
          readBytes t.mem (dDst d) (dGran d) = readBytes s.mem (dSrc d + v * dStrideA d) (dGran d)) ∧
      (v = 0xFFFFFFFF → inTile s (dDst d) (dGran d) →
        ∃ t, exec (.gather n m .ok) s = .next t ∧ movDone t n m ∧ MemSameBut (dDst d) (dGran d) s t ∧
          readBytes t.mem (dDst d) (dGran d) = List.replicate (dGran d) 0) ∧
      (dCountB d ≤ v → v < 0xFFFFFFFF →
        ∃ t, exec (.gather n m .ok) s = .next t ∧ t.qSt n m = 2 ∧
          t.fld (reg1 .MOV_Q_ERR n m) F.MOV_Q_ERR_cause = 0x05 ∧ t.mem = s.mem)) ∧
    (∀ v, leNat (readBytes s.mem (dAux d) 4) = v → dOp d = 4 → dCountA d = 1 → inTile s (dAux d) 4 →
      (v < dCountB d → dGran d ≤ 2048 → inTile s (dSrc d) (dGran d) →
        inTile s (dDst d + v * dStrideA d) (dGran d) →
        ∃ t, exec (.scatter n m .ok) s = .next t ∧ movDone t n m ∧ MemSameBut (dDst d + v * dStrideA d) (dGran d) s t ∧
          readBytes t.mem (dDst d + v * dStrideA d) (dGran d) = readBytes s.mem (dSrc d) (dGran d)) ∧
      (v = 0xFFFFFFFF → ∃ t, exec (.scatter n m .ok) s = .next t ∧ movDone t n m ∧ t.mem = s.mem)) ∧
    (∀ c, (n : Nat) / 16 = c → dOp d = 5 → 0 < dCountA d → fget (s.rd (purCfg c)) F.PUR_DIE_CFG_source ≠ 0 →
      headOf (s.rd (purCfg c)) = n % 16 → s.canInject c = true → (∀ k ∈ upTo 0 8, k ≠ m.val → (s.que n k).started = []) →
      inTile s (dSrc d) 0x40000 →
      ∃ t, exec (.chain n m .ok) s = .next t ∧ t.mem = s.mem ∧
        (∃ p, (t.die c).chain = (s.die c).chain ++ [p] ∧ p.seq = s.fld (purStatus c) F.PUR_DIE_STATUS_next_seq ∧
          p.cells = cellsFrom 0 (readBytes s.mem (dSrc d) 0x40000)) ∧
        t.fld (purStatus c) F.PUR_DIE_STATUS_next_seq = (s.fld (purStatus c) F.PUR_DIE_STATUS_next_seq + 1) % 2 ^ 32 ∧
        (t.que n m).started.map (·.i) = [1])

/-- Clearing a fault, skipping the faulting descriptor, cancelling a queue, the acknowledgement, which waits until every withdrawn
wait is answered, the stall counters, late
weights, and the scrubber. -/
def Obligations.MoveQueueClearsAndCancels : Prop :=
  ∀ (n : CoreId) (m : Fin 8) (s : State), s.alive n = true →
    let head := reg1 .MOV_Q_HEAD n m
    (s.qSt n m = 2 →
      (∃ t, exec (.movFaultClear n m) s = .next t ∧ t.qSt n m = (if s.qDone n m = s.qTail n m then 0 else 1) ∧
        t.qHead n m = s.qHead n m ∧ t.que n m = s.que n m ∧ MovOnly n m [head] s t) ∧
      (s.fld (reg1 .MOV_Q_ERR n m) F.MOV_Q_ERR_cause ≠ 0x06 → ∀ h, s.qHead n m = h →
        ∃ t, exec (.movSkipClear n m) s = .next t ∧ t.qSt n m = 1 ∧ t.qHead n m = (h + 1) % 65536 ∧
          t.qStart n m = (h + 1) % 65536 ∧ (t.que n m).started = (s.que n m).started ++ [MDesc.fresh h 0] ∧
          MovOnly n m [head] s t)) ∧
    (s.qSt n m ≠ 3 → (s.que n m).fetched = [] →
      ∃ t, exec (.movCancel n m) s = .next t ∧ t.qSt n m = 3 ∧ t.qHead n m = s.qTail n m ∧ t.qStart n m = s.qTail n m ∧
        t.qEpoch n m = (s.qEpoch n m + 1) % 2 ^ 32 ∧ (t.que n m).started = [] ∧ (t.que n m).fetched = [] ∧
        (t.que n m).old = (s.que n m).old ++ (s.que n m).started.flatMap (·.fly) ∧
        (t.rd (reg0 .MOV_CANCEL n)).getLsbD m = true ∧
        MovOnly n m [head, reg1 .MOV_Q_CFG n m, reg0 .MOV_CANCEL n, reg0 .MOV_HOLD n] s t) ∧
    (s.qSt n m = 3 → (s.que n m).old = [] → s.withdrawn.any (fun w => decide (w.req = reqId n (4 + m))) = true →
      exec (.cancelAck n m) s = .next s) ∧
    (s.qSt n m = 3 → (s.que n m).old = [] → s.withdrawn.any (fun w => decide (w.req = reqId n (4 + m))) = false →
      s.fld (reg1 .MOV_Q_CANCEL_TOK n m) F.MOV_Q_CANCEL_TOK_tok_en = 0 →
      s.fld (reg1 .MOV_Q_CANCEL_TOK n m) F.MOV_Q_CANCEL_TOK_event = 0 → (s.que n m).cancelTail < 65536 →
      ∃ t, exec (.cancelAck n m) s = .next t ∧ t.qDone n m = (s.que n m).cancelTail ∧
        t.qSt n m = (if (s.que n m).cancelTail = s.qTail n m then 0 else 1) ∧
        t.fld (reg1 .MOV_Q_CANCEL n m) F.MOV_Q_CANCEL_epoch = s.qEpoch n m ∧
        t.fld (reg1 .MOV_Q_CANCEL n m) F.MOV_Q_CANCEL_descriptors = min 65535 (s.que n m).undone ∧
        t.fld (reg1 .MOV_Q_CANCEL n m) F.MOV_Q_CANCEL_transfers = min 65535 (s.que n m).cut ∧
        (t.rd (reg0 .MOV_CANCEL n)).getLsbD m = false ∧ t.cores = s.cores ∧
        MovOnly n m [head, reg1 .MOV_Q_CANCEL n m, reg0 .MOV_CANCEL n] s t) ∧
    (let cleared (e : Eng) (o : Host.Outcome State Fault Refusal) : Prop :=
      ∃ t, o = .next t ∧ (∀ c, c < 12 → t.rd (stallReg e n c) = 0) ∧
        RegsSameBut ((upTo 0 12).map (stallReg e n)) s t ∧ t = { s with regs := t.regs }
     cleared .ope (exec (.clrOpe n) s) ∧ cleared .ve (exec (.clrVe n) s) ∧ cleared .mov (exec (.clrMov n) s)) ∧
    ((s.core n).movLateRaised = false → 0 < (s.core n).movLate → s.fld (reg0 .MOV_LATE_BUDGET n) ⟨0, 32⟩ ≤ (s.core n).movLate →
      ∃ t, exec (.lateWeights n .mov) s = .next t ∧ t.core n = { s.core n with movLateRaised := true } ∧
        t.fld (reg1 .ICU_SRC 0 (8 * n + 5)) F.ICU_SRC_pending = 1 ∧ t.mem = s.mem ∧
        (∃ e, t.evq = s.evq ++ [e] ∧ e.code = 0x0204) ∧ RegsSameBut [reg1 .ICU_SRC 0 (8 * n + 5)] s t) ∧
    ((s.core n).scrub < 196608 → s.badWords = [] →
      (∃ t, exec (.scrubberRead n .ok) s = .next t ∧
        t = { s with cores := t.cores } ∧ t.core n = { s.core n with scrub := ((s.core n).scrub + 1) % 196608 }) ∧
      (∃ t, exec (.scrubberRead n .single) s = .next t ∧ t.mem = s.mem ∧
        t.fld (reg0 .TM_ECC_STATUS n) F.TM_ECC_STATUS_corrected =
          min (s.fld (reg0 .TM_ECC_STATUS n) F.TM_ECC_STATUS_corrected + 1) (2 ^ F.TM_ECC_STATUS_corrected.w - 1) ∧
        RegsSameBut [reg0 .TM_ECC_STATUS n] s t) ∧
      (∃ t, exec (.scrubberRead n .double) s = .next t ∧ t.mem = s.mem ∧
        t.badWords = [slotBase n + 128 * (s.core n).scrub] ∧
        t.fld (reg0 .TM_ECC_ADDR n) F.TM_ECC_ADDR_line = (s.core n).scrub ∧
        t.fld (reg1 .ICU_SRC 0 (8 * n + 7)) F.ICU_SRC_pending = 1))

/-! The purlin chain. -/

/-- A page goes down the chain flit by flit, is accepted against a free-frame count, written into its frame and reported; a
flit that fails is sent again, and the eighth failure in a row fences the receiving cluster's node and turns the die to direct
mode. -/
def Obligations.ChainPagesHopAreAcceptedAndReported : Prop :=
  ∀ (s : State),
    (∀ d : DieId, ∀ p, (s.die d).chain = [p] → ∀ c f, p.flits = [(c, f)] → s.clk.stopped.contains (dieIsland d) = false →
      f < 1023 → s.fld (purStatus d) F.PUR_DIE_STATUS_mode = 0 → 16 * d.val + c < 64 →
      (p.accepted = [] → s.keeps (16 * d + c) = false →
        ∃ t, exec (.flitHop d) s = .next t ∧ (t.die d).chain = [{ p with flits := [(c, f + 1)] }] ∧
          MemSame s t ∧ RegsSameBut [] s t) ∧
      (p.accepted = [c] → s.badWords = [] → ∀ o, s.frameOf (16 * d + c) p.seq + 256 * f = o → o + 256 ≤ slotSize →
        ∃ t, exec (.flitHop d) s = .next t ∧ (t.die d).chain = [{ p with flits := [(c, f + 1)] }] ∧
          readBytes t.mem (slotBase (16 * d + c) + o) 256 = p.flit f ∧
          MemSameBut (slotBase (16 * d + c) + o) 256 s t ∧ RegsSameBut [] s t)) ∧
    (∀ n : CoreId, ∀ p, (s.die (n / 16)).chain = [p] → s.clk.stopped.contains (dieIsland (n / 16)) = false →
      s.keeps n = true → p.flits = [(n.val % 16, 0)] → p.accepted = [] → s.waits = [] → s.grants = [] → s.withdrawn = [] →
      ∀ k, s.fld (reg0 .PUR_CORE_CFG n) F.PUR_CORE_CFG_free_tok = k →
      (1 ≤ s.tokCount ⟨0, n, k⟩ → ∃ t, exec (.memberPageAccept n) s = .next t ∧
        t.tokCount ⟨0, n, k⟩ = s.tokCount ⟨0, n, k⟩ - 1 ∧
        (t.die (n / 16)).chain = [{ p with accepted := [n.val % 16] }] ∧ MemSame s t ∧
        RegsSameBut [reg1 .TOK_CNT_CORE n k] s t) ∧
      (s.tokCount ⟨0, n, k⟩ = 0 → ∃ t, exec (.memberPageAccept n) s = .next t ∧ t.dies = s.dies ∧ MemSame s t ∧
        RegsSameBut [] s t)) ∧
    (∀ n : CoreId, ∀ p, (s.die (n / 16)).chain = [p] → s.clk.stopped.contains (dieIsland (n / 16)) = false →
      p.flits = [(n.val % 16, 1024)] → p.accepted = [n.val % 16] → p.written = [] →
      ∀ k, s.fld (reg0 .PUR_CORE_CFG n) F.PUR_CORE_CFG_rx_tok = k → s.tokCount ⟨0, n, k⟩ < 65535 →
      ∃ t, exec (.memberPageWritten n) s = .next t ∧ t.tokCount ⟨0, n, k⟩ = s.tokCount ⟨0, n, k⟩ + 1 ∧
        (t.die (n / 16)).chain = [] ∧
        t.fld (reg0 .PUR_CORE_STATUS n) F.PUR_CORE_STATUS_pages_kept =
          (s.fld (reg0 .PUR_CORE_STATUS n) F.PUR_CORE_STATUS_pages_kept + 1) % 2 ^ 32 ∧ MemSame s t ∧
        RegsSameBut [reg1 .TOK_CNT_CORE n k, reg0 .PUR_CORE_STATUS n] s t) ∧
    (∀ (n : CoreId), s.clk.stopped.contains (dieIsland (n / 16)) = false →
      (s.flitTo n = false → exec (.purlinCrcResend n) s = .next s) ∧
      ∀ k, tget 0 (s.die (n / 16)).fails (n % 16) = k → s.flitTo n = true →
      (k < 7 → ∃ t, exec (.purlinCrcResend n) s = .next t ∧ tget 0 (t.die (n / 16)).fails (n % 16) = k + 1 ∧
        (t.die (n / 16)).chain = (s.die (n / 16)).chain ∧ MemSame s t ∧ RegsSameBut [reg0 .PUR_CORE_STATUS n] s t) ∧
      (k = 7 → ∃ t, exec (.purlinCrcResend n) s = .next t ∧ tget 0 (t.die (n / 16)).fails (n % 16) = 0 ∧
        t.fld (purStatus (n / 16)) F.PUR_DIE_STATUS_mode = 2 ∧ t.clk.stopped.contains (clusterIsland (n / 4)) = true ∧
        t.fld (reg1 .ICU_SRC 0 (560 + 4 * (n / 16))) F.ICU_SRC_pending = 1)) ∧
    (∀ (d : DieId) (cfg : BitVec 64), s.clk.stopped.contains (dieIsland d) = false →
      ∃ t, exec (.chainReconfigure d cfg) s = .next t ∧ t.rd (purCfg d) = cfg &&& 0xFFFF003F ∧
        (membersOf (t.rd (purCfg d)) = [] → t.fld (purStatus d) F.PUR_DIE_STATUS_mode = 3) ∧ MemSame s t ∧
        t.dies = s.dies ∧ RegsSameBut [purCfg d, purStatus d, reg1 .ICU_SRC 0 (563 + 4 * d)] s t)

/-! The scalar processor. -/

/-- SCALAR_INSTRUCTION runs the 32-bit instruction at the pc: its fields are read where RV32I, M and Zicsr place them, its result
goes to rd, and the pc goes on or jumps. x0 takes nothing and reads zero; a fetch at an odd address or outside instruction
memory, a misaligned load and an absent CSR trap. -/
def Obligations.ScalarInstructionsExecute : Prop :=
  ∀ (n : CoreId) (s : State), scaRuns s n → ∀ pc, (s.sca n).pc = pc → ∀ e : Ecc,
    (pc.toNat % 2 = 1 → ScaTraps n 0 pc s (exec (.scalarInstruction n e) s)) ∧
    (pc.toNat % 2 = 0 → 0x10000 ≤ pc.toNat → ScaTraps n 1 pc s (exec (.scalarInstruction n e) s)) ∧
    (pc.toNat % 2 = 0 → pc.toNat + 4 ≤ 0x10000 → ∀ w, leNat (readBytes (s.sca n).imem pc.toNat 4) = w → w % 4 = 3 →
      ∀ rd, bitsOf w 7 5 = rd → ∀ f3, bitsOf w 12 3 = f3 → ∀ f7, bitsOf w 25 7 = f7 →
      ∀ a, s.xget n (bitsOf w 15 5) = a → ∀ b, s.xget n (bitsOf w 20 5) = b →
      ∀ imm, BitVec.ofInt 32 (signedOf 12 (bitsOf w 20 12)) = imm →
      ∀ immS, BitVec.ofInt 32 (signedOf 12 (f7 * 32 + rd)) = immS →
      let goes (v next : BitVec 32) : Prop := ScaRetires n rd v next s (exec (.scalarInstruction n e) s)
      let ends (next : BitVec 32) : Prop := ScaRetires n 0 0 next s (exec (.scalarInstruction n e) s)
      (w % 128 = 0x13 → f3 = 0 → goes (a + imm) (pc + 4)) ∧
      (w % 128 = 0x13 → f3 = 4 → goes (a ^^^ imm) (pc + 4)) ∧
      (w % 128 = 0x33 → f7 = 0 → f3 = 0 → goes (a + b) (pc + 4)) ∧
      (w % 128 = 0x33 → f7 = 32 → f3 = 0 → goes (a - b) (pc + 4)) ∧
      (w % 128 = 0x33 → f7 = 0 → f3 = 3 → goes (if a.ult b then 1 else 0) (pc + 4)) ∧
      (w % 128 = 0x33 → f7 = 1 → f3 = 0 → goes (a * b) (pc + 4)) ∧
      (w % 128 = 0x33 → f7 = 1 → f3 = 3 → goes (BitVec.ofNat 32 (a.toNat * b.toNat / 2 ^ 32)) (pc + 4)) ∧
      (w % 128 = 0x33 → f7 = 1 → f3 = 5 → goes (if b = 0 then BitVec.allOnes 32 else a / b) (pc + 4)) ∧
      (w % 128 = 0x37 → goes (BitVec.ofNat 32 (w / 4096 * 4096)) (pc + 4)) ∧
      (w % 128 = 0x67 → f3 = 0 → goes (pc + 4) ((a + imm) &&& ~~~1#32)) ∧
      (w % 128 = 0x63 → f3 = 0 →
        ends (if a = b then pc + BitVec.ofInt 32 (signedOf 13 (bitsOf w 31 1 * 4096 + bitsOf w 7 1 * 2048 + bitsOf w 25 6 * 32 +
          bitsOf w 8 4 * 2)) else pc + 4)) ∧
      (w % 128 = 0x03 → f3 = 2 → ∀ x, (a + imm).toNat = x →
        (x % 4 = 0 → 0x10000 ≤ x → x < 0x20000 →
          goes (BitVec.ofNat 32 (leNat (readBytes (s.sca n).dmem (x - 0x10000) 4))) (pc + 4)) ∧
        (x % 4 ≠ 0 → ScaTraps n 4 (BitVec.ofNat 32 x) s (exec (.scalarInstruction n e) s))) ∧
      (w % 128 = 0x23 → f3 = 2 → ∀ x, (a + immS).toNat = x →
        (x % 4 = 0 → 0x10000 ≤ x → x < 0x20000 → ∃ t, exec (.scalarInstruction n e) s = .next t ∧ ScaOnly n s t ∧
          readBytes (t.sca n).dmem (x - 0x10000) 4 = leBytes b.toNat 4 ∧ (t.sca n).pc = pc + 4 ∧
          (t.sca n).x = (s.sca n).x ∧
          ∀ k, ¬(x - 0x10000 ≤ k ∧ k < x - 0x10000 + 4) → cget (t.sca n).dmem k = cget (s.sca n).dmem k) ∧
        (x % 4 = 0 → x < 0x10000 → ScaTraps n 7 (BitVec.ofNat 32 x) s (exec (.scalarInstruction n e) s))) ∧
      (w = 0x73 → ScaTraps n 11 0 s (exec (.scalarInstruction n e) s)) ∧
      (w = 0x30200073 → ∃ t, exec (.scalarInstruction n e) s = .next t ∧ ScaOnly n s t ∧ (t.sca n).pc = (s.sca n).mepc ∧
        (t.sca n).mie = (s.sca n).mpie ∧ (t.sca n).mpie = true ∧ (t.sca n).x = (s.sca n).x) ∧
      (w % 128 = 0x73 → f3 = 2 → bitsOf w 15 5 = 0 → bitsOf w 20 12 = 0xF14 → goes (BitVec.ofNat 32 n) (pc + 4)) ∧
      (w % 128 = 0x73 → f3 = 2 → bitsOf w 20 12 = 0xC01 →
        ScaTraps n 2 (BitVec.ofNat 32 w) s (exec (.scalarInstruction n e) s)))

/-- FENCE, WFI, a write of mcycle, a trap, and the token and queue CSRs. -/
def Obligations.ScalarSystemOperationsAct : Prop :=
  ∀ (n : CoreId) (s : State), scaRuns s n → ∀ pc, (s.sca n).pc = pc →
    ScaRetires n 0 0 (pc + 4) s (exec (.fence n) s) ∧
    (s.meip n = true → (s.sca n).meie = true → ScaRetires n 0 0 (pc + 4) s (exec (.wfi n) s)) ∧
    (s.meip n = false ∨ (s.sca n).meie = false → ∃ t, exec (.wfi n) s = .next t ∧ ScaOnly n s t ∧
      t.sca n = { s.sca n with waiting := true }) ∧
    (∀ (v : BitVec 32) (high : Bool), ∃ t, exec (.mcycleWrite n high v) s = .next t ∧ ScaOnly n s t ∧
      t.mcycle n = withHalf (s.mcycle n) high v ∧ (t.sca n).pc = pc + 4 ∧ (t.sca n).x = (s.sca n).x) ∧
    (∀ (c : TrapCause) (v : BitVec 32), c ≠ .external → ScaTraps n (trapCode c) v s (exec (.scalarTrap n c v) s)) ∧
    (∀ k, (s.sca n).toksel.toNat = k → k < 64 → s.waits = [] → s.grants = [] → s.withdrawn = [] → ∀ c, s.tokCount ⟨0, n, k⟩ = c →
      ∀ (v : BitVec 32) (rd : Fin 32),
      (v.toNat % 65536 ≤ c →
        (∃ t, exec (.ndtokwait n v) s = .next t ∧ t.tokCount ⟨0, n, k⟩ = c - v.toNat % 65536 ∧
          t.sca n = (s.sca n).retired 0 0 (pc + 4) ∧ RegsSameBut [reg1 .TOK_CNT_CORE n k] s t ∧ MemSame s t) ∧
        (∃ t, exec (.ndtoktry n rd v) s = .next t ∧ t.tokCount ⟨0, n, k⟩ = c - v.toNat % 65536 ∧
          t.sca n = (s.sca n).retired rd 1 (pc + 4) ∧ RegsSameBut [reg1 .TOK_CNT_CORE n k] s t ∧ MemSame s t)) ∧
      (c < v.toNat % 65536 →
        (∃ t, exec (.ndtokwait n v) s = .next t ∧ t.tokCount ⟨0, n, k⟩ = c ∧ (t.sca n).pc = pc ∧
          (t.sca n).waiting = true ∧ t.waits = [⟨⟨0, n, k⟩, reqId n 13, v.toNat % 65536⟩]) ∧
        ScaRetires n rd 0 (pc + 4) s (exec (.ndtoktry n rd v) s)) ∧
      (c + v.toNat % 65536 ≤ 65535 →
        ∃ t, exec (.ndtoksig n v) s = .next t ∧ t.tokCount ⟨0, n, k⟩ = c + v.toNat % 65536 ∧
          t.sca n = (s.sca n).retired 0 0 (pc + 4) ∧ RegsSameBut [reg1 .TOK_CNT_CORE n k] s t ∧ MemSame s t)) ∧
    (∀ m, (s.sca n).qsel.toNat = m → m < 8 → ∀ (v : BitVec 32) (rd : Fin 32), s.badWords = [] →
      (v.toNat % 64 = 0 → 0x10000 ≤ v.toNat → v.toNat < 0x20000 → s.qFree n m ≠ 0 →
        ∀ o, s.qEntry n m (s.qTail n m) = o → o + 64 ≤ slotSize →
        ∃ t, exec (.ndqpush n rd v) s = .next t ∧ t.qTail n m = (s.qTail n m + 1) % 65536 ∧
          readBytes t.mem (slotBase n + o) 64 = readBytes (s.sca n).dmem (v.toNat - 0x10000) 64 ∧
          MemSameBut (slotBase n + o) 64 s t ∧
          t.sca n = (s.sca n).retired rd (BitVec.ofNat 32 ((s.qTail n m + 1) % 65536)) (pc + 4) ∧
          RegsSameBut [reg1 .MOV_Q_TAIL n m, reg1 .MOV_Q_HEAD n m] s t) ∧
      (v.toNat % 64 ≠ 0 → ScaTraps n 6 v s (exec (.ndqpush n rd v) s)) ∧
      (v ≠ 1 → ScaRetires n 0 0 (pc + 4) s (exec (.ndqcancel n v) s)) ∧
      (v = 1 → s.qSt n m ≠ 3 → (s.que n m).fetched = [] →
        ∃ t, exec (.ndqcancel n v) s = .next t ∧ t.qSt n m = 3 ∧ t.qEpoch n m = (s.qEpoch n m + 1) % 2 ^ 32 ∧
          t.qHead n m = s.qTail n m ∧ t.sca n = (s.sca n).retired 0 0 (pc + 4)))

/-! The interrupt controller. -/

/-- Sources become pending (R366), are claimed by priority, completed, held off by their group's timer (R372) and abandoned. -/
def Obligations.InterruptSourcesAreClaimedAndCompleted : Prop :=
  ∀ s : State,
    (∀ i : Fin 768, reservedSource i = false → levelSource i = false →
      (s.fld (srcReg i) F.ICU_SRC_pending = 0 → ∃ t, exec (.sourceEdge i) s = .next t ∧
        t.fld (srcReg i) F.ICU_SRC_pending = 1 ∧ t.fld (srcReg i) F.ICU_SRC_overrun = s.fld (srcReg i) F.ICU_SRC_overrun ∧
        RegsSameBut [srcReg i] s t ∧ t = { s with regs := t.regs }) ∧
      (s.fld (srcReg i) F.ICU_SRC_pending = 1 → ∃ t, exec (.sourceEdge i) s = .next t ∧
        t.fld (srcReg i) F.ICU_SRC_pending = 1 ∧ t.fld (srcReg i) F.ICU_SRC_overrun = 1 ∧
        RegsSameBut [srcReg i] s t ∧ t = { s with regs := t.regs })) ∧
    (∀ i : Fin 768, levelSource i = true → s.fld (srcReg i) F.ICU_SRC_in_service = 0 →
      ∃ t, exec (.levelLineChange i) s = .next t ∧ t.fld (srcReg i) F.ICU_SRC_pending = (s.line i).toNat ∧
        RegsSameBut [srcReg i] s t ∧ t = { s with regs := t.regs }) ∧
    (∀ i : Fin 768, levelSource i = true → s.fld (srcReg i) F.ICU_SRC_in_service = 1 →
      exec (.levelLineChange i) s = .next s) ∧
    (∀ (i : Fin 768) (t : Fin 66), s.fld (reg1 .ICU_GROUP 0 (i / 16)) F.ICU_GROUP_remaining ≠ 0 ∨ s.prioOf i = 0 →
      s.eligible i t = false ∧ s.bestSource t ≠ some i.val) ∧
    (∀ (g : Fin 48) (v : BitVec 64), s.regStatus (reg1 .ICU_GROUP 0 g) = .ok →
      ∃ t, exec (.registerWrite (reg1 .ICU_GROUP 0 g) v 0) s = .next t ∧
        t.fld (reg1 .ICU_GROUP 0 g) F.ICU_GROUP_holdoff = fget v F.ICU_GROUP_holdoff ∧
        t.fld (reg1 .ICU_GROUP 0 g) F.ICU_GROUP_remaining = (if fget v F.ICU_GROUP_holdoff = 0 then 0 else
          s.fld (reg1 .ICU_GROUP 0 g) F.ICU_GROUP_remaining)) ∧
    (∀ t : Fin 66, ∀ i, s.bestSource t = some i → ∀ p, s.prioOf i = p → i < 768 →
      s.eligible i t = true ∧ (∀ j : Fin 768, s.eligible j t = true → s.prioOf j ≤ p) ∧
      ∃ u, exec (.icuClaim t) s = .next u ∧ fget u.rdata F.ICU_CLAIM_valid = 1 ∧ fget u.rdata F.ICU_CLAIM_source = i ∧
        fget u.rdata F.ICU_CLAIM_prio = p ∧ u.level t = p ∧ u.fld (srcReg i) F.ICU_SRC_pending = 0 ∧
        u.fld (srcReg i) F.ICU_SRC_in_service = 1 ∧ u.fld (srcReg i) F.ICU_SRC_holder = t ∧
        u.claimsOf t = (p * 1024 + i) :: s.claimsOf t ∧
        u.fld (reg1 .ICU_GROUP 0 (i / 16)) F.ICU_GROUP_remaining = s.fld (reg1 .ICU_GROUP 0 (i / 16)) F.ICU_GROUP_holdoff ∧
        RegsSameBut [srcReg i, reg1 .ICU_GROUP 0 (i / 16)] s u ∧ MemSame s u) ∧
    (∀ t : Fin 66, s.request t = false → ∃ u, exec (.icuClaim t) s = .next u ∧ u = { s with rdata := 0, rstatus := .ok }) ∧
    (∀ (t : Fin 66) (v : BitVec 64),
      (∀ c cs, s.claimsOf t = c :: cs → c % 1024 = v.toNat % 1024 → ∀ i, c % 1024 = i → i < 768 →
        ∃ u, exec (.icuComplete t v) s = .next u ∧ u.claimsOf t = cs ∧ u.fld (srcReg i) F.ICU_SRC_in_service = 0 ∧
          u.fld (srcReg i) F.ICU_SRC_holder = 0x7F ∧
          u.fld (srcReg i) F.ICU_SRC_pending =
            (if levelSource i then (s.line i).toNat else s.fld (srcReg i) F.ICU_SRC_pending) ∧
          RegsSameBut [srcReg i] s u) ∧
      ((s.claimsOf t).head?.map (· % 1024) ≠ some (v.toNat % 1024) → ∃ u, exec (.icuComplete t v) s = .next u ∧
        u.claims = s.claims ∧ u.fld (icuStatusReg t) F.ICU_STATUS_complete_err = 1 ∧
        RegsSameBut [icuStatusReg t] s u)) ∧
    (∀ g : Fin 48, ∃ t, exec (.holdoffExpiry g) s = .next t ∧ t.fld (reg1 .ICU_GROUP 0 g) F.ICU_GROUP_remaining = 0 ∧
      t.fld (reg1 .ICU_GROUP 0 g) F.ICU_GROUP_holdoff = s.fld (reg1 .ICU_GROUP 0 g) F.ICU_GROUP_holdoff ∧
      RegsSameBut [reg1 .ICU_GROUP 0 g] s t ∧ t = { s with regs := t.regs }) ∧
    (∀ k : Fin 16, s.fld (reg1 .ICU_ALARM_CTL 0 k) F.ICU_ALARM_CTL_armed = 1 →
      s.fld (reg1 .ICU_ALARM 0 k) F.ICU_ALARM_time_ns ≤ s.clk.refTime →
      ∃ t, exec (.alarmFire k) s = .next t ∧ t.fld (reg1 .ICU_ALARM_CTL 0 k) F.ICU_ALARM_CTL_armed = 0 ∧
        t.fld (srcReg (752 + k)) F.ICU_SRC_pending = 1 ∧ t = { s with regs := t.regs } ∧
        RegsSameBut [reg1 .ICU_ALARM_CTL 0 k, srcReg (752 + k)] s t) ∧
    (∀ (w : Fin 2) (v : BitVec 64), ∃ t, exec (.icuFwSet w v) s = .next t ∧
      (∀ b, b < (if w = 0 then 64 else 32) → v.getLsbD b = true → t.fld (srcReg (656 + 64 * w + b)) F.ICU_SRC_pending = 1) ∧
      RegsSameBut ((upTo 0 (if w = 0 then 64 else 32)).map (fun b => srcReg (656 + 64 * w + b))) s t ∧
      t = { s with regs := t.regs }) ∧
    (∀ t : Fin 66, ∀ c, s.claimsOf t = [c] → ∀ i, c % 1024 = i → i < 768 →
      ∃ u, exec (.claimAbandon t) s = .next u ∧ u.claimsOf t = [] ∧ u.fld (srcReg i) F.ICU_SRC_in_service = 0 ∧
        u.fld (srcReg i) F.ICU_SRC_pending = (if levelSource i then (s.line i).toNat else 1) ∧
        RegsSameBut [srcReg i] s u)

/-! Stacked memory. -/

/-- A request alone at its pseudo-channel is served in its slot: an uncached write reaches memory, an uncached read brings its
burst; a poisoned burst reports poison; an uncorrectable one leaves its chunk in poison form. A correctable error of a CORRECT
page is put right and counted. -/
def Obligations.StackedRequestsAreServed : Prop :=
  ∀ (c : Fin 1024) (r : HReq) (s : State), s.clk.stopped.contains (90 + c.val / 64) = false → s.hbm.released = [] →
    s.hbm.sets = [] → (s.chan c).q = [] → s.chSt c = 0 → (s.chan c).lost = [] → chanOf r.addr.toNat = c →
    ∀ a, r.addr.toNat = a → a < 0x13B00000000 → r.hint = 0 →
    (∀ bs, r.write = some bs → a % 64 + bs.length ≤ 64 → bs ≠ [] →
      ∃ t, exec (.stackedAccess c [r] .ok) s = .next t ∧ t.rstatus = .ok ∧ readBytes t.mem a bs.length = bs ∧
        MemSameBut a bs.length s t ∧ RegsSameBut [] s t ∧ (∀ b, b ∈ t.poison ↔ b ∈ s.poison ∧ ¬(a ≤ b ∧ b + 64 ≤ a + bs.length))) ∧
    (r.write = none → a / 64 * 64 ∉ s.poison →
      ∃ t, exec (.stackedAccess c [r] .ok) s = .next t ∧ t.rstatus = .ok ∧
        t.rbytes = readBytes s.mem (a / 64 * 64) 64 ∧ t.mem = s.mem ∧ t.poison = s.poison ∧
        HbmOnly [reg1 .MSC_STATS 0 (chanOf a / 64)] s t) ∧
    (r.write = none → a / 64 * 64 ∈ s.poison → (∀ n m, r.who ≠ .move n m) →
      ∃ t, exec (.stackedAccess c [r] .ok) s = .next t ∧ t.rstatus = .poisoned ∧ t.rbytes = [] ∧ t.mem = s.mem) ∧
    (r.write = none → a / 64 * 64 ∉ s.poison → (∀ n m, r.who ≠ .move n m) →
      ∃ t, exec (.stackedAccess c [r] .double) s = .next t ∧ t.rstatus = .uncorrectable ∧ t.rbytes = [] ∧ t.mem = s.mem ∧
        ∀ k, k < 32 → a / 2048 * 2048 + 64 * k ∈ t.poison) ∧
    (r.write = none → a / 64 * 64 ∉ s.poison → (s.pageClass (a / 0x40000)).1 = false → (s.chan c).corrs.length < 63 →
      ∃ t, exec (.stackedAccess c [r] .single) s = .next t ∧ t.rstatus = .ok ∧
        t.rbytes = readBytes s.mem (a / 64 * 64) 64 ∧ t.mem = s.mem ∧ t.poison = s.poison ∧
        t.fld (chReg c) F.HBM_CH_STATE_corrected = min 0xFFFF (s.fld (chReg c) F.HBM_CH_STATE_corrected + 1))

/-- The scrubber, retraining, migration, failure and repair of pseudo-channels, and the flush of the cache. -/
def Obligations.ChannelsAreScrubbedMigratedAndRepaired : Prop :=
  ∀ s : State,
    (∀ st : Fin 16, s.clk.stopped.contains (90 + st.val) = false → ∃ t, exec (.hbmScrub st .ok) s = .next t ∧
      tget 0 t.hbm.scrub st = (tget 0 s.hbm.scrub st + 1) % 41943040 ∧ t.mem = s.mem ∧ t.poison = s.poison) ∧
    ∀ c : Fin 1024, s.clk.stopped.contains (90 + c.val / 64) = false →
      (∃ t, exec (.retrainSlice c true) s = .next t ∧ t.chan c = { s.chan c with tries := 0 } ∧ HbmOnly [] s t) ∧
      ((s.chan c).tries < 15 → ∃ t, exec (.retrainSlice c false) s = .next t ∧
        t.chan c = { s.chan c with tries := (s.chan c).tries + 1 } ∧ HbmOnly [] s t) ∧
      ((s.chan c).tries = 15 → stackedClean { s with hbm := { s.hbm with chans := [] } } →
        ∃ t, exec (.retrainSlice c false) s = .next t ∧ t.chSt c = 2 ∧ t.copyPtr c = 0 ∧ MemSame s t ∧
          ∃ r, t.hbm.retires = [r] ∧ r.chan = c.val ∧ r.slot = 0 ∧ r.repair = true ∧ r.holders.length = 1008) ∧
      (s.chSt c = 2 → s.copyPtr c + 1 < 645120 → ∃ t, exec (.migrationChunkCopy c .ok) s = .next t ∧
        t.copyPtr c = s.copyPtr c + 1 ∧ t.chSt c = 2 ∧ t.mem = s.mem ∧
        ∀ b, b < 0x13B00000000 → (b ∈ t.poison ↔ b ∈ s.poison)) ∧
      (s.chSt c = 2 → 655360 ≤ s.copyPtr c → s.hbm.queue = [] →
        ∃ t, exec (.migrationComplete c) s = .next t ∧ MemSame s t ∧
          t.chSt c = if (s.hbm.retires.find? (fun r => decide (r.chan = c.val))).any (·.repair) then 4 else 3) ∧
      (s.chSt c = 5 → 655360 ≤ s.copyPtr c → s.hbm.queue = [] →
        ∃ t, exec (.migrationComplete c) s = .next t ∧ t.chSt c = 0 ∧ MemSame s t ∧
          t.hbm.retires = s.hbm.retires.filter (fun r => decide (r.chan ≠ c.val))) ∧
      (s.chSt c = 2 → s.hbm.queue = [] → ∃ t, exec (.channelSourceFail c) s = .next t ∧ t.chSt c = 3 ∧
        t.copyPtr c = 655360 ∧ (t.chan c).lost = ⟨s.copyPtr c, (s.chan c).written, []⟩ :: (s.chan c).lost ∧ MemSame s t) ∧
      (s.chSt c = 6 → ∃ t, exec (.channelFail c) s = .next t ∧ t.chSt c = 7 ∧ MemSame s t ∧
        ∃ e, t.evq = s.evq ++ [e] ∧ e.code = 0x0103) ∧
      (stackedClean s → ∃ t, exec (.channelFail c) s = .next t ∧ t.chSt c = 2 ∧ MemSame s t ∧
        ∃ r, t.hbm.retires = [r] ∧ r.chan = c.val ∧ r.slot = 0 ∧ r.repair = false) ∧
      (s.chSt c = 4 → (∃ t, exec (.repairTestDone c true) s = .next t ∧ t.chSt c = 5 ∧ t.copyPtr c = 0 ∧ MemSame s t) ∧
        ∃ t, exec (.repairTestDone c false) s = .next t ∧ MemSame s t ∧
          t.chSt c = if s.hbm.retires.any (fun r => decide (r.chan = c.val)) then 3 else 7) ∧
      (∃ t, exec .mscFlush s = .next t ∧ t.hbm.sets = [] ∧ MemSame s t ∧ RegsSameBut [] s t ∧ t.cores = s.cores)

/-! The window streamer. -/

/-- The streamer starts, fetches the pages of its layers into their slots, signals, injects and releases them; a poisoned
page is retried from its sources in order; a cancel frees everything and is acknowledged. -/
def Obligations.StreamerFetchesInjectsAndReleases : Prop :=
  ∀ (d : DieId) (s : State), s.clk.stopped.contains (dieIsland d) = false → ∀ w, s.win d = w → w.pages < 65536 →
    let status := reg0 .WIN_STATUS d
    (s.fld (reg0 .WIN_CTRL d) F.WIN_CTRL_enable = 0 → s.winState d = 0 →
      (s.winCheck d = 0 → ∃ t, exec (.winEnable d) s = .next t ∧ t.winState d = 1 ∧
        t.fld (reg0 .WIN_CTRL d) F.WIN_CTRL_enable = 1 ∧ t.fld status F.WIN_STATUS_record = 0 ∧
        t.fld status F.WIN_STATUS_next_q = 0 ∧ (t.win d).layers = [] ∧
        (t.win d).next = none ∧ (t.win d).ended = false ∧ (t.win d).base = s.fld (reg0 .WIN_WINDOW d) F.WIN_WINDOW_base_hi * 0x200000 ∧
        (t.win d).pages = s.fld (reg0 .WIN_WINDOW d) F.WIN_WINDOW_pages ∧
        WinOnly ([reg0 .WIN_CTRL d, status] ++ (upTo 0 8192).map (reg1 .WIN_SLOT_STATUS d)) s t) ∧
      (∀ c, s.winCheck d = c → c ≠ 0 → ∃ t, exec (.winEnable d) s = .next t ∧ t.winState d = 4 ∧
        t.fld status F.WIN_STATUS_cause = c ∧ (∃ e, t.evq = s.evq ++ [e] ∧ e.code = 0x0305))) ∧
    (s.fld (reg0 .WIN_CTRL d) F.WIN_CTRL_enable = 0 → s.winState d ≠ 0 → s.winState d ≠ 1 →
      ∃ t, exec (.winEnable d) s = .next t ∧ t.fld (reg0 .WIN_CTRL d) F.WIN_CTRL_enable = 1 ∧ WinOnly [reg0 .WIN_CTRL d] s t) ∧
    (s.fld (reg0 .WIN_CTRL d) F.WIN_CTRL_enable = 1 → exec (.winEnable d) s = .next s) ∧
    (stackedClean s → s.winState d = 1 → s.fld (reg0 .WIN_CTRL d) F.WIN_CTRL_enable = 1 → w.ended = false →
      w.next = none → w.layers = [] → w.fly = [] → w.old = [] → 8 ≤ w.pages →
      ∀ k, s.fld status F.WIN_STATUS_record = k → ∀ q, s.fld status F.WIN_STATUS_next_q = q →
      ∀ x, leNat (readBytes s.mem (s.fld (reg0 .WIN_SCHED d) F.WIN_SCHED_sched_base + 32 * k) 32) = x →
      bitsOf x 0 16 = 1 → ∀ ra, bitsOf x 64 52 = ra → ra % 16 = 0 → ra + 16 ≤ 0x13B00000000 →
      ∀ e, leNat (readBytes s.mem ra 16) = e → s.runOk e = true → bitsOf e 64 16 = 1 → s.slotSt d (q % w.pages) = 0 →
      ∃ t, exec (.layerFetch d) s = .next t ∧ t.slotSt d (q % w.pages) = 1 ∧ (t.win d).fly = [(q, bitsOf e 0 52)] ∧
        t.fld status F.WIN_STATUS_next_q = (q + 1) % 2 ^ 32 ∧
        (t.win d).layers.map (fun l => (l.layer, l.chain, l.first, l.asked, l.sent, l.signalled)) =
          [(bitsOf x 32 32, decide (bitsOf x 16 1 = 1), q, 1, 0, false)] ∧ t.mem = s.mem ∧
        t.fld status F.WIN_STATUS_record = (s.nextRecord d k x).getD k ∧
        t.fld (reg0 .WIN_STEP d) F.WIN_STEP_step_count =
          (s.fld (reg0 .WIN_STEP d) F.WIN_STEP_step_count + bitsOf x 17 1) % 2 ^ 32) ∧
    (∀ q a, w.fly = [(q, a)] → w.old = [] → stackedClean s → s.farLost (a - 0x1000000000000) = false → w.layers = [] →
      0 < w.pages → ∃ t, exec (.windowPageLand d) s = .next t ∧ t.slotSt d (q % w.pages) = 2 ∧ (t.win d).fly = [] ∧
        readBytes t.mem (w.base + q % w.pages * 0x40000) 0x40000 = readBytes s.mem a 0x40000 ∧
        MemSameBut (w.base + q % w.pages * 0x40000) 0x40000 s t) ∧
    (∀ l, w.layers = [l] → stackedClean s → fget (s.rd (purCfg d)) F.PUR_DIE_CFG_source = 0 → s.canInject d = true →
      s.winState d < 3 → l.chain = true → l.sent = 0 → 0 < l.asked → 0 < l.pages → s.slotSt d (w.slotOf l 0) = 2 →
      w.base + w.slotOf l 0 * 0x40000 + 0x40000 ≤ 0x13B00000000 →
      let injected (o : Host.Outcome State Fault Refusal) : Prop :=
        ∃ t, o = .next t ∧ t.mem = s.mem ∧
          (∃ p, (t.die d).chain = (s.die d).chain ++ [p] ∧ p.seq = s.fld (purStatus d) F.PUR_DIE_STATUS_next_seq ∧
            p.stream = true ∧ p.cells = cellsFrom 0 (readBytes s.mem (w.base + w.slotOf l 0 * 0x40000) 0x40000)) ∧
          (t.win d).layers = [{ l with sent := 1 }]
      injected (exec (.streamerInject d .ok) s) ∧ injected (exec (.chainPageInject d .ok) s)) ∧
    (∀ l ls, w.layers = l :: ls → l.asked = 1 → s.winState d < 3 → s.waits = [] → s.grants = [] → s.withdrawn = [] →
      ∀ t, winTok d (s.fld (reg0 .WIN_CTRL d) F.WIN_CTRL_rel_tok) = some t → t.scope = 3 →
      (1 ≤ s.tokCount t → ∃ u, exec (.layerRelease d) s = .next u ∧ u.tokCount t = s.tokCount t - 1 ∧
        (u.win d).layers = ls ∧ u.slotSt d (w.slotOf l 0) = 0 ∧ MemSame s u) ∧
      (s.tokCount t = 0 → ∃ u, exec (.layerRelease d) s = .next u ∧ u.win d = w ∧ u.waits = [⟨t, winReq d, 1⟩])) ∧
    (∀ sl : BitVec 16, ∀ k, sl.toNat = k →
      (s.slotSt d k = 2 → k < 65536 → ∃ t, exec (.pagePoison d sl) s = .next t ∧ t.slotSt d k = 4 ∧
        tget 0 (t.win d).retry k = 1 ∧ t.fld (reg1 .ICU_SRC 0 (544 + 4 * d)) F.ICU_SRC_pending = 1 ∧ MemSame s t ∧
        ∃ e, t.evq = s.evq ++ [e] ∧ e.code = 0x0300) ∧
      (∀ p, w.pageOf k = some p → s.slotSt d k = 4 → ∀ src, tget 0 w.retry k = src → 1 ≤ src → src ≤ 4 →
        (stackedClean s → s.farPage p.2.2 = true → src = 1 → w.layers.all (fun l => l.signalled) = true →
          p.2.1 % max 1 w.pages = k →
          ∃ t, exec (.retrySourceAnswer d sl) s = .next t ∧ t.slotSt d k = 2 ∧ tget 0 (t.win d).retry k = 0 ∧
            readBytes t.mem (w.base + k * 0x40000) 0x40000 = readBytes s.mem p.2.2 0x40000 ∧
            ∃ e, t.evq = s.evq ++ [e] ∧ e.code = 0x0301) ∧
        (∀ next, s.nextSource d (src + 1) p.2.2 = next → next ≤ 4 →
          ∃ t, exec (.retrySourceTimeout d sl) s = .next t ∧ tget 0 (t.win d).retry k = next ∧ t.slotSt d k = 4 ∧
            MemSame s t ∧ (next ≤ 2 → WinOnly [] s t)) ∧
        (s.nextSource d (src + 1) p.2.2 = 5 → s.winState d < 3 → (∀ n, n < 64 → ∀ m, m < 8 → s.qSt n m ≠ 1) →
          ∃ t, exec (.retrySourceTimeout d sl) s = .next t ∧ t.slotSt d k = 3 ∧ t.winState d = 2 ∧
            ∃ e, t.evq = s.evq ++ [e] ∧ e.code = 0x0302))) ∧
    (s.winState d ≠ 3 → ∃ t, exec (.winCancel d) s = .next t ∧ t.winState d = 3 ∧ (t.win d).layers = [] ∧
      (t.win d).fly = [] ∧ (t.win d).next = none ∧ (t.win d).old = w.old ++ w.fly.map (·.1) ∧
      t.fld (reg0 .WIN_STEP d) F.WIN_STEP_epoch = (s.fld (reg0 .WIN_STEP d) F.WIN_STEP_epoch + 1) % 2 ^ 32 ∧
      t.fld (reg0 .WIN_CANCEL d) F.WIN_CANCEL_cancel = 1 ∧ MemSame s t) ∧
    (s.winState d = 3 → w.old = [] → (s.die d).chain = [] → ∃ t, exec (.winCancelAck d) s = .next t ∧
      t.winState d = (if w.pages = 0 then 0 else 1) ∧ t.fld (reg0 .WIN_CANCEL d) F.WIN_CANCEL_cancel = 0 ∧
      t.fld status F.WIN_STATUS_record = s.fld (reg0 .WIN_CANCEL d) F.WIN_CANCEL_restart_at ∧
      t.fld status F.WIN_STATUS_next_q = s.fld status F.WIN_STATUS_next_q ∧
      WinOnly [reg0 .WIN_CANCEL d, status] s t) ∧
    (s.winState d = 4 → w.prior < 4 → ∃ t, exec (.winFaultClear d) s = .next t ∧ t.winState d = w.prior ∧
      t.fld status F.WIN_STATUS_cause = 0 ∧ WinOnly [status] s t)

/-! The far tier. -/

/-- A far-tier request goes to the port that its decoder names and ends with its data, poison or a timeout; the sixteenth
timeout in a row and a removal take the port out and disable every decoder that names it; a port trains again. -/
def Obligations.FarTierRequestsEndAndPortsComeAndGo : Prop :=
  ∀ (k : Fin 4) (s : State), ∀ x, s.cxlPort k = x →
    let st := reg0 .CXL_STATUS (k + 1)
    let decoders := (upTo 0 16).map (reg1 .CXL_HDM 0)
    (∀ (q : Requester) (a : BitVec 52) (wr : Bool) (p : Fin 3), region a.toNat = .far →
      (s.farPort (a.toNat - 0x1000000000000) = some k.val → x.wait = [] →
        (s.cxlSt k = 2 → s.mode ≠ 3 → x.load = 0 → x.fly = [] → ∃ t, exec (.farTierRequest q a wr p) s = .next t ∧
          t.cxlPort k = { x with fly := [⟨q, a.toNat, wr, p⟩], hist := (p.val :: x.hist).take 64 } ∧
          t = { s with cxl := t.cxl }) ∧
        (s.cxlSt k ≠ 2 → ∃ t, exec (.farTierRequest q a wr p) s = .next t ∧
          t.cxlPort k = { x with wait := [⟨q, a.toNat, wr, p⟩] } ∧ t = { s with cxl := t.cxl })) ∧
      (s.farPort (a.toNat - 0x1000000000000) = none → s.farLost (a.toNat - 0x1000000000000) = false → q = .firmware →
        ∃ t, exec (.farTierRequest q a wr p) s = .next t ∧ t.rstatus = .decodeError ∧ MemSame s t ∧
          (wr = false → t.rbytes = List.replicate 64 0) ∧ ∃ e, t.evq = s.evq ++ [e] ∧ e.code = 0x0105)) ∧
    (∀ r, x.fly = [r] → x.wait = [] → s.cxlSt k ≠ 2 → r.who = .firmware →
      (r.write = false → ∃ t, exec (.farTierResponse k false) s = .next t ∧ t.rbytes = readBytes s.mem r.addr 64 ∧
        t.rstatus = .ok ∧ t.cxlPort k = { x with fly := [], late := 0 } ∧ MemSame s t ∧ RegsSameBut [] s t) ∧
      (r.write = true → ∃ t, exec (.farTierResponse k false) s = .next t ∧ t.rstatus = .ok ∧
        t.cxlPort k = { x with fly := [], late := 0 }) ∧
      (r.write = false → ∃ t, exec (.farTierResponse k true) s = .next t ∧ t.rbytes = [] ∧ t.rstatus = .poisoned ∧
        t.fld (reg1 .ICU_SRC 0 (593 + 2 * k)) F.ICU_SRC_pending = 1) ∧
      (x.late < 15 → ∃ t, exec (.farTierTimeout k) s = .next t ∧ t.cxlPort k = { x with fly := [], late := x.late + 1 } ∧
        t.rstatus = (if r.write then .refused else .poisoned) ∧ t.cxlSt k = s.cxlSt k) ∧
      (x.late = 15 → ∃ t, exec (.farTierTimeout k) s = .next t ∧ t.cxlSt k = 4 ∧ t.fld st F.CXL_STATUS_cause = 0x06 ∧
        (∀ n, n < 16 → s.hdmNames n k = true → t.fld (reg1 .CXL_HDM 0 n) F.CXL_HDM_enable = 0))) ∧
    (s.cxlSt k = 2 → x.fly = [] → x.wait = [] →
      (∃ t, exec (.cxlSurpriseRemoval k) s = .next t ∧ t.cxlSt k = 4 ∧ t.fld st F.CXL_STATUS_cause = 0x07 ∧
        (∀ n, n < 16 → s.hdmNames n k = true → t.fld (reg1 .CXL_HDM 0 n) F.CXL_HDM_enable = 0) ∧
        (∃ e, t.evq = s.evq ++ [e] ∧ e.code = 0x0304) ∧ MemSame s t ∧
        RegsSameBut (decoders ++ [st, reg0 .CXL_CTRL (k + 1), reg1 .ICU_SRC 0 (592 + 2 * k)]) s t) ∧
      (∃ t, exec (.cxlRemove k) s = .next t ∧ t.cxlSt k = 3 ∧ t.cxl = s.cxl ∧
        RegsSameBut [st, reg0 .CXL_CTRL (k + 1), reg1 .ICU_SRC 0 (592 + 2 * k)] s t ∧ t = { s with regs := t.regs })) ∧
    (s.cxlSt k = 3 → x.fly = [] → x.wait = [] → ∃ t, exec (.cxlRemoveComplete k) s = .next t ∧ t.cxlSt k = 4 ∧
      (∀ n, n < 16 → s.hdmNames n k = true → t.fld (reg1 .CXL_HDM 0 n) F.CXL_HDM_enable = 0) ∧ MemSame s t) ∧
    (s.clk.stopped.contains (107 + k.val) = false → s.cxlSt k = 0 ∨ s.cxlSt k = 4 ∨ s.cxlSt k = 5 →
      ∃ t, exec (.cxlTrain k) s = .next t ∧ t.cxlSt k = 1 ∧ t.fld st F.CXL_STATUS_cause = 0 ∧
        RegsSameBut [st, reg1 .ICU_SRC 0 (592 + 2 * k)] s t ∧ t = { s with regs := t.regs }) ∧
    (s.clk.stopped.contains (107 + k.val) = false → s.cxlSt k = 1 → ∀ dev : CxlDev,
      (dev.type ≠ 3 → ∃ t, exec (.cxlTrainingComplete k dev) s = .next t ∧ t.cxlSt k = 5 ∧ t.fld st F.CXL_STATUS_cause = 0x02) ∧
      (dev.type = 3 → dev.flit256 = true → dev.width = 16 ∨ dev.width = 8 → dev.switches.toNat ≤ 1 →
        ∃ t, exec (.cxlTrainingComplete k dev) s = .next t ∧ t.cxlSt k = 2 ∧
          t.fld st F.CXL_STATUS_width = dev.width.toNat ∧ t.fld st F.CXL_STATUS_switch = dev.switches.toNat ∧
          t.fld st F.CXL_STATUS_capacity_gib = min dev.capacity.toNat 65535 ∧ t.cxlPort k = .reset)) ∧
    (∀ load : BitVec 2, ∃ t, exec (.devloadReport k load) s = .next t ∧ t.cxlPort k = { x with load := load.toNat } ∧
      t = { s with cxl := t.cxl }) ∧
    (∀ (a : BitVec 52) (kind : BitVec 8), ∃ t, exec (.mediaEvent k a kind) s = .next t ∧
      t.fld (reg1 .ICU_SRC 0 (593 + 2 * k)) F.ICU_SRC_pending = 1 ∧ RegsSameBut [reg1 .ICU_SRC 0 (593 + 2 * k)] s t ∧
      MemSame s t ∧ ∃ e, t.evq = s.evq ++ [e] ∧ e.code = 0x0303)

/-! Training. -/

/-- A bucket is sealed on its counts and the module's leaves in its trees are formed; parts of its present run are kept; the owner
divides the root and writes g; a bucket is free once every owner has reduced it; an update runs once and writes the pending
version; the partner's mirror is updated in the same way; reports, the record and its application commit the step. The table, the
plan, the wire forms and the placement of an update are the firmware's (log 13, log 17). -/
def Obligations.BucketsAreSealedReducedAndCommitted : Prop :=
  ∀ s : State, s.fld (reg0 .RST_STATUS 0) F.RST_STATUS_frost = 0 →
    let tr := s.train
    let trainOnly (t : State) : Prop := t = { s with train := t.train }
    (∀ b : BitVec 12, ∀ x, bucketAt tr.buckets b.toNat = some x → x.closed = false →
      (∀ y, y ∈ tr.buckets.take b.toNat → y.closed = true) → x.sealCount ≠ 0 → s.withdrawn = [] →
      (s.grants = [⟨⟨4, 0, x.tok % 16⟩, cpReq, x.sealCount⟩] → ∃ t, exec (.bucketSeal b) s = .next t ∧ t.grants = [] ∧
        bucketAt t.train.buckets b.toNat = some { x with closed := true, localCount := s.mbCount } ∧
        (∀ k, k ≠ b.toNat → bucketAt t.train.buckets k = bucketAt tr.buckets k) ∧ RegsSameBut [] s t ∧ MemSame s t ∧
        (s.position < s.memberCount → s.memberCount ≤ 4096 → ∀ p, p < s.memberCount →
          ∀ j, (s.position + s.memberCount - p) % s.memberCount = j → s.havePart b.toNat p j (j + 1) = none →
          ∃ y, t.havePart b.toNat p j (j + 1) = some y ∧ y.empty = decide (s.mbCount = 0) ∧
            y.count.toNat = s.mbCount % 2 ^ 32)) ∧
      (s.grants = [] → s.waits = [] → s.cross = [] → ∃ t, exec (.bucketSeal b) s = .next t ∧ t.train = tr ∧
        tget [] t.cross (s.cpIsland * 128 + 88) = [.wait ⟨⟨4, 0, x.tok % 16⟩, cpReq, x.sealCount⟩])) ∧
    (∀ y : Part, ∀ x, bucketAt tr.buckets y.bucket.toNat = some x →
      (y.epoch.toNat ≠ s.members.epoch ∨ y.run.toNat ≠ x.run ∨ (x.reduced = true ∧ y.shard.toNat = s.position) →
        exec (.reductionPartReceive y) s = .next s) ∧
      (y.epoch.toNat = s.members.epoch → y.run.toNat = x.run → x.reduced = false ∨ y.shard.toNat ≠ s.position →
        ∃ t, exec (.reductionPartReceive y) s = .next t ∧
          t.havePart y.bucket.toNat y.shard.toNat y.lo.toNat y.hi.toNat = some y ∧ t.train.buckets = tr.buckets ∧
          RegsSameBut [] s t ∧ MemSame s t)) ∧
    (∀ b : BitVec 12, ∀ x, bucketAt tr.buckets b.toNat = some x → x.reduced = false → s.members.standIn = [] →
      s.position < s.memberCount → s.mirror = 0 → s.surv.plan = none →
      ∀ r, s.nodePart b.toNat x s.position 14 0 s.memberCount = some r →
      (r.empty = false → stackedClean s → b.toNat ∉ tr.freed → x.reducedBase + 4 * r.vals.length ≤ 0x13B00000000 →
        ∃ t, exec (.rootDivide b none) s = .next t ∧
          readBytes t.mem x.reducedBase (4 * r.vals.length) =
            r.vals.flatMap (fun v => leBytes (quotient x.wide v r.count.toNat) 4) ∧
          MemSameBut x.reducedBase (4 * r.vals.length) s t ∧
          bucketAt t.train.buckets b.toNat = some { x with reduced := true, reducedCount := r.count.toNat } ∧
          RegsSameBut [] s t ∧ t.train.retained = tr.retained ++ [(tr.step, b.toNat)] ∧
          ((∀ k, k < s.memberCount → k ≠ s.position → (b.toNat, k) ∈ tr.owners) →
            b.toNat ∈ t.train.freed ∧ ∃ e, t.evq = s.evq ++ [e] ∧ e.code = 0x0500) ∧
          (∀ k, k < s.memberCount → k ≠ s.position → (b.toNat, k) ∉ tr.owners → b.toNat ∉ t.train.freed ∧ t.evq = s.evq)) ∧
      (r.empty = true → ∃ t, exec (.rootDivide b none) s = .next t ∧ t.mem = s.mem ∧
        bucketAt t.train.buckets b.toNat = some { x with reduced := true, reducedCount := 0 })) ∧
    (∀ b q : BitVec 12, ∀ x, bucketAt tr.buckets b.toNat = some x → b.toNat ∉ tr.freed → (b.toNat, q.toNat) ∉ tr.owners →
      ((∀ k, k < s.memberCount → k ≠ q.toNat → (b.toNat, k) ∈ tr.owners) → ∃ t, exec (.rootDivide b (some q)) s = .next t ∧
        t.train = { tr with owners := tr.owners ++ [(b.toNat, q.toNat)], freed := tr.freed ++ [b.toNat] } ∧
        ∃ e, t.evq = s.evq ++ [e] ∧ e.code = 0x0500) ∧
      (∀ k, k < s.memberCount → k ≠ q.toNat → (b.toNat, k) ∉ tr.owners → exec (.rootDivide b (some q)) s =
        .next { s with train := { tr with owners := tr.owners ++ [(b.toNat, q.toNat)] } })) ∧
    (∀ (tensor : BitVec 32) (b : BitVec 12), ∀ x, bucketAt tr.buckets b.toNat = some x → tensor.toNat ∈ tr.replay.map (·.1) →
      (x.reduced = true → (tensor.toNat, b.toNat) ∉ tr.updated → s.surv.copying = false → s.mirror ≠ 1 →
        (s.entryOf tensor.toNat = none → exec (.updateRun tensor b none) s =
          .next { s with train := { tr with updated := tr.updated ++ [(tensor.toNat, b.toNat)] } }) ∧
        (stackedClean s → ∀ k, s.entryOf tensor.toNat = some k →
          ∀ z, spanIn tensor.toNat b.toNat (policyWord s.surv.policy k 192 64) = z → s.pendingAt k + z.1 + z.2 ≤ 0x13B00000000 →
          ∃ t, exec (.updateRun tensor b none) s = .next t ∧
            t.train = { tr with updated := tr.updated ++ [(tensor.toNat, b.toNat)] } ∧
            MemSameBut (s.pendingAt k + z.1) z.2 s t ∧ RegsSameBut [] s t ∧
            (x.reducedCount = 0 →
              readBytes t.mem (s.pendingAt k + z.1) z.2 = readBytes s.mem (s.committedAt k + z.1) z.2) ∧
            (x.reducedCount ≠ 0 → readBytes t.mem (s.pendingAt k + z.1) z.2 =
              (upTo 0 z.2).map (Config.updateByte (tget [] tr.replay tensor.toNat) (readBytes s.mem (s.committedAt k + z.1) z.2)
                (readBytes s.mem x.reducedBase (4 * (x.shard s.memberCount s.position).2)) (tget (0, []) tr.plans tr.step).2 tr.step)))) ∧
      (stackedClean s → (tr.step % 2 ^ 64, tensor.toNat, b.toNat) ∉ tr.mupdated → tr.step < 2 ^ 64 →
        ∃ t, exec (.updateRun tensor b (some (BitVec.ofNat 64 tr.step))) s = .next t ∧
          t.train = { tr with mupdated := tr.mupdated ++ [(tr.step, tensor.toNat, b.toNat)] } ∧ RegsSameBut [] s t ∧
          MemSameBut (Config.mirrorAt tensor.toNat (!tr.midx.contains tensor.toNat) + (Config.updateSpan tensor.toNat b.toNat).1)
            (Config.updateSpan tensor.toNat b.toNat).2 s t)) ∧
    (∀ (p : BitVec 12) (d : BitVec 256), ∃ t, exec (.readyReport (some (p, d))) s = .next t ∧ tget 0 t.train.reports p.toNat = d ∧
      t.fld (reg1 .ICU_SRC 0 641) F.ICU_SRC_pending = 1 ∧ RegsSameBut [reg1 .ICU_SRC 0 641] s t ∧
      t = { s with regs := t.regs, train := { tr with reports := t.train.reports } }) ∧
    (tr.ready = false → tr.buckets ≠ [] → s.members.standIn = [] →
      (∀ b, b < tr.buckets.length → ∃ x, bucketAt tr.buckets b = some x ∧ x.reduced = true ∧ b ∈ tr.updated.map (·.2)) →
      ∃ t, exec (.readyReport none) s = .next t ∧ t.train.ready = true ∧
        tget 0 t.train.reports s.position = s.countsDigest ∧ RegsSameBut [] s t ∧ MemSame s t ∧
        (s.leader = s.position → trainOnly t) ∧
        (s.leader ≠ s.position → s.fab.id ≠ 0xFFFF → ∀ i, s.idAt s.leader = i → i < 65536 → ∀ p, 5 + s.route i % 8 = p →
          p < 11 → s.lnk p ≠ 7 → ∃ m, tget [] (t.port p).vc 0 = tget [] (s.port p).vc 0 ++ [m] ∧ m.h.dest.toNat = i ∧
            m.data = leBytes s.position 2 ++ leBytes s.countsDigest.toNat 32)) ∧
    (s.leader = s.position → tr.formed = none → 0 < s.memberCount →
      (∀ p, p < s.memberCount → p ∈ tr.reports.map (·.1)) → (∀ b, b < tr.buckets.length → b ∈ tr.freed) →
      ((∀ p, p < s.memberCount → tget 0 tr.reports p = tget 0 tr.reports s.position) → ∃ t,
        exec .commitRecordForm s = .next t ∧ ∃ c, t.train.formed = some c ∧ c.step.toNat = tr.step % 2 ^ 64 ∧
        c.epoch.toNat = s.members.epoch % 2 ^ 32 ∧ c.membersM1.toNat = (s.memberCount - 1) % 4096 ∧
        c.level.toNat = s.levelOf tr.step ∧ c.buckets.toNat = tr.buckets.length % 65536 ∧
        c.leader.toNat = s.position % 65536 ∧ c.refTime.toNat = s.clk.refTime % 2 ^ 64 ∧
        c.digest = tget 0 tr.reports s.position ∧ MemSame s t ∧ RegsSameBut [] s t) ∧
      (∀ p, p < s.memberCount → tget 0 tr.reports p ≠ tget 0 tr.reports s.position → ∃ t,
        exec .commitRecordForm s = .next t ∧ t.train.formed = none ∧ ∃ e, t.evq = s.evq ++ [e] ∧ e.code = 0x0502)) ∧
    (∀ c : CommitRec, c.step.toNat = tr.step → s.surv.policy = [] → s.surv.policyNext = none → s.surv.plan = none →
      s.membersNext = none → s.heldSteps = [] → ∃ t, exec (.commitRecordApply c) s = .next t ∧ t.train.record = some c ∧
        t.train.step = tr.step + 1 ∧ t.train.buckets = s.tableFor (tr.step + 1) ∧ t.train.running = false ∧
        (∀ k, k ∈ t.train.idx ↔ ((k ∈ tr.updated.map (·.1) ∧ k ∉ tr.idx) ∨ (k ∉ tr.updated.map (·.1) ∧ k ∈ tr.idx))) ∧
        MemSame s t ∧ RegsSameBut ([reg1 .ICU_SRC 0 642, reg0 .LNK_LEVEL 0] ++ (upTo 0 4).map purStatus ++
          (upTo 0 4).map (fun d => reg1 .ICU_SRC 0 (563 + 4 * d))) s t ∧
        ∃ e, t.evq = s.evq ++ [e] ∧ e.code = 0x0501) ∧
    (∀ c : CommitRec, c.step.toNat ≠ tr.step → tr.record = none → ∃ t, exec (.commitRecordApply c) s = .next t ∧
      RegsSameBut [reg1 .ICU_SRC 0 642] s t ∧ t = { s with regs := t.regs }) ∧
    (∀ tensor : BitVec 32, ∀ r, tr.record = some r → s.partner ≠ 0xFFFF → tensor.toNat ∉ tr.mirrored →
      ((∃ b, (r.step.toNat, tensor.toNat, b) ∈ tr.mupdated) →
        ∃ t, exec (.mirrorSwitch tensor) s = .next t ∧ trainOnly t ∧ t.train.mirrored = tr.mirrored ++ [tensor.toNat] ∧
          (∀ k, k ∈ t.train.midx ↔ ((k = tensor.toNat ∧ k ∉ tr.midx) ∨ (k ≠ tensor.toNat ∧ k ∈ tr.midx)))) ∧
      ((∀ b, (r.step.toNat, tensor.toNat, b) ∉ tr.mupdated) → exec (.mirrorSwitch tensor) s = .next s))

/-! The Bilpo ports. -/

/-- A port trains stage by stage to ACTIVE or reports why not, degrades to 7 lanes and comes back, sends heartbeats, is fenced
by a timeout, by the fence pattern or by a write, and renegotiates its version. A lane is admitted for an error ratio of at most
10⁻⁴; a fenced port sends the fence pattern of each lane. The lanes that the far end admitted and the cause that its check gives
are operands (log 13). -/
def Obligations.LinksTrainDegradeAndFence : Prop :=
  (∀ (errors : List (BitVec 32 × BitVec 32)) (l : Nat), l < 8 → ∀ e, errors[l]? = some e →
    ((admittedLanes errors).testBit l = true ↔ 0 < e.2.toNat ∧ e.1.toNat * 10000 ≤ e.2.toNat)) ∧
  ∀ (p : BilpoPort) (s : State), s.clk.stopped.contains (111 + p.val) = false →
    let q := p.val + 5
    let x := s.port q
    let st := reg0 .LNK_STATUS q
    let lanes := (upTo 0 8).map (reg1 .LNK_LANE q)
    let src := reg1 .ICU_SRC 0 (576 + 2 * p.val)
    let reports (state cause : Nat) (o : Host.Outcome State Fault Refusal) : Prop :=
      ∃ t, o = .next t ∧ t.lnk q = state ∧ t.fld st F.LNK_STATUS_cause = cause ∧ (∃ e, t.evq = s.evq ++ [e] ∧ e.code = 0x0401) ∧
        MemSame s t
    let fenced (cause : Nat) (o : Host.Outcome State Fault Refusal) : Prop :=
      ∃ t, o = .next t ∧ t.lnk q = 7 ∧ t.fld st F.LNK_STATUS_cause = cause ∧ (t.port q).fencing = true ∧ (t.port q).vc = [] ∧
        (t.port q).replay = [] ∧ (t.port q).open_ = [] ∧ t.rxLanes q = 0 ∧ t.txLanes q = 0 ∧ (x.open_ = [] → MemSame s t) ∧
        (t.port q).air = (upTo 0 8).map (fun l => (l, fencePeriod l)) ∧
        (q ≠ 11 → ∀ m, m ∈ t.fab.sent → m.port ≠ q) ∧
        (x.open_ = [] → s.fab.sent = [] → q ≠ 11 → t.evq.map (·.code) = s.evq.map (·.code) ++ [0x0401, 0x0400]) ∧
        (∀ c o, x.open_ = [(c, o)] → s.fab.sent = [] → q ≠ 11 →
          t.evq.map (·.code) = s.evq.map (·.code) ++ [0x0402, 0x0401, 0x0400])
    (s.lnk q = 0 ∨ s.lnk q = 7 ∨ s.lnk q = 8 → ∃ t, exec (.lnkTrain p) s = .next t ∧ t.lnk q = 1 ∧
      t.fld st F.LNK_STATUS_cause = 0 ∧ t.fld st F.LNK_STATUS_proto = 0 ∧ t.rxLanes q = 0 ∧ t.txLanes q = 0 ∧
      t.port q = .reset ∧ LnkOnly q (st :: lanes) s t) ∧
    (s.lnk q = 1 → ∀ l : BitVec 8,
      (7 ≤ (lanesOf l.toNat).length → ∃ t, exec (.detectActivity p l) s = .next t ∧ t.lnk q = 2 ∧ t.port q = x ∧
        LnkOnly q [st] s t) ∧
      ((lanesOf l.toNat).length < 7 → exec (.detectActivity p l) s = .next s)) ∧
    (s.lnk q = 2 → ∀ (errors : List (BitVec 32 × BitVec 32)) (f : BitVec 8), ∀ a, admittedLanes errors = a →
      ∀ m, s.fld (reg0 .LNK_CTRL q) F.LNK_CTRL_lane_mask = m →
      (7 ≤ (lanesOf (a &&& m)).length → 7 ≤ (lanesOf (f.toNat &&& m)).length →
        ∃ t, exec (.equalizeComplete p errors f) s = .next t ∧ t.lnk q = 3 ∧ t.rxLanes q = a &&& m ∧
          t.txLanes q = f.toNat &&& m ∧ t.port q = x ∧ LnkOnly q (st :: lanes) s t) ∧
      ((lanesOf (a &&& m)).length < 7 ∨ (lanesOf (f.toNat &&& m)).length < 7 →
        reports 0 0x01 (exec (.equalizeComplete p errors f) s))) ∧
    (s.lnk q = 3 → ∃ t, exec (.alignComplete p) s = .next t ∧ t.lnk q = 4 ∧ (t.port q).aligned = true ∧ LnkOnly q [st] s t) ∧
    (s.lnk q = 4 → ∀ c : Cap, ∀ own, s.rd (reg0 .LNK_CAP q) = own →
      let self : Prop := c.id.toNat = s.fab.id ∧ s.fab.id ≠ 0xFFFF
      let kind : Prop := c.pairing = decide (q = 11)
      let overlap : Prop := fget own F.LNK_CAP_proto_min ≤ c.protoMax.toNat ∧ c.protoMin.toNat ≤ fget own F.LNK_CAP_proto_max
      let feed : Prop := q = 11 → s.fld (reg0 .LNK_CTRL q) F.LNK_CTRL_pair_override = 1 ∨
        (c.feed.toNat ≠ fget own F.LNK_CAP_feed_id ∧ c.feed ≠ 0xFFFF ∧ fget own F.LNK_CAP_feed_id ≠ 0xFFFF)
      (¬self → kind → overlap → feed → ∃ t, exec (.capabilityExchange p c 0) s = .next t ∧ t.lnk q = 5 ∧
        t.fld st F.LNK_STATUS_cause = 0 ∧ t.fld st F.LNK_STATUS_peer_id = c.id.toNat ∧
        t.fld st F.LNK_STATUS_proto = min (fget own F.LNK_CAP_proto_max) c.protoMax.toNat % 16 ∧
        t.fld (reg0 .LNK_PEER_CAP q) F.LNK_CAP_level_mask = c.levelMask.toNat ∧ (t.port q).peerEpoch = c.epoch.toNat ∧
        (∀ k, k < 2 → t.credit q 0 k = 64 ∧ t.credit q 1 k = 1024 ∧ t.credit q 2 k = 512) ∧
        t.fld src F.ICU_SRC_pending = 1 ∧ (∃ e, t.evq = s.evq ++ [e] ∧ e.code = 0x0401) ∧
        RegsSameBut [st, src, reg0 .LNK_PEER_CAP q, reg0 .LNK_HB q, reg1 .LNK_CREDIT q 0, reg1 .LNK_CREDIT q 1,
          reg1 .LNK_CREDIT q 2] s t) ∧
      (∀ far, self → reports 0 0x03 (exec (.capabilityExchange p c far) s)) ∧
      (¬self → ¬kind → reports 0 0x02 (exec (.capabilityExchange p c 0) s)) ∧
      (¬self → kind → ¬overlap → reports 0 0x04 (exec (.capabilityExchange p c 0) s)) ∧
      (¬self → kind → overlap → ¬feed → reports 8 0x05 (exec (.capabilityExchange p c 0) s)) ∧
      (∀ far : BitVec 8, ¬self → kind → overlap → feed →
        (far = 2 ∨ far = 3 ∨ far = 4 → reports 0 far.toNat (exec (.capabilityExchange p c far) s)) ∧
        (far = 5 → reports 8 0x05 (exec (.capabilityExchange p c far) s)))) ∧
    (s.lnk q = 2 → reports 0 0x01 (exec (.trainingTimeout p) s)) ∧
    (s.lnk q = 3 → reports 0 0x08 (exec (.trainingTimeout p) s)) ∧
    (s.lnk q = 4 → ∃ c, reports 0 c (exec (.trainingTimeout p) s)) ∧
    (s.lnk q = 5 → ∀ (lo hi : BitVec 8) (asked accepted : Bool), ∀ own, s.rd (reg0 .LNK_CAP q) = own →
      asked = true ∨ s.fld (reg0 .LNK_CTRL q) F.LNK_CTRL_renegotiate = 1 →
      (fget own F.LNK_CAP_proto_min ≤ hi.toNat → lo.toNat ≤ fget own F.LNK_CAP_proto_max →
        ∃ t, exec (.lnkRenegotiate p lo hi asked accepted) s = .next t ∧
          t.fld (reg0 .LNK_PEER_CAP q) F.LNK_CAP_proto_min = lo.toNat ∧
          t.fld (reg0 .LNK_PEER_CAP q) F.LNK_CAP_proto_max = hi.toNat ∧
          t.port q = (if accepted then { x with switchTo := true } else x) ∧ LnkOnly q [reg0 .LNK_PEER_CAP q] s t) ∧
      (hi.toNat < fget own F.LNK_CAP_proto_min ∨ fget own F.LNK_CAP_proto_max < lo.toNat →
        ∃ t, exec (.lnkRenegotiate p lo hi asked accepted) s = .next t ∧ t.fld (reg0 .LNK_CTRL q) F.LNK_CTRL_renegotiate = 0 ∧
          t.port q = x ∧ LnkOnly q [reg0 .LNK_CTRL q] s t)) ∧
    (s.portLive q = true →
      (∀ f : Flit, x.rxStop = 0 →
        let runs (y : Port) : Prop := ∃ t, exec (.groupFlitReceive p f) s = .next t ∧ t.port q = y ∧
          LnkOnly q (reg0 .LNK_ERR q :: lanes) s t
        (isGroupFlit f = true → x.aligned = true → runs { x with missing := 0 }) ∧
        (isGroupFlit f = false → x.aligned = true → x.missing = 0 → runs { x with missing := 1 }) ∧
        (isGroupFlit f = false → x.aligned = true → x.missing ≠ 0 → runs { x with missing := 0, aligned := false, found := 0 }) ∧
        (isGroupFlit f = false → x.aligned = false → runs { x with found := 0 }) ∧
        (isGroupFlit f = true → x.aligned = false → x.found = 0 → runs { x with found := 1, degrade := none }) ∧
        (isGroupFlit f = true → x.aligned = false → x.found = 1 → s.lnk q = 6 → ∃ t, exec (.groupFlitReceive p f) s = .next t ∧
          t.lnk q = 5 ∧ (t.port q).aligned = true ∧ (t.port q).nakDue = some x.rxSeq ∧
          ∃ e, t.evq = s.evq ++ [e] ∧ e.code = 0x0401)) ∧
      (∀ l : Fin 8, ∀ why, why = LaneFault.lockLost l ∨ why = LaneFault.symbols l ∨
          (why = LaneFault.replays (some l) ∧ (16 ≤ x.asked ∨ 16 ≤ x.again)) →
        (s.rxLanes q = 255 → ∃ t, exec (.laneFaultDetect p why) s = .next t ∧ t.lnk q = 6 ∧ t.rxLanes q = 255 - 2 ^ l.val ∧
          t.txLanes q = s.txLanes q ∧ t.port q = { x with degrade := some l.val, aligned := false, found := 0 } ∧
          RegsSameBut ([st, src] ++ lanes) s t) ∧
        ((lanesOf (s.rxLanes q)).length = 7 → (s.rxLanes q).testBit l = true →
          ∃ t, exec (.laneFaultDetect p why) s = .next t ∧ t.port q = { x with rxStop := 7 } ∧ LnkOnly q [] s t)) ∧
      (16 ≤ x.asked ∨ 16 ≤ x.again →
        ∃ t, exec (.laneFaultDetect p (.replays none)) s = .next t ∧ t.port q = { x with rxStop := 10 } ∧ LnkOnly q [] s t) ∧
      (x.asked < 16 → x.again < 16 → ∀ l, exec (.laneFaultDetect p (.replays l)) s = .next s) ∧
      (∀ l : Fin 8, x.sevenAt = none → (s.txLanes q).testBit l = true →
        ∃ t, exec (.degradeRequest p l) s = .next t ∧ LnkOnly q [] s t ∧
          t.port q = if s.txLanes q = 255 then { x with sevenAt := some l.val } else { x with txStop := true }) ∧
      (∃ t, exec (.heartbeatSend p) s = .next t ∧ t.port q = { x with hbDue := true } ∧
        t.fld (reg0 .LNK_HB q) F.LNK_HB_missed = min (s.fld (reg0 .LNK_HB q) F.LNK_HB_missed + 1) 3 ∧
        LnkOnly q [reg0 .LNK_HB q] s t) ∧
      (x.rxStop = 0 → fenced 0x0A (exec (.heartbeatTimeout p) s)) ∧
      (x.rxStop = 7 → fenced 0x07 (exec (.heartbeatTimeout p) s))) ∧
    (s.lnk q = 6 → ∃ t, exec (.degradeTimeout p) s = .next t ∧ t.port q = { x with rxStop := 7 } ∧ LnkOnly q [] s t) ∧
    (s.lnk q ≠ 7 → fenced 0x0C (exec (.lnkFence p) s) ∧
      ∀ seen : List (List Int), (4 ≤ ((seen.take 8).filter fenceMatch).length → fenced 0x0B (exec (.fenceRecognize p seen) s)) ∧
        (((seen.take 8).filter fenceMatch).length < 4 → exec (.fenceRecognize p seen) s = .next s))

/-- Slots carry what R247 puts first; DATA flits are accepted in order, acknowledged, credited and replayed; messages are
served, answered, forwarded or rejected. The commands of messages stand alone from their flits (log 13). -/
def Obligations.FlitsAndMessagesAreServed : Prop :=
  ∀ (p : BilpoPort) (s : State), ∀ q, q = p.val + 5 → ∀ x, s.port q = x →
    let err := reg0 .LNK_ERR q
    let lanes := (upTo 0 8).map (reg1 .LNK_LANE q)
    (s.portLive q = true → ∀ slot, slot = (x.slot + 1) % 1285 →
      (slot = 1 → x.sevenAt = none → ∃ t, exec (.flitSlot p) s = .next t ∧ (t.port q).wire = .group x.group ∧
        (t.port q).slot = 1 ∧ (t.port q).group = (x.group + 1) % 2 ^ 32 ∧ (t.port q).scr = scrambleReset ∧
        LnkOnly q [reg0 .LNK_CTRL q, reg0 .LNK_STATUS q] s t ∧ (x.switchTo = false → RegsSameBut [] s t) ∧
        (x.switchTo = true → t.fld (reg0 .LNK_STATUS q) F.LNK_STATUS_proto = s.lnkProto q % 16 ∧
          t.fld (reg0 .LNK_CTRL q) F.LNK_CTRL_renegotiate = 0)) ∧
      (slot ≠ 1 → x.hbDue = true → ∃ t, exec (.flitSlot p) s = .next t ∧ (t.port q).hbDue = false ∧ LnkOnly q [] s t ∧
        (t.port q).hbCount = (x.hbCount + 1) % 2 ^ 32 ∧
        (t.port q).wire = .ctrl ⟨x.returned, none, some (s.heartbeat x.hbCount), x.degrade⟩) ∧
      (slot ≠ 1 → x.hbDue = false →
        (∀ n, x.nakDue = some n → ∃ t, exec (.flitSlot p) s = .next t ∧ (t.port q).nakDue = none ∧
          (t.port q).wire = .ctrl ⟨x.returned, some n, none, x.degrade⟩ ∧
          t.fld err F.LNK_ERR_naks_sent = min (s.fld err F.LNK_ERR_naks_sent + 1) 65535 ∧ LnkOnly q [err] s t) ∧
        (x.nakDue = none → x.returns = true → 161 ≤ x.ctrlAge + 1 → ∃ t, exec (.flitSlot p) s = .next t ∧
          (t.port q).wire = .ctrl ⟨x.returned, none, none, x.degrade⟩ ∧ (t.port q).ctrlAge = 0 ∧ LnkOnly q [] s t) ∧
        (x.nakDue = none → x.returns = false → x.degrade = none → x.txStop = false →
          (∀ f fs, x.replay = f :: fs → x.resend = fs.length + 1 → ∃ t, exec (.flitSlot p) s = .next t ∧
            (t.port q).wire = .data f ∧ (t.port q).resend = fs.length ∧ LnkOnly q [] s t) ∧
          (x.resend = 0 → x.replay.length < 2048 → x.sevenAt = none →
            let ready (c : Nat) : Prop := s.vcReady q c 0 = true ∨ s.vcReady q c 1 = true
            let got (c : Nat) : Nat := (x.hist.filter (fun k => k == c)).length
            let leaves (c : Nat) : Prop := ∃ t, exec (.flitSlot p) s = .next t ∧ (t.port q).txSeq = (x.txSeq + 1) % 4096 ∧
              (t.port q).hist = (c :: x.hist).take 64 ∧ LnkOnly q [reg1 .LNK_CREDIT q c] s t ∧
              (∃ f, (t.port q).replay = x.replay ++ [f] ∧ f.seq = x.txSeq ∧ f.cls = c ∧ f.bytes.length = 512) ∧
              ∀ sub, sub = (if s.vcReady q c 1 then 1 else 0) → t.credit q c sub = s.credit q c sub - 1
            (ready 1 → got 1 < 8 → leaves 1) ∧
            (¬(ready 1 ∧ got 1 < 8) → ready 2 → got 2 < 4 → leaves 2) ∧
            (¬(ready 1 ∧ got 1 < 8) → ¬(ready 2 ∧ got 2 < 4) → ready 0 → leaves 0) ∧
            (¬ready 0 → ¬ready 1 → ¬ready 2 → ∃ t, exec (.flitSlot p) s = .next t ∧ (t.port q).wire = .idle ∧
              LnkOnly q [] s t))))) ∧
    (s.portLive q = true → x.rxStop = 0 → x.aligned = true → x.replay = [] →
      (∀ f : Flit, f.uncorrectable = false → f.crcFail = false → f.type = 1 ∨ f.type = 2 →
        (f.seq = x.rxSeq → f.cls ≠ 3 → ∃ t, exec (.dataFlitReceive p f) s = .next t ∧ (t.port q).rxSeq = (x.rxSeq + 1) % 4096 ∧
          (t.port q).discarding = false ∧ (t.port q).returns = true ∧
          (∀ c, c = f.cls * 2 + f.sub.toNat → tget 0 (t.port q).held c = tget 0 x.held c + 1) ∧ LnkOnly q (err :: lanes) s t) ∧
        (f.seq ≠ x.rxSeq ∨ f.cls = 3 → x.discarding = false → ∃ t, exec (.dataFlitReceive p f) s = .next t ∧
          (t.port q).discarding = true ∧ (t.port q).nakDue = some x.rxSeq ∧ (t.port q).rxSeq = x.rxSeq ∧
          (t.port q).held = x.held ∧ LnkOnly q (err :: lanes) s t)) ∧
      (∀ f : Flit, f.uncorrectable = true ∨ f.crcFail = true → x.discarding = false → ∃ t,
        exec (.dataFlitReceive p f) s = .next t ∧ t.port q = { x with discarding := true, nakDue := some x.rxSeq } ∧
          LnkOnly q (err :: lanes) s t) ∧
      (∀ f : Flit, f.uncorrectable = false → f.crcFail = true → x.discarding = true → ∃ t,
        exec (.dataFlitReceive p f) s = .next t ∧ t.port q = x ∧
          t.fld err F.LNK_ERR_crc_fail = min (s.fld err F.LNK_ERR_crc_fail + 1) 65535)) ∧
    (s.portLive q = true → x.rxStop = 0 → x.aligned = true → ∀ c : LinkCtrl, c.codes.any CodeRead.bad = false →
      (c.ok = false → ∃ t, exec (.linkCtrlReceive p c) s = .next t ∧
        t.fld err F.LNK_ERR_crc_fail = min (s.fld err F.LNK_ERR_crc_fail + 1) 65535 ∧
        (x.discarding = false → t.port q = { x with discarding := true, nakDue := some x.rxSeq }) ∧ LnkOnly q (err :: lanes) s t) ∧
      (c.ok = true → c.nak = none → c.credits = [] → x.replay = [] → ∀ h, c.hb = some h → ∃ t,
        exec (.linkCtrlReceive p c) s = .next t ∧ t.fld (reg0 .LNK_HB q) F.LNK_HB_missed = 0 ∧
          t.fld (reg0 .LNK_HB q) F.LNK_HB_last_hb = h.counter.toNat ∧ (t.port q).peerEpoch = h.epoch.toNat) ∧
      (c.ok = true → c.nak = none → c.hb = none → x.replay = [] → ∀ v, c.credits = [v] → v.toNat = tget 0 x.seen 0 + 1 →
        s.credit q 0 0 < 64 → ∃ t, exec (.linkCtrlReceive p c) s = .next t ∧ t.credit q 0 0 = s.credit q 0 0 + 1 ∧
          LnkOnly q (reg1 .LNK_CREDIT q 0 :: lanes) s t) ∧
      (c.ok = true → c.hb = none → c.credits = [] → ∀ f fs, x.replay = f :: fs → c.ack.toNat = f.seq → x.from_ = none →
        c.nak.map (·.toNat) = some f.seq → ∃ t, exec (.linkCtrlReceive p c) s = .next t ∧
          (t.port q).resend = fs.length + 1 ∧ (t.port q).from_ = some f.seq ∧ (t.port q).since = 0 ∧ LnkOnly q (err :: lanes) s t)) ∧
    (∀ (h : MsgHdr) (r : Nat), answerPort s q h r →
      (msgGood s q 1 h → ∀ data, data.length = h.length.toNat →
        (stackedClean s → s.rxCovers h.addr.toNat h.length.toNat false = true →
          ∃ t, exec (.put p h data) s = .next t ∧ readBytes t.mem h.addr.toNat data.length = data ∧
            MemSameBut h.addr.toNat data.length s t ∧ RegsSameBut [] s t ∧
            (h.wantComplete = true → answered r 6 0 h.cls [] h s t) ∧ (h.wantComplete = false → ∀ k, (t.port k).vc = (s.port k).vc)) ∧
        (s.rxCovers h.addr.toNat h.length.toNat false = false → ∃ t, exec (.put p h data) s = .next t ∧ MemSame s t ∧
          RegsSameBut [] s t ∧ (h.wantComplete = true → answered r 6 1 h.cls [] h s t))) ∧
      (msgGood s q 2 h → ∀ c, c = (if h.cls = 0 then 1 else h.cls) →
        (stackedClean s → s.rxCovers h.addr.toNat h.length.toNat true = true → ∃ t, exec (.get p h) s = .next t ∧
          answered r 3 0 c (readBytes s.mem h.addr.toNat h.length.toNat) h s t ∧ MemSame s t) ∧
        (s.rxCovers h.addr.toNat h.length.toNat true = false → ∃ t, exec (.get p h) s = .next t ∧
          answered r 3 1 c [] h s t ∧ MemSame s t)) ∧
      (s.portLive q = true → s.fab.id ≠ 0xFFFF → h.dest.toNat ≠ s.fab.id → ∀ data, ∀ e, s.route h.dest.toNat = e →
        (q ≠ 11 → e % 8 < 6 → s.lnk (5 + e % 8) ≠ 7 → ∃ t, exec (.messageForward p h data) s = .next t ∧
          (∀ k, k = h.cls.val * 2 + (if h.sub = true ∨ 8 ≤ e then 1 else 0) → ∃ m,
            tget [] (t.port (5 + e % 8)).vc k = tget [] (s.port (5 + e % 8)).vc k ++ [m] ∧ m.data = data ∧ m.msg = none ∧
              m.h.src = h.src ∧ m.h.dest = h.dest) ∧ RegsSameBut [] s t ∧
          (∀ k, k ≠ q → k ≠ 5 + e % 8 → t.port k = s.port k) ∧ t = { s with regs := t.regs, fab := { s.fab with ports := t.fab.ports } }) ∧
        (q = 11 ∨ 6 ≤ e % 8 → ∃ t, exec (.messageForward p h data) s = .next t ∧
          answered r (if h.op = 2 then 3 else 6) 5 h.cls [] h s t ∧ MemSame s t))) ∧
    (∀ h : MsgHdr, ∀ m, s.sentFor h = some m → m.shard = none →
      (msgGood s q 6 h → ∀ j, m.job = some j → ∃ t, exec (.complete p h) s = .next t ∧
        tget [] t.mbx.transfers j.1 = tget [] s.mbx.transfers j.1 ++ [(j.2, h.status.toNat)] ∧
        t.fab.sent = s.fab.sent.filter (fun y => decide (y.msg ≠ m.msg)) ∧ MemSame s t) ∧
      (msgGood s q 3 h → m.job = none → h.status = 0 → stackedClean s → ∀ data, data.length = m.len → m.loc + m.len ≤ 0x13B00000000 →
        ∃ t, exec (.getData p h data) s = .next t ∧ readBytes t.mem m.loc m.len = data ∧ MemSameBut m.loc m.len s t ∧
          t.fab.sent = s.fab.sent.filter (fun y => decide (y.msg ≠ m.msg)))) ∧
    (∀ h : MsgHdr, msgGood s q 4 h →
      (h.target.getLsbD 15 = false → ∀ k, k = h.target.toNat % 16 → ∃ t, exec (.signal p h) s = .next t ∧
        t.tokCount ⟨4, 0, k⟩ = min 65535 (s.tokCount ⟨4, 0, k⟩ + h.count.toNat) ∧ MemSame s t ∧
        (h.wantComplete = false → t = { s with regs := t.regs, evq := t.evq, fab := { s.fab with ports := t.fab.ports } }) ∧
        (h.wantComplete = true → ∀ r, answerPort s q h r → answered r 6 0 h.cls [] h s t)) ∧
      (h.target.getLsbD 15 = true → s.mode = 2 → ∃ t, exec (.signal p h) s = .next t ∧
        t.heldSteps = s.heldSteps ++ [⟨h.target.toNat % 32768, h.count.toNat, if h.wantComplete then some (q, h) else none⟩] ∧
        (∀ k, (t.port k).vc = (s.port k).vc) ∧ t.fld (reg1 .ICU_SRC 0 640) F.ICU_SRC_pending = 1)) ∧
    (∀ (h : MsgHdr) (data : List (BitVec 8)), msgGood s q 5 h → ∀ k, k = (data.headD 0).toNat →
      (0x20 ≤ k → k ≤ 0x25 → ∀ i, i = (if k = 0x24 then 641 else if k = 0x25 then 642 else 643) →
        ∃ t, exec (.control p h data) s = .next t ∧ t.fld (reg1 .ICU_SRC 0 i) F.ICU_SRC_pending = 1 ∧
          RegsSameBut [reg1 .ICU_SRC 0 i] s t ∧
          t = { s with regs := t.regs, fab := { s.fab with ports := t.fab.ports } }) ∧
      (k < 0x20 → ∃ t, exec (.control p h data) s = .next t ∧ MemSame s t ∧ ∃ e, t.evq = s.evq ++ [e] ∧ e.code = 0x0403)) ∧
    (∀ (c : Fin 3) (sub : Bool), tget [] x.vc (c.val * 2 + sub.toNat) ≠ [] → s.credit q c.val sub.toNat = 0 →
      ∃ t, exec (.creditTimeout p c sub) s = .next t ∧ t.port q = x ∧
        t.fld (reg1 .LNK_CREDIT q c.val) F.LNK_CREDIT_timeouts =
          min (s.fld (reg1 .LNK_CREDIT q c.val) F.LNK_CREDIT_timeouts + 1) 65535 ∧
        RegsSameBut [reg1 .LNK_CREDIT q c.val, reg1 .ICU_SRC 0 (577 + 2 * p.val)] s t ∧
        ∃ e, t.evq = s.evq ++ [e] ∧ e.code = 0x0404)

/-! The host port and the mailbox. -/

/-- The host reaches memory through BAR2, writes poison with EP and is turned away in frost state; host reads end with their
data or fault their queue; a link reset leaves the module running; time is corrected and never decreases; the configuration
space is written and read. Which AER bit a module error sets is presumed (log 13), the slewing step is the model's (log 3). -/
def Obligations.HostReachesTheModule : Prop :=
  ∀ s : State,
    let pci := reg0 .PCI_STATUS 0
    (∀ (o : BitVec 41) (q : Nat), q = 2 ^ s.host.bar2Size * 2 ^ 30 / 4 → o.toNat < 4 * q →
      ∀ a, s.fld (reg1 .PCI_APERTURE 0 (o.toNat / q)) F.PCI_APERTURE_base_hi * 2 ^ 30 + o.toNat % q = a →
      (s.mode = 3 ∨ s.mode = 4 →
        (∀ len e, ∃ t, exec (.bar2Access o (.read len e)) s = .next t ∧ t.rbytes = [] ∧ t.rstatus = .refused ∧ 15 ∈ t.host.aer ∧
          RegsSameBut [reg1 .ICU_SRC 0 600] s t ∧
          t = { s with regs := t.regs, host := { s.host with aer := t.host.aer }, rbytes := [], rstatus := .refused }) ∧
        ∀ bs ep, exec (.bar2Access o (.write bs ep)) s = .next { s with rstatus := .refused }) ∧
      (s.mode = 1 → stackedClean s →
        (∀ len : BitVec 13, a + len.toNat ≤ 0x13B00000000 → ∃ t, exec (.bar2Access o (.read len .ok)) s = .next t ∧
          t.rbytes = readBytes s.mem a len.toNat ∧ t.rstatus = .ok ∧ MemSame s t ∧ t.poison = []) ∧
        (∀ bs, a + bs.length ≤ 0x13B00000000 → bs ≠ [] →
          (∃ t, exec (.bar2Access o (.write bs false)) s = .next t ∧ readBytes t.mem a bs.length = bs ∧ t.rstatus = .ok ∧
            MemSameBut a bs.length s t ∧ RegsSameBut [] s t) ∧
          ∃ t, exec (.bar2Access o (.write bs true)) s = .next t ∧ MemSame s t ∧ t.rstatus = .poisoned ∧
            (∀ b, b % 64 = 0 → b < a + bs.length → a < b + 64 → b ∈ t.poison) ∧ 12 ∈ t.host.aer ∧
            ∃ e, t.evq = s.evq ++ [e] ∧ e.code = 0x0100)) ∧
      (s.mode = 1 → region a = .host → ∀ len : BitVec 13, ∃ t, exec (.bar2Access o (.read len .ok)) s = .next t ∧
        t.rbytes = List.replicate len.toNat 0 ∧ t.rstatus = .decodeError ∧ MemSame s t ∧
        ∃ e, t.evq = s.evq ++ [e] ∧ e.code = 0x0105)) ∧
    (∀ (n : CoreId) (m : Fin 8), ∀ x, (s.que n m).started = [x] → ∀ f, x.fly = [f] → f.host = true → (s.que n m).old = [] →
      (s.que n m).fetched = [] →
      let fails (o : Host.Outcome State Fault Refusal) : Prop := ∃ t, o = .next t ∧ t.qSt n m = 2 ∧
        t.fld (qReg .MOV_Q_ERR n m) F.MOV_Q_ERR_cause = 0x20 ∧ MemSame s t ∧ (t.que n m).started = [] ∧ (t.que n m).old = [] ∧
        ∃ e, t.evq = s.evq ++ [e] ∧ e.code = 0x0201
      (∃ t, exec (.hostCompletion n m .ok) s = .next t ∧ MovOnly n m [qReg .MOV_Q_HEAD n m] s t ∧ (t.que n m).started.map (·.fly) =
        [[{ f with host := false, writes := if xferLast f.d f.i f.j f.p then xferDst f.d f.i f.j f.row (s.hostData f) else [] }]]) ∧
      (∀ k, k ≠ HostCpl.ok → fails (exec (.hostCompletion n m k) s)) ∧
      fails (exec (.hostCompletionTimeout n m) s)) ∧
    (∃ t, exec .hostLinkReset s = .next t ∧ MemSame s t ∧ t.fld pci F.PCI_STATUS_bus_master = 0 ∧
      t.fld pci F.PCI_STATUS_d3hot = 0 ∧ t.fld pci F.PCI_STATUS_width = 0 ∧ t.fld pci F.PCI_STATUS_ptm_locked = 0 ∧
      t.host.bar0 = HostSide.reset.bar0 ∧ t.host.bar2 = HostSide.reset.bar2 ∧ t.host.bar2Size = HostSide.reset.bar2Size ∧
      t.host.msix = HostSide.reset.msix ∧ t.clk.hold = 0 ∧ t.clk.waits = false ∧ t.clk.refTime = s.clk.refTime ∧ t.host.pend = s.host.pend ∧
      (∀ a, a < 4 → t.rd (reg1 .PCI_APERTURE 0 a) = (reg1 .PCI_APERTURE 0 a).reset) ∧
      t.rd (reg0 .PCI_REG_APERTURE 0) = (reg0 .PCI_REG_APERTURE 0).reset ∧
      (∀ m, m < 16 → t.rd (sqTail m) = s.rd (sqTail m) ∧ t.rd (cqCfg m) = s.rd (cqCfg m)) ∧ t.fab = s.fab ∧ t.mbx = s.mbx) ∧
    (s.host.ptmOn = true → s.fld pci F.PCI_STATUS_width ≠ 0 → ∀ h : BitVec 64,
      (∃ t, exec (.ptmDialogue true h) s = .next t ∧ t.host = { s.host with ptmGood := s.host.ptmGood + 1, ptmBad := 0 } ∧
        s.clk.refTime ≤ t.clk.refTime ∧ (s.clk.refTime ≤ h.toNat → t.clk.refTime ≤ h.toNat) ∧
        (s.clk.refTime + 10000000 < h.toNat → t.clk.refTime = h.toNat) ∧
        (h.toNat + 10000000 < s.clk.refTime → t.clk.hold = s.clk.refTime - h.toNat ∧ t.clk.waits = true) ∧
        (h.toNat < s.clk.refTime → s.clk.waits = true → t.clk.hold = s.clk.refTime - h.toNat ∧ t.clk.waits = true) ∧
        (s.clk.refTime ≤ h.toNat → t.clk.hold = 0 ∧ t.clk.waits = false) ∧
        (1 ≤ s.host.ptmGood → t.fld pci F.PCI_STATUS_ptm_locked = 1) ∧ RegsSameBut [pci, reg1 .ICU_SRC 0 601] s t) ∧
      (∃ t, exec (.ptmDialogue false h) s = .next t ∧ t.host = { s.host with ptmGood := 0, ptmBad := s.host.ptmBad + 1 } ∧
        t.clk = s.clk ∧ (2 ≤ s.host.ptmBad → t.fld pci F.PCI_STATUS_ptm_locked = 0) ∧
        (s.host.ptmBad < 2 → RegsSameBut [] s t))) ∧
    (s.fld pci F.PCI_STATUS_width ≠ 0 → s.host.pend = [] →
      let sets (f : CfgWrite) (h : HostSide) : Prop := exec (.configurationSpaceWrite f) s = .next { s with host := h }
      (∀ b : Bool, (∃ t, exec (.configurationSpaceWrite (.busMaster b)) s = .next t ∧
          t.fld pci F.PCI_STATUS_bus_master = b.toNat ∧ RegsSameBut [pci] s t ∧ t = { s with regs := t.regs }) ∧
        (∃ t, exec (.configurationSpaceWrite (.d3hot b)) s = .next t ∧ t.fld pci F.PCI_STATUS_d3hot = b.toNat ∧
          RegsSameBut [pci] s t ∧ t = { s with regs := t.regs })) ∧
      sets (.ptmEnable true) { s.host with ptmOn := true, ptmGood := 0, ptmBad := 0 } ∧
      (∃ t, exec (.configurationSpaceWrite (.ptmEnable false)) s = .next t ∧ t.host.ptmOn = false ∧
        t.clk.hold = 0 ∧ t.clk.waits = false ∧ t.fld pci F.PCI_STATUS_ptm_locked = 0) ∧
      (∀ a b, sets (.payload a b) { s.host with mps := a.toNat, mrrs := b.toNat }) ∧
      (∀ v, sets (.aerClear v) { s.host with aer := s.host.aer.filter (fun b => !v.getLsbD b) }) ∧
      (∀ v, sets (.aerMask v) { s.host with aerMask := v.toNat } ∧ sets (.aerSeverity v) { s.host with aerSev := v.toNat } ∧
        sets (.aerCorMask v) { s.host with aerCor := v.toNat }) ∧
      (∀ f, ∃ t, exec (.configurationSpaceWrite (.read f)) s = .next t ∧ t = { s with rdata := t.rdata, rstatus := .ok } ∧
        (f = .classCode → t.rdata = 0x120000) ∧ (f = .msixVectors → t.rdata = 64) ∧ (f = .tagBits → t.rdata = 14) ∧
        (f = .noSoftReset → t.rdata = 1) ∧
        (f = .sriov ∨ f = .ats ∨ f = .pasid ∨ f = .pri ∨ f = .msi ∨ f = .intx ∨ f = .flr → t.rdata = 0)) ∧
      (∀ c, sets (.cplTimeout c) { s.host with cplCode := c.toNat }) ∧
      (∀ b : BitVec 64, sets (.bar0 b) { s.host with bar0 := b.toNat / 2 ^ 24 * 2 ^ 24 }) ∧
      (∀ k, sets (.bar2Size k) { s.host with bar2Size := k }) ∧
      (∀ (v : Fin 64) (a : BitVec 64) (d : BitVec 32) (k : Bool),
        sets (.msixEntry v a d k) { s.host with msix := tput v.val ⟨a.toNat, d.toNat, k⟩ s.host.msix })) ∧
    (∀ (speed : BitVec 3) (width : BitVec 5), speed ≠ 7 → width.toNat ∈ [1, 2, 4, 8, 16] → s.clk.stopped.contains 106 = false →
      s.rst.opt.pcieRate < 8 →
      ∃ t, exec (.pcieLinkTrained speed width) s = .next t ∧ t.fld pci F.PCI_STATUS_width = width.toNat ∧
        t.fld pci F.PCI_STATUS_speed = min speed.toNat s.rst.opt.pcieRate ∧ RegsSameBut [pci] s t ∧ t = { s with regs := t.regs })

/-- Entries go into their ring and are fetched in order, once, urgent rings first; an overrun stops the ring; completions and
events go to their rings; a reset ring loses what was not fetched; a command ends with OP_COMPLETE; an outage ends. The
severity of an event is open (log 10). -/
def Obligations.MailboxRingsRun : Prop :=
  ∀ (m : Fin 16) (s : State),
    (∀ (tail : BitVec 16) (entries : List (BitVec 512)), entries.length ≤ 512 → ∃ t, exec (.sqDoorbell m tail entries) s = .next t ∧
      t.fld (sqTail m) F.PCI_MBX_SQ_TAIL_tail = tail.toNat ∧
      (∀ i, i < entries.length → ∀ p, p = (s.fld (sqTail m) F.PCI_MBX_SQ_TAIL_tail + i) % 512 →
        tget 0 t.mbx.sq (m.val * 512 + p) = ((entries.drop i).headD 0).toNat) ∧
      (∀ k, k < m.val * 512 ∨ m.val * 512 + 512 ≤ k → tget 0 t.mbx.sq k = tget 0 s.mbx.sq k) ∧
      RegsSameBut [sqTail m] s t ∧ t = { s with regs := t.regs, mbx := { s.mbx with sq := t.mbx.sq } }) ∧
    (s.fetchable m = true → (2 ≤ m.val → s.fetchable 0 = false ∧ s.fetchable 1 = false) →
      ∀ h, s.fld (sqHead m) F.PCI_MBX_SQ_HEAD_head = h → ∀ g, ringGap (s.fld (sqTail m) F.PCI_MBX_SQ_TAIL_tail) h = g →
      (512 < g → ∃ t, exec (.commandFetch m) s = .next t ∧ t.fld (sqHead m) F.PCI_MBX_SQ_HEAD_ring_error = 1 ∧
        t.fld (sqHead m) F.PCI_MBX_SQ_HEAD_head = h ∧ RegsSameBut [sqHead m] s t ∧ t = { s with regs := t.regs }) ∧
      (g ≤ 512 → ∀ e, tget 0 s.mbx.sq (m.val * 512 + h % 512) = e →
        ((cmdInfo (opcodeOf e)).isSome = true → ∃ t, exec (.commandFetch m) s = .next t ∧ (t.ring m).cur = some e ∧
          (t.ring m).phase = none ∧ t.fld (sqHead m) F.PCI_MBX_SQ_HEAD_head = (h + 1) % 65536 ∧ RegsSameBut [sqHead m] s t ∧
          (∀ k, k ≠ m.val → t.ring k = s.ring k) ∧ MemSame s t) ∧
        ((cmdInfo (opcodeOf e)).isNone = true → (s.ring m).orphan = false → ∃ t, exec (.commandFetch m) s = .next t ∧
          (t.ring m).cur = none ∧ ∃ d, (t.ring m).cpl = some d ∧ d.status = 0x10 ∧ d.tag = tagOf e ∧
            d.head = (h + 1) % 65536 ∧ d.opcode = opcodeOf e))) ∧
    (∀ d, (s.ring m).cpl = some d → s.mbxServed = true → s.hostUp = true → s.fld (cqCfg m) F.PCI_MBX_CQ_CFG_enable = 1 →
      ∀ size, 2 ^ s.fld (cqCfg m) F.PCI_MBX_CQ_CFG_size = size → ∀ i, (s.ring m).idx = i →
      ∀ g, ringGap (i % 65536) (s.fld (cqHead m) F.PCI_MBX_CQ_HEAD_head) = g →
      (size ≤ g → ∃ t, exec (.completionEntryWrite m) s = .next t ∧ t.fld (sqHead m) F.PCI_MBX_SQ_HEAD_paused = 1 ∧
        (t.ring m).cpl = some d ∧ t = { s with regs := t.regs }) ∧
      (g < size → d.opcode ≠ 0x0A01 → d.opcode ≠ 0x0A02 →
        ∀ a, hostBase + s.fld (reg1 .PCI_MBX_CQ_BASE 0 m) F.PCI_MBX_CQ_BASE_base_hi * 64 + 64 * (i % size) = a →
        ∃ t, exec (.completionEntryWrite m) s = .next t ∧ readBytes t.mem a 64 = d.bytes ((i / size + 1) % 2) ∧
          MemSameBut a 64 s t ∧ (t.ring m).cpl = none ∧ (t.ring m).idx = i + 1 ∧ RegsSameBut [sqHead m] s t ∧
          (s.fld (cqCfg m) F.PCI_MBX_CQ_CFG_int_en = 0 → t.host = s.host))) ∧
    (∀ head : BitVec 16, ∃ t, exec (.cqHeadWrite m head) s = .next t ∧
      t.fld (cqHead m) F.PCI_MBX_CQ_HEAD_head = head.toNat ∧ RegsSameBut [cqHead m] s t ∧ t = { s with regs := t.regs }) ∧
    ((s.ring m).cpl = none →
      ((s.ring m).cur = none → ∃ t, exec (.ringReset m) s = .next t ∧ t.fld (sqTail m) F.PCI_MBX_SQ_TAIL_tail = 0 ∧
        t.rd (sqHead m) = 0 ∧ t.fld (cqCfg m) F.PCI_MBX_CQ_CFG_enable = 0 ∧ (t.ring m).idx = 0 ∧
        RegsSameBut [sqTail m, sqHead m, cqCfg m] s t ∧ MemSame s t ∧ (∀ k, k ≠ m.val → t.ring k = s.ring k)) ∧
      ((s.ring m).cur ≠ none → ∃ t, exec (.ringReset m) s = .next t ∧ (t.ring m).orphan = true ∧ (t.ring m).cur = (s.ring m).cur ∧
        t.fld (sqTail m) F.PCI_MBX_SQ_TAIL_tail = s.fld (sqHead m) F.PCI_MBX_SQ_HEAD_head ∧
        t.fld (cqCfg m) F.PCI_MBX_CQ_CFG_reset = 1)) ∧
    (∀ v vs, s.evq = v :: vs → s.mbxServed = true → ∀ seq, s.fld evStatus F.PCI_MBX_EV_STATUS_next_seq = seq →
      (s.fld evCfg F.PCI_MBX_CQ_CFG_enable = 0 → ∃ t, exec .eventRecordWrite s = .next t ∧ t.evq = vs ∧ MemSame s t ∧
        t.fld evStatus F.PCI_MBX_EV_STATUS_next_seq = (seq + 1) % 2 ^ 32 ∧
        t.mbx.evlog.map (·.1) = (s.mbx.evlog.map (·.1) ++ [seq]).drop (s.mbx.evlog.length + 1 - 4096) ∧
        (s.delivered v.code = true → t.fld evStatus F.PCI_MBX_EV_STATUS_lost =
          min 65535 (s.fld evStatus F.PCI_MBX_EV_STATUS_lost + 1))) ∧
      (s.fld evCfg F.PCI_MBX_CQ_CFG_enable = 1 → s.hostUp = true → s.delivered v.code = true → s.mbx.lost = none →
        ∀ size, 2 ^ s.fld evCfg F.PCI_MBX_CQ_CFG_size = size → ∀ i, s.mbx.evIdx = i →
        ringGap (i % 65536) (s.fld (reg0 .PCI_MBX_EV_HEAD 0) F.PCI_MBX_CQ_HEAD_head) < size →
        ∀ a, hostBase + s.fld (reg0 .PCI_MBX_EV_BASE 0) F.PCI_MBX_CQ_BASE_base_hi * 64 + 64 * (i % size) = a →
        ∃ t, exec .eventRecordWrite s = .next t ∧ t.evq = vs ∧ t.mbx.evIdx = i + 1 ∧ MemSameBut a 64 s t ∧
          leNat (readBytes t.mem a 2) = v.code % 65536 ∧ leNat (readBytes t.mem (a + 4) 4) = seq % 2 ^ 32 ∧
          leNat (readBytes t.mem (a + 8) 16) = v.stamp % 2 ^ 128)) ∧
    (∀ (tag : BitVec 32) (st : BitVec 16), s.mbxServed = true → ∀ b, s.mbx.bg = [b] → b.tag = tag.toNat →
      (∀ o, b.out = some o → ∃ t, exec (.backgroundCommandComplete tag st) s = .next t ∧ t.mbx.bg = [] ∧ RegsSameBut [] s t ∧
        MemSame s t ∧ ∃ e, t.evq = s.evq ++ [e] ∧ e.code = 0x0001 ∧ leNat (e.payload.take 4) = tag.toNat ∧
          leNat ((e.payload.drop 6).take 2) = o.1 % 65536) ∧
      (b.out = none → s.bgEnd b = none → st.toNat = 0x2A ∨ st.toNat = 0x2B → ∃ t,
        exec (.backgroundCommandComplete tag st) s = .next t ∧ t.mbx.bg = [] ∧
          ∃ e, t.evq = s.evq ++ [e] ∧ e.code = 0x0001 ∧ leNat ((e.payload.drop 6).take 2) = st.toNat) ∧
      (b.out = none → s.bgEnd b = none → st.toNat = 0 → exec (.backgroundCommandComplete tag st) s = .next s)) ∧
    (s.mode = 2 → s.heldSteps = [] → s.rst.failover = false → ∃ t, exec .mailboxOutageEnd s = .next t ∧ t.mode = 1 ∧
      t.fld (reg0 .RST_FAILOVER 0) F.RST_FAILOVER_last_outage_ns ≤ 40000 ∧ MemSame s t ∧ t.mbx = s.mbx ∧
      RegsSameBut [reg0 .PCI_MBX_GLOBAL 0, reg0 .RST_FAILOVER 0] s t)

/-! Surviving failure. -/

/-- Probes are answered and end in a reply or in the partner's loss; a loss notice of the present epoch fences the module and
runs unfinished reductions again; snapshots, mirrors, core faults, spares and the switch of a RESHARD plan. The halt of the job
context and what a spare's memory holds are the model's (log 17). -/
def Obligations.FailuresAreSurvived : Prop :=
  ∀ s : State, s.fld (reg0 .RST_STATUS 0) F.RST_STATUS_frost = 0 →
    let v := s.surv
    let tr := s.train
    let pair := reg0 .CP_PAIR_STATUS 0
    let snap := reg0 .CP_SNAPSHOT_STATUS 0
    (∀ (own partner : BitVec 16) (ovr : Bool), ∃ t, exec (.pairAnnounce own partner ovr) s = .next t ∧
      tget (0, false) t.surv.pairs own.toNat = (partner.toNat, ovr) ∧ t = { s with surv := { v with pairs := t.surv.pairs } }) ∧
    (∀ (src : BitVec 16) (num : BitVec 32), src.toNat ≠ s.partner → s.fab.id ≠ 0xFFFF → s.route src.toNat % 8 < 6 →
      ∀ r, 5 + s.route src.toNat % 8 = r → s.lnk r ≠ 7 → ∃ t, exec (.probe src num) s = .next t ∧
        LnkOnly r [] s { t with fab := { t.fab with sent := s.fab.sent, next := s.fab.next } } ∧
        ∃ m, tget [] (t.port r).vc 0 = tget [] (s.port r).vc 0 ++ [m] ∧ m.h.dest = src ∧ m.h.op = 5 ∧
          leNat (m.data.take 8) = 0x22 ∧ leNat ((m.data.drop 8).take 4) = num.toNat ∧ m.data.length = 32) ∧
    (∀ num : BitVec 32,
      (v.probing = true → num.toNat = v.probe % 2 ^ 32 → ∃ t, exec (.probeReply num) s = .next t ∧ t.surv.probing = false ∧
        (s.lnk 11 ≠ 5 → s.mirror ≠ 0 → t.mirror = 3) ∧ (s.lnk 11 = 5 ∨ s.mirror = 0 → RegsSameBut [] s t) ∧ MemSame s t) ∧
      (v.probing = false ∨ num.toNat ≠ v.probe % 2 ^ 32 → exec (.probeReply num) s = .next s)) ∧
    (∀ lost, s.partner = lost → v.probing = true → s.mirror = 0 → lost ≠ s.fab.id → lost ∈ s.members.ids →
      lost ∉ s.members.fenced → (∀ p, p < 12 → s.lnk p ≠ 5 ∨ s.fld (reg0 .LNK_STATUS p) F.LNK_STATUS_peer_id ≠ lost) →
      ∃ t, exec .probeTimeout s = .next t ∧ t.surv.probing = false ∧ t.fld pair F.CP_PAIR_STATUS_stand_in = 1 ∧
        t.fld pair F.CP_PAIR_STATUS_stood_for = lost ∧ t.members.fenced = s.members.fenced ++ [lost] ∧
        tget 0 t.members.standIn lost = s.fab.id ∧ MemSame s t ∧ RegsSameBut [pair] s t) ∧
    (∀ (lost standIn : BitVec 16) (epoch : BitVec 32) (step : BitVec 64),
      (epoch.toNat ≠ s.members.epoch → exec (.lossNotice lost standIn epoch step) s = .next s) ∧
      (epoch.toNat = s.members.epoch → lost.toNat = s.fab.id → ∃ t, exec (.lossNotice lost standIn epoch step) s = .next t ∧
        t.surv.lostSelf = true ∧ t.surv.jobStopped = true ∧ t.evq.getLast?.map (·.code) = some 0x0400 ∧
        t.members = s.members ∧ MemSame s t) ∧
      (epoch.toNat = s.members.epoch → lost.toNat ≠ s.fab.id → lost.toNat ∈ s.members.ids → lost.toNat ∉ s.members.fenced →
        ∃ t, exec (.lossNotice lost standIn epoch step) s = .next t ∧ t.members.fenced = s.members.fenced ++ [lost.toNat] ∧
          tget 0 t.members.standIn lost.toNat = standIn.toNat ∧ t.members.ids = s.members.ids ∧
          (∀ b, b < tr.buckets.length → b ∉ tr.freed → ∀ x, bucketAt tr.buckets b = some x →
            bucketAt t.train.buckets b = some { x with run := x.run + 1, reduced := false, reducedCount := 0 } ∧
              (tr.buckets.length ≤ 4096 → ∀ p, p ∈ t.train.parts → p.bucket.toNat = b →
                x.closed = true ∧ p.run.toNat = (x.run + 1) % 65536)) ∧
          (∀ b, b ∈ tr.freed → bucketAt t.train.buckets b = bucketAt tr.buckets b) ∧
          (∀ p, p < 12 → 5 ≤ p → s.lnk p = 5 → s.fld (reg0 .LNK_STATUS p) F.LNK_STATUS_peer_id = lost.toNat →
            t.lnk p = 7 ∧ t.fld (reg0 .LNK_STATUS p) F.LNK_STATUS_cause = 0x0C) ∧
          ((∀ p, (s.port p).open_ = []) → MemSame s t))) ∧
    (∀ (pos : BitVec 16) (d : BitVec 256),
      (s.posFenced pos.toNat = true → ∃ t, exec (.standInReady pos d) s = .next t ∧ tget 0 t.train.reports pos.toNat = d ∧
        t = { s with train := { tr with reports := t.train.reports } }) ∧
      (s.posFenced pos.toNat = false → exec (.standInReady pos d) s = .next s)) ∧
    (∀ step : BitVec 64,
      (v.policy = [] ∨ tr.step ≠ step.toNat + 1 ∧ v.marks = [] ∨ v.copying = true →
        exec (.snapshotMark step) s = .next { s with surv := { v with marks := v.marks ++ [step.toNat] } }) ∧
      (v.policy ≠ [] → tr.step = step.toNat + 1 → v.copying = false → ∃ t, exec (.snapshotMark step) s = .next t ∧
        t.surv.copying = true ∧ t.surv.number = v.number + 1 ∧ t.surv.snapStep = step.toNat ∧ t.surv.slot = 1 - v.slot ∧
        t.fld snap F.CP_SNAPSHOT_STATUS_state = 1 ∧ t.fld snap F.CP_SNAPSHOT_STATUS_log_full = 0)) ∧
    (v.copying = true → v.marks = [] → (∀ m, m ∈ s.fab.sent → m.job.map (·.1) ≠ some snapJob) →
      ∃ t, exec .snapshotComplete s = .next t ∧ t.surv.copying = false ∧
        t.fld snap F.CP_SNAPSHOT_STATUS_last_complete = v.number % 2 ^ 32 ∧ t.fld snap F.CP_SNAPSHOT_STATUS_state = 0 ∧
        (t.rd (reg0 .CP_SNAPSHOT_STEP 0)).toNat = v.snapStep % 2 ^ 64 ∧ t.evq.getLast?.map (·.code) = some 0x0503 ∧
        (tget [] s.mbx.transfers snapJob = [] → t.fld snap F.CP_SNAPSHOT_STATUS_partner_copy = 0) ∧
        (tget [] s.mbx.transfers snapJob ≠ [] → (∀ d, d ∈ tget [] s.mbx.transfers snapJob → d.2 = 0) →
          t.fld snap F.CP_SNAPSHOT_STATUS_partner_copy = 1)) ∧
    (s.partnerUp = true → s.mirror = 0 ∨ s.mirror = 3 → ∃ t, exec .mirrorSyncStart s = .next t ∧ t.mirror = 1 ∧ MemSame s t ∧
      ((policyEntries v.policy).filter (fun k => decide (s.methodOf k = 1)) = [] →
        t.surv = { v with synced := true } ∧ RegsSameBut [pair] s t ∧ t = { s with regs := t.regs, surv := t.surv })) ∧
    (∀ (n : CoreId) (node : Bool), v.filling = [] →
      (∀ k, k < 64 → (if node then k / 4 = n.val / 4 else k = n.val) → s.remap k < 2) →
      ∃ t, exec (.coreFault n node) s = .next t ∧ t.surv.jobStopped = true ∧ MemSame s t ∧
        (∀ k, k < 64 → (if node then k / 4 = n.val / 4 else k = n.val) →
          t.remap k = 2 ∧ t.phys k = s.phys k ∧ t.clk.stopped.contains (s.phys k) = true ∧
            t.fld (reg1 .RST_BLOCK 0 (s.phys k)) F.RST_BLOCK_state = 2) ∧
        (∀ k, k < 64 → ¬(if node then k / 4 = n.val / 4 else k = n.val) → t.remap k = s.remap k) ∧
        (∀ i, i < (tget (0, []) tr.plans tr.step).1 → (tr.step, i) ∈ t.train.drops) ∧
        (∃ e, e ∈ t.evq ∧ e.code = 0x0206)) ∧
    (∀ n : CoreId, tr.running = true → exec (.spareFill n) s = .next s ∧ exec (.spareFillComplete n) s = .next s) ∧
    (∀ n : CoreId, s.remap n = 2 → tr.running = false → s.heldSteps = [] →
      (n.val ∉ v.waitFill → s.spareFree (n / 16) = true → ∃ t, exec (.spareFill n) s = .next t ∧ t.remap n = 1 ∧
        t.phys n = 17 * (n.val / 16) + 16 ∧ t.fld (remapReg n) F.CP_CORE_REMAP_borrowed = 0 ∧
        t.surv.filling = v.filling ++ [n.val] ∧ MemSameBut (slotBase n) slotSize s t ∧ t.core n = .reset n ∧
        (∀ k, k ≠ n.val → t.core k = s.core k)) ∧
      (n.val ∈ v.waitFill → v.filling = [] → (∀ d, d < 4 → d ≠ n.val / 16 → s.spareFree d = false) →
        ∃ t, exec (.spareFill n) s = .next t ∧ t.remap n = 3 ∧ n.val ∉ t.surv.waitFill ∧ MemSame s t ∧
          ∃ e, t.evq = s.evq ++ [e] ∧ e.code = 0x0207)) ∧
    (∀ n : CoreId, v.filling = [n.val] → s.remap n = 1 → (s.slice n).ctxs = [] → v.jobStopped = false →
      tr.running = false → s.heldSteps = [] →
      ∃ t, exec (.spareFillComplete n) s = .next t ∧ t.remap n = 0 ∧ t.phys n = s.phys n ∧ t.surv.filling = [] ∧ MemSame s t ∧
        ∃ e, t.evq = s.evq ++ [e] ∧ e.code = 0x0207) ∧
    (∀ m, s.membersNext = some m →
      (m.first ≤ tr.step → ∃ t, exec .reshardSwitch s = .next t ∧ t.members = m ∧ t.membersNext = none ∧
        t.fld pair F.CP_PAIR_STATUS_stand_in = 0 ∧ t.fld pair F.CP_PAIR_STATUS_stood_for = 0xFFFF ∧ t.surv.plan = none ∧
        RegsSameBut [pair] s t ∧ MemSame s t ∧ t.train = tr) ∧
      (tr.step < m.first → exec .reshardSwitch s = .next s))

/-! Frost, reset, power and the management target. -/

/-- The first trigger latches frost state with its cause; a later one goes to the secondary mask; the ramp starts after its lead
and ends at the measured floor. -/
def Obligations.FrostIsLatchedAndRampsDown : Prop :=
  ∀ s : State,
    let st := reg0 .RST_STATUS 0
    let frosted (c : Nat) (o : Host.Outcome State Fault Refusal) : Prop :=
      ∃ t, o = .next t ∧ t.fld st F.RST_STATUS_frost = 1 ∧ t.fld st F.RST_STATUS_frost_cause = c ∧ t.mode = 3 ∧
        t.fld pwrStatus F.PWR_STATUS_loadstep = 3 ∧ t.frost.entered = true ∧ t.frost.cause = c ∧ t.frost.ramp = 1 ∧
        t.frost.p0 = s.fld pwrStatus F.PWR_STATUS_input_w ∧ t.rst.faultLow = true ∧ MemSame s t ∧
        (∀ i, i < 106 → i ≠ 88 → i ≠ 89 → i ∈ t.clk.stopped) ∧ (∀ x, x ∈ t.cores → x.2.sca.held = true) ∧
        (∀ p, p < 12 → 5 ≤ p → (t.port p).fencing = true) ∧
        (∀ k, k < 2 → t.fld (reg1 .RST_WDOG 0 k) F.RST_WDOG_running = 0) ∧ 22 ∈ t.host.aer ∧
        (s.hostUp = true → t.evq.getLast?.map (·.code) = some 0x0A01)
    (s.fld st F.RST_STATUS_frost = 0 → s.rst.timer = false → ∀ (c : FrostCause) (d : BitVec 128),
      (¬(s.rst.waiting = true ∧ c = .supply) → frosted (causeCode c) (exec (.frostLatch c d) s)) ∧
      (s.rst.waiting = true → c = .supply → exec (.frostLatch c d) s = .next s)) ∧
    (s.fld st F.RST_STATUS_frost = 1 → ∀ (c : FrostCause) (d : BitVec 128), exec (.frostLatch c d) s =
      .next { s with frost := { s.frost with secondary := s.frost.secondary ||| 2 ^ causeCode c } }) ∧
    (s.frost.ramp = 1 → s.frost.times.length = 6 → ∃ t, exec .frostRampStart s = .next t ∧ t.frost.ramp = 2 ∧
      t.fld st F.RST_STATUS_ramp_active = 1 ∧ t.frost.times[4]? = some (s.fld pwrCtrl F.PWR_CTRL_loadstep_lead * 100) ∧
      RegsSameBut [st] s t ∧ t = { s with regs := t.regs, frost := t.frost }) ∧
    (s.frost.ramp = 2 → ∀ w : BitVec 16,
      (w.toNat ≤ 320 → ∃ t, exec (.frostRampEnd w) s = .next t ∧ t.frost.ramp = 0 ∧ t.fld st F.RST_STATUS_ramp_active = 0 ∧
        t.fld pwrStatus F.PWR_STATUS_loadstep = 0 ∧ t.fld pwrStatus F.PWR_STATUS_input_w = min w.toNat s.frost.p0 ∧
        t.frost.cause = s.frost.cause ∧ RegsSameBut [st, pwrStatus, reg1 .ICU_SRC 0 611] s t ∧
        t = { s with regs := t.regs, frost := t.frost }) ∧
      (320 < w.toNat → exec (.frostRampEnd w) s = .next s))

/-- Each reset source leaves what its row of R347 says; the sequence starts once the supply is in range and releases its domains
in order; the boot ROM, BOOT_OK, the watchdogs and failover. How a run starts is told in log 1. -/
def Obligations.ResetsAndStartsFollowTheirOrder : Prop :=
  ∀ s : State,
    let st := reg0 .RST_STATUS 0
    let g := reg0 .PCI_MBX_GLOBAL 0
    let after (src : Nat) (t : State) : Prop :=
      t.rst.waiting = true ∧ t.rst.seq = none ∧ t.rst.booted = false ∧ t.fld st F.RST_STATUS_reset_cause = src ∧ t.mode = 0 ∧
        t.fld st F.RST_STATUS_frost = 0 ∧ t.cores = [] ∧ t.fab.ports = [] ∧ t.train = State.reset.train ∧ t.host = .reset ∧
        (∀ n, n < 64 → ∀ a, slotBase n ≤ a → a < slotBase n + slotSize → cget t.mem a = 0) ∧
        (∀ a, region a = .far ∨ region a = .host → cget t.mem a = cget s.mem a)
    let keeps (src : Nat) (o : Host.Outcome State Fault Refusal) : Prop :=
      ∃ t, o = .next t ∧ after src t ∧
        t.fld st F.RST_STATUS_start_count = s.fld st F.RST_STATUS_start_count ∧
        t.fld st F.RST_STATUS_frost_cause = s.fld st F.RST_STATUS_frost_cause ∧ t.frost.cause = s.frost.cause ∧
        t.frost.entries = s.frost.entries ∧ (s.optInUse.ranged.hbmPreserve = 1 → s.rst.lost = false →
          (∀ a, region a = .stacked → cget t.mem a = cget s.mem a) ∧ ∀ c, c < 1024 → t.chSt c = s.chSt c ∧ t.copyPtr c = s.copyPtr c) ∧
        (s.optInUse.ranged.hbmPreserve = 0 → ∀ a, region a = .stacked → cget t.mem a = 0)
    (∃ t, exec .powerOn s = .next t ∧ after 0 t ∧ t.frost = .reset ∧ t.clk.refTime = 0 ∧
      t.fld st F.RST_STATUS_frost_cause = 0 ∧ (∀ a, region a = .stacked → cget t.mem a = 0)) ∧
    (s.rst.waiting = false → s.rst.timer = false →
      (∀ (ns : BitVec 32) (x : Bool), (1000 ≤ ns.toNat →
          keeps 1 (exec (.resetNAssert ns x) s) ∧ keeps 2 (exec (.perstNAssert ns x) s)) ∧
        (ns.toNat ≤ 100 → exec (.resetNAssert ns x) s = .next s ∧ exec (.perstNAssert ns x) s = .next s)) ∧
      ∃ t, exec .alwaysOnStateError s = .next t ∧ after 6 t ∧ t.frost.entered = false ∧
        t.fld st F.RST_STATUS_frost_cause = 0 ∧ ∀ a, region a = .stacked → cget t.mem a = 0) ∧
    (s.rst.waiting = true → s.frost.ramp = 0 →
      (48000 ≤ s.pwr.mv → s.pwr.mv ≤ 58000 →
        (∃ t, exec (.resetReleaseStart true) s = .next t ∧ t.rst.waiting = false ∧ t.rst.seq = some 0 ∧ MemSame s t ∧
          (∀ n, n < 64 → t.phys n = (Config.fuseRemap n).toNat % 68)) ∧
        (s.fld st F.RST_STATUS_frost = 0 → s.rst.timer = false → ∃ t, exec (.resetReleaseStart false) s = .next t ∧
          t.fld st F.RST_STATUS_frost_cause = 3 ∧ t.mode = 3 ∧ t.rst.responder = true ∧ 106 ∉ t.clk.stopped)) ∧
      (s.pwr.mv < 48000 → exec (.resetReleaseStart true) s = .next s)) ∧
    (s.rst.seq = some 0 →
      (∀ k, newerCopy s.firm.opt0 s.firm.opt1 = some k → ∀ o, (if k = 0 then s.firm.opt0 else s.firm.opt1).ranged = o →
        ∃ t, exec .optionAreaLoad s = .next t ∧ t.rst.seq = some 1 ∧ t.rst.opt = o ∧ t.fld st F.RST_STATUS_opt_copy = k % 2 ∧
          t.fld pwrCtrl F.PWR_CTRL_ramp_slope = o.rampSlope % 2 ^ F.PWR_CTRL_ramp_slope.w ∧
          RegsSameBut [st, pwrCtrl] s t ∧ MemSame s t) ∧
      (newerCopy s.firm.opt0 s.firm.opt1 = none → s.fld st F.RST_STATUS_frost = 0 → s.rst.timer = false → s.rst.waiting = false →
        ∃ t, exec .optionAreaLoad s = .next t ∧ t.fld st F.RST_STATUS_frost_cause = 4 ∧ t.mode = 3 ∧ t.rst.responder = true)) ∧
    (∀ (dom : Domain) (down up : BitVec 16), ∀ k, s.rst.seq = some k → s.mode ≠ 4 →
      (k ≠ domainPlace dom → exec (.domainRelease dom down up) s = .next s) ∧
      (k = domainPlace dom → s.firm.startCount < s.rst.opt.startLimit → ∃ t, exec (.domainRelease dom down up) s = .next t ∧
        t.rst.seq = (if dom = .complete then none else some (k + 1)) ∧ MemSame s t ∧
        (∀ i, i ∉ t.clk.stopped ↔ i ∉ s.clk.stopped ∨ (match dom with
          | .control => i = 118 ∨ i = 119
          | .hostPort => i = 106
          | .ioDies => i = 88 ∨ i = 89
          | .memory j => i = 90 + j
          | .die d => 68 + 5 * d ≤ i ∧ i < 73 + 5 * d
          | .core p => i = p ∧ s.fld (reg1 .RST_BLOCK 0 p) F.RST_BLOCK_enable = 1
          | .ports => 107 ≤ i ∧ i ≤ 117
          | _ => False)) ∧
        (dom = .pins → t.rst.strap = if down = up then down.toNat else 0xFFFF) ∧
        (dom = .complete → t.fld st F.RST_STATUS_seq_done = 1)) ∧
      (k = 2 → s.rst.opt.startLimit ≤ s.firm.startCount → ∃ t, exec (.domainRelease .control down up) s = .next t ∧ t.mode = 4 ∧
        t.fld st F.RST_STATUS_snowbound = 1)) ∧
    (s.rst.timer = true → s.rst.booted = false → 118 ∉ s.clk.stopped → s.fld st F.RST_STATUS_frost = 0 → s.rst.opt.bootSlot ≤ 1 →
      ∀ a, s.rst.opt.bootSlot = a →
      (∀ k, k = a ∧ s.verifyImage a = 0 ∨ k = 1 - a ∧ s.verifyImage a ≠ 0 ∧ s.verifyImage (1 - a) = 0 →
        ∃ t, exec .bootRomCheck s = .next t ∧ t.rst.booted = true ∧ t.firm.serve = k ∧ t.firm.stand = k ∧
          t.fld g F.PCI_MBX_GLOBAL_fw_version = s.slotField k 8 4 % 2 ^ 32 ∧ MemSame s t) ∧
      (s.verifyImage a ≠ 0 → s.verifyImage (1 - a) ≠ 0 → ∃ t, exec .bootRomCheck s = .next t ∧ t.mode = 4 ∧
        t.firm.startCount = s.firm.startCount + 1 ∧ t.fld st F.RST_STATUS_snowbound = 1)) ∧
    (s.rst.timer = true → s.rst.booted = true → s.mode = 0 → s.rst.lost = false → ∃ t, exec .bootOk s = .next t ∧ t.mode = 1 ∧
      t.firm.startCount = 0 ∧ t.fld st F.RST_STATUS_boot_ok = 1 ∧ t.fld st F.RST_STATUS_start_count = 0 ∧ t.rst.faultLow = false ∧
      t.rst.timer = false ∧ MemSame s t ∧ RegsSameBut [st, g, reg1 .RST_WDOG 0 0, reg1 .RST_WDOG 0 1] s t ∧
      (∀ k, k < 2 → t.fld (reg1 .RST_WDOG 0 k) F.RST_WDOG_running = 1)) ∧
    (s.rst.timer = true → s.rst.waiting = false → ∃ t, exec .bootWatchdogExpiry s = .next t ∧ after 4 t ∧
      t.firm.startCount = s.firm.startCount + 1 ∧ t.fld st F.RST_STATUS_start_count = min 15 (s.firm.startCount + 1)) ∧
    (∀ k : Fin 2, ∀ serving, s.fld g F.PCI_MBX_GLOBAL_serving_die = serving →
      let w := reg1 .RST_WDOG 0 k
      let standby := s.fld g F.PCI_MBX_GLOBAL_standby_ready
      let handed (o : Host.Outcome State Fault Refusal) : Prop :=
        ∃ t, o = .next t ∧ t.mode = 2 ∧ t.fld g F.PCI_MBX_GLOBAL_serving_die = 1 - serving ∧
          t.fld g F.PCI_MBX_GLOBAL_standby_ready = 0 ∧ MemSame s t ∧ t.rst.failover = true ∧
          t.fld (reg0 .RST_FAILOVER 0) F.RST_FAILOVER_failovers = min (2 ^ F.RST_FAILOVER_failovers.w - 1)
            (s.fld (reg0 .RST_FAILOVER 0) F.RST_FAILOVER_failovers + 1)
      (s.fld w F.RST_WDOG_running = 0 → exec (.runtimeWatchdogExpiry k) s = .next s) ∧
      (s.fld w F.RST_WDOG_running = 1 →
        (k.val = serving → standby = 0 → s.rst.waiting = false → s.rst.timer = false → keeps 3 (exec (.runtimeWatchdogExpiry k) s)) ∧
        (k.val = serving → standby = 1 → s.firm.act = none → handed (exec (.runtimeWatchdogExpiry k) s)) ∧
        (∃ t, exec (.watchdogHalfPeriod k) s = .next t ∧ t.fld (reg1 .ICU_SRC 0 625) F.ICU_SRC_pending = 1 ∧
          RegsSameBut [reg1 .ICU_SRC 0 625] s t ∧ t = { s with regs := t.regs }) ∧
        (∃ t, exec (.watchdogKick k) s = .next t ∧
          t.fld w F.RST_WDOG_remaining_ms = s.rst.opt.wdPeriod % 2 ^ F.RST_WDOG_remaining_ms.w ∧ RegsSameBut [w] s t ∧
          t = { s with regs := t.regs })) ∧
      (s.rst.booted = true → s.mode = 1 → s.fld st F.RST_STATUS_frost = 0 → s.rst.timer = false →
        (k.val = serving → standby = 0 → ∃ t, exec (.lockstepMismatch k) s = .next t ∧ t.mode = 3 ∧
          t.fld st F.RST_STATUS_frost_cause = 2) ∧
        (k.val = serving → standby = 1 → s.firm.act = none → handed (exec (.lockstepMismatch k) s)) ∧
        (k.val ≠ serving → ∃ t, exec (.lockstepMismatch k) s = .next t ∧ t.mode = 1 ∧
          t.fld g F.PCI_MBX_GLOBAL_standby_ready = 0 ∧ t.fld g F.PCI_MBX_GLOBAL_serving_die = serving ∧ MemSame s t))) ∧
    (s.rst.booted = true → s.fld g F.PCI_MBX_GLOBAL_standby_ready = 0 → s.mode = 1 → s.firm.act = none →
      ∀ k, k = 1 - s.fld g F.PCI_MBX_GLOBAL_serving_die → s.blockSt (124 + k) = 0 →
      (∃ t, exec (.standbyReloadDone true) s = .next t ∧ t.fld g F.PCI_MBX_GLOBAL_standby_ready = 1 ∧
        t.fld (reg0 .RST_FAILOVER 0) F.RST_FAILOVER_standby_ready = 1 ∧ t.firm.stand = s.firm.serve ∧ MemSame s t ∧
        RegsSameBut [g, reg0 .RST_FAILOVER 0, reg1 .RST_WDOG 0 k] s t) ∧
      (∃ t, exec (.standbyReloadDone false) s = .next t ∧ t.fld g F.PCI_MBX_GLOBAL_standby_ready = 0 ∧
        t.blockSt (124 + k) = 2 ∧ 118 + k ∈ t.clk.stopped ∧ MemSame s t))

/-- A block's shut-down and start follow R360: requests wait for the end of what runs, the last one stands, and a block starts
from its reset values. -/
def Obligations.BlocksShutDownAndStart : Prop :=
  ∀ (b : Fin 126) (s : State), s.fld (reg0 .RST_STATUS 0) F.RST_STATUS_frost = 0 → ∀ kind k, blockKind b = some (kind, k) →
    let reg := reg1 .RST_BLOCK 0 b
    let becomes (state pending enable : Nat) (o : Host.Outcome State Fault Refusal) : Prop :=
      ∃ t, o = .next t ∧ t.blockSt b = state ∧ t.blockPend b = pending ∧ t.fld reg F.RST_BLOCK_enable = enable
    let settles (state pending enable : Nat) (o : Host.Outcome State Fault Refusal) : Prop :=
      ∃ t, o = .next t ∧ t.blockSt b = state ∧ t.blockPend b = pending ∧ t.fld reg F.RST_BLOCK_enable = enable ∧
        RegsSameBut [reg] s t ∧ t = { s with regs := t.regs }
    (s.blockSt b = 0 →
      (s.blockFree kind k = true → becomes 1 0 0 (exec (.blockEnableWrite b false) s) ∧ becomes 1 1 1 (exec (.blockResetWrite b) s)) ∧
      (s.blockFree kind k = false → exec (.blockEnableWrite b false) s = .next s ∧ exec (.blockResetWrite b) s = .next s) ∧
      settles 0 0 1 (exec (.blockEnableWrite b true) s)) ∧
    (s.blockSt b = 1 → settles 1 1 1 (exec (.blockEnableWrite b true) s) ∧ settles 1 0 0 (exec (.blockEnableWrite b false) s) ∧
      settles 1 1 1 (exec (.blockResetWrite b) s)) ∧
    (s.blockSt b = 2 → settles 2 0 0 (exec (.blockEnableWrite b false) s) ∧
      (s.blockPend b = 0 → settles 3 0 1 (exec (.blockEnableWrite b true) s) ∧ settles 3 0 1 (exec (.blockResetWrite b) s))) ∧
    (s.blockSt b = 3 → settles 3 2 0 (exec (.blockEnableWrite b false) s) ∧ settles 3 0 1 (exec (.blockEnableWrite b true) s) ∧
      settles 3 2 1 (exec (.blockResetWrite b) s)) ∧
    (s.blockSt b = 1 → s.blockQuiet kind k = true → ∀ p, s.blockPend b = p → ∃ t,
      exec (.blockShutdownComplete b) s = .next t ∧ (∀ i, i ∈ s.blockIslands kind k → i ∈ t.clk.stopped) ∧
        t.blockSt b = (if p = 1 then 3 else 2) ∧ (p = 1 → t.blockPend b = 0) ∧
        t.fld (reg1 .ICU_SRC 0 626) F.ICU_SRC_pending = 1 ∧
        (kind = 0 → ∀ n, n < 64 → s.remap n < 2 → s.phys n = k → t.core n = .reset n ∧
          ∀ a, slotBase n ≤ a → a < slotBase n + slotSize → cget t.mem a = 0)) ∧
    (s.blockSt b = 3 → s.blockPend b = 0 → ∃ t, exec (.blockStartComplete b) s = .next t ∧ t.blockSt b = 0 ∧
      (∀ i, i ∈ s.blockIslands kind k → i ∉ t.clk.stopped ∧ t.cycles i = 0) ∧ MemSame s t ∧
      t.fld reg F.RST_BLOCK_reset = 0 ∧ RegsSameBut [reg, reg1 .ICU_SRC 0 626] s t ∧
      (s.fld reg F.RST_BLOCK_reset = 1 → ∃ e, t.evq = s.evq ++ [e] ∧ e.code = 0x0A00)) ∧
    (s.blockSt b = 3 → s.blockPend b = 2 → s.blockFree kind k = true → ∃ t, exec (.blockStartComplete b) s = .next t ∧
      t.blockSt b = 1)

/-- The supply, the sensors, the limits and the LOADSTEP ramps. When inrush limiting ends and when announcements come are the
model's (log 3); the periods that the controller needs are operands (log 13). -/
def Obligations.PowerIsWatchedAndAnnounced : Prop :=
  ∀ s : State,
    let st := reg0 .RST_STATUS 0
    let frost (c : Nat) (o : Host.Outcome State Fault Refusal) : Prop :=
      ∃ t, o = .next t ∧ t.mode = 3 ∧ t.fld st F.RST_STATUS_frost_cause = c ∧ MemSame s t
    let periods (t : State) : Prop := ∀ n, n < 64 → t.fld (reg0 .OPE_THROTTLE n) F.OPE_THROTTLE_period =
      ([1, 2, 3, 4, 6].map (tget 1 t.pwr.need) ++ [tget 1 t.pwr.hostMin n]).foldl max 1 % 32
    let limitRegs := [pwrStatus, reg0 .PWR_EXCURSION 0, reg1 .ICU_SRC 0 608] ++ (upTo 0 64).map (reg0 .OPE_THROTTLE)
    (s.fld st F.RST_STATUS_frost = 0 → s.rst.timer = false → s.rst.waiting = false →
      (∃ t, exec .refclkLoss s = .next t ∧ t.mode = 3 ∧ t.fld st F.RST_STATUS_frost_cause = 8 ∧
        t.fld pwrStatus F.PWR_STATUS_refclk_lost = 1) ∧
      (s.pwr.out = true → frost 5 (exec .supplyExcursionTimeout s)) ∧
      (∀ (ts : List (BitVec 16)) (w : Periods), ts.length = 64 → 1150#16 ∈ ts → frost 6 (exec (.sensorReading ts w) s))) ∧
    (s.pwr.out = false → exec .supplyExcursionTimeout s = .next s) ∧
    (exec .liveFeedConnect s = .next { s with pwr := { s.pwr with inrush := true } }) ∧
    (∀ mv : BitVec 32, ∀ v, mv.toInt.toNat = v → tget 1 s.pwr.need 4 ≤ 1 →
      (40000 ≤ v → ∃ t, exec (.supplyRangeChange mv) s = .next t ∧ t.pwr.mv = v ∧
        t.fld pwrStatus F.PWR_STATUS_input_mv = min 65535 v ∧ RegsSameBut [pwrStatus, reg0 .PWR_EXCURSION 0] s t ∧ t.mode = s.mode ∧
        t = { s with regs := t.regs, pwr := t.pwr } ∧
        (v < 47000 ∨ 59000 < v → s.rst.waiting = false → t.pwr.out = true) ∧
        (47000 ≤ v → v ≤ 59000 → t.pwr.out = false) ∧
        (47000 ≤ v → v < 48000 → 48000 ≤ s.pwr.mv → t.fld (reg0 .PWR_EXCURSION 0) F.PWR_EXCURSION_low =
          min (s.fld (reg0 .PWR_EXCURSION 0) F.PWR_EXCURSION_low + 1) (2 ^ F.PWR_EXCURSION_low.w - 1))) ∧
      (v < 40000 → ∃ t, exec (.supplyRangeChange mv) s = .next t ∧ t.rst.waiting = true ∧
        t.fld st F.RST_STATUS_reset_cause = 0 ∧ t.mode = 0)) ∧
    (∀ (ts : List (BitVec 16)) (w : Periods), ts.length = 64 → (∀ x, x ∈ ts → x.toInt < 1150) →
      ∃ t, exec (.sensorReading ts w) s = .next t ∧ MemSame s t ∧ t.mode = s.mode ∧ periods t ∧
        t.fld pwrStatus F.PWR_STATUS_input_w = w.watts.toNat ∧
        (∀ k, k < 64 → t.fld (reg1 .PWR_TEMP 0 k) F.PWR_TEMP_temp = ((ts.drop k).headD 0).toNat) ∧
        (∀ x, x ∈ ts → x.toInt ≤ (BitVec.ofNat 16 (t.fld pwrStatus F.PWR_STATUS_hottest)).toInt) ∧
        RegsSameBut (limitRegs ++ (upTo 0 64).map (reg1 .PWR_TEMP 0)) s t) ∧
    (∀ p : Fin 17,
      (∃ t, exec (.peakLimit p) s = .next t ∧ periods t ∧ tget 1 t.pwr.need 3 = p.val ∧ MemSame s t ∧ RegsSameBut limitRegs s t ∧
        t.fld (reg0 .PWR_EXCURSION 0) F.PWR_EXCURSION_peaks =
          min (s.fld (reg0 .PWR_EXCURSION 0) F.PWR_EXCURSION_peaks + 1) (2 ^ F.PWR_EXCURSION_peaks.w - 1)) ∧
      (∃ t, exec (.excursionLimitExpiry p) s = .next t ∧ periods t ∧ tget 1 t.pwr.need 2 = p.val ∧ MemSame s t ∧
        RegsSameBut limitRegs s t)) ∧
    (∀ (rise : Bool) (w : BitVec 16),
      (s.fld st F.RST_STATUS_frost = 0 → s.fld pwrStatus F.PWR_STATUS_loadstep = 0 →
        ∃ t, exec (.loadstepAnnounce rise w) s = .next t ∧ t.fld pwrStatus F.PWR_STATUS_loadstep = (if rise then 1 else 2) ∧
          t.pwr = { s.pwr with target := some w.toNat, ramping := false } ∧ RegsSameBut [pwrStatus, reg1 .ICU_SRC 0 611] s t ∧
          t = { s with regs := t.regs, pwr := t.pwr }) ∧
      (s.fld st F.RST_STATUS_frost = 1 → exec (.loadstepAnnounce rise w) s = .next s) ∧
      (∀ x, s.pwr.target = some x → exec .loadRampStart s = .next { s with pwr := { s.pwr with ramping := true } } ∧
        (s.pwr.ramping = true → ∃ t, exec (.loadRampEnd w) s = .next t ∧ t.fld pwrStatus F.PWR_STATUS_loadstep = 0 ∧
          t.fld pwrStatus F.PWR_STATUS_input_w = w.toNat ∧ t.pwr.target = none ∧ t.pwr.ramping = false ∧ MemSame s t ∧
          RegsSameBut (limitRegs ++ [reg1 .ICU_SRC 0 611]) s t)))

/-- The management target takes and loses its dynamic address, answers its CCCs, and is read byte by byte from its pointer. A
direct CCC without a dynamic address is not acknowledged (log 13); GETSTATUS is open (log 10); the identity bytes are
constants of the part (log 9). -/
def Obligations.ManagementTargetAnswers : Prop :=
  ∀ s : State, ∀ g, s.mgmt = g →
    (∀ a : BitVec 7,
      (g.dyn = none → exec (.entdaa a) s = .next { s with mgmt := { g with dyn := some a.toNat, alert := false } } ∧
        exec (.setdasa 0x2C a) s = .next { s with mgmt := { g with dyn := some a.toNat, alert := false } } ∧
        ∀ x : BitVec 7, x ≠ 0x2C → exec (.setdasa x a) s = .next s) ∧
      (g.dyn ≠ none → exec (.entdaa a) s = .next s ∧ exec (.setdasa 0x2C a) s = .next s)) ∧
    exec .rstdaa s = .next { s with mgmt := { g with dyn := none, ibi := none } } ∧
    exec .enec s = .next { s with mgmt := { g with events := true } } ∧
    exec .disec s = .next { s with mgmt := { g with events := false, ibi := none } } ∧
    (g.dyn ≠ none →
      exec .getpid s = .next { s with
        rbytes := leBytes (Config.fuseSerial.toNat % 2 ^ 32 + Config.mgmtPidHigh.toNat * 2 ^ 32) 6, rstatus := .ok } ∧
      exec .getbcr s = .next { s with rbytes := [Config.mgmtBcr], rstatus := .ok } ∧
      exec .getdcr s = .next { s with rbytes := [Config.mgmtDcr], rstatus := .ok } ∧
      exec .getmxds s = .next { s with rbytes := leBytes Config.mgmtMxds.toNat 2, rstatus := .ok } ∧
      ∃ t, exec .getstatus s = .next t ∧ t.rstatus = .ok ∧ t.rbytes.length = 2 ∧
        t = { s with rbytes := t.rbytes, rstatus := .ok, freeIdx := t.freeIdx }) ∧
    (∀ b : BitVec 8, exec (.mgmtPointerWrite b) s = .next { s with mgmt := { g with ptr := b.toNat, sample := [] } }) ∧
    (∀ k, g.ptr = k → ∃ t, exec .mgmtRead s = .next t ∧ t.rstatus = .ok ∧ t.mgmt.ptr = min 255 (k + 1) ∧
      t = { s with mgmt := t.mgmt, rbytes := t.rbytes, rstatus := .ok } ∧
      (g.sample = [] →
        (k = 0 → t.rbytes = leBytes s.mode 1 ∧ t.mgmt.alert = false) ∧
        (k = 1 → t.rbytes = leBytes (s.fld rstStatus F.RST_STATUS_frost_cause) 1) ∧
        (k = 6 → ∀ v, s.fld pwrStatus F.PWR_STATUS_input_mv = v → t.rbytes = [BitVec.ofNat 8 v] ∧
          t.mgmt.sample = [BitVec.ofNat 8 (v / 256)]) ∧
        (k = 9 → t.rbytes = leBytes s.firm.startCount 1) ∧ (16 ≤ k → t.rbytes = [0])) ∧
      (∀ x xs, g.sample = x :: xs → t.rbytes = [x] ∧ t.mgmt.sample = []))

/-! The Ulmas interface. -/

/-- Every command of the table checks, in this order (log 13), that it is served in the present mode, that its ring accepts it
and that the bytes outside its arguments are zero; an entry with another code is not its entry. -/
def Obligations.CommandsCheckTheirEntry : Prop :=
  ∀ (m : Fin 16) (s : State), ∀ e, (s.ring m).cur = some e → cmdTaken m e s →
    ∀ x, x ∈
        [(exec (.identifyCmd m), 0x0000, []), (exec (.capabilitiesCmd m), 0x0001, [(8, 8)]),
          (exec (.identityCertCmd m), 0x0002, [(8, 8), (16, 4)]), (exec (.attachCmd m), 0x0003, [(8, 8), (16, 1)]),
          (exec (.eventBindCmd m), 0x0004, [(8, 1), (9, 1)]), (exec (.eventMaskCmd m), 0x0005, [(8, 2), (10, 2), (12, 1)]),
          (exec (.pmapWriteCmd m), 0x0100, [(8, 2), (10, 2), (16, 8)]), (exec (.cacheCtrlCmd m), 0x0101, [(8, 1), (9, 1)]),
          (exec (.arbSetCmd m), 0x0102, [(8, 1), (9, 1)]), (exec (.channelActionCmd m), 0x0103, [(8, 2), (10, 1)]),
          (exec (.groupsReleaseCmd m), 0x0104, [(8, 4), (12, 4)]), (exec (.regApertureSetCmd m), 0x0105, [(8, 8)]),
          (exec (.programLoadCmd m), 0x0200, [(8, 8), (16, 4), (24, 8), (32, 1)]),
          (exec (.engineCtrlCmd m), 0x0201, [(8, 8), (16, 1), (17, 1), (18, 1), (19, 1), (20, 4)]),
          (exec (.contextCreateCmd m), 0x0202, [(8, 8), (16, 1), (20, 4), (24, 4), (32, 8)]),
          (exec (.contextDestroyCmd m), 0x0203, [(8, 8), (16, 1)])] ++
        [(exec (.sliceSetCmd m), 0x0204, [(8, 8), (16, 4), (20, 1), (21, 1)]),
          (exec (.contextSwitchCmd m), 0x0205, [(8, 8), (16, 1), (17, 1)]),
          (exec (.jobLimitsCmd m), 0x0206, [(8, 8), (16, 4)]), (exec (.winConfigCmd m), 0x0300, [(8, 1), (16, 8)]),
          (exec (.winCtrlCmd m), 0x0301, [(8, 1), (9, 1), (10, 2)]), (exec (.hdmWriteCmd m), 0x0302, [(8, 8)]),
          (exec (.cxlCtrlCmd m), 0x0303, [(8, 1), (9, 1), (10, 1)]),
          (exec (.retryPeerSetCmd m), 0x0304, [(8, 1), (10, 2), (16, 8)]), (exec (.moduleIdSetCmd m), 0x0400, [(8, 2)]),
          (exec (.membershipSetCmd m), 0x0401, [(8, 4), (12, 2), (16, 8), (24, 8)]),
          (exec (.pairSetCmd m), 0x0402, [(8, 2), (10, 1)]), (exec (.routeWriteCmd m), 0x0403, [(8, 2), (10, 2), (16, 8)]),
          (exec (.rxwinWriteCmd m), 0x0404, [(8, 1), (9, 1), (16, 8), (24, 8)]),
          (exec (.portCtrlCmd m), 0x0405, [(8, 1), (9, 1), (10, 1)]),
          (exec (.stepTokenMapCmd m), 0x0406, [(8, 2), (10, 1), (11, 1)]), (exec (.transferCmd m), 0x0407, [(8, 8), (16, 4)])] ++
        [(exec (.msgAbandonCmd m), 0x0408, [(8, 1), (9, 1), (10, 1)]), (exec (.levelQueryCmd m), 0x0409, [(8, 2)]),
          (exec (.levelSetCmd m), 0x040A, [(8, 2), (16, 8), (24, 4)]),
          (exec (.bucketTableCmd m), 0x0500, [(8, 8), (16, 2), (24, 8)]),
          (exec (.stepPlanCmd m), 0x0501, [(8, 8), (16, 4), (24, 8), (32, 4)]),
          (exec (.mbDropCmd m), 0x0502, [(8, 8), (16, 4)]), (exec (.policyWriteCmd m), 0x0503, [(8, 8), (16, 4)]),
          (exec (.replayRegisterCmd m), 0x0504, [(8, 4), (16, 8), (24, 4)]), (exec (.snapshotCfgCmd m), 0x0505, [(8, 1)]),
          (exec (.snapshotNowCmd m), 0x0506, []), (exec (.recommitCmd m), 0x0507, [(8, 8)]),
          (exec (.reshardCmd m), 0x0508, [(8, 8), (16, 4)]),
          (exec (.fwStageCmd m), 0x0600, [(8, 1), (12, 4), (16, 8), (24, 4)]), (exec (.fwVerifyCmd m), 0x0601, [(8, 1)]),
          (exec (.fwActivateCmd m), 0x0602, [(8, 1), (12, 4)]), (exec (.fwBootSlotCmd m), 0x0603, [(8, 1)])] ++
        [(exec (.fwSvnCommitCmd m), 0x0604, [(8, 1)]), (exec (.attestCmd m), 0x0605, [(8, 32), (40, 4), (48, 8), (56, 4)]),
          (exec (.telemetryReadCmd m), 0x0700, [(8, 2), (16, 8)]), (exec (.countersClearCmd m), 0x0701, [(8, 2)]),
          (exec (.thresholdSetCmd m), 0x0702, [(8, 2), (10, 2), (16, 8)]),
          (exec (.readStateCmd m), 0x0800, [(8, 2), (12, 4), (16, 8), (24, 4), (28, 4)]),
          (exec (.writeStateCmd m), 0x0801, [(8, 2), (12, 4), (16, 8), (24, 4), (28, 4)]),
          (exec (.errlogClearCmd m), 0x0802, []), (exec (.powerLimitCmd m), 0x0900, [(8, 2)]),
          (exec (.powerReadCmd m), 0x0901, []), (exec (.throttleSetCmd m), 0x0902, [(8, 8), (16, 1)]),
          (exec (.blockResetCmd m), 0x0A00, [(8, 1), (12, 4)]), (exec (.moduleResetCmd m), 0x0A01, []),
          (exec (.frostEnterCmd m), 0x0A02, []), (exec (.frostReportCmd m), 0x0A03, [(8, 8)]),
          (exec (.bootLogCmd m), 0x0A04, [(8, 8)])] ++
        [(exec (.startCountClearCmd m), 0x0A05, []), (exec (.optionWriteCmd m), 0x0A06, [(8, 2), (10, 2), (16, 8)]),
          (exec (.optionReadCmd m), 0x0A07, [(8, 8)])] →      (opcodeOf e ≠ x.2.1 → x.1 s = .next s) ∧
      (opcodeOf e = x.2.1 →
        (s.served_ e = false → CmdAnswers m e 0x13 0 [] s (x.1 s)) ∧
        (s.served_ e = true → m.val < 2 → urgent e = false → CmdAnswers m e 0x12 0 [] s (x.1 s)) ∧
        (s.served_ e = true → (m.val < 2 → urgent e = true) → ∀ o, reservedByte e x.2.2 = some o →
          CmdAnswers m e 0x11 o [] s (x.1 s)))

/-- IDENTIFY, CAPABILITIES, IDENTITY_CERT, ATTACH, EVENT_BIND and EVENT_MASK. The places of ATTACH's result and how a group is bound
to no vector are the model's (log 13). -/
def Obligations.GeneralCommandsAnswer : Prop :=
  ∀ (m : Fin 16) (s : State), ∀ e, (s.ring m).cur = some e →
    let b := arg e 8 8
    (cmdReady m 0x0000 [] e s → CmdAnswers m e 0 0
      ([0x4B, 0x53, 0x47, 0x2D, 0x4E, 0x36, 0x34, 0x2D, 0x48, 0x31, 0x36, 0x00] ++ leBytes Config.fuseSerial.toNat 8 ++
        leBytes s.fwVersion 4 ++ leBytes Config.fuseRevision.toNat 2 ++ leBytes s.fab.id 2 ++ leBytes s.mode 1 ++ leBytes s.servingDie 1)
      s (exec (.identifyCmd m) s)) ∧
    (cmdReady m 0x0001 [(8, 8)] e s →
      (bufGood b 256 s → ∃ t, exec (.capabilitiesCmd m) s = .next t ∧ cmdEnds m e 0 0 [] s t ∧ MemSameBut (hostBase + b) 256 s t ∧
        t = { s with mem := t.mem, mbx := { s.mbx with rings := t.mbx.rings } } ∧
        let u (o w : Nat) : Nat := leNat (bufBytes t (b + o) w)
        u 0 1 = s.fld (reg0 .LNK_CAP 5) F.LNK_CAP_proto_min ∧ u 1 1 = s.fld (reg0 .LNK_CAP 5) F.LNK_CAP_proto_max ∧
          u 2 2 = s.fld (reg0 .LNK_CAP 5) F.LNK_CAP_level_mask ∧ u 4 2 = s.fld (reg0 .LNK_LEVEL 0) F.LNK_LEVEL_level_now ∧
          u 6 2 = s.fld (reg0 .LNK_LEVEL 0) F.LNK_LEVEL_level_next ∧ u 8 8 = (s.rd (reg0 .LNK_LEVEL_STEP 0)).toNat ∧
          u 16 2 = s.fld (reg0 .LNK_CAP 11) F.LNK_CAP_feed_id ∧ u 18 2 = s.fab.id % 65536 ∧
          u 24 8 = (0x13B00000000 - 0x200000 * s.hbm.released.length) ∧
          (∀ k, k < 4 → u (32 + 8 * k) 8 = s.fld (reg0 .CXL_STATUS (k + 1)) F.CXL_STATUS_capacity_gib * 2 ^ 30) ∧
          (∀ n, n < 64 → u 64 16 / 4 ^ n % 4 = s.remap n) ∧ u 80 1 = 8 ∧ u 20 4 = 0 ∧ bufBytes t (b + 81) 175 = zeros 175) ∧
      (s.hostUp = false → b < 0x7FFFFFFFFFF00 → s.hostOk (hostBase + b + 255) = true →
        CmdAnswers m e 0x19 0 [] s (exec (.capabilitiesCmd m) s))) ∧
    (cmdReady m 0x0002 [(8, 8), (16, 4)] e s → ∀ n, Config.identityCerts.length + 1952 = n →
      (arg e 16 4 < n → CmdAnswers m e 0x11 16 [] s (exec (.identityCertCmd m) s)) ∧
      (n ≤ arg e 16 4 → bufGood b n s →
        CmdWrites m e (leBytes n 4) b (Config.identityKey.toList ++ Config.identityCerts) s (exec (.identityCertCmd m) s))) ∧
    (cmdReady m 0x0003 [(8, 8), (16, 1)] e s → ∀ old, s.mbx.session = old → arg e 16 1 ≤ 1 →
      (old = 0 ∨ old = b ∨ arg e 16 1 = 1 → ∃ t, exec (.attachCmd m) s = .next t ∧ t.mbx.session = b ∧
        cmdEnds m e 0 0 (leBytes old 8 ++ leBytes (s.fld evStatus F.PCI_MBX_EV_STATUS_next_seq) 4 ++ leBytes s.mbx.bg.length 4) s t ∧
        (∃ v, t.evq = s.evq ++ [v] ∧ v.code = 0x0002 ∧ leNat (v.payload.take 8) = old % 2 ^ 64 ∧
          leNat ((v.payload.drop 8).take 8) = b) ∧
        t = { s with evq := t.evq, mbx := { s.mbx with rings := t.mbx.rings, session := b } }) ∧
      (old ≠ 0 → old ≠ b → arg e 16 1 = 0 → CmdAnswers m e 0x14 0 [] s (exec (.attachCmd m) s))) ∧
    (cmdReady m 0x0004 [(8, 1), (9, 1)] e s → ∀ g, arg e 8 1 = g → ∀ v, arg e 9 1 = v →
      (0x0A < g → CmdAnswers m e 0x11 8 [] s (exec (.eventBindCmd m) s)) ∧
      (g ≤ 0x0A → 16 ≤ v → v ≤ 63 → ∃ t, exec (.eventBindCmd m) s = .next t ∧ cmdEnds m e 0 0 [] s t ∧ tget 0 t.mbx.binds g = v ∧
        (∀ k, k ≠ g → tget 0 t.mbx.binds k = tget 0 s.mbx.binds k) ∧
        t = { s with mbx := { s.mbx with rings := t.mbx.rings, binds := t.mbx.binds } })) ∧
    (cmdReady m 0x0005 [(8, 2), (10, 2), (12, 1)] e s → ∀ lo, arg e 8 2 = lo → ∀ hi, arg e 10 2 = hi →
      (hi < lo → CmdAnswers m e 0x11 10 [] s (exec (.eventMaskCmd m) s)) ∧
      (lo ≤ hi → arg e 12 1 ≤ 1 → ∃ t, exec (.eventMaskCmd m) s = .next t ∧ cmdEnds m e 0 0 [] s t ∧
        (∀ c : Nat, t.delivered c = if lo ≤ c ∧ c ≤ hi then decide (arg e 12 1 = 1) else s.delivered c) ∧
        t = { s with mbx := { s.mbx with rings := t.mbx.rings, masks := t.mbx.masks } }))

/-- The memory, streamer and far-tier commands. A flush is done when its command is accepted (log 3); the places of WIN_CONFIG's
fields are the model's (log 13). -/
def Obligations.MemoryAndFarTierCommandsAct : Prop :=
  ∀ (m : Fin 16) (s : State), ∀ e, (s.ring m).cur = some e →
    let written (r : Reg) (v : Nat) : BitVec 64 := regStore r (s.rd r) (BitVec.ofNat 64 v) (BitVec.allOnes 64)
    let room : Prop := s.mbx.bg.length < 64
    (cmdReady m 0x0100 [(8, 2), (10, 2), (16, 8)] e s → ∀ first, arg e 8 2 = first → ∀ n, arg e 10 2 = n → ∀ b, arg e 16 8 = b →
      (4096 < first + n → first < 4096 → CmdAnswers m e 0x11 10 [] s (exec (.pmapWriteCmd m) s)) ∧
      (0 < n → first + n ≤ 4096 → bufGood b (8 * n) s → ∃ t, exec (.pmapWriteCmd m) s = .next t ∧ cmdEnds m e 0 0 [] s t ∧
        (∀ i, i < n → t.rd (reg1 .HBM_PMAP 0 (first + i)) =
          written (reg1 .HBM_PMAP 0 (first + i)) (leNat (bufBytes s (b + 8 * i) 8))) ∧
        RegsSameBut ((upTo first n).map (reg1 .HBM_PMAP 0)) s t ∧ tget 0 t.firm.changed 7 = s.clk.refTime ∧
        t = { s with
          regs := t.regs, mbx := { s.mbx with rings := t.mbx.rings }, firm := { s.firm with changed := t.firm.changed } })) ∧
    (cmdReady m 0x0101 [(8, 1), (9, 1)] e s →
      (arg e 9 1 = 0 → ∃ t, exec (.cacheCtrlCmd m) s = .next t ∧ cmdSets m e [reg0 .MSC_CTRL 0] s t ∧
        t.fld (reg0 .MSC_CTRL 0) F.MSC_CTRL_keep_ways = min 16 (arg e 8 1)) ∧
      (arg e 9 1 = 1 → room → ∃ t, exec (.cacheCtrlCmd m) s = .next t ∧ cmdAccepted m e (some (0, 0, [])) s t ∧
        t.fld (reg0 .MSC_CTRL 0) F.MSC_CTRL_keep_ways = min 16 (arg e 8 1) ∧ t.hbm.sets = [] ∧ MemSame s t ∧
        RegsSameBut [reg0 .MSC_CTRL 0] s t)) ∧
    (cmdReady m 0x0102 [(8, 1), (9, 1)] e s →
      (arg e 8 1 < 64 → arg e 9 1 < 64 → ∃ t, exec (.arbSetCmd m) s = .next t ∧ cmdSets m e [reg0 .HBM_ARB 0] s t ∧
        t.fld (reg0 .HBM_ARB 0) F.HBM_ARB_min1 = arg e 8 1 ∧ t.fld (reg0 .HBM_ARB 0) F.HBM_ARB_min2 = min (arg e 9 1) (64 - arg e 8 1)) ∧
      (64 ≤ arg e 8 1 → CmdAnswers m e 0x11 8 [] s (exec (.arbSetCmd m) s))) ∧
    (cmdReady m 0x0103 [(8, 2), (10, 1)] e s → ∀ c, arg e 8 2 = c → c < 1024 → ∀ a, arg e 10 1 = a → a ≤ 2 →
      let goes (x : Nat) : Prop := ∃ t, exec (.channelActionCmd m) s = .next t ∧ cmdAccepted m e none s t ∧ t.chSt c = x ∧
        (∀ k, k < 1024 → k ≠ c → t.chSt k = s.chSt k) ∧ MemSame s t ∧ ∃ v, t.evq = s.evq ++ [v] ∧ v.code = 0x0103
      ((∃ x, x ∈ s.mbx.bg ∧ x.opcode = 0x0103 ∧ x.arg = c) → CmdAnswers m e 0x1C 0 [] s (exec (.channelActionCmd m) s)) ∧
      ((∀ x, x ∈ s.mbx.bg → x.opcode ≠ 0x0103 ∨ x.arg ≠ c) → room →
        (a < 2 → s.chSt c = 0 → s.slotsUsed.length + s.hbm.queue.length < 16 →
          (s.migrating = false → goes 2) ∧ (s.migrating = true → goes 1)) ∧
        (a < 2 → s.chSt c = 0 → 16 ≤ s.slotsUsed.length → ∃ t, exec (.channelActionCmd m) s = .next t ∧ cmdAccepted m e none s t ∧
          t.chSt c = 6 ∧ t.hbm.degraded = s.hbm.degraded ++ [(c, s.groupsFor c)] ∧ MemSame s t ∧
          t.evq.map (·.code) = s.evq.map (·.code) ++ [0x0103, 0x0104]) ∧
        (a = 2 → s.chSt c = 3 → goes 5) ∧ (a = 0 → s.chSt c = 3 ∨ s.chSt c = 7 → goes 4) ∧
        ((a = 2 ∧ s.chSt c ≠ 3) ∨ (a < 2 ∧ s.chSt c ≠ 0 ∧ s.chSt c ≠ 3 ∧ s.chSt c ≠ 7) ∨
            (a = 1 ∧ (s.chSt c = 3 ∨ s.chSt c = 7)) →
          CmdAnswers m e 0x14 0 [] s (exec (.channelActionCmd m) s)))) ∧
    (cmdReady m 0x0104 [(8, 4), (12, 4)] e s → ∀ first, arg e 8 4 = first → ∀ n, arg e 12 4 = n → first < 645120 →
      (645120 < first + n → CmdAnswers m e 0x11 12 [] s (exec (.groupsReleaseCmd m) s)) ∧
      (first + n ≤ 645120 → ∀ fresh, (upTo first n).filter (fun g => !s.hbm.released.contains g) = fresh →
        let needed (t : State) : Nat := t.fld (reg0 .HBM_SPARE_STATUS 0) F.HBM_SPARE_STATUS_groups_needed
        let gives (p : State → Prop) : Prop := ∃ t, exec (.groupsReleaseCmd m) s = .next t ∧ cmdEnds m e 0 0 [] s t ∧
          (∀ g : Nat, g ∈ t.hbm.released ↔ g ∈ s.hbm.released ∨ (first ≤ g ∧ g < first + n)) ∧
          t.fld (reg0 .HBM_SPARE_STATUS 0) F.HBM_SPARE_STATUS_groups_released =
            (s.fld (reg0 .HBM_SPARE_STATUS 0) F.HBM_SPARE_STATUS_groups_released + fresh.length) % 2 ^ 20 ∧ MemSame s t ∧ p t
        (s.hbm.degraded = [] ∨ fresh = [] → gives (fun t => needed t = needed s ∧ RegsSameBut [reg0 .HBM_SPARE_STATUS 0] s t ∧ t = { s with
          regs := t.regs, mbx := { s.mbx with rings := t.mbx.rings }, hbm := { s.hbm with released := t.hbm.released } })) ∧
        (∀ c need ds, s.hbm.degraded = (c, need) :: ds → 0 < fresh.length → fresh.length < need → gives (fun t =>
          t.hbm.degraded = (c, need - fresh.length) :: ds ∧ needed t = (need - fresh.length) % 2 ^ 10 ∧
          tget [] t.hbm.granted c = tget [] s.hbm.granted c ++ fresh ∧ RegsSameBut [reg0 .HBM_SPARE_STATUS 0] s t)) ∧
        (∀ c need, s.hbm.degraded = [(c, need)] → 0 < need → need ≤ fresh.length → s.migrating = false → s.hbm.queue = [] →
          c < 1024 → s.chSt c = 6 → gives (fun t => t.hbm.degraded = [] ∧ needed t = 0 ∧ t.chSt c = 2 ∧ t.copyPtr c = 0 ∧
            (∃ x, x ∈ t.hbm.retires ∧ x.chan = c ∧ 16 ≤ x.slot ∧ x.repair = false) ∧
            ∀ k, k < 1024 → k ≠ c → t.chSt k = s.chSt k)))) ∧
    (cmdReady m 0x0105 [(8, 8)] e s → ∀ b, arg e 8 8 = b →
      (b % 0x800000 = 0 → region b = .regs → ∃ t, exec (.regApertureSetCmd m) s = .next t ∧
        cmdSets m e [reg0 .PCI_REG_APERTURE 0] s t ∧ t.fld (reg0 .PCI_REG_APERTURE 0) F.PCI_REG_APERTURE_base_hi = b / 0x800000) ∧
      (b % 0x800000 ≠ 0 ∨ region b ≠ .regs → CmdAnswers m e 0x11 8 [] s (exec (.regApertureSetCmd m) s))) ∧
    (cmdReady m 0x0300 [(8, 1), (16, 8)] e s → ∀ mask, arg e 8 1 = mask → mask < 16 → ∀ b, arg e 16 8 = b → bufGood b 128 s →
      ∀ bad : Nat → Nat, bad = (fun d => if s.dieStatus d ≠ 0 then s.dieStatus d else if s.winState d ≠ 0 then 0x14 else 0) →
      ∃ t, exec (.winConfigCmd m) s = .next t ∧ cmdMasked m e 4 mask bad s t ∧
        let v (o : Nat) : Nat := leNat (bufBytes s (b + o) 8)
        (∀ d, d < 4 → mask.testBit d = true → bad d = 0 →
          t.rd (reg0 .WIN_SCHED d) = written (reg0 .WIN_SCHED d) (v 0) ∧ t.rd (reg0 .WIN_WINDOW d) = written (reg0 .WIN_WINDOW d) (v 8) ∧
          t.fld (reg0 .WIN_CTRL d) F.WIN_CTRL_lookahead_m1 = bitsOf (v 16) 1 3 ∧
          t.fld (reg0 .WIN_CTRL d) F.WIN_CTRL_ready_tok = bitsOf (v 16) 4 9 ∧
          t.fld (reg0 .WIN_CTRL d) F.WIN_CTRL_rel_tok = bitsOf (v 16) 13 9 ∧
          t.fld (reg0 .WIN_CTRL d) F.WIN_CTRL_enable = s.fld (reg0 .WIN_CTRL d) F.WIN_CTRL_enable ∧
          ∀ r, r < 4 → t.rd (reg1 .WIN_REPLICA d r) = written (reg1 .WIN_REPLICA d r) (v (32 + 24 * r)) ∧
            t.rd (reg1 .WIN_REPLICA_SIZE d r) = written (reg1 .WIN_REPLICA_SIZE d r) (v (40 + 24 * r)) ∧
            t.rd (reg1 .WIN_REPLICA_ALT d r) = written (reg1 .WIN_REPLICA_ALT d r) (v (48 + 24 * r))) ∧
        RegsSameBut (((upTo 0 4).filter (fun d => mask.testBit d && decide (bad d = 0))).flatMap (fun d =>
          [reg0 .WIN_SCHED d, reg0 .WIN_WINDOW d, reg0 .WIN_CTRL d] ++ (upTo 0 4).flatMap (fun r =>
            [reg1 .WIN_REPLICA d r, reg1 .WIN_REPLICA_SIZE d r, reg1 .WIN_REPLICA_ALT d r]))) s t ∧
        t = { s with regs := t.regs, mbx := { s.mbx with rings := t.mbx.rings } }) ∧
    (cmdReady m 0x0301 [(8, 1), (9, 1), (10, 2)] e s → ∀ mask, arg e 8 1 = mask → mask < 16 → ∀ a, arg e 9 1 = a → arg e 10 2 < 4096 →
      let named (d : Nat) : Prop := mask.testBit d = true ∧ s.dieStatus d = 0
      (a = 0 → (∀ d, d < 4 → named d → s.fld (reg0 .WIN_CTRL d) F.WIN_CTRL_enable = 0 ∧ s.winState d = 0 ∧ s.winCheck d = 0) →
        ∃ t, exec (.winCtrlCmd m) s = .next t ∧ cmdMasked m e 4 mask s.dieStatus s t ∧ MemSame s t ∧ ∀ d, d < 4 →
          (named d → t.winState d = 1 ∧ t.fld (reg0 .WIN_CTRL d) F.WIN_CTRL_enable = 1) ∧
          (¬ named d → t.winState d = s.winState d ∧ t.rd (reg0 .WIN_CTRL d) = s.rd (reg0 .WIN_CTRL d))) ∧
      (a = 1 → ∃ t, exec (.winCtrlCmd m) s = .next t ∧ cmdMasked m e 4 mask s.dieStatus s t ∧
        (∀ d, d < 4 → named d → t.fld (reg0 .WIN_CTRL d) F.WIN_CTRL_enable = 0) ∧
        RegsSameBut (((upTo 0 4).filter mask.testBit).map (reg0 .WIN_CTRL)) s t ∧
        t = { s with regs := t.regs, mbx := { s.mbx with rings := t.mbx.rings } }) ∧
      (a = 2 → (∃ d, d < 4 ∧ named d) → ∃ t, exec (.winCtrlCmd m) s = .next t ∧ (t.ring m).cur = some e ∧ (t.ring m).cpl = (s.ring m).cpl ∧
        (t.ring m).phase.isSome = true ∧ MemSame s t ∧ ∀ d, d < 4 →
          (named d → t.winState d = 3 ∧ t.fld (reg0 .WIN_CANCEL d) F.WIN_CANCEL_restart_at = arg e 10 2) ∧
          (¬ named d → t.winState d = s.winState d ∧ t.rd (reg0 .WIN_CANCEL d) = s.rd (reg0 .WIN_CANCEL d))) ∧
      (a = 3 → ∃ t, exec (.winCtrlCmd m) s = .next t ∧
        cmdMasked m e 4 mask (fun d => if s.dieStatus d ≠ 0 then s.dieStatus d else if s.winState d = 4 then 0 else 0x14) s t ∧
        (∀ d, d < 4 → named d → s.winState d = 4 → t.winState d = (s.win d).prior % 8 ∧
          t.fld (reg0 .WIN_STATUS d) F.WIN_STATUS_cause = 0) ∧
        RegsSameBut (((upTo 0 4).filter mask.testBit).map (reg0 .WIN_STATUS)) s t ∧ MemSame s t)) ∧
    (∀ p : Nat × Nat, (s.ring m).phase = some p → (s.ring m).orphan = false → e.testBit 16 = false → s.mbxServed = true →
      opcodeOf e = 0x0301 → reservedByte e [(8, 1), (9, 1), (10, 2)] = none → arg e 8 1 < 16 → arg e 9 1 = 2 → arg e 10 2 < 4096 →
      (∀ d, d < 4 → s.winState d ≠ 3) → p = (0, 0) → CmdAnswers m e 0 0 [] s (exec (.winCtrlCmd m) s)) ∧
    (cmdReady m 0x0302 [(8, 8)] e s → ∀ b, arg e 8 8 = b → bufGood b 256 s →
      ∀ ws, (upTo 0 16).map (fun k => leNat (bufBytes s (b + 16 * k) 16)) = ws →
      let broken : Prop :=
        (∃ x, x ∈ ws.filterMap hdmOf ∧ (131072 < x.1 + x.2.1 ∨ x.2.1 % x.2.2.length ≠ 0 ∨ ∃ k, k ∈ x.2.2 ∧ s.cxlSt k ≠ 2)) ∨
        s.hdmSetOk ws = false
      (broken → CmdAnswers m e 0x1A 0 [] s (exec (.hdmWriteCmd m) s)) ∧
      (¬ broken → ∃ t, exec (.hdmWriteCmd m) s = .next t ∧ cmdEnds m e 0 0 [] s t ∧
        (∀ k, k < 16 → t.rd (reg1 .CXL_HDM 0 k) = written (reg1 .CXL_HDM 0 k) ((ws.drop k).headD 0 % 2 ^ 64) ∧
          t.rd (reg1 .CXL_HDM_TGT 0 k) = written (reg1 .CXL_HDM_TGT 0 k) ((ws.drop k).headD 0 / 2 ^ 64)) ∧
        RegsSameBut ((upTo 0 16).flatMap (fun k => [reg1 .CXL_HDM 0 k, reg1 .CXL_HDM_TGT 0 k])) s t ∧
        t = { s with regs := t.regs, mbx := { s.mbx with rings := t.mbx.rings }, hdmLost := t.hdmLost })) ∧
    (cmdReady m 0x0303 [(8, 1), (9, 1), (10, 1)] e s → ∀ k, arg e 8 1 = k → k < 4 → ∀ a, arg e 9 1 = a →
      (a = 0 → s.cxlSt k = 0 ∨ s.cxlSt k = 4 ∨ s.cxlSt k = 5 → ∃ t, exec (.cxlCtrlCmd m) s = .next t ∧ t.cxlSt k = 1 ∧
        cmdEnds m e 0 0 [] s t ∧ MemSame s t ∧ ∀ j, j < 4 → j ≠ k → t.cxlSt j = s.cxlSt j) ∧
      (a = 1 → s.cxlSt k = 2 → room → ∃ t, exec (.cxlCtrlCmd m) s = .next t ∧ t.cxlSt k = 3 ∧ cmdAccepted m e none s t ∧ MemSame s t ∧
        ∀ j, j < 4 → j ≠ k → t.cxlSt j = s.cxlSt j) ∧
      (a = 1 → s.cxlSt k = 3 → CmdAnswers m e 0x1C 0 [] s (exec (.cxlCtrlCmd m) s)) ∧
      (a = 2 → arg e 10 1 ≤ 15 → ∃ t, exec (.cxlCtrlCmd m) s = .next t ∧ cmdSets m e [reg0 .CXL_CTRL (k + 1)] s t ∧
        t.fld (reg0 .CXL_CTRL (k + 1)) F.CXL_CTRL_cpl_timeout = min 9 (arg e 10 1))) ∧
    (cmdReady m 0x0304 [(8, 1), (10, 2), (16, 8)] e s → arg e 8 1 < 16 → ∃ t, exec (.retryPeerSetCmd m) s = .next t ∧
      cmdEnds m e 0 0 [] s t ∧ (∀ d, d < 4 → t.retryPeer.lookup d =
        if (arg e 8 1).testBit d then some (arg e 10 2, arg e 16 8) else s.retryPeer.lookup d) ∧
      t = { s with retryPeer := t.retryPeer, mbx := { s.mbx with rings := t.mbx.rings } })

/-- Programs, engines and contexts. Context 0 gives way to the partitions of the others, and a context that has not run starts as
after reset (log 16). The duration in CONTEXT_SWITCHED is open (log 10). -/
def Obligations.ProgramAndContextCommandsAct : Prop :=
  ∀ (m : Fin 16) (s : State), ∀ e, (s.ring m).cur = some e → ∀ mask, arg e 8 8 = mask →
    let named (n : Nat) : Prop := mask.testBit n = true ∧ s.coreStatus n = 0
    let room : Prop := s.mbx.bg.length < 64
    (cmdReady m 0x0200 [(8, 8), (16, 4), (24, 8), (32, 1)] e s → ∀ c, arg e 32 1 = c → c < 8 → ∀ cores, arg e 24 8 = cores → room →
      ∀ len, arg e 16 4 = len → bufGood (arg e 8 8) len s → ∀ img, bufBytes s (arg e 8 8) len = img →
      ∀ k, s.imageCheck img ((upTo 0 64).filter (fun n => cores.testBit n && decide (s.coreStatus n = 0))) = k →
      ∀ bad : Nat → Nat, bad = (fun n => if s.coreStatus n ≠ 0 then s.coreStatus n else if ((s.slice n).ctx c).isNone then 0x11 else 0) →
      (k ≠ 0 → ∃ t, exec (.programLoadCmd m) s = .next t ∧ cmdAccepted m e (some (0x20, k, [])) s t ∧
        t = { s with mbx := { s.mbx with rings := t.mbx.rings, bg := t.mbx.bg } }) ∧
      (k = 0 → ∃ t, exec (.programLoadCmd m) s = .next t ∧ cmdAccepted m e (some (maskOutcome 64 cores bad)) s t ∧
        ∀ n : CoreId,
          (cores.testBit n.val = true → bad n = 0 → ((t.slice n).ctx c).map (·.image) = some img ∧ (t.slice n).cur = (s.slice n).cur ∧
            (∀ x, x ∈ imageSects img → x.target.1 = 1 → readBytes t.mem (slotBase n + x.off) x.size = x.data img) ∧
            ((s.slice n).cur = c →
              (∀ x, x ∈ imageSects img →
                (x.target.1 = 2 → readBytes (t.sca n).imem x.off x.size = x.data img) ∧
                (x.target.1 = 3 → readBytes (t.sca n).dmem x.off x.size = x.data img)) ∧
              (leNat ((img.drop 0x20).take 4) ≠ 0xFFFFFFFF →
                (t.sca n).held = false ∧ (t.sca n).pc.toNat = leNat ((img.drop 0x20).take 4)) ∧
              (leNat ((img.drop 0x20).take 4) = 0xFFFFFFFF → (t.sca n).held = true)) ∧
            ((s.slice n).cur ≠ c → t.core n = s.core n)) ∧
          (cores.testBit n.val = false ∨ bad n ≠ 0 → t.core n = s.core n ∧ t.slice n = s.slice n ∧
            ∀ a, slotBase n ≤ a ∧ a < slotBase n + slotSize → cget t.mem a = cget s.mem a))) ∧
    (cmdReady m 0x0201 [(8, 8), (16, 1), (17, 1), (18, 1), (19, 1), (20, 4)] e s →
      ∀ line, arg e 20 4 = line → ∀ g, arg e 19 1 = g → g ≤ 1 → ∀ qs, arg e 18 1 = qs →
      line % 32 = 0 → line + (if g = 1 then 20800 else 8512) ≤ 196608 →
      let acts (eng act : Nat) (busy : Nat → Bool) (effect : CoreId → State → Prop) (goes : State → Nat → Bool) : Prop :=
        arg e 16 1 = eng → arg e 17 1 = act → ∃ t, exec (.engineCtrlCmd m) s = .next t ∧
          (∀ n : CoreId, (named n → busy n = false → effect n t) ∧ (¬ named n ∨ busy n = true → t.core n = s.core n)) ∧
          ∀ w, (upTo 0 64).any (fun n => mask.testBit n && decide (s.coreStatus n = 0) && !busy n && goes t n) = w →
            (w = true → (t.ring m).cur = some e ∧ (t.ring m).cpl = (s.ring m).cpl ∧ (t.ring m).phase.isSome = true) ∧
            (w = false → cmdMasked m e 64 mask
              (fun n => if s.coreStatus n ≠ 0 then s.coreStatus n else if busy n then 0x14 else 0) s t)
      let ctl (f : Fld) (t : State) (n : Nat) : Bool := decide (t.fld (reg0 .OPE_CTRL n) f = 1)
      let save (n : Nat) (f : Fld) : State :=
        (s.setF (reg0 .OPE_SAVE_BASE n) F.OPE_SAVE_BASE_save_line_hi (line / 32)).setF (reg0 .OPE_CTRL n) f g
      let ope (n : Nat) (t u : State) : Prop := t.core n = u.core n ∧
        ∀ r, r ∈ [reg0 .OPE_STATUS n, reg0 .OPE_CTRL n, reg0 .OPE_SAVE_BASE n] → t.rd r = u.rd r
      let ve (n : Nat) (t u : State) : Prop := t.core n = u.core n ∧ t.rd (reg0 .VE_STATUS n) = u.rd (reg0 .VE_STATUS n)
      acts 0 0 (fun n => decide (s.engSt false n ≠ 0)) (fun n t => ∃ u, exec (.opeRun n) s = .next u ∧ ope n t u) (fun _ _ => false) ∧
      acts 0 2 (fun n => decide (2 ≤ s.engSt false n)) (fun n t => ∃ u, exec (.suspendReq n) (save n F.OPE_CTRL_save_gutter) = .next u ∧
        ope n t u) (ctl F.OPE_CTRL_suspend_req) ∧
      acts 0 3 (fun n => decide (s.engSt false n = 3)) (fun n t => ∃ u, exec (.resumeReq n) (save n F.OPE_CTRL_restore_gutter) = .next u ∧
        ope n t u) (ctl F.OPE_CTRL_resume_req) ∧
      acts 0 4 (fun n => decide (s.engSt false n ≠ 3)) (fun n t => ∃ u, exec (.opeFaultClear n) s = .next u ∧ ope n t u)
        (fun _ _ => false) ∧
      acts 0 6 (fun n => decide (s.engSt false n ≠ 3)) (fun n t => ∃ u, exec (.opeDump n) (save n F.OPE_CTRL_save_gutter) = .next u ∧
        ope n t u) (ctl F.OPE_CTRL_dump) ∧
      acts 1 0 (fun n => decide (s.engSt true n ≠ 0) && !(decide (s.engSt true n = 2) && (s.ve n).halted))
        (fun n t => ∃ u, exec (.veRun n) s = .next u ∧ ve n t u) (fun _ _ => false) ∧
      acts 1 1 (fun n => decide (s.engSt true n ≠ 1) && decide (s.engSt true n ≠ 2))
        (fun n t => ∃ u, exec (.veHalt n) s = .next u ∧ ve n t u) (fun _ _ => false) ∧
      acts 1 4 (fun n => decide (s.engSt true n ≠ 3)) (fun n t => ∃ u, exec (.veFaultClear n) s = .next u ∧ ve n t u) (fun _ _ => false) ∧
      acts 2 0 (fun _ => false) (fun n t => t.rd (reg0 .MOV_CTRL n) = s.rd (reg0 .MOV_CTRL n) ||| BitVec.ofNat 64 qs) (fun _ _ => false) ∧
      acts 2 1 (fun _ => false) (fun n t => t.rd (reg0 .MOV_CTRL n) = s.rd (reg0 .MOV_CTRL n) &&& ~~~BitVec.ofNat 64 qs)
        (fun _ _ => false) ∧
      acts 2 4 (fun n => (upTo 0 8).any (fun q => qs.testBit q && decide (s.qSt n q ≠ 2))) (fun n t => ∀ q : Fin 8,
        (qs.testBit q.val = true → ∃ u, exec (.movFaultClear n q) s = .next u ∧ t.que n q = u.que n q ∧ t.qSt n q = u.qSt n q) ∧
        (qs.testBit q.val = false → t.que n q = s.que n q ∧ t.qSt n q = s.qSt n q)) (fun _ _ => false) ∧
      acts 2 5 (fun _ => false) (fun n t => ∀ q : Fin 8,
        (qs.testBit q.val = true → ∃ u, exec (.movCancel n q) s = .next u ∧ t.que n q = u.que n q ∧ t.qSt n q = 3) ∧
        (qs.testBit q.val = false → t.que n q = s.que n q ∧ t.qSt n q = s.qSt n q))
        (fun t n => (upTo 0 8).any (fun q => qs.testBit q && decide (t.qSt n q = 3))) ∧
      acts 3 0 (fun n => !(s.sca n).held) (fun n t => t.core n = { s.core n with sca := { s.sca n with held := false } })
        (fun _ _ => false) ∧
      acts 3 1 (fun _ => false) (fun n t => t.core n = { s.core n with sca := { s.sca n with held := true } }) (fun _ _ => false)) ∧
    (∀ p : Nat × Nat, (s.ring m).phase = some p → (s.ring m).orphan = false → e.testBit 16 = false → s.mbxServed = true →
      opcodeOf e = 0x0201 → reservedByte e [(8, 8), (16, 1), (17, 1), (18, 1), (19, 1), (20, 4)] = none → arg e 16 1 = 0 →
      arg e 17 1 = 2 → arg e 19 1 = 0 → arg e 20 4 = 0 →
      (∀ n, n < 64 → mask.testBit n = true → s.fld (reg0 .OPE_CTRL n) F.OPE_CTRL_suspend_req = 0) →
      (p = (0, 0) → CmdAnswers m e 0 0 [] s (exec (.engineCtrlCmd m) s)) ∧
      (p.1 ≠ 0 → p.1 ≠ mask → CmdAnswers m e 2 p.2 (leBytes p.1 8) s (exec (.engineCtrlCmd m) s))) ∧
    (cmdReady m 0x0202 [(8, 8), (16, 1), (20, 4), (24, 4), (32, 8)] e s → ∀ c, arg e 16 1 = c → 1 ≤ c → c ≤ 7 →
      ∀ a, arg e 20 4 = a → ∀ n, arg e 24 4 = n → ∀ save, arg e 32 8 = save → save % 0x200000 = 0 →
      (0x13B00000000 < save + 0x80000 → CmdAnswers m e 0x18 0 [] s (exec (.contextCreateCmd m) s)) ∧
      (save + 0x80000 ≤ 0x13B00000000 → s.released save = false →
        ∀ bad : Nat → Nat, bad = (fun k => if s.coreStatus k ≠ 0 then s.coreStatus k else
          if 8 ≤ (s.slice k).ctxs.length then 0x1B else if ((s.slice k).ctx c).isSome then 0x14 else
          if 196608 < a + n ∨ (s.slice k).ctxs.any (fun x => decide (x.1 ≠ 0) && decide (x.2.first < a + n) &&
            decide (a < x.2.first + x.2.lines)) then 0x1A else 0) →
        ∃ t, exec (.contextCreateCmd m) s = .next t ∧ cmdMasked m e 64 mask bad s t ∧
          (∀ k : CoreId,
            (mask.testBit k.val = true → bad k = 0 → (t.slice k).ctx c = some ⟨a, n, save, []⟩ ∧
              (∀ j, j < 8 → j ≠ 0 → j ≠ c → (t.slice k).ctx j = (s.slice k).ctx j) ∧
              ((t.slice k).ctx 0).map (·.image) = ((s.slice k).ctx 0).map (·.image) ∧
              (((t.slice k).ctx 0).all (fun x => decide (x.lines ≤ a)) = true) ∧
              t.slice k = { s.slice k with ctxs := (t.slice k).ctxs }) ∧
            (mask.testBit k.val = false ∨ bad k ≠ 0 → t.slice k = s.slice k)) ∧
          t = { s with slices := t.slices, mbx := { s.mbx with rings := t.mbx.rings } })) ∧
    (cmdReady m 0x0203 [(8, 8), (16, 1)] e s → ∀ c, arg e 16 1 = c → c ≤ 7 →
      ∀ bad : Nat → Nat, bad = (fun k => if s.coreStatus k ≠ 0 then s.coreStatus k else
        if (s.slice k).cur = c ∨ (s.slice k).want.any (fun w => decide (w.1 = c)) then 0x14 else
        if ((s.slice k).ctx c).isNone then 0x11 else 0) →
      ∃ t, exec (.contextDestroyCmd m) s = .next t ∧ cmdMasked m e 64 mask bad s t ∧
        (∀ k : CoreId,
          (mask.testBit k.val = true → bad k = 0 → (t.slice k).ctx c = none ∧ t.saved.lookup (k.val * 8 + c) = none ∧
            (∀ j, j < 8 → j ≠ 0 → j ≠ c → (t.slice k).ctx j = (s.slice k).ctx j) ∧
            t.slice k = { s.slice k with ctxs := (t.slice k).ctxs }) ∧
          (mask.testBit k.val = false ∨ bad k ≠ 0 → t.slice k = s.slice k ∧
            t.saved.lookup (k.val * 8 + c) = s.saved.lookup (k.val * 8 + c))) ∧
        t = { s with slices := t.slices, saved := t.saved, mbx := { s.mbx with rings := t.mbx.rings } }) ∧
    (cmdReady m 0x0204 [(8, 8), (16, 4), (20, 1), (21, 1)] e s → ∀ q, arg e 16 4 = q → arg e 20 1 ≤ 1 →
      (q ≠ 0 → q < 100 ∨ 1000000 < q → CmdAnswers m e 0x11 16 [] s (exec (.sliceSetCmd m) s)) ∧
      (q = 0 ∨ (100 ≤ q ∧ q ≤ 1000000) → ∃ t, exec (.sliceSetCmd m) s = .next t ∧ cmdMasked m e 64 mask s.coreStatus s t ∧
        (∀ k : CoreId, t.slice k = if mask.testBit k.val = true ∧ s.coreStatus k = 0 then
          { s.slice k with quantum := q, mid := decide (arg e 20 1 = 1), mask := arg e 21 1 } else s.slice k) ∧
        t = { s with slices := t.slices, mbx := { s.mbx with rings := t.mbx.rings } })) ∧
    (cmdReady m 0x0205 [(8, 8), (16, 1), (17, 1)] e s → ∀ c, arg e 16 1 = c → c ≤ 7 → arg e 17 1 ≤ 1 → room →
      ∀ bad : Nat → Nat, bad = (fun k => if s.coreStatus k ≠ 0 then s.coreStatus k else
        if ((s.slice k).ctx c).isNone then 0x11 else if (s.slice k).want.isSome then 0x1C else 0) →
      ((∃ k, k < 64 ∧ mask.testBit k = true ∧ bad k = 0) → ∃ t, exec (.contextSwitchCmd m) s = .next t ∧ cmdAccepted m e none s t ∧
        ∀ k : CoreId,
          (mask.testBit k.val = true → bad k = 0 → (t.slice k).want = some (c, decide (arg e 17 1 = 1)) ∨
            ((t.slice k).want = none ∧ (t.slice k).cur = c)) ∧
          (mask.testBit k.val = false ∨ bad k ≠ 0 → t.slice k = s.slice k ∧ t.core k = s.core k)) ∧
      (mask ≠ 0 → (∀ k, k < 64 → mask.testBit k = true → bad k = 0x11) → CmdAnswers m e 0x11 0 [] s (exec (.contextSwitchCmd m) s))) ∧
    (cmdReady m 0x0206 [(8, 8), (16, 4)] e s → ∀ us, arg e 16 4 = us →
      (5000000 < us → CmdAnswers m e 0x11 16 [] s (exec (.jobLimitsCmd m) s)) ∧
      (us ≤ 5000000 → ∃ t, exec (.jobLimitsCmd m) s = .next t ∧ cmdMasked m e 64 mask s.coreStatus s t ∧
        (∀ k, k < 64 → named k → t.fld (reg0 .MOV_LATE_BUDGET k) F.MOV_LATE_BUDGET_budget = us * 800) ∧
        RegsSameBut (((upTo 0 64).filter (fun k => mask.testBit k && decide (s.coreStatus k = 0))).map (reg0 .MOV_LATE_BUDGET)) s t ∧
        t = { s with regs := t.regs, mbx := { s.mbx with rings := t.mbx.rings } }))

/-- A quantum's end switches to the next context with a program, and a switch that waited too long is made in the middle of a
pass: the context going out is saved, the one coming in is in force with its scalar processor and its tokens (log 16). The
duration in CONTEXT_SWITCHED is open (log 10). -/
def Obligations.ContextsAreSwitched : Prop :=
  ∀ (n : CoreId) (s : State), s.alive n = true →
    let x := s.slice n
    let still : Prop := x.hold = none ∧ ∀ q, q < 8 → (s.que n q).started = [] ∧ (s.que n q).old = []
    let switched (c : Nat) (o : Host.Outcome State Fault Refusal) : Prop := ∃ t, o = .next t ∧
      (t.slice n).cur = c ∧ (t.slice n).want = none ∧ (t.slice n).hold = none ∧ (t.slice n).ctxs = x.ctxs ∧
      t.sca n = (s.savedCtx n c).core.sca ∧ (t.savedCtx n x.cur).core.sca = s.sca n ∧
      (∀ k, k < 64 → t.rd (tokReg ⟨0, n, Fin.ofNat 64 k⟩) =
        tget (tokReg ⟨0, n, Fin.ofNat 64 k⟩).reset (s.savedCtx n c).regs (tokReg ⟨0, n, Fin.ofNat 64 k⟩).addr) ∧
      (∀ k, k ≠ n.val → t.core k = s.core k) ∧ (∃ v, t.evq = s.evq ++ [v] ∧ v.code = 0x0208 ∧
        leNat (v.payload.take 2) = n.val ∧ leNat ((v.payload.drop 2).take 1) = x.cur % 256 ∧ leNat ((v.payload.drop 3).take 1) = c % 256)
    (x.want = none → x.quantum = 0 → exec (.sliceQuantumExpiry n) s = .next s) ∧
    (x.want = none → x.quantum ≠ 0 → x.mask % 256 = 0 → exec (.sliceQuantumExpiry n) s = .next s) ∧
    (x.want = none → x.quantum ≠ 0 → ∀ c, x.next = some c → c ≠ x.cur → still → (s.ope n).switchable false = true →
      x.mask.testBit c = true ∧ (x.ctx c).isSome = true ∧ switched c (exec (.sliceQuantumExpiry n) s)) ∧
    (x.want = none → exec (.passBoundaryWaitExpiry n) s = .next s) ∧
    (∀ w, x.want = some w → w.2 = false → w.1 ≠ x.cur → still → (s.ope n).switchable true = true →
      switched w.1 (exec (.passBoundaryWaitExpiry n) s) ∧ ∃ t, exec (.passBoundaryWaitExpiry n) s = .next t ∧
        ((s.ope n).tile.isSome = true → s.engSt false n ≠ 3 → (t.savedCtx n x.cur).mid = true))

/-- Membership, pairing, routes, windows, ports, step tokens, messages and levels. The destination and class of a message of
TRANSFER are open (log 10); a list that goes back to an earlier step is put in force at once (log 17). -/
def Obligations.FabricCommandsAct : Prop :=
  ∀ (m : Fin 16) (s : State), ∀ e, (s.ring m).cur = some e →
    let room : Prop := s.mbx.bg.length < 64
    (cmdReady m 0x0400 [(8, 2)] e s → ∀ i, arg e 8 2 = i →
      (i = 0xFFFF → CmdAnswers m e 0x11 8 [] s (exec (.moduleIdSetCmd m) s)) ∧
      (i ≠ 0xFFFF → s.fab.id ∈ s.members.ids → CmdAnswers m e 0x14 0 [] s (exec (.moduleIdSetCmd m) s)) ∧
      (i ≠ 0xFFFF → s.fab.id ∉ s.members.ids → s.membersNext = none → ∃ t, exec (.moduleIdSetCmd m) s = .next t ∧
        cmdEnds m e 0 0 [] s t ∧ t = { s with fab := { s.fab with id := i }, mbx := { s.mbx with rings := t.mbx.rings } })) ∧
    (cmdReady m 0x0401 [(8, 4), (12, 2), (16, 8), (24, 8)] e s → ∀ epoch, arg e 8 4 = epoch → ∀ n, arg e 12 2 = n → 1 ≤ n → n ≤ 4096 →
      bufGood (arg e 16 8) (2 * n) s → ∀ ids, (upTo 0 n).map (fun i => leNat (bufBytes s (arg e 16 8 + 2 * i) 2)) = ids →
      ∀ first, arg e 24 8 = first →
      let rising : Prop := ∀ i, i < n - 1 → (ids.drop i).headD 0 < (ids.drop (i + 1)).headD 0
      (¬ rising ∨ 0xFFFF ∈ ids ∨ s.fab.id ∉ ids → CmdAnswers m e 0x1A 0 [] s (exec (.membershipSetCmd m) s)) ∧
      (rising → 0xFFFF ∉ ids → s.fab.id ∈ ids → epoch ≤ s.members.epoch →
        CmdAnswers m e 0x27 0 [] s (exec (.membershipSetCmd m) s)) ∧
      (rising → 0xFFFF ∉ ids → s.fab.id ∈ ids → s.members.epoch < epoch → s.surv.plan = none →
        ∃ t, exec (.membershipSetCmd m) s = .next t ∧ cmdEnds m e 0 0 [] s t ∧ MemSame s t ∧ t.fab.id = s.fab.id ∧
          t.fab.next = s.fab.next + n - 1 ∧ tget 0 t.firm.changed 8 = s.clk.refTime ∧
          (s.members.ids ≠ [] → s.train.step < first → t.membersNext = some ⟨ids, epoch, first, [], []⟩ ∧ t.members = s.members ∧
            t.train.step = s.train.step) ∧
          (s.members.ids = [] ∨ first ≤ s.train.step → t.membersNext = none ∧ t.members = ⟨ids, epoch, first, [], []⟩ ∧
            t.train.step = first ∧ t.train.parts = [] ∧ t.train.updated = [] ∧ t.train.ready = false ∧ t.train.reports = []))) ∧
    (cmdReady m 0x0402 [(8, 2), (10, 1)] e s → ∀ p, arg e 8 2 = p → ∀ o, arg e 10 1 = o → o ≤ 1 → p ≠ 0xFFFF → p ≠ s.fab.id →
      (s.fab.id = 0xFFFF → CmdAnswers m e 0x14 0 [] s (exec (.pairSetCmd m) s)) ∧
      (s.fab.id ≠ 0xFFFF → room → ∃ t, exec (.pairSetCmd m) s = .next t ∧ cmdAccepted m e none s t ∧ t.partner = p ∧
        t.fld (reg0 .CP_PAIR_STATUS 0) F.CP_PAIR_STATUS_override = o ∧ t.fld (reg0 .LNK_CTRL 11) F.LNK_CTRL_pair_override = o ∧
        (s.lnk 11 = 0 ∨ s.lnk 11 = 7 → t.lnk 11 = 1) ∧ MemSame s t ∧
        (s.lnk 11 = 8 → (s.port 11).failed = some 5 → o = 1 → t.lnk 11 = 5) ∧
        (s.lnk 11 ≠ 0 → s.lnk 11 ≠ 7 → s.lnk 11 ≠ 8 → t.lnk 11 = s.lnk 11))) ∧
    (cmdReady m 0x0403 [(8, 2), (10, 2), (16, 8)] e s → ∀ first, arg e 8 2 = first → ∀ n, arg e 10 2 = n → ∀ b, arg e 16 8 = b →
      (65536 < first + n → CmdAnswers m e 0x11 10 [] s (exec (.routeWriteCmd m) s)) ∧
      (first + n ≤ 65536 → bufGood b n s →
        ((bufBytes s b n).any (fun x => decide (15 < x.toNat)) = true → CmdAnswers m e 0x1A 0 [] s (exec (.routeWriteCmd m) s)) ∧
        ((bufBytes s b n).any (fun x => decide (15 < x.toNat)) = false → ∃ t, exec (.routeWriteCmd m) s = .next t ∧
          cmdEnds m e 0 0 [] s t ∧ (∀ i, i < n → t.route (first + i) = leNat (bufBytes s (b + i) 1)) ∧
          (∀ d, d < 65536 → d < first ∨ first + n ≤ d → t.route d = s.route d) ∧
          RegsSameBut ((upTo 0 4096).map (reg1 .LNK_ROUTE 0)) s t ∧
          t = { s with regs := t.regs, mbx := { s.mbx with rings := t.mbx.rings } }))) ∧
    (cmdReady m 0x0404 [(8, 1), (9, 1), (16, 8), (24, 8)] e s → ∀ w, arg e 8 1 = w → w < 16 → ∀ f, arg e 9 1 = f → f ≤ 3 →
      ∀ b, arg e 16 8 = b → ∀ n, arg e 24 8 = n →
      (b % 4096 ≠ 0 → CmdAnswers m e 0x11 16 [] s (exec (.rxwinWriteCmd m) s)) ∧
      (b % 4096 = 0 → n < 2 ^ 52 → 0x13B00000000 ≤ b → CmdAnswers m e 0x18 0 [] s (exec (.rxwinWriteCmd m) s)) ∧
      (b % 4096 = 0 → n < 2 ^ 52 → b < 0x13B00000000 → ∃ t, exec (.rxwinWriteCmd m) s = .next t ∧
        cmdSets m e [reg1 .LNK_RXWIN 0 w, reg1 .LNK_RXWIN_SIZE 0 w] s t ∧ t.fld (reg1 .LNK_RXWIN 0 w) F.LNK_RXWIN_base = b ∧
        t.fld (reg1 .LNK_RXWIN 0 w) F.LNK_RXWIN_enable = f % 2 ∧ t.fld (reg1 .LNK_RXWIN 0 w) F.LNK_RXWIN_get_allowed = f / 2 ∧
        t.fld (reg1 .LNK_RXWIN_SIZE 0 w) F.LNK_RXWIN_SIZE_size = n)) ∧
    (cmdReady m 0x0405 [(8, 1), (9, 1), (10, 1)] e s → ∀ p, arg e 8 1 = p → 5 ≤ p → p ≤ 11 → ∀ a, arg e 9 1 = a →
      (a = 0 → s.lnk p = 0 ∨ s.lnk p = 7 ∨ s.lnk p = 8 → room → ∃ t, exec (.portCtrlCmd m) s = .next t ∧ cmdAccepted m e none s t ∧
        t.lnk p = 1 ∧ t.fld (reg0 .LNK_CTRL p) F.LNK_CTRL_lane_mask = arg e 10 1 ∧ MemSame s t) ∧
      ((a = 0 ∧ s.lnk p ≠ 0 ∧ s.lnk p ≠ 7 ∧ s.lnk p ≠ 8) ∨ (a = 2 ∧ s.lnk p ≠ 5) →
        CmdAnswers m e 0x14 0 [] s (exec (.portCtrlCmd m) s)) ∧
      (a = 1 → s.lnk p ≠ 7 → ∃ t, exec (.portCtrlCmd m) s = .next t ∧ cmdEnds m e 0 0 [] s t ∧ t.lnk p = 7 ∧
        t.fld (reg0 .LNK_STATUS p) F.LNK_STATUS_cause = 0x0C ∧ (t.port p).fencing = true ∧ (t.port p).vc = [] ∧
        (∀ x, x ∈ t.fab.sent → x.port ≠ p) ∧ MemSame s t) ∧
      (a = 1 → s.lnk p = 7 → CmdAnswers m e 0 0 [] s (exec (.portCtrlCmd m) s)) ∧
      (a = 2 → s.lnk p = 5 → room → ∃ t, exec (.portCtrlCmd m) s = .next t ∧ cmdAccepted m e none s t ∧
        t.fld (reg0 .LNK_CTRL p) F.LNK_CTRL_renegotiate = 1 ∧ RegsSameBut [reg0 .LNK_CTRL p] s t)) ∧
    (cmdReady m 0x0406 [(8, 2), (10, 1), (11, 1)] e s → ∀ k, arg e 8 2 = k → k < 32768 → arg e 10 1 < 16 → arg e 11 1 ≤ 1 →
      ∃ t, exec (.stepTokenMapCmd m) s = .next t ∧ cmdEnds m e 0 0 [] s t ∧
        (∀ j : Nat, t.stepMap.lookup j = if j = k then (if arg e 11 1 = 1 then some (arg e 10 1) else none) else s.stepMap.lookup j) ∧
        t = { s with stepMap := t.stepMap, mbx := { s.mbx with rings := t.mbx.rings } }) ∧
    (cmdReady m 0x0407 [(8, 8), (16, 4)] e s → ∀ b, arg e 8 8 = b → ∀ n, arg e 16 4 = n → bufGood b (40 * n) s →
      let op (i : Nat) : Nat := leNat (bufBytes s (b + 40 * i) 1) % 16
      ((∃ i, i < n ∧ op i ∉ [1, 2, 4, 5]) → CmdAnswers m e 0x1A 0 [] s (exec (.transferCmd m) s)) ∧
      ((∀ i, i < n → op i ∈ [1, 2, 4, 5]) → room → ∃ t, exec (.transferCmd m) s = .next t ∧ cmdAccepted m e none s t ∧
        (∀ i, i < n → (∃ x, x ∈ t.fab.sent ∧ x.job = some (tagOf e, i)) ∨ ∃ d, d ∈ tget [] t.mbx.transfers (tagOf e) ∧ d.1 = i) ∧
        (s.fab.id = 0xFFFF → ∀ d, d ∈ tget [] t.mbx.transfers (tagOf e) → d.2 = 7 ∨ d.2 = 3))) ∧
    (cmdReady m 0x0408 [(8, 1), (9, 1), (10, 1)] e s → ∀ p, arg e 8 1 = p → 5 ≤ p → p ≤ 11 → ∀ c, arg e 9 1 = c → c ≤ 2 →
      ∀ sub, arg e 10 1 = sub → sub ≤ 1 → ∃ t, exec (.msgAbandonCmd m) s = .next t ∧ cmdEnds m e 0 0 [] s t ∧ MemSame s t ∧
        ((∀ y, y ∈ tget [] (s.port p).vc (c * 2 + sub) → y.msg ≠ none) →
          tget [] (t.port p).vc (c * 2 + sub) = [] ∧
          (∀ k, k < 6 → k ≠ c * 2 + sub → tget [] (t.port p).vc k = tget [] (s.port p).vc k) ∧
          (∀ q, q < 12 → q ≠ p → t.port q = s.port q) ∧
          (∀ x, x ∈ s.fab.sent → (x ∈ t.fab.sent ↔ ∀ y, y ∈ tget [] (s.port p).vc (c * 2 + sub) → y.msg ≠ some x.msg))) ∧
        (∀ y, tget [] (s.port p).vc (c * 2 + sub) = [y] → y.msg = none → p ≠ 11 → s.fab.id ≠ 0xFFFF →
          ∀ q, 5 + s.route y.h.src.toNat % 8 = q → q < 11 → s.lnk q ≠ 7 → ∀ k : Nat, y.h.cls.val * 2 = k →
          ∃ z : TxMsg, tget [] (t.port q).vc k = (if q = p ∧ k = c * 2 + sub then [] else tget [] (s.port q).vc k) ++ [z] ∧
            z.h.status = 6 ∧ z.h.op = (if y.h.op = 2 then 3 else 6) ∧ z.h.dest = y.h.src ∧ z.h.tag = y.h.tag)) ∧
    (cmdReady m 0x0409 [(8, 2)] e s → ∀ l, arg e 8 2 = l →
      ∀ both, (decide (l < 16) && (s.levelMask s.firm.serve).testBit l && (s.levelMask s.firm.stand).testBit l) = both →
      CmdAnswers m e 0 0 [BitVec.ofNat 8 both.toNat] s (exec (.levelQueryCmd m) s) ∧ (l = 1 → both = true)) ∧
    (cmdReady m 0x040A [(8, 2), (16, 8), (24, 4)] e s → ∀ l, arg e 8 2 = l →
      ∀ both, (decide (l < 16) && (s.levelMask s.firm.serve).testBit l && (s.levelMask s.firm.stand).testBit l) = both →
      (both = false → CmdAnswers m e 0x24 0 [] s (exec (.levelSetCmd m) s)) ∧
      (both = true → arg e 16 8 ≤ s.train.step → CmdAnswers m e 0x28 0 [] s (exec (.levelSetCmd m) s)) ∧
      (both = true → s.train.step < arg e 16 8 → arg e 24 4 ≠ s.members.epoch → CmdAnswers m e 0x27 0 [] s (exec (.levelSetCmd m) s)) ∧
      (both = true → s.train.step < arg e 16 8 → arg e 24 4 = s.members.epoch → ∃ t, exec (.levelSetCmd m) s = .next t ∧
        cmdSets m e [reg0 .LNK_LEVEL 0, reg0 .LNK_LEVEL_STEP 0] s t ∧ (t.rd (reg0 .LNK_LEVEL_STEP 0)).toNat = arg e 16 8 ∧
        t.fld (reg0 .LNK_LEVEL 0) F.LNK_LEVEL_level_now = s.levelOf s.train.step ∧
        t.fld (reg0 .LNK_LEVEL 0) F.LNK_LEVEL_level_next = l))

/-- Bucket tables, step plans, drops, policies, replay programs, snapshots, recommits and re-sharding plans. A RECOMMIT is done when
it is accepted and makes the step's updates and its ready report again (log 17). -/
def Obligations.StepCommandsAct : Prop :=
  ∀ (m : Fin 16) (s : State), ∀ e, (s.ring m).cur = some e → ∀ now, s.train.step = now →
    let room : Prop := s.mbx.bg.length < 64
    let plain (x : Train) (t : State) : Prop := t = { s with train := x, mbx := { s.mbx with rings := t.mbx.rings } }
    (cmdReady m 0x0500 [(8, 8), (16, 2), (24, 8)] e s → ∀ n, arg e 16 2 = n → 1 ≤ n → n ≤ 4096 → ∀ b, arg e 8 8 = b →
      ∀ step, arg e 24 8 = step → bufGood b (32 * n) s →
      let w (i : Nat) : Nat := leNat (bufBytes s (b + 32 * i) 32)
      let size (i : Nat) : Nat := bitsOf (w i) 64 32 * (if (w i).testBit 52 then 12 else 4)
      let every : Prop := step = 2 ^ 64 - 1
      (¬ every → step < now ∨ (step = now ∧ s.train.buckets.any (·.closed) = true) →
        CmdAnswers m e 0x28 0 [] s (exec (.bucketTableCmd m) s)) ∧
      (every ∨ now < step ∨ (step = now ∧ s.train.buckets.any (·.closed) = false) →
        ((∃ i, i < n ∧ (bitsOf (w i) 0 52 % 0x200000 ≠ 0 ∨ bitsOf (w i) 192 52 % 0x200000 ≠ 0 ∨ bitsOf (w i) 53 11 ≠ 0 ∨
            bitsOf (w i) 105 7 ≠ 0 ∨ bitsOf (w i) 244 12 ≠ 0 ∨ bitsOf (w i) 64 32 % 256 ≠ 0 ∨ size i < 0x1000000 ∨ 0x10000000 < size i ∨
            bitsOf (w i) 112 16 = 0 ∨ bitsOf (w i) 102 3 ≠ 4)) → ∃ t, exec (.bucketTableCmd m) s = .next t ∧ cmdEnds m e 0x1A 0 [] s t ∧
          plain { s.train with barred := step :: s.train.barred } t ∧ (step = now → t.stepFree = false)) ∧
        ((∀ i, i < n → (s.bucketOf (w i)).isSome = true) → s.heldSteps = [] → ∃ t, exec (.bucketTableCmd m) s = .next t ∧
          cmdEnds m e 0 0 [] s t ∧ step ∉ t.train.barred ∧ (∀ k, k ≠ step → (k ∈ t.train.barred ↔ k ∈ s.train.barred)) ∧
          (∀ xs, t.train.tables.lookup step = some xs → xs.length = n ∧ ∀ i, i < n → ∀ x, xs[i]? = some x →
            x.base = bitsOf (w i) 0 52 ∧ x.wide = (w i).testBit 52 ∧ x.elements = bitsOf (w i) 64 32 ∧ x.tok = bitsOf (w i) 96 9 ∧
              x.sealCount = bitsOf (w i) 112 16 ∧ x.reducedBase = bitsOf (w i) 192 52 ∧ x.closed = false ∧ x.reduced = false) ∧
          (t.train.tables.lookup step).isSome = true ∧
          (s.train.buckets ≠ [] → step ≠ now → t.train.buckets = s.train.buckets) ∧
          (step = now → t.train.tables.lookup step = some t.train.buckets) ∧
          plain { s.train with tables := t.train.tables, buckets := t.train.buckets, barred := t.train.barred } t))) ∧
    (cmdReady m 0x0501 [(8, 8), (16, 4), (24, 8), (32, 4)] e s → ∀ step, arg e 8 8 = step →
      (step < now → CmdAnswers m e 0x28 0 [] s (exec (.stepPlanCmd m) s)) ∧
      (now ≤ step → bufGood (arg e 24 8) (arg e 32 4) s → ∃ t, exec (.stepPlanCmd m) s = .next t ∧ cmdEnds m e 0 0 [] s t ∧
        t.train.plans.lookup step = some (arg e 16 4, bufBytes s (arg e 24 8) (arg e 32 4)) ∧
        (∀ k : Nat, k ≠ step → t.train.plans.lookup k = s.train.plans.lookup k) ∧
        plain { s.train with plans := t.train.plans } t)) ∧
    (cmdReady m 0x0502 [(8, 8), (16, 4)] e s → ∀ d : Nat × Nat, (arg e 8 8, arg e 16 4) = d →
      (d.1 < now → CmdAnswers m e 0x28 0 [] s (exec (.mbDropCmd m) s)) ∧
      (now ≤ d.1 → d ∈ s.train.drops → CmdAnswers m e 0 0 [] s (exec (.mbDropCmd m) s)) ∧
      (now ≤ d.1 → d ∉ s.train.drops → ∃ t, exec (.mbDropCmd m) s = .next t ∧ cmdEnds m e 0 0 [] s t ∧
        plain { s.train with drops := s.train.drops ++ [d] } t)) ∧
    (cmdReady m 0x0503 [(8, 8), (16, 4)] e s → ∀ n, arg e 16 4 = n → ∀ b, arg e 8 8 = b → bufGood b (64 + 64 * n) s →
      ∀ bs, bufBytes s b (64 + 64 * n) = bs →
      (bitsOf (leNat (bs.take 64)) 0 52 % 0x200000 ≠ 0 ∨ bitsOf (leNat (bs.take 64)) 64 64 % 0x400000 ≠ 0 ∨
          bitsOf (leNat (bs.take 64)) 256 256 ≠ 0 ∨ policyOk bs n = false → CmdAnswers m e 0x1A 0 [] s (exec (.policyWriteCmd m) s)) ∧
      (policyOk bs n = true → ∃ t, exec (.policyWriteCmd m) s = .next t ∧ cmdEnds m e 0 0 [] s t ∧
        t = { s with surv := { s.surv with policyNext := some bs }, mbx := { s.mbx with rings := t.mbx.rings } })) ∧
    (cmdReady m 0x0504 [(8, 4), (16, 8), (24, 4)] e s → room → bufGood (arg e 16 8) (arg e 24 4) s →
      ∀ img, bufBytes s (arg e 16 8) (arg e 24 4) = img →
      (s.replayOk img = false → ∃ t, exec (.replayRegisterCmd m) s = .next t ∧ cmdAccepted m e (some (0x2C, 0, [])) s t ∧
        t.train = { s.train with replay := t.train.replay } ∧ t.train.replay.lookup (arg e 8 4) = none ∧
        ∀ k : Nat, k ≠ arg e 8 4 → t.train.replay.lookup k = s.train.replay.lookup k) ∧
      (s.replayOk img = true → s.imageCheck img [] = 0 ∧ ∃ t, exec (.replayRegisterCmd m) s = .next t ∧
        cmdAccepted m e (some (0, 0, [])) s t ∧ t.train.replay.lookup (arg e 8 4) = some img ∧
        (∀ k : Nat, k ≠ arg e 8 4 → t.train.replay.lookup k = s.train.replay.lookup k) ∧
        t = { s with
          train := { s.train with replay := t.train.replay }, mbx := { s.mbx with rings := t.mbx.rings, bg := t.mbx.bg } })) ∧
    (cmdReady m 0x0505 [(8, 1)] e s → ∀ x, arg e 8 1 = x →
      (30 < x → CmdAnswers m e 0x11 8 [] s (exec (.snapshotCfgCmd m) s)) ∧
      (x ≤ 30 → ∃ t, exec (.snapshotCfgCmd m) s = .next t ∧ cmdEnds m e 0 0 [] s t ∧
        t = { s with surv := { s.surv with interval := if x = 0 then 4 else x }, mbx := { s.mbx with rings := t.mbx.rings } })) ∧
    (cmdReady m 0x0506 [] e s →
      ((∃ x, x ∈ s.mbx.bg ∧ x.opcode = 0x0506) → CmdAnswers m e 0x1C 0 [] s (exec (.snapshotNowCmd m) s)) ∧
      ((∀ x, x ∈ s.mbx.bg → x.opcode ≠ 0x0506) → room → ∃ t, exec (.snapshotNowCmd m) s = .next t ∧ cmdAccepted m e none s t ∧
        t = { s with surv := { s.surv with wanted := true }, mbx := { s.mbx with rings := t.mbx.rings, bg := t.mbx.bg } })) ∧
    (cmdReady m 0x0507 [(8, 8)] e s → ∀ step, arg e 8 8 = step →
      ((∀ r, r ∈ s.train.retained → r.1 ≠ step) → CmdAnswers m e 0x14 0 [] s (exec (.recommitCmd m) s)) ∧
      ((∃ r, r ∈ s.train.retained ∧ r.1 = step) → room → ∃ t, exec (.recommitCmd m) s = .next t ∧
        cmdAccepted m e (some (0, 0, [])) s t ∧
        (step ≠ now → t.train.updated = s.train.updated ∧ t.train.ready = s.train.ready) ∧
        (step = now → t.train.ready = false ∧ ∀ u, u ∈ t.train.updated ↔ u ∈ s.train.updated ∧ (now, u.2) ∉ s.train.retained))) ∧
    (cmdReady m 0x0508 [(8, 8), (16, 4)] e s → ∀ b, arg e 8 8 = b → ∀ n, arg e 16 4 = n →
      ((∃ x, x ∈ s.mbx.bg ∧ x.opcode = 0x0508) → CmdAnswers m e 0x1C 0 [] s (exec (.reshardCmd m) s)) ∧
      ((∀ x, x ∈ s.mbx.bg → x.opcode ≠ 0x0508) → bufGood b n s → ∀ p, bufBytes s b n = p →
        let bad : Prop := n < 32 ∨ n ≠ 32 + 32 * leNat ((p.drop 4).take 4) ∨ leNat ((p.drop 16).take 16) ≠ 0 ∨
          leNat (p.take 4) ≤ s.members.epoch
        (bad → CmdAnswers m e 0x1A 0 [] s (exec (.reshardCmd m) s)) ∧
        (s.planOk p n = true → ¬ bad ∧
          (leNat ((p.drop 8).take 8) ≤ now → CmdAnswers m e 0x28 0 [] s (exec (.reshardCmd m) s)) ∧
          (now < leNat ((p.drop 8).take 8) → room → ∃ t, exec (.reshardCmd m) s = .next t ∧ cmdAccepted m e none s t ∧
            t = { s with
              surv := { s.surv with plan := some p, placed := 0 }, mbx := { s.mbx with rings := t.mbx.rings, bg := t.mbx.bg } }))))

/-- Firmware images, hitless activation, the option area, the boot log and attestation. Signatures are uninterpreted (log 9); the
copy of the option area that is written becomes the one in use, a standby's load that fails of itself counts as a failed digest,
and FW_SVN_COMMIT of n above 64 is answered INVALID_FIELD (log 13). -/
def Obligations.FirmwareCommandsAct : Prop :=
  ∀ (m : Fin 16) (s : State),
    (∀ e, (s.ring m).cur = some e →
      let room : Prop := s.mbx.bg.length < 64
      let bgOnly (f : Firm) (t : State) : Prop := t = { s with firm := f, mbx := { s.mbx with rings := t.mbx.rings, bg := t.mbx.bg } }
      let rewritten (x : OptArea) (t : State) : Prop :=
        t.optInUse = { x with valid := true, seq := (s.optInUse.seq + 1) % 65536 } ∧
        t.firm.inUse = (if s.firm.inUse = 0 then 1 else 0) ∧ (s.firm.inUse = 0 → t.firm.opt0 = s.firm.opt0) ∧
        (s.firm.inUse ≠ 0 → t.firm.opt1 = s.firm.opt1) ∧
        t.fld (reg0 .RST_STATUS 0) F.RST_STATUS_opt_copy = t.firm.inUse ∧ tget 0 t.firm.changed 3 = s.clk.refTime ∧
        RegsSameBut [reg0 .RST_STATUS 0] s t ∧ t = { s with regs := t.regs, mbx := t.mbx, firm := { s.firm with
          opt0 := t.firm.opt0, opt1 := t.firm.opt1, inUse := t.firm.inUse, changed := t.firm.changed } }
      (cmdReady m 0x0600 [(8, 1), (12, 4), (16, 8), (24, 4)] e s → ∀ slot, arg e 8 1 = slot → slot ≤ 1 → ∀ o, arg e 12 4 = o →
        ∀ n, arg e 24 4 = n → ∀ b, arg e 16 8 = b →
        (0x100000 < n → CmdAnswers m e 0x11 24 [] s (exec (.fwStageCmd m) s)) ∧
        (n ≤ 0x100000 → 0x2000000 < o + n → CmdAnswers m e 0x11 12 [] s (exec (.fwStageCmd m) s)) ∧
        (n ≤ 0x100000 → o + n ≤ 0x2000000 →
          (s.mode ≠ 4 → s.firm.serve = slot → CmdAnswers m e 0x14 0 [] s (exec (.fwStageCmd m) s)) ∧
          (s.mode = 4 ∨ s.firm.serve ≠ slot → bufGood b n s → room → ∃ t, exec (.fwStageCmd m) s = .next t ∧
            cmdAccepted m e (some (0, 0, [])) s t ∧ t.slotBytes slot o n = bufBytes s b n ∧
            (∀ k : Nat, k < o ∨ o + n ≤ k → t.slotByte slot k = s.slotByte slot k) ∧
            (∀ k : Nat, t.slotByte (1 - slot) k = s.slotByte (1 - slot) k) ∧
            (∀ x : Nat, x ∈ t.firm.verified ↔ x ∈ s.firm.verified ∧ x ≠ slot) ∧
            bgOnly { s.firm with slotA := t.firm.slotA, slotB := t.firm.slotB, verified := t.firm.verified } t))) ∧
      (cmdReady m 0x0601 [(8, 1)] e s → ∀ slot, arg e 8 1 = slot → slot ≤ 1 → room → ∀ k, s.verifyImage slot = k →
        ∃ t, exec (.fwVerifyCmd m) s = .next t ∧
          cmdAccepted m e (some (if k = 0 then 0 else if k = 1 then 0x1A else if k = 2 then 0x22 else if k = 5 then 0x23 else 0x21, 0, []))
            s t ∧
          (s.slotField slot 0 4 ≠ 0x57464C55 ∨ s.slotField slot 4 2 ≠ 1 ∨ s.slotField slot 0x10 4 = 0 → k = 1) ∧
          (k = 0 → s.firm.svn ≤ s.slotField slot 6 2) ∧ (∀ x, x < 2 → (x ∈ t.firm.verified ↔ x ∈ s.firm.verified ∨ (k = 0 ∧ x = slot))) ∧
          bgOnly { s.firm with verified := t.firm.verified } t) ∧
      (cmdReady m 0x0602 [(8, 1), (12, 4)] e s → ∀ slot, arg e 8 1 = slot → slot ≤ 1 →
        (s.firm.act ≠ none → CmdAnswers m e 0x1C 0 [] s (exec (.fwActivateCmd m) s)) ∧
        (s.firm.act = none → slot ∉ s.firm.verified ∨ s.fld (reg0 .PCI_MBX_GLOBAL 0) F.PCI_MBX_GLOBAL_standby_ready = 0 →
          CmdAnswers m e 0x14 0 [] s (exec (.fwActivateCmd m) s)) ∧
        (s.firm.act = none → slot ∈ s.firm.verified → s.fld (reg0 .PCI_MBX_GLOBAL 0) F.PCI_MBX_GLOBAL_standby_ready = 1 → room →
          ∃ t, exec (.fwActivateCmd m) s = .next t ∧ cmdAccepted m e none s t ∧
            ∀ a : Activation, a = ⟨slot, if arg e 12 4 = 0 then 100000 else arg e 12 4 * 10, 0, false, false, tagOf e⟩ →
              bgOnly { s.firm with act := some a } t)) ∧
      (cmdReady m 0x0603 [(8, 1)] e s → ∀ slot, arg e 8 1 = slot → slot ≤ 1 →
        (slot ∉ s.firm.verified → CmdAnswers m e 0x14 0 [] s (exec (.fwBootSlotCmd m) s)) ∧
        (slot ∈ s.firm.verified → ∃ t, exec (.fwBootSlotCmd m) s = .next t ∧ cmdEnds m e 0 0 [] s t ∧
          rewritten { s.optInUse with bootSlot := slot } t)) ∧
      (cmdReady m 0x0604 [(8, 1)] e s → ∀ n, arg e 8 1 = n →
        (64 < n ∨ s.slotField s.firm.serve 6 2 < n → CmdAnswers m e 0x11 8 [] s (exec (.fwSvnCommitCmd m) s)) ∧
        (n ≤ 64 → n ≤ s.slotField s.firm.serve 6 2 → ∃ t, exec (.fwSvnCommitCmd m) s = .next t ∧ cmdEnds m e 0 0 [] s t ∧
          t = { s with firm := { s.firm with svn := max s.firm.svn n }, mbx := { s.mbx with rings := t.mbx.rings } } ∧
          ∀ slot, slot ≤ 1 → s.slotField slot 6 2 < n → t.verifyImage slot ≠ 0)) ∧
      (cmdReady m 0x0605 [(8, 32), (40, 4), (48, 8), (56, 4)] e s → ∀ sel, arg e 40 4 = sel → ∀ b, arg e 48 8 = b →
        ∀ xs : List (Nat × Nat × Nat × List Byte), 
          ((upTo 0 9).filter sel.testBit).flatMap (fun k => (s.measures (k + 1)).map (fun x => (k + 1, x))) = xs →
        ∀ n, xs.length = n →
        (sel = 0 → CmdAnswers m e 0x11 40 [] s (exec (.attestCmd m) s)) ∧
        (sel ≠ 0 → sel < 512 → arg e 56 4 < 0x40 + 48 * n + 3309 → CmdAnswers m e 0x11 56 [] s (exec (.attestCmd m) s)) ∧
        (sel ≠ 0 → sel < 512 → 0x40 + 48 * n + 3309 ≤ arg e 56 4 → bufGood b (0x40 + 48 * n + 3309) s →
          ∃ t, exec (.attestCmd m) s = .next t ∧ cmdEnds m e 0 0 [] s t ∧ MemSameBut (hostBase + b) (0x40 + 48 * n + 3309) s t ∧
            t = { s with mem := t.mem, mbx := { s.mbx with rings := t.mbx.rings } } ∧
            let u (o w : Nat) : Nat := leNat (bufBytes t (b + o) w)
            u 0 4 = 0x54414C55 ∧ u 4 2 = 1 ∧ u 6 2 = n % 65536 ∧ u 8 8 = Config.fuseSerial.toNat ∧ u 0x10 32 = arg e 8 32 ∧
              u 0x30 8 = s.clk.refTime % 2 ^ 64 ∧ u 0x38 1 = s.firm.svn % 256 ∧ u 0x39 1 = s.optInUse.bootSlot % 256 ∧
              u 0x3A 1 = s.firm.serve % 256 ∧ u 0x3B 5 = 0 ∧
              (∀ i, i < n → ∀ x, xs[i]? = some x → x.2.2.2.length = 32 ∧ u (0x40 + 48 * i) 2 = x.1 ∧ u (0x42 + 48 * i) 2 = x.2.1 ∧
                u (0x44 + 48 * i) 4 = 0 ∧ u (0x48 + 48 * i) 8 = tget 0 s.firm.changed x.2.2.1 % 2 ^ 64 ∧
                bufBytes t (b + 0x50 + 48 * i) 32 = x.2.2.2) ∧
              bufBytes t (b + 0x40 + 48 * n) 3309 =
                (Config.mldsaSign 0 (shake512 (bufBytes t b (0x40 + 48 * n)))).toList)) ∧
      (cmdReady m 0x0A04 [(8, 8)] e s → bufGood (arg e 8 8) (32 * s.firm.bootLog.length) s →
        CmdWrites m e [] (arg e 8 8) (s.firm.bootLog.reverse.flatMap BootEnt.bytes) s (exec (.bootLogCmd m) s)) ∧
      (cmdReady m 0x0A05 [] e s → ∃ t, exec (.startCountClearCmd m) s = .next t ∧ cmdEnds m e 0 0 [] s t ∧ t.firm.startCount = 0 ∧
        t.fld (reg0 .RST_STATUS 0) F.RST_STATUS_start_count = 0 ∧ RegsSameBut [reg0 .RST_STATUS 0] s t ∧
        t = { s with regs := t.regs, firm := { s.firm with startCount := 0 }, mbx := { s.mbx with rings := t.mbx.rings } }) ∧
      (cmdReady m 0x0A06 [(8, 2), (10, 2), (16, 8)] e s → ∀ o, arg e 8 2 = o → ∀ n, arg e 10 2 = n → ∀ b, arg e 16 8 = b →
        let places : List (Nat × Nat) := [(0x08, 1), (0x09, 1), (0x0A, 1), (0x0B, 1), (0x0C, 2), (0x0E, 2), (0x10, 2), (0x12, 2), (0x14, 1)]
        ((∀ x, x ∈ places → x.1 ≠ o) → CmdAnswers m e 0x11 8 [] s (exec (.optionWriteCmd m) s)) ∧
        ((o, n) ∈ places → bufGood b n s → room → ∀ v, leNat (bufBytes s b n) = v →
          let fits (lo hi : Nat) : Prop := lo ≤ v ∧ v ≤ hi
          let good : Prop := (o = 0x08 → fits 0 1) ∧ (o = 0x09 → fits 1 15) ∧ (o = 0x0A → fits 0 3) ∧ (o = 0x0B → fits 0 1) ∧
            (o = 0x0C → fits 50 10000) ∧ (o = 0x0E → fits 25 400) ∧ (o = 0x10 → fits 5 100) ∧ (o = 0x12 → fits 1000 3600) ∧
            (o = 0x14 → fits 0 6)
          (¬ good → ∃ t, exec (.optionWriteCmd m) s = .next t ∧ cmdAccepted m e (some (0x11, 16, [])) s t ∧ bgOnly s.firm t) ∧
          (good → ∃ t, exec (.optionWriteCmd m) s = .next t ∧ cmdAccepted m e (some (0, 0, [])) s t ∧ rewritten t.optInUse t ∧
            ∀ x, x ∈ places → leNat ((t.optInUse.bytes.drop x.1).take x.2) =
              if x.1 = o then v else leNat ((s.optInUse.bytes.drop x.1).take x.2)))) ∧
      (cmdReady m 0x0A07 [(8, 8)] e s → bufGood (arg e 8 8) 4096 s → s.optInUse.bytes.length = 4096 ∧
        CmdWrites m e [BitVec.ofNat 8 s.firm.inUse] (arg e 8 8) s.optInUse.bytes s (exec (.optionReadCmd m) s))) ∧
    (s.fld (reg0 .RST_STATUS 0) F.RST_STATUS_frost = 0 → ∀ a, s.firm.act = some a →
      let settled (st : Nat) (t : State) : Prop := t.firm.act = none ∧
        t.mbx.bg = s.mbx.bg.map (fun b => if b.opcode = 0x0602 ∧ b.tag = a.tag then { b with out := some (st, 0, []) } else b)
      (a.loaded = true → a.moved = false → s.mode = 1 →
        (s.quiescent = true → (∀ k, k < 16 → (s.ring k).cur = none) ∧ ∃ t, exec .quiescentPointTest s = .next t ∧ t.mode = 2 ∧
          t.firm.serve = a.slot ∧ t.firm.act = some { a with moved := true } ∧ t.fwVersion = s.slotField a.slot 8 4 ∧
          t.servingDie = 1 - s.servingDie ∧ t.fld (reg0 .PCI_MBX_GLOBAL 0) F.PCI_MBX_GLOBAL_standby_ready = 0 ∧ t.mbx = s.mbx ∧
          MemSame s t ∧ ∀ p, p < 12 → 5 ≤ p → t.fld (reg0 .LNK_CAP p) F.LNK_CAP_level_mask = s.levelMask a.slot) ∧
        (s.quiescent = false → a.limit ≤ a.tests + 1 → ∃ t, exec .quiescentPointTest s = .next t ∧ settled 0x26 t ∧
          t.firm.stand = s.firm.serve ∧ t.firm.serve = s.firm.serve ∧ RegsSameBut [] s t ∧ MemSame s t) ∧
        (s.quiescent = false → a.tests + 1 < a.limit → exec .quiescentPointTest s =
          .next { s with firm := { s.firm with act := some { a with tests := a.tests + 1 } } })) ∧
      (a.moved = true → ∃ t, exec (.standbyLoadDone true) s = .next t ∧ settled 0 t ∧ t.firm.stand = a.slot ∧
        t.fld (reg0 .PCI_MBX_GLOBAL 0) F.PCI_MBX_GLOBAL_standby_ready = 1 ∧ MemSame s t ∧
        ∃ v, t.evq = s.evq ++ [v] ∧ v.code = 0x0600 ∧ leNat (v.payload.take 4) = s.fwVersion) ∧
      (a.moved = false → a.loaded = false → ∀ k, s.verifyImage a.slot = k →
        let chk : Nat := if k = 1 then 0x1A else if k = 2 then 0x22 else if k = 5 then 0x23 else 0x21
        let kept (t : State) : Prop := t.firm.serve = s.firm.serve ∧ RegsSameBut [] s t ∧ MemSame s t
        (∃ t, exec (.standbyLoadDone false) s = .next t ∧ settled (if k = 0 then 0x21 else chk) t ∧ t.firm.stand = s.firm.stand ∧ kept t) ∧
        ∃ t, exec (.standbyLoadDone true) s = .next t ∧ kept t ∧
          (k ≠ 0 → settled chk t ∧ t.firm.stand = s.firm.stand) ∧
          (k = 0 → (s.levelMask a.slot).testBit (s.levelOf s.train.step) = false → settled 0x24 t ∧ t.firm.stand = s.firm.stand) ∧
          (k = 0 → s.actRefused a.slot = 0 →
            t.firm.act = some { a with loaded := true } ∧ t.firm.stand = a.slot ∧ t.mbx = s.mbx)))

/-- Counters, thresholds, state objects, power, block and module resets and frost. The order of the counters of a set and the
places within a state object are the model's (log 13). -/
def Obligations.TelemetryAndResetCommandsAct : Prop :=
  ∀ (m : Fin 16) (s : State),
    (∀ e, (s.ring m).cur = some e →
      let room : Prop := s.mbx.bg.length < 64
      (cmdReady m 0x0700 [(8, 2), (16, 8)] e s → ∀ k, arg e 8 2 = k →
        (4 < k → CmdAnswers m e 0x11 8 [] s (exec (.telemetryReadCmd m) s)) ∧
        (k ≤ 4 → bufGood (arg e 16 8) (8 * (telemetrySet k).length) s →
          CmdWrites m e [] (arg e 16 8) ((telemetrySet k).flatMap (fun c => leBytes (s.ctr c) 8)) s (exec (.telemetryReadCmd m) s))) ∧
      (cmdReady m 0x0701 [(8, 2)] e s → ∀ k, arg e 8 2 = k → k ≤ 4 → ∃ t, exec (.countersClearCmd m) s = .next t ∧
        cmdSets m e ((telemetrySet k).map (·.reg)) s t ∧
        ∀ c, c ∈ telemetrySet k →
          (c.reg.name ≠ .PWR_STATUS → c.reg.name ≠ .PWR_TEMP → t.ctr c = 0) ∧ (c.reg.name = .PWR_STATUS → t.ctr c = s.ctr c) ∧
          (c.reg.name = .PWR_TEMP → t.ctr c = s.fld c.reg F.PWR_TEMP_temp)) ∧
      (cmdReady m 0x0702 [(8, 2), (10, 2), (16, 8)] e s → ∀ k, arg e 8 2 = k → k ≤ 4 → ∀ i, arg e 10 2 = i → ∀ v, arg e 16 8 = v →
        ((telemetrySet k).length ≤ i → CmdAnswers m e 0x11 10 [] s (exec (.thresholdSetCmd m) s)) ∧
        (∀ c, (telemetrySet k)[i]? = some c → ∃ t, exec (.thresholdSetCmd m) s = .next t ∧ cmdEnds m e 0 0 [] s t ∧
          t.mbx.thresholds.lookup (k * 65536 + i) = (if v = 0 then none else some (v, decide (v ≤ s.ctr c))) ∧
          (∀ j : Nat, j ≠ k * 65536 + i → t.mbx.thresholds.lookup j = s.mbx.thresholds.lookup j) ∧
          t = { s with mbx := { s.mbx with rings := t.mbx.rings, thresholds := t.mbx.thresholds } })) ∧
      (cmdReady m 0x0800 [(8, 2), (12, 4), (16, 8), (24, 4), (28, 4)] e s → ∀ kind, arg e 8 2 = kind → ∀ i, arg e 12 4 = i →
        ∀ b, arg e 16 8 = b → ∀ n, arg e 24 4 = n → ∀ o, arg e 28 4 = o → ∀ idx, (if kind = 1 then i * 0x10000 else i) = idx →
        (kind = 0 ∨ 0x15 < kind → CmdAnswers m e 0x11 8 [] s (exec (.readStateCmd m) s)) ∧
        (1 ≤ kind → kind ≤ 0x15 →
          (objIndex kind idx = false ∨ (kind ∈ [3, 5, 6, 0xF, 0x12] ∧ 64 ≤ i) ∨ (kind ∈ [8, 9, 0xA, 0xD, 0x10, 0x15] ∧ i ≠ 0) →
            CmdAnswers m e 0x11 12 [] s (exec (.readStateCmd m) s)) ∧
          (objIndex kind idx = true →
            (s.objReady kind idx = false ∨ (kind = 5 ∧ s.engSt false i ≤ 1) ∨ (kind = 6 ∧ s.engSt true i = 1) ∨
                (kind = 0x12 ∧ (s.sca i).held = false) → CmdAnswers m e 0x14 0 [] s (exec (.readStateCmd m) s)) ∧
            (s.objReady kind idx = true → bufGood b n s → ∀ x, s.objBytes kind idx o n = x → (0x100000 < n → room) →
              x.1.length ≤ n ∧ ∃ t, exec (.readStateCmd m) s = .next t ∧
                bufBytes t b n = x.1 ++ List.replicate (n - x.1.length) 0 ∧ MemSameBut (hostBase + b) n s t ∧
                t = { s with mem := t.mem, mbx := { s.mbx with rings := t.mbx.rings, bg := t.mbx.bg } } ∧
                (∀ r, r = [BitVec.ofNat 8 (s.objAtomic kind idx).toNat] → ∀ st, (if x.2 then 0x17 else 0) = st →
                  (n ≤ 0x100000 → cmdEnds m e st 0 r s t ∧ t.mbx.bg = s.mbx.bg) ∧
                  (0x100000 < n → cmdAccepted m e (some (st, 0, r)) s t)) ∧
                (kind = 8 → o = 0 → n = 512 → ∀ k, k < 64 → leNat (bufBytes t (b + 8 * k) 8) = (s.rd (reg1 .CP_CORE_REMAP 0 k)).toNat) ∧
                (kind = 4 → i < 64 → o = 0 → n = 512 → ∀ k, k < 64 →
                  leNat (bufBytes t (b + 8 * k) 8) = (s.rd (tokReg ⟨0, Fin.ofNat 64 i, Fin.ofNat 64 k⟩)).toNat) ∧
                (kind = 0x13 → 0x80000000 ≤ i → s.badWords = [] → o + n ≤ slotSize →
                  bufBytes t b n = readBytes s.mem (slotBase (i - 0x80000000) + o) n))))) ∧
      (cmdReady m 0x0801 [(8, 2), (12, 4), (16, 8), (24, 4), (28, 4)] e s → ∀ kind, arg e 8 2 = kind → ∀ i, arg e 12 4 = i →
        ∀ b, arg e 16 8 = b → ∀ n, arg e 24 4 = n → ∀ o, arg e 28 4 = o → 1 ≤ kind → kind ≤ 0x15 →
        (kind ∉ [2, 4, 5, 6, 7, 0x12, 0x13] ∨ objWritable kind i = false → CmdAnswers m e 0x1D 0 [] s (exec (.writeStateCmd m) s)) ∧
        (objWritable kind i = true → objIndex kind i = true →
          (s.objWriteReady kind i = false ∨ (kind = 2 ∧ s.engSt (decide (i % 4 = 1)) (i / 4) ≠ 0) ∨ (kind = 5 ∧ s.engSt false i ≠ 0) →
            CmdAnswers m e 0x14 0 [] s (exec (.writeStateCmd m) s)) ∧
          (s.objWriteReady kind i = true → bufGood b n s → (0x100000 < n → room) → ∀ bs, bufBytes s b n = bs →
            ∃ t, exec (.writeStateCmd m) s = .next t ∧
              (n ≤ 0x100000 → cmdEnds m e 0 0 [] s t ∧ t.mbx.bg = s.mbx.bg) ∧ (0x100000 < n → cmdAccepted m e (some (0, 0, [])) s t) ∧
              (kind = 2 → o = 0 → n = 16 → RegsSameBut [pcReg (decide (i % 4 = 1)) (i / 4), endReg (decide (i % 4 = 1)) (i / 4)] s t ∧
                ∀ k, (if i % 4 = 1 then 2 else 16) = k → t.pc (decide (i % 4 = 1)) (i / 4) = leNat (bs.take 8) / k * k % 2 ^ 25 ∧
                  t.pcEnd (decide (i % 4 = 1)) (i / 4) = leNat (bs.drop 8) / k * k % 2 ^ 25) ∧
              (kind = 4 → i < 64 → o = 0 → n = 512 → MemSame s t ∧ ∀ k, k < 64 →
                t.tokCount ⟨0, Fin.ofNat 64 i, Fin.ofNat 64 k⟩ = leNat ((bs.drop (8 * k)).take 2)) ∧
              (kind = 7 → ∃ x, tget [] (t.ve (i / 16)).slots (i % 16) = x ∧ (x.drop o).take n = bs ∧
                x.take o = (tget [] (s.ve (i / 16)).slots (i % 16) ++ zeros (o - (tget [] (s.ve (i / 16)).slots (i % 16)).length)).take o) ∧
              (kind = 0x13 → 0x80000000 ≤ i → o + n ≤ slotSize → readBytes t.mem (slotBase (i - 0x80000000) + o) n = bs ∧
                MemSameBut (slotBase (i - 0x80000000) + o) n s t)))) ∧
      (cmdReady m 0x0802 [] e s → ∃ t, exec (.errlogClearCmd m) s = .next t ∧ cmdEnds m e 0 0 [] s t ∧
        t = { s with mbx := { s.mbx with rings := t.mbx.rings, errlog := [] } }) ∧
      (cmdReady m 0x0900 [(8, 2)] e s → ∀ w, arg e 8 2 = w →
        (w < 1000 ∨ 3600 < w → CmdAnswers m e 0x11 8 [] s (exec (.powerLimitCmd m) s)) ∧
        (1000 ≤ w → w ≤ 3600 → ∃ t, exec (.powerLimitCmd m) s = .next t ∧ cmdSets m e [pwrCtrl] s t ∧
          t.fld pwrCtrl F.PWR_CTRL_sustained_w = w)) ∧
      (cmdReady m 0x0901 [] e s → CmdAnswers m e 0 0 (leBytes (s.fld pwrStatus F.PWR_STATUS_input_w) 2 ++
        leBytes (s.fld pwrStatus F.PWR_STATUS_input_mv) 2 ++ leBytes s.pwr.amps 2 ++ leBytes (s.fld pwrStatus F.PWR_STATUS_hottest) 2) s
        (exec (.powerReadCmd m) s)) ∧
      (cmdReady m 0x0902 [(8, 8), (16, 1)] e s → ∀ n, arg e 16 1 = n →
        (n = 0 ∨ 16 < n → CmdAnswers m e 0x11 16 [] s (exec (.throttleSetCmd m) s)) ∧
        (1 ≤ n → n ≤ 16 → ∃ t, exec (.throttleSetCmd m) s = .next t ∧ cmdMasked m e 64 (arg e 8 8) s.coreStatus s t ∧ MemSame s t ∧
          (∀ k, k < 64 → (arg e 8 8).testBit k = true → s.coreStatus k = 0 →
            tget 0 t.pwr.hostMin k = n ∧ n ≤ (t.periodOf k).1 ∧
              t.fld (reg0 .OPE_THROTTLE k) F.OPE_THROTTLE_period = (t.periodOf k).1 % 32) ∧
          (∀ k, k < 64 → (arg e 8 8).testBit k = false ∨ s.coreStatus k ≠ 0 → tget 0 t.pwr.hostMin k = tget 0 s.pwr.hostMin k))) ∧
      (cmdReady m 0x0A00 [(8, 1), (12, 4)] e s → ∀ kind, arg e 8 1 = kind → kind ≤ 6 → ∀ i, arg e 12 4 = i →
        (s.blockOf kind i = none → CmdAnswers m e 0x11 12 [] s (exec (.blockResetCmd m) s)) ∧
        (∀ b, s.blockOf kind i = some b → ∀ k, ((blockKind b).map (·.2)).getD 0 = k →
          (kind = 0 → 2 ≤ s.remap i → CmdAnswers m e 0x15 0 [] s (exec (.blockResetCmd m) s)) ∧
          ((kind = 0 → s.remap i < 2) →
            (s.blockFree kind k = false → CmdAnswers m e 0x14 0 [] s (exec (.blockResetCmd m) s)) ∧
            (s.blockFree kind k = true → s.fld (reg1 .RST_BLOCK 0 b) F.RST_BLOCK_reset = 1 →
              CmdAnswers m e 0x1C 0 [] s (exec (.blockResetCmd m) s)) ∧
            (s.blockFree kind k = true → s.fld (reg1 .RST_BLOCK 0 b) F.RST_BLOCK_reset = 0 → s.blockSt b = 0 → room →
              ∃ t, exec (.blockResetCmd m) s = .next t ∧ cmdAccepted m e none s t ∧ t.blockSt b = 1 ∧ t.blockPend b = 1 ∧
                t.fld (reg1 .RST_BLOCK 0 b) F.RST_BLOCK_reset = 1 ∧ t.fld (reg1 .RST_BLOCK 0 b) F.RST_BLOCK_enable = 1 ∧ MemSame s t)))) ∧
      (cmdReady m 0x0A01 [] e s → CmdAnswers m e 0 0 [] s (exec (.moduleResetCmd m) s)) ∧
      (cmdReady m 0x0A02 [] e s → CmdAnswers m e 0 0 [] s (exec (.frostEnterCmd m) s)) ∧
      (cmdReady m 0x0A03 [(8, 8)] e s → bufGood (arg e 8 8) s.frost.bytes.length s →
        CmdWrites m e [] (arg e 8 8) s.frost.bytes s (exec (.frostReportCmd m) s))) ∧
    (∀ d, (s.ring m).cpl = some d → d.status = 0 → s.mbxServed = true → s.hostUp = true → s.fld (cqCfg m) F.PCI_MBX_CQ_CFG_enable = 1 →
      ∀ size, 2 ^ s.fld (cqCfg m) F.PCI_MBX_CQ_CFG_size = size → ∀ i, (s.ring m).idx = i →
      ringGap (i % 65536) (s.fld (cqHead m) F.PCI_MBX_CQ_HEAD_head) < size →
      ∀ a, hostBase + s.fld (reg1 .PCI_MBX_CQ_BASE 0 m) F.PCI_MBX_CQ_BASE_base_hi * 64 + 64 * (i % size) = a →
      region a = .host → region (a + 63) = .host →
      (d.opcode = 0x0A01 → s.rst.waiting = false → s.rst.timer = false → ∃ t, exec (.completionEntryWrite m) s = .next t ∧
        readBytes t.mem a 64 = d.bytes ((i / size + 1) % 2) ∧
        t.rst.waiting = true ∧ t.rst.booted = false ∧ t.fld (reg0 .RST_STATUS 0) F.RST_STATUS_reset_cause = 5 ∧ t.mode = 0) ∧
      (d.opcode = 0x0A02 → s.fld (reg0 .RST_STATUS 0) F.RST_STATUS_frost = 0 → s.rst.timer = false →
        ∃ t, exec (.completionEntryWrite m) s = .next t ∧ readBytes t.mem a 64 = d.bytes ((i / size + 1) % 2) ∧
          t.fld (reg0 .RST_STATUS 0) F.RST_STATUS_frost = 1 ∧ t.frost.cause = 9 ∧ t.mode = 3))

end
end

