-- ==== Sys2Proof/Laws/Fields.lean ====
section
/-! SUPPORT. Laws of the bit fields of registers. -/

namespace Sys2Proof.Machine

theorem getLsbD_fieldMask (lo w i : Nat) (h : lo + w ≤ 64) :
    (fieldMask lo w).getLsbD i = (decide (lo ≤ i) && decide (i < lo + w)) := by
  unfold fieldMask
  rw [BitVec.getLsbD_shiftLeft, BitVec.getLsbD_ofNat, Nat.testBit_two_pow_sub_one]
  by_cases h1 : i < 64
  · by_cases h2 : lo ≤ i
    · have : i - lo < 64 := by omega
      by_cases h3 : i < lo + w
      · have h4 : i - lo < w := by omega
        simp [h1, h2, h3, this, h4, Nat.not_lt.mpr h2]
      · have h4 : ¬ i - lo < w := by omega
        simp [h1, h2, h3, this, h4]
    · simp [h2, Nat.lt_of_not_le h2]
  · have : ¬ i < lo + w := by omega
    simp [h1, this]

theorem getLsbD_setBits (v : BitVec 64) (lo w x i : Nat) (h : lo + w ≤ 64) :
    (setBits v lo w x).getLsbD i = if lo ≤ i ∧ i < lo + w then x.testBit (i - lo) else v.getLsbD i := by
  unfold setBits
  rw [BitVec.getLsbD_or, BitVec.getLsbD_and, BitVec.getLsbD_and, BitVec.getLsbD_not, getLsbD_fieldMask _ _ _ h,
    BitVec.getLsbD_shiftLeft, BitVec.getLsbD_ofNat]
  by_cases h1 : lo ≤ i <;> by_cases h2 : i < lo + w
  · have h3 : i < 64 := by omega
    have h4 : i - lo < 64 := by omega
    simp [h1, h2, h3, h4, Nat.not_lt.mpr h1]
  · simp [h1, h2]
    intro h5; exact BitVec.lt_of_getLsbD h5
  · simp [h1]
    intro h5; exact BitVec.lt_of_getLsbD h5
  · simp [h1]
    intro h5; exact BitVec.lt_of_getLsbD h5

theorem testBit_getBits (v : BitVec 64) (lo w i : Nat) :
    (getBits v lo w).testBit i = (decide (i < w) && v.getLsbD (lo + i)) := by
  unfold getBits bitsOf
  rw [Nat.testBit_mod_two_pow, Nat.testBit_shiftRight]
  rfl

/-- A field reads what was last set in it. -/
theorem getBits_setBits_same (v : BitVec 64) (lo w x : Nat) (h : lo + w ≤ 64) : getBits (setBits v lo w x) lo w = x % 2 ^ w := by
  apply Nat.eq_of_testBit_eq
  intro i
  rw [testBit_getBits, Nat.testBit_mod_two_pow, getLsbD_setBits _ _ _ _ _ h]
  by_cases hi : i < w
  · simp [hi]
  · simp [hi]

/-- A field is not changed by setting another one that shares no bit with it. -/
theorem getBits_setBits_other (v : BitVec 64) (lo w x lo' w' : Nat) (h : lo + w ≤ 64) (d : lo + w ≤ lo' ∨ lo' + w' ≤ lo) :
    getBits (setBits v lo w x) lo' w' = getBits v lo' w' := by
  apply Nat.eq_of_testBit_eq
  intro i
  rw [testBit_getBits, testBit_getBits, getLsbD_setBits _ _ _ _ _ h]
  by_cases hi : i < w'
  · have : ¬ (lo ≤ lo' + i ∧ lo' + i < lo + w) := by omega
    simp [hi, this]
  · simp [hi]

theorem getBits_lt (v : BitVec 64) (lo w : Nat) : getBits v lo w < 2 ^ w := Nat.mod_lt _ (Nat.two_pow_pos w)

theorem fget_fset_same (v : BitVec 64) (f : Fld) (x : Nat) (h : f.lo + f.w ≤ 64) : fget (fset v f x) f = x % 2 ^ f.w :=
  getBits_setBits_same v f.lo f.w x h

theorem fget_fset_other (v : BitVec 64) (f g : Fld) (x : Nat) (h : f.lo + f.w ≤ 64)
    (d : f.lo + f.w ≤ g.lo ∨ g.lo + g.w ≤ f.lo) : fget (fset v f x) g = fget v g :=
  getBits_setBits_other v f.lo f.w x g.lo g.w h d

end Sys2Proof.Machine
end

