-- ==== Sys2Proof/Laws/Tables.lean ====
section
/-! SUPPORT. Laws of the sparse tables and of the lists of numbers that the state uses. -/

namespace Sys2Proof

theorem tget_tput_same {α : Type} (d v : α) (k : Nat) (t : Tbl α) : tget d (tput k v t) k = v := by
  induction t with
  | nil => simp [tput, tget]
  | cons x xs ih =>
    obtain ⟨k', w⟩ := x
    simp only [tput]
    split
    · simp [tget]
    · split
      · simp [tget]
      · rename_i h1 h2
        simp [tget, h2, ih]

theorem tget_tput_ne {α : Type} (d v : α) {j k : Nat} (h : j ≠ k) (t : Tbl α) : tget d (tput k v t) j = tget d t j := by
  induction t with
  | nil => simp [tput, tget, Ne.symm h]
  | cons x xs ih =>
    obtain ⟨k', w⟩ := x
    simp only [tput]
    split
    · simp [tget, Ne.symm h]
    · split
      · rename_i h1 h2
        subst h2
        simp [tget, Ne.symm h]
      · by_cases hj : k' = j <;> simp [tget, hj, ih]

/-- A table after a put, read at any key. -/
theorem tget_tput {α : Type} (d v : α) (j k : Nat) (t : Tbl α) :
    tget d (tput k v t) j = if j = k then v else tget d t j := by
  by_cases h : j = k
  · subst h; simp [tget_tput_same]
  · simp [h, tget_tput_ne d v h]

theorem tget_tdel_same {α : Type} (d : α) (k : Nat) (t : Tbl α) : tget d (tdel k t) k = d := by
  induction t with
  | nil => simp [tdel, tget]
  | cons x xs ih =>
    obtain ⟨k', w⟩ := x
    by_cases hk : k' = k <;> simp [tdel, tget, hk, ih]

theorem mem_upTo (a n x : Nat) : x ∈ upTo a n ↔ a ≤ x ∧ x < a + n := by
  induction n generalizing a with
  | zero => simp [upTo]
  | succ n ih => simp only [upTo, List.mem_cons, ih]; omega

@[simp] theorem length_upTo (a n : Nat) : (upTo a n).length = n := by
  induction n generalizing a with
  | zero => rfl
  | succ n ih => simp [upTo, ih]

theorem getElem_upTo (a n i : Nat) (h : i < (upTo a n).length) : (upTo a n)[i] = a + i := by
  induction n generalizing a i with
  | zero => simp [upTo] at h
  | succ n ih =>
    cases i with
    | zero => simp [upTo]
    | succ i => simp [upTo, ih (a + 1) i]; omega

@[simp] theorem length_mapFrom {α β : Type} (f : Nat → α → β) (k : Nat) (l : List α) : (mapFrom k f l).length = l.length := by
  induction l generalizing k with
  | nil => rfl
  | cons x xs ih => simp [mapFrom, ih]

theorem getElem_mapFrom {α β : Type} (f : Nat → α → β) (k : Nat) (l : List α) (i : Nat) (h : i < (mapFrom k f l).length)
    (h' : i < l.length) : (mapFrom k f l)[i] = f (k + i) l[i] := by
  induction l generalizing k i with
  | nil => simp at h'
  | cons x xs ih =>
    cases i with
    | zero => simp [mapFrom]
    | succ i =>
      simp only [mapFrom, List.getElem_cons_succ]
      rw [ih (k + 1) i (by simpa [mapFrom] using h) (by simpa using h')]
      congr 1; omega

@[simp] theorem length_leBytes (x n : Nat) : (leBytes x n).length = n := by
  induction n generalizing x with
  | zero => rfl
  | succ n ih => simp [leBytes, ih]

/-- Little-endian bytes read back (R7). -/
theorem leNat_leBytes (x n : Nat) : leNat (leBytes x n) = x % 256 ^ n := by
  induction n generalizing x with
  | zero => simp [leBytes, leNat, Nat.mod_one]
  | succ n ih =>
    simp only [leBytes, leNat, ih, BitVec.toNat_ofNat]
    rw [show (2 : Nat) ^ 8 = 256 from rfl, Nat.pow_succ, Nat.mul_comm (256 ^ n) 256, Nat.mod_mul]

end Sys2Proof
end

