-- ==== Sys2Proof/Laws/Memory.lean ====
section
/-! SUPPORT. Laws of memory: a read after a write, and the canonical form kept by every memory operation. -/

namespace Sys2Proof.Machine

/-- Whether a list of cells lists an address. -/
theorem cget_append (m m' : List Host.Cell) (k : Nat) :
    cget (m ++ m') k = if (∃ c ∈ m, c.1 = k) then cget m k else cget m' k := by
  induction m with
  | nil => simp
  | cons c m ih =>
    obtain ⟨a, b⟩ := c
    by_cases h : a = k
    · simp [cget, h]
    · simp [cget, h, ih]

theorem cget_none (m : List Host.Cell) (k : Nat) (h : ∀ c ∈ m, c.1 ≠ k) : cget m k = 0 := by
  induction m with
  | nil => rfl
  | cons c m ih =>
    obtain ⟨a, b⟩ := c
    have : a ≠ k := h (a, b) (by simp)
    simp [cget, this]
    exact ih (fun c hc => h c (by simp [hc]))

theorem cget_filter (p : Nat → Bool) (m : List Host.Cell) (k : Nat) :
    cget (m.filter (fun c => p c.1)) k = if p k then cget m k else 0 := by
  induction m with
  | nil => simp [cget]
  | cons c m ih =>
    obtain ⟨a, b⟩ := c
    by_cases hp : p a
    · simp only [List.filter_cons, hp, if_true]
      by_cases h : a = k
      · subst h; simp [cget, hp]
      · simp [cget, h, ih]
    · simp only [List.filter_cons, hp]
      by_cases h : a = k
      · subst h; simp [hp, ih]
      · simp [cget, h, ih]

theorem cget_map_add (a : Nat) (m : List Host.Cell) (k : Nat) :
    cget (m.map (fun c => (a + c.1, c.2))) k = if a ≤ k then cget m (k - a) else 0 := by
  induction m with
  | nil => simp [cget]
  | cons c m ih =>
    obtain ⟨x, b⟩ := c
    by_cases hk : a ≤ k
    · by_cases h : x = k - a
      · have : a + x = k := by omega
        simp [cget, hk, h]
      · have : a + x ≠ k := by omega
        simp [cget, this, h, ih, hk]
    · have : a + x ≠ k := by omega
      simp [cget, this, ih, hk]

/-- A read after a range of memory is replaced. -/
theorem cget_lay (m : List Host.Cell) (a len : Nat) (cs : List Host.Cell) (k : Nat) :
    cget (lay m a len cs) k = if a ≤ k ∧ k < a + len then cget cs (k - a) else cget m k := by
  unfold lay
  rw [cget_append, cget_append]
  have e1 := cget_filter (fun x => decide (x < a)) m k
  have e2 := cget_map_add a (cs.filter (fun c => decide (c.1 < len))) k
  have e3 := cget_filter (fun x => decide (a + len ≤ x)) m k
  have e4 := cget_filter (fun x => decide (x < len)) cs (k - a)
  by_cases h1 : k < a
  · have n1 : ¬ (a ≤ k ∧ k < a + len) := by omega
    simp only [n1, if_false]
    have hx : ¬ ∃ c ∈ (cs.filter (fun c => decide (c.1 < len))).map (fun c => (a + c.1, c.2)), c.1 = k := by
      simp; intros; omega
    by_cases h2 : ∃ c ∈ m.filter (fun c => decide (c.1 < a)), c.1 = k
    · have h3 : ∃ c ∈ m.filter (fun c => decide (c.1 < a)) ++
          (cs.filter (fun c => decide (c.1 < len))).map (fun c => (a + c.1, c.2)), c.1 = k := by
        obtain ⟨c, hc, hk⟩ := h2; exact ⟨c, List.mem_append_left _ hc, hk⟩
      rw [if_pos h3, if_pos h2, e1]; simp [h1]
    · have h3 : ¬ ∃ c ∈ m.filter (fun c => decide (c.1 < a)) ++
          (cs.filter (fun c => decide (c.1 < len))).map (fun c => (a + c.1, c.2)), c.1 = k := by
        rintro ⟨c, hc, hk⟩
        rcases List.mem_append.mp hc with hc | hc
        · exact h2 ⟨c, hc, hk⟩
        · exact hx ⟨c, hc, hk⟩
      rw [if_neg h3, e3]
      have : ¬ a + len ≤ k := by omega
      simp only [this, decide_false]
      symm
      apply cget_none
      intro c hc hk
      exact h2 ⟨c, by simp [hc, hk, h1], hk⟩
  · have hm : ¬ ∃ c ∈ m.filter (fun c => decide (c.1 < a)), c.1 = k := by
      rintro ⟨c, hc, hk⟩
      simp only [List.mem_filter, decide_eq_true_eq] at hc
      omega
    by_cases h2 : k < a + len
    · have n1 : a ≤ k ∧ k < a + len := by omega
      simp only [n1]
      by_cases h3 : ∃ c ∈ (cs.filter (fun c => decide (c.1 < len))).map (fun c => (a + c.1, c.2)), c.1 = k
      · have h4 : ∃ c ∈ m.filter (fun c => decide (c.1 < a)) ++
            (cs.filter (fun c => decide (c.1 < len))).map (fun c => (a + c.1, c.2)), c.1 = k := by
          obtain ⟨c, hc, hk⟩ := h3; exact ⟨c, List.mem_append_right _ hc, hk⟩
        rw [if_pos h4, if_neg hm, e2, e4]
        have : k - a < len := by omega
        simp [this]; omega
      · have h4 : ¬ ∃ c ∈ m.filter (fun c => decide (c.1 < a)) ++
            (cs.filter (fun c => decide (c.1 < len))).map (fun c => (a + c.1, c.2)), c.1 = k := by
          rintro ⟨c, hc, hk⟩
          rcases List.mem_append.mp hc with hc | hc
          · exact hm ⟨c, hc, hk⟩
          · exact h3 ⟨c, hc, hk⟩
        rw [if_neg h4, e3]
        have : ¬ a + len ≤ k := by omega
        simp only [this, decide_false]
        symm
        apply cget_none
        intro c hc hk
        exact h3 ⟨(a + c.1, c.2), by
          simp only [List.mem_map, List.mem_filter]
          exact ⟨c, ⟨hc, by simp; omega⟩, rfl⟩, by simp; omega⟩
    · have n1 : ¬ (a ≤ k ∧ k < a + len) := by omega
      simp only [n1, if_false]
      have h4 : ¬ ∃ c ∈ m.filter (fun c => decide (c.1 < a)) ++
          (cs.filter (fun c => decide (c.1 < len))).map (fun c => (a + c.1, c.2)), c.1 = k := by
        rintro ⟨c, hc, hk⟩
        rcases List.mem_append.mp hc with hc | hc
        · exact hm ⟨c, hc, hk⟩
        · simp only [List.mem_map, List.mem_filter] at hc
          obtain ⟨d, ⟨_, hd⟩, rfl⟩ := hc
          simp at hd hk; omega
      rw [if_neg h4, e3]
      have : a + len ≤ k := by omega
      simp [this]

theorem cget_cellsFrom (bs : List Byte) (k j : Nat) :
    cget (cellsFrom k bs) j = if k ≤ j then bs.getD (j - k) 0 else 0 := by
  induction bs generalizing k with
  | nil => simp [cellsFrom, cget]
  | cons b bs ih =>
    have key : cget (cellsFrom (k + 1) bs) j = if k + 1 ≤ j then bs.getD (j - (k + 1)) 0 else 0 := ih (k + 1)
    by_cases hb : b = 0
    · simp only [cellsFrom, hb, if_true, key]
      by_cases h : k = j
      · subst h; simp [show ¬ k + 1 ≤ k by omega]
      · by_cases h2 : k + 1 ≤ j
        · have e : j - k = (j - (k + 1)) + 1 := by omega
          simp [h2, show k ≤ j by omega, e]
        · simp [h2, show ¬ k ≤ j by omega]
    · simp only [cellsFrom, hb, if_false, cget]
      by_cases h : k = j
      · subst h; simp
      · simp only [h, if_false, key]
        by_cases h2 : k + 1 ≤ j
        · have e : j - k = (j - (k + 1)) + 1 := by omega
          simp [h2, show k ≤ j by omega, e]
        · simp [h2, show ¬ k ≤ j by omega]

/-- A read after a write of bytes (R7, R197). -/
theorem cget_writeBytes (m : List Host.Cell) (a : Nat) (bs : List Byte) (k : Nat) :
    cget (writeBytes m a bs) k = if a ≤ k ∧ k < a + bs.length then bs.getD (k - a) 0 else cget m k := by
  unfold writeBytes
  rw [cget_lay, cget_cellsFrom]
  simp

theorem cget_writeByte (m : List Host.Cell) (a : Nat) (b : Byte) (k : Nat) :
    cget (writeByte m a b) k = if k = a then b else cget m k := by
  unfold writeByte
  rw [cget_writeBytes]
  by_cases h : k = a
  · subst h; simp
  · rw [if_neg h, if_neg]
    rw [List.length_singleton]
    omega

/-! The canonical form. -/

theorem wf_filter (p : Host.Cell → Bool) {m : List Host.Cell} (h : Memory.wf m) : Memory.wf (m.filter p) :=
  ⟨h.1.filter p, fun c hc => h.2 c (List.mem_filter.mp hc).1⟩

theorem mem_cellsFrom (bs : List Byte) (k : Nat) (c : Host.Cell) (h : c ∈ cellsFrom k bs) : k ≤ c.1 ∧ c.2 ≠ 0 := by
  induction bs generalizing k with
  | nil => simp [cellsFrom] at h
  | cons b bs ih =>
    simp only [cellsFrom] at h
    split at h
    · have := ih (k + 1) h; exact ⟨by omega, this.2⟩
    · rename_i hb
      rcases List.mem_cons.mp h with h | h
      · subst h; exact ⟨Nat.le_refl _, hb⟩
      · have := ih (k + 1) h; exact ⟨by omega, this.2⟩

theorem wf_cellsFrom (bs : List Byte) (k : Nat) : Memory.wf (cellsFrom k bs) := by
  refine ⟨?_, fun c hc => (mem_cellsFrom bs k c hc).2⟩
  induction bs generalizing k with
  | nil => simp [cellsFrom]
  | cons b bs ih =>
    simp only [cellsFrom]
    split
    · exact ih (k + 1)
    · refine List.pairwise_cons.mpr ⟨fun c hc => ?_, ih (k + 1)⟩
      have := (mem_cellsFrom bs (k + 1) c hc).1
      simp only; omega

theorem wf_lay {m : List Host.Cell} (h : Memory.wf m) (a len : Nat) {cs : List Host.Cell} (hc : Memory.wf cs) :
    Memory.wf (lay m a len cs) := by
  unfold lay
  constructor
  · rw [List.pairwise_append, List.pairwise_append]
    refine ⟨⟨h.1.filter _, ?_, ?_⟩, h.1.filter _, ?_⟩
    · rw [List.pairwise_map]
      refine (hc.1.filter _).imp ?_
      intro x y hxy; simp only; omega
    · intro x hx y hy
      simp only [List.mem_filter, List.mem_map, decide_eq_true_eq] at hx hy
      obtain ⟨z, ⟨_, hz⟩, rfl⟩ := hy
      simp only; omega
    · intro x hx y hy
      simp only [List.mem_append, List.mem_filter, List.mem_map, decide_eq_true_eq] at hx hy
      rcases hx with hx | ⟨z, ⟨_, hz⟩, rfl⟩
      · omega
      · simp only; omega
  · intro c hc'
    simp only [List.mem_append, List.mem_filter, List.mem_map, decide_eq_true_eq] at hc'
    rcases hc' with (hx | ⟨z, ⟨hz, _⟩, rfl⟩) | hx
    · exact h.2 c hx.1
    · exact hc.2 z hz
    · exact h.2 c hx.1

theorem wf_writeBytes {m : List Host.Cell} (h : Memory.wf m) (a : Nat) (bs : List Byte) : Memory.wf (writeBytes m a bs) :=
  wf_lay h a bs.length (wf_cellsFrom bs 0)

theorem wf_writeByte {m : List Host.Cell} (h : Memory.wf m) (a : Nat) (b : Byte) : Memory.wf (writeByte m a b) :=
  wf_writeBytes h a [b]

theorem wf_writeCells {m : List Host.Cell} (h : Memory.wf m) (cs : List Host.Cell) : Memory.wf (writeCells m cs) := by
  induction cs generalizing m with
  | nil => exact h
  | cons c cs ih => exact ih (wf_writeByte h c.1 c.2)

theorem wf_nil : Memory.wf [] := ⟨List.Pairwise.nil, by simp⟩

end Sys2Proof.Machine
end

