-- ==== Sys2Proof/Laws/State.lean ====
section
/-! SUPPORT. One lemma per field of the state and per update: what each update of Ops leaves as it was, and what reading
after an update gives. -/

namespace Sys2Proof.Machine

@[simp] theorem State.wr_pending (s : State) (r : Reg) (v : BitVec 64) : (s.wr r v).pending = s.pending := rfl
@[simp] theorem State.wr_mem (s : State) (r : Reg) (v : BitVec 64) : (s.wr r v).mem = s.mem := rfl
@[simp] theorem State.wr_badWords (s : State) (r : Reg) (v : BitVec 64) : (s.wr r v).badWords = s.badWords := rfl
@[simp] theorem State.wr_poison (s : State) (r : Reg) (v : BitVec 64) : (s.wr r v).poison = s.poison := rfl
@[simp] theorem State.wr_hbm (s : State) (r : Reg) (v : BitVec 64) : (s.wr r v).hbm = s.hbm := rfl
@[simp] theorem State.wr_retryPeer (s : State) (r : Reg) (v : BitVec 64) : (s.wr r v).retryPeer = s.retryPeer := rfl
@[simp] theorem State.wr_hdmLost (s : State) (r : Reg) (v : BitVec 64) : (s.wr r v).hdmLost = s.hdmLost := rfl
@[simp] theorem State.wr_rdata (s : State) (r : Reg) (v : BitVec 64) : (s.wr r v).rdata = s.rdata := rfl
@[simp] theorem State.wr_rbytes (s : State) (r : Reg) (v : BitVec 64) : (s.wr r v).rbytes = s.rbytes := rfl
@[simp] theorem State.wr_rstatus (s : State) (r : Reg) (v : BitVec 64) : (s.wr r v).rstatus = s.rstatus := rfl
@[simp] theorem State.wr_cores (s : State) (r : Reg) (v : BitVec 64) : (s.wr r v).cores = s.cores := rfl
@[simp] theorem State.wr_dies (s : State) (r : Reg) (v : BitVec 64) : (s.wr r v).dies = s.dies := rfl
@[simp] theorem State.wr_claims (s : State) (r : Reg) (v : BitVec 64) : (s.wr r v).claims = s.claims := rfl
@[simp] theorem State.wr_pwr (s : State) (r : Reg) (v : BitVec 64) : (s.wr r v).pwr = s.pwr := rfl
@[simp] theorem State.wr_stepMap (s : State) (r : Reg) (v : BitVec 64) : (s.wr r v).stepMap = s.stepMap := rfl
@[simp] theorem State.wr_heldSteps (s : State) (r : Reg) (v : BitVec 64) : (s.wr r v).heldSteps = s.heldSteps := rfl
@[simp] theorem State.wr_train (s : State) (r : Reg) (v : BitVec 64) : (s.wr r v).train = s.train := rfl
@[simp] theorem State.wr_members (s : State) (r : Reg) (v : BitVec 64) : (s.wr r v).members = s.members := rfl
@[simp] theorem State.wr_membersNext (s : State) (r : Reg) (v : BitVec 64) : (s.wr r v).membersNext = s.membersNext := rfl
@[simp] theorem State.wr_surv (s : State) (r : Reg) (v : BitVec 64) : (s.wr r v).surv = s.surv := rfl
@[simp] theorem State.wr_fab (s : State) (r : Reg) (v : BitVec 64) : (s.wr r v).fab = s.fab := rfl
@[simp] theorem State.wr_host (s : State) (r : Reg) (v : BitVec 64) : (s.wr r v).host = s.host := rfl
@[simp] theorem State.wr_cxl (s : State) (r : Reg) (v : BitVec 64) : (s.wr r v).cxl = s.cxl := rfl
@[simp] theorem State.wr_mbx (s : State) (r : Reg) (v : BitVec 64) : (s.wr r v).mbx = s.mbx := rfl
@[simp] theorem State.wr_slices (s : State) (r : Reg) (v : BitVec 64) : (s.wr r v).slices = s.slices := rfl
@[simp] theorem State.wr_saved (s : State) (r : Reg) (v : BitVec 64) : (s.wr r v).saved = s.saved := rfl
@[simp] theorem State.wr_firm (s : State) (r : Reg) (v : BitVec 64) : (s.wr r v).firm = s.firm := rfl
@[simp] theorem State.wr_frost (s : State) (r : Reg) (v : BitVec 64) : (s.wr r v).frost = s.frost := rfl
@[simp] theorem State.wr_rst (s : State) (r : Reg) (v : BitVec 64) : (s.wr r v).rst = s.rst := rfl
@[simp] theorem State.wr_mgmt (s : State) (r : Reg) (v : BitVec 64) : (s.wr r v).mgmt = s.mgmt := rfl
@[simp] theorem State.wr_clk (s : State) (r : Reg) (v : BitVec 64) : (s.wr r v).clk = s.clk := rfl
@[simp] theorem State.wr_cross (s : State) (r : Reg) (v : BitVec 64) : (s.wr r v).cross = s.cross := rfl
@[simp] theorem State.wr_waits (s : State) (r : Reg) (v : BitVec 64) : (s.wr r v).waits = s.waits := rfl
@[simp] theorem State.wr_grants (s : State) (r : Reg) (v : BitVec 64) : (s.wr r v).grants = s.grants := rfl
@[simp] theorem State.wr_withdrawn (s : State) (r : Reg) (v : BitVec 64) : (s.wr r v).withdrawn = s.withdrawn := rfl
@[simp] theorem State.wr_evq (s : State) (r : Reg) (v : BitVec 64) : (s.wr r v).evq = s.evq := rfl
@[simp] theorem State.wr_freeIdx (s : State) (r : Reg) (v : BitVec 64) : (s.wr r v).freeIdx = s.freeIdx := rfl
@[simp] theorem State.setF_pending (s : State) (r : Reg) (f : Fld) (x : Nat) : (s.setF r f x).pending = s.pending := rfl
@[simp] theorem State.setF_mem (s : State) (r : Reg) (f : Fld) (x : Nat) : (s.setF r f x).mem = s.mem := rfl
@[simp] theorem State.setF_badWords (s : State) (r : Reg) (f : Fld) (x : Nat) : (s.setF r f x).badWords = s.badWords := rfl
@[simp] theorem State.setF_poison (s : State) (r : Reg) (f : Fld) (x : Nat) : (s.setF r f x).poison = s.poison := rfl
@[simp] theorem State.setF_hbm (s : State) (r : Reg) (f : Fld) (x : Nat) : (s.setF r f x).hbm = s.hbm := rfl
@[simp] theorem State.setF_retryPeer (s : State) (r : Reg) (f : Fld) (x : Nat) : (s.setF r f x).retryPeer = s.retryPeer := rfl
@[simp] theorem State.setF_hdmLost (s : State) (r : Reg) (f : Fld) (x : Nat) : (s.setF r f x).hdmLost = s.hdmLost := rfl
@[simp] theorem State.setF_rdata (s : State) (r : Reg) (f : Fld) (x : Nat) : (s.setF r f x).rdata = s.rdata := rfl
@[simp] theorem State.setF_rbytes (s : State) (r : Reg) (f : Fld) (x : Nat) : (s.setF r f x).rbytes = s.rbytes := rfl
@[simp] theorem State.setF_rstatus (s : State) (r : Reg) (f : Fld) (x : Nat) : (s.setF r f x).rstatus = s.rstatus := rfl
@[simp] theorem State.setF_cores (s : State) (r : Reg) (f : Fld) (x : Nat) : (s.setF r f x).cores = s.cores := rfl
@[simp] theorem State.setF_dies (s : State) (r : Reg) (f : Fld) (x : Nat) : (s.setF r f x).dies = s.dies := rfl
@[simp] theorem State.setF_claims (s : State) (r : Reg) (f : Fld) (x : Nat) : (s.setF r f x).claims = s.claims := rfl
@[simp] theorem State.setF_pwr (s : State) (r : Reg) (f : Fld) (x : Nat) : (s.setF r f x).pwr = s.pwr := rfl
@[simp] theorem State.setF_stepMap (s : State) (r : Reg) (f : Fld) (x : Nat) : (s.setF r f x).stepMap = s.stepMap := rfl
@[simp] theorem State.setF_heldSteps (s : State) (r : Reg) (f : Fld) (x : Nat) : (s.setF r f x).heldSteps = s.heldSteps := rfl
@[simp] theorem State.setF_train (s : State) (r : Reg) (f : Fld) (x : Nat) : (s.setF r f x).train = s.train := rfl
@[simp] theorem State.setF_members (s : State) (r : Reg) (f : Fld) (x : Nat) : (s.setF r f x).members = s.members := rfl
@[simp] theorem State.setF_membersNext (s : State) (r : Reg) (f : Fld) (x : Nat) : (s.setF r f x).membersNext = s.membersNext := rfl
@[simp] theorem State.setF_surv (s : State) (r : Reg) (f : Fld) (x : Nat) : (s.setF r f x).surv = s.surv := rfl
@[simp] theorem State.setF_fab (s : State) (r : Reg) (f : Fld) (x : Nat) : (s.setF r f x).fab = s.fab := rfl
@[simp] theorem State.setF_host (s : State) (r : Reg) (f : Fld) (x : Nat) : (s.setF r f x).host = s.host := rfl
@[simp] theorem State.setF_cxl (s : State) (r : Reg) (f : Fld) (x : Nat) : (s.setF r f x).cxl = s.cxl := rfl
@[simp] theorem State.setF_mbx (s : State) (r : Reg) (f : Fld) (x : Nat) : (s.setF r f x).mbx = s.mbx := rfl
@[simp] theorem State.setF_slices (s : State) (r : Reg) (f : Fld) (x : Nat) : (s.setF r f x).slices = s.slices := rfl
@[simp] theorem State.setF_saved (s : State) (r : Reg) (f : Fld) (x : Nat) : (s.setF r f x).saved = s.saved := rfl
@[simp] theorem State.setF_firm (s : State) (r : Reg) (f : Fld) (x : Nat) : (s.setF r f x).firm = s.firm := rfl
@[simp] theorem State.setF_frost (s : State) (r : Reg) (f : Fld) (x : Nat) : (s.setF r f x).frost = s.frost := rfl
@[simp] theorem State.setF_rst (s : State) (r : Reg) (f : Fld) (x : Nat) : (s.setF r f x).rst = s.rst := rfl
@[simp] theorem State.setF_mgmt (s : State) (r : Reg) (f : Fld) (x : Nat) : (s.setF r f x).mgmt = s.mgmt := rfl
@[simp] theorem State.setF_clk (s : State) (r : Reg) (f : Fld) (x : Nat) : (s.setF r f x).clk = s.clk := rfl
@[simp] theorem State.setF_cross (s : State) (r : Reg) (f : Fld) (x : Nat) : (s.setF r f x).cross = s.cross := rfl
@[simp] theorem State.setF_waits (s : State) (r : Reg) (f : Fld) (x : Nat) : (s.setF r f x).waits = s.waits := rfl
@[simp] theorem State.setF_grants (s : State) (r : Reg) (f : Fld) (x : Nat) : (s.setF r f x).grants = s.grants := rfl
@[simp] theorem State.setF_withdrawn (s : State) (r : Reg) (f : Fld) (x : Nat) : (s.setF r f x).withdrawn = s.withdrawn := rfl
@[simp] theorem State.setF_evq (s : State) (r : Reg) (f : Fld) (x : Nat) : (s.setF r f x).evq = s.evq := rfl
@[simp] theorem State.setF_freeIdx (s : State) (r : Reg) (f : Fld) (x : Nat) : (s.setF r f x).freeIdx = s.freeIdx := rfl
@[simp] theorem State.bumpF_pending (s : State) (r : Reg) (f : Fld) : (s.bumpF r f).pending = s.pending := rfl
@[simp] theorem State.bumpF_mem (s : State) (r : Reg) (f : Fld) : (s.bumpF r f).mem = s.mem := rfl
@[simp] theorem State.bumpF_badWords (s : State) (r : Reg) (f : Fld) : (s.bumpF r f).badWords = s.badWords := rfl
@[simp] theorem State.bumpF_poison (s : State) (r : Reg) (f : Fld) : (s.bumpF r f).poison = s.poison := rfl
@[simp] theorem State.bumpF_hbm (s : State) (r : Reg) (f : Fld) : (s.bumpF r f).hbm = s.hbm := rfl
@[simp] theorem State.bumpF_retryPeer (s : State) (r : Reg) (f : Fld) : (s.bumpF r f).retryPeer = s.retryPeer := rfl
@[simp] theorem State.bumpF_hdmLost (s : State) (r : Reg) (f : Fld) : (s.bumpF r f).hdmLost = s.hdmLost := rfl
@[simp] theorem State.bumpF_rdata (s : State) (r : Reg) (f : Fld) : (s.bumpF r f).rdata = s.rdata := rfl
@[simp] theorem State.bumpF_rbytes (s : State) (r : Reg) (f : Fld) : (s.bumpF r f).rbytes = s.rbytes := rfl
@[simp] theorem State.bumpF_rstatus (s : State) (r : Reg) (f : Fld) : (s.bumpF r f).rstatus = s.rstatus := rfl
@[simp] theorem State.bumpF_cores (s : State) (r : Reg) (f : Fld) : (s.bumpF r f).cores = s.cores := rfl
@[simp] theorem State.bumpF_dies (s : State) (r : Reg) (f : Fld) : (s.bumpF r f).dies = s.dies := rfl
@[simp] theorem State.bumpF_claims (s : State) (r : Reg) (f : Fld) : (s.bumpF r f).claims = s.claims := rfl
@[simp] theorem State.bumpF_pwr (s : State) (r : Reg) (f : Fld) : (s.bumpF r f).pwr = s.pwr := rfl
@[simp] theorem State.bumpF_stepMap (s : State) (r : Reg) (f : Fld) : (s.bumpF r f).stepMap = s.stepMap := rfl
@[simp] theorem State.bumpF_heldSteps (s : State) (r : Reg) (f : Fld) : (s.bumpF r f).heldSteps = s.heldSteps := rfl
@[simp] theorem State.bumpF_train (s : State) (r : Reg) (f : Fld) : (s.bumpF r f).train = s.train := rfl
@[simp] theorem State.bumpF_members (s : State) (r : Reg) (f : Fld) : (s.bumpF r f).members = s.members := rfl
@[simp] theorem State.bumpF_membersNext (s : State) (r : Reg) (f : Fld) : (s.bumpF r f).membersNext = s.membersNext := rfl
@[simp] theorem State.bumpF_surv (s : State) (r : Reg) (f : Fld) : (s.bumpF r f).surv = s.surv := rfl
@[simp] theorem State.bumpF_fab (s : State) (r : Reg) (f : Fld) : (s.bumpF r f).fab = s.fab := rfl
@[simp] theorem State.bumpF_host (s : State) (r : Reg) (f : Fld) : (s.bumpF r f).host = s.host := rfl
@[simp] theorem State.bumpF_cxl (s : State) (r : Reg) (f : Fld) : (s.bumpF r f).cxl = s.cxl := rfl
@[simp] theorem State.bumpF_mbx (s : State) (r : Reg) (f : Fld) : (s.bumpF r f).mbx = s.mbx := rfl
@[simp] theorem State.bumpF_slices (s : State) (r : Reg) (f : Fld) : (s.bumpF r f).slices = s.slices := rfl
@[simp] theorem State.bumpF_saved (s : State) (r : Reg) (f : Fld) : (s.bumpF r f).saved = s.saved := rfl
@[simp] theorem State.bumpF_firm (s : State) (r : Reg) (f : Fld) : (s.bumpF r f).firm = s.firm := rfl
@[simp] theorem State.bumpF_frost (s : State) (r : Reg) (f : Fld) : (s.bumpF r f).frost = s.frost := rfl
@[simp] theorem State.bumpF_rst (s : State) (r : Reg) (f : Fld) : (s.bumpF r f).rst = s.rst := rfl
@[simp] theorem State.bumpF_mgmt (s : State) (r : Reg) (f : Fld) : (s.bumpF r f).mgmt = s.mgmt := rfl
@[simp] theorem State.bumpF_clk (s : State) (r : Reg) (f : Fld) : (s.bumpF r f).clk = s.clk := rfl
@[simp] theorem State.bumpF_cross (s : State) (r : Reg) (f : Fld) : (s.bumpF r f).cross = s.cross := rfl
@[simp] theorem State.bumpF_waits (s : State) (r : Reg) (f : Fld) : (s.bumpF r f).waits = s.waits := rfl
@[simp] theorem State.bumpF_grants (s : State) (r : Reg) (f : Fld) : (s.bumpF r f).grants = s.grants := rfl
@[simp] theorem State.bumpF_withdrawn (s : State) (r : Reg) (f : Fld) : (s.bumpF r f).withdrawn = s.withdrawn := rfl
@[simp] theorem State.bumpF_evq (s : State) (r : Reg) (f : Fld) : (s.bumpF r f).evq = s.evq := rfl
@[simp] theorem State.bumpF_freeIdx (s : State) (r : Reg) (f : Fld) : (s.bumpF r f).freeIdx = s.freeIdx := rfl
@[simp] theorem State.setCore_pending (s : State) (n : Nat) (c : Core) : (s.setCore n c).pending = s.pending := rfl
@[simp] theorem State.setCore_regs (s : State) (n : Nat) (c : Core) : (s.setCore n c).regs = s.regs := rfl
@[simp] theorem State.setCore_mem (s : State) (n : Nat) (c : Core) : (s.setCore n c).mem = s.mem := rfl
@[simp] theorem State.setCore_badWords (s : State) (n : Nat) (c : Core) : (s.setCore n c).badWords = s.badWords := rfl
@[simp] theorem State.setCore_poison (s : State) (n : Nat) (c : Core) : (s.setCore n c).poison = s.poison := rfl
@[simp] theorem State.setCore_hbm (s : State) (n : Nat) (c : Core) : (s.setCore n c).hbm = s.hbm := rfl
@[simp] theorem State.setCore_retryPeer (s : State) (n : Nat) (c : Core) : (s.setCore n c).retryPeer = s.retryPeer := rfl
@[simp] theorem State.setCore_hdmLost (s : State) (n : Nat) (c : Core) : (s.setCore n c).hdmLost = s.hdmLost := rfl
@[simp] theorem State.setCore_rdata (s : State) (n : Nat) (c : Core) : (s.setCore n c).rdata = s.rdata := rfl
@[simp] theorem State.setCore_rbytes (s : State) (n : Nat) (c : Core) : (s.setCore n c).rbytes = s.rbytes := rfl
@[simp] theorem State.setCore_rstatus (s : State) (n : Nat) (c : Core) : (s.setCore n c).rstatus = s.rstatus := rfl
@[simp] theorem State.setCore_dies (s : State) (n : Nat) (c : Core) : (s.setCore n c).dies = s.dies := rfl
@[simp] theorem State.setCore_claims (s : State) (n : Nat) (c : Core) : (s.setCore n c).claims = s.claims := rfl
@[simp] theorem State.setCore_pwr (s : State) (n : Nat) (c : Core) : (s.setCore n c).pwr = s.pwr := rfl
@[simp] theorem State.setCore_stepMap (s : State) (n : Nat) (c : Core) : (s.setCore n c).stepMap = s.stepMap := rfl
@[simp] theorem State.setCore_heldSteps (s : State) (n : Nat) (c : Core) : (s.setCore n c).heldSteps = s.heldSteps := rfl
@[simp] theorem State.setCore_train (s : State) (n : Nat) (c : Core) : (s.setCore n c).train = s.train := rfl
@[simp] theorem State.setCore_members (s : State) (n : Nat) (c : Core) : (s.setCore n c).members = s.members := rfl
@[simp] theorem State.setCore_membersNext (s : State) (n : Nat) (c : Core) : (s.setCore n c).membersNext = s.membersNext := rfl
@[simp] theorem State.setCore_surv (s : State) (n : Nat) (c : Core) : (s.setCore n c).surv = s.surv := rfl
@[simp] theorem State.setCore_fab (s : State) (n : Nat) (c : Core) : (s.setCore n c).fab = s.fab := rfl
@[simp] theorem State.setCore_host (s : State) (n : Nat) (c : Core) : (s.setCore n c).host = s.host := rfl
@[simp] theorem State.setCore_cxl (s : State) (n : Nat) (c : Core) : (s.setCore n c).cxl = s.cxl := rfl
@[simp] theorem State.setCore_mbx (s : State) (n : Nat) (c : Core) : (s.setCore n c).mbx = s.mbx := rfl
@[simp] theorem State.setCore_slices (s : State) (n : Nat) (c : Core) : (s.setCore n c).slices = s.slices := rfl
@[simp] theorem State.setCore_saved (s : State) (n : Nat) (c : Core) : (s.setCore n c).saved = s.saved := rfl
@[simp] theorem State.setCore_firm (s : State) (n : Nat) (c : Core) : (s.setCore n c).firm = s.firm := rfl
@[simp] theorem State.setCore_frost (s : State) (n : Nat) (c : Core) : (s.setCore n c).frost = s.frost := rfl
@[simp] theorem State.setCore_rst (s : State) (n : Nat) (c : Core) : (s.setCore n c).rst = s.rst := rfl
@[simp] theorem State.setCore_mgmt (s : State) (n : Nat) (c : Core) : (s.setCore n c).mgmt = s.mgmt := rfl
@[simp] theorem State.setCore_clk (s : State) (n : Nat) (c : Core) : (s.setCore n c).clk = s.clk := rfl
@[simp] theorem State.setCore_cross (s : State) (n : Nat) (c : Core) : (s.setCore n c).cross = s.cross := rfl
@[simp] theorem State.setCore_waits (s : State) (n : Nat) (c : Core) : (s.setCore n c).waits = s.waits := rfl
@[simp] theorem State.setCore_grants (s : State) (n : Nat) (c : Core) : (s.setCore n c).grants = s.grants := rfl
@[simp] theorem State.setCore_withdrawn (s : State) (n : Nat) (c : Core) : (s.setCore n c).withdrawn = s.withdrawn := rfl
@[simp] theorem State.setCore_evq (s : State) (n : Nat) (c : Core) : (s.setCore n c).evq = s.evq := rfl
@[simp] theorem State.setCore_freeIdx (s : State) (n : Nat) (c : Core) : (s.setCore n c).freeIdx = s.freeIdx := rfl
@[simp] theorem State.setOpe_pending (s : State) (n : Nat) (o : Ope) : (s.setOpe n o).pending = s.pending := rfl
@[simp] theorem State.setOpe_regs (s : State) (n : Nat) (o : Ope) : (s.setOpe n o).regs = s.regs := rfl
@[simp] theorem State.setOpe_mem (s : State) (n : Nat) (o : Ope) : (s.setOpe n o).mem = s.mem := rfl
@[simp] theorem State.setOpe_badWords (s : State) (n : Nat) (o : Ope) : (s.setOpe n o).badWords = s.badWords := rfl
@[simp] theorem State.setOpe_poison (s : State) (n : Nat) (o : Ope) : (s.setOpe n o).poison = s.poison := rfl
@[simp] theorem State.setOpe_hbm (s : State) (n : Nat) (o : Ope) : (s.setOpe n o).hbm = s.hbm := rfl
@[simp] theorem State.setOpe_retryPeer (s : State) (n : Nat) (o : Ope) : (s.setOpe n o).retryPeer = s.retryPeer := rfl
@[simp] theorem State.setOpe_hdmLost (s : State) (n : Nat) (o : Ope) : (s.setOpe n o).hdmLost = s.hdmLost := rfl
@[simp] theorem State.setOpe_rdata (s : State) (n : Nat) (o : Ope) : (s.setOpe n o).rdata = s.rdata := rfl
@[simp] theorem State.setOpe_rbytes (s : State) (n : Nat) (o : Ope) : (s.setOpe n o).rbytes = s.rbytes := rfl
@[simp] theorem State.setOpe_rstatus (s : State) (n : Nat) (o : Ope) : (s.setOpe n o).rstatus = s.rstatus := rfl
@[simp] theorem State.setOpe_dies (s : State) (n : Nat) (o : Ope) : (s.setOpe n o).dies = s.dies := rfl
@[simp] theorem State.setOpe_claims (s : State) (n : Nat) (o : Ope) : (s.setOpe n o).claims = s.claims := rfl
@[simp] theorem State.setOpe_pwr (s : State) (n : Nat) (o : Ope) : (s.setOpe n o).pwr = s.pwr := rfl
@[simp] theorem State.setOpe_stepMap (s : State) (n : Nat) (o : Ope) : (s.setOpe n o).stepMap = s.stepMap := rfl
@[simp] theorem State.setOpe_heldSteps (s : State) (n : Nat) (o : Ope) : (s.setOpe n o).heldSteps = s.heldSteps := rfl
@[simp] theorem State.setOpe_train (s : State) (n : Nat) (o : Ope) : (s.setOpe n o).train = s.train := rfl
@[simp] theorem State.setOpe_members (s : State) (n : Nat) (o : Ope) : (s.setOpe n o).members = s.members := rfl
@[simp] theorem State.setOpe_membersNext (s : State) (n : Nat) (o : Ope) : (s.setOpe n o).membersNext = s.membersNext := rfl
@[simp] theorem State.setOpe_surv (s : State) (n : Nat) (o : Ope) : (s.setOpe n o).surv = s.surv := rfl
@[simp] theorem State.setOpe_fab (s : State) (n : Nat) (o : Ope) : (s.setOpe n o).fab = s.fab := rfl
@[simp] theorem State.setOpe_host (s : State) (n : Nat) (o : Ope) : (s.setOpe n o).host = s.host := rfl
@[simp] theorem State.setOpe_cxl (s : State) (n : Nat) (o : Ope) : (s.setOpe n o).cxl = s.cxl := rfl
@[simp] theorem State.setOpe_mbx (s : State) (n : Nat) (o : Ope) : (s.setOpe n o).mbx = s.mbx := rfl
@[simp] theorem State.setOpe_slices (s : State) (n : Nat) (o : Ope) : (s.setOpe n o).slices = s.slices := rfl
@[simp] theorem State.setOpe_saved (s : State) (n : Nat) (o : Ope) : (s.setOpe n o).saved = s.saved := rfl
@[simp] theorem State.setOpe_firm (s : State) (n : Nat) (o : Ope) : (s.setOpe n o).firm = s.firm := rfl
@[simp] theorem State.setOpe_frost (s : State) (n : Nat) (o : Ope) : (s.setOpe n o).frost = s.frost := rfl
@[simp] theorem State.setOpe_rst (s : State) (n : Nat) (o : Ope) : (s.setOpe n o).rst = s.rst := rfl
@[simp] theorem State.setOpe_mgmt (s : State) (n : Nat) (o : Ope) : (s.setOpe n o).mgmt = s.mgmt := rfl
@[simp] theorem State.setOpe_clk (s : State) (n : Nat) (o : Ope) : (s.setOpe n o).clk = s.clk := rfl
@[simp] theorem State.setOpe_cross (s : State) (n : Nat) (o : Ope) : (s.setOpe n o).cross = s.cross := rfl
@[simp] theorem State.setOpe_waits (s : State) (n : Nat) (o : Ope) : (s.setOpe n o).waits = s.waits := rfl
@[simp] theorem State.setOpe_grants (s : State) (n : Nat) (o : Ope) : (s.setOpe n o).grants = s.grants := rfl
@[simp] theorem State.setOpe_withdrawn (s : State) (n : Nat) (o : Ope) : (s.setOpe n o).withdrawn = s.withdrawn := rfl
@[simp] theorem State.setOpe_evq (s : State) (n : Nat) (o : Ope) : (s.setOpe n o).evq = s.evq := rfl
@[simp] theorem State.setOpe_freeIdx (s : State) (n : Nat) (o : Ope) : (s.setOpe n o).freeIdx = s.freeIdx := rfl
@[simp] theorem State.setVe_pending (s : State) (n : Nat) (v : Ve) : (s.setVe n v).pending = s.pending := rfl
@[simp] theorem State.setVe_regs (s : State) (n : Nat) (v : Ve) : (s.setVe n v).regs = s.regs := rfl
@[simp] theorem State.setVe_mem (s : State) (n : Nat) (v : Ve) : (s.setVe n v).mem = s.mem := rfl
@[simp] theorem State.setVe_badWords (s : State) (n : Nat) (v : Ve) : (s.setVe n v).badWords = s.badWords := rfl
@[simp] theorem State.setVe_poison (s : State) (n : Nat) (v : Ve) : (s.setVe n v).poison = s.poison := rfl
@[simp] theorem State.setVe_hbm (s : State) (n : Nat) (v : Ve) : (s.setVe n v).hbm = s.hbm := rfl
@[simp] theorem State.setVe_retryPeer (s : State) (n : Nat) (v : Ve) : (s.setVe n v).retryPeer = s.retryPeer := rfl
@[simp] theorem State.setVe_hdmLost (s : State) (n : Nat) (v : Ve) : (s.setVe n v).hdmLost = s.hdmLost := rfl
@[simp] theorem State.setVe_rdata (s : State) (n : Nat) (v : Ve) : (s.setVe n v).rdata = s.rdata := rfl
@[simp] theorem State.setVe_rbytes (s : State) (n : Nat) (v : Ve) : (s.setVe n v).rbytes = s.rbytes := rfl
@[simp] theorem State.setVe_rstatus (s : State) (n : Nat) (v : Ve) : (s.setVe n v).rstatus = s.rstatus := rfl
@[simp] theorem State.setVe_dies (s : State) (n : Nat) (v : Ve) : (s.setVe n v).dies = s.dies := rfl
@[simp] theorem State.setVe_claims (s : State) (n : Nat) (v : Ve) : (s.setVe n v).claims = s.claims := rfl
@[simp] theorem State.setVe_pwr (s : State) (n : Nat) (v : Ve) : (s.setVe n v).pwr = s.pwr := rfl
@[simp] theorem State.setVe_stepMap (s : State) (n : Nat) (v : Ve) : (s.setVe n v).stepMap = s.stepMap := rfl
@[simp] theorem State.setVe_heldSteps (s : State) (n : Nat) (v : Ve) : (s.setVe n v).heldSteps = s.heldSteps := rfl
@[simp] theorem State.setVe_train (s : State) (n : Nat) (v : Ve) : (s.setVe n v).train = s.train := rfl
@[simp] theorem State.setVe_members (s : State) (n : Nat) (v : Ve) : (s.setVe n v).members = s.members := rfl
@[simp] theorem State.setVe_membersNext (s : State) (n : Nat) (v : Ve) : (s.setVe n v).membersNext = s.membersNext := rfl
@[simp] theorem State.setVe_surv (s : State) (n : Nat) (v : Ve) : (s.setVe n v).surv = s.surv := rfl
@[simp] theorem State.setVe_fab (s : State) (n : Nat) (v : Ve) : (s.setVe n v).fab = s.fab := rfl
@[simp] theorem State.setVe_host (s : State) (n : Nat) (v : Ve) : (s.setVe n v).host = s.host := rfl
@[simp] theorem State.setVe_cxl (s : State) (n : Nat) (v : Ve) : (s.setVe n v).cxl = s.cxl := rfl
@[simp] theorem State.setVe_mbx (s : State) (n : Nat) (v : Ve) : (s.setVe n v).mbx = s.mbx := rfl
@[simp] theorem State.setVe_slices (s : State) (n : Nat) (v : Ve) : (s.setVe n v).slices = s.slices := rfl
@[simp] theorem State.setVe_saved (s : State) (n : Nat) (v : Ve) : (s.setVe n v).saved = s.saved := rfl
@[simp] theorem State.setVe_firm (s : State) (n : Nat) (v : Ve) : (s.setVe n v).firm = s.firm := rfl
@[simp] theorem State.setVe_frost (s : State) (n : Nat) (v : Ve) : (s.setVe n v).frost = s.frost := rfl
@[simp] theorem State.setVe_rst (s : State) (n : Nat) (v : Ve) : (s.setVe n v).rst = s.rst := rfl
@[simp] theorem State.setVe_mgmt (s : State) (n : Nat) (v : Ve) : (s.setVe n v).mgmt = s.mgmt := rfl
@[simp] theorem State.setVe_clk (s : State) (n : Nat) (v : Ve) : (s.setVe n v).clk = s.clk := rfl
@[simp] theorem State.setVe_cross (s : State) (n : Nat) (v : Ve) : (s.setVe n v).cross = s.cross := rfl
@[simp] theorem State.setVe_waits (s : State) (n : Nat) (v : Ve) : (s.setVe n v).waits = s.waits := rfl
@[simp] theorem State.setVe_grants (s : State) (n : Nat) (v : Ve) : (s.setVe n v).grants = s.grants := rfl
@[simp] theorem State.setVe_withdrawn (s : State) (n : Nat) (v : Ve) : (s.setVe n v).withdrawn = s.withdrawn := rfl
@[simp] theorem State.setVe_evq (s : State) (n : Nat) (v : Ve) : (s.setVe n v).evq = s.evq := rfl
@[simp] theorem State.setVe_freeIdx (s : State) (n : Nat) (v : Ve) : (s.setVe n v).freeIdx = s.freeIdx := rfl
@[simp] theorem State.setQue_pending (s : State) (n m : Nat) (q : MQueue) : (s.setQue n m q).pending = s.pending := rfl
@[simp] theorem State.setQue_regs (s : State) (n m : Nat) (q : MQueue) : (s.setQue n m q).regs = s.regs := rfl
@[simp] theorem State.setQue_mem (s : State) (n m : Nat) (q : MQueue) : (s.setQue n m q).mem = s.mem := rfl
@[simp] theorem State.setQue_badWords (s : State) (n m : Nat) (q : MQueue) : (s.setQue n m q).badWords = s.badWords := rfl
@[simp] theorem State.setQue_poison (s : State) (n m : Nat) (q : MQueue) : (s.setQue n m q).poison = s.poison := rfl
@[simp] theorem State.setQue_hbm (s : State) (n m : Nat) (q : MQueue) : (s.setQue n m q).hbm = s.hbm := rfl
@[simp] theorem State.setQue_retryPeer (s : State) (n m : Nat) (q : MQueue) : (s.setQue n m q).retryPeer = s.retryPeer := rfl
@[simp] theorem State.setQue_hdmLost (s : State) (n m : Nat) (q : MQueue) : (s.setQue n m q).hdmLost = s.hdmLost := rfl
@[simp] theorem State.setQue_rdata (s : State) (n m : Nat) (q : MQueue) : (s.setQue n m q).rdata = s.rdata := rfl
@[simp] theorem State.setQue_rbytes (s : State) (n m : Nat) (q : MQueue) : (s.setQue n m q).rbytes = s.rbytes := rfl
@[simp] theorem State.setQue_rstatus (s : State) (n m : Nat) (q : MQueue) : (s.setQue n m q).rstatus = s.rstatus := rfl
@[simp] theorem State.setQue_dies (s : State) (n m : Nat) (q : MQueue) : (s.setQue n m q).dies = s.dies := rfl
@[simp] theorem State.setQue_claims (s : State) (n m : Nat) (q : MQueue) : (s.setQue n m q).claims = s.claims := rfl
@[simp] theorem State.setQue_pwr (s : State) (n m : Nat) (q : MQueue) : (s.setQue n m q).pwr = s.pwr := rfl
@[simp] theorem State.setQue_stepMap (s : State) (n m : Nat) (q : MQueue) : (s.setQue n m q).stepMap = s.stepMap := rfl
@[simp] theorem State.setQue_heldSteps (s : State) (n m : Nat) (q : MQueue) : (s.setQue n m q).heldSteps = s.heldSteps := rfl
@[simp] theorem State.setQue_train (s : State) (n m : Nat) (q : MQueue) : (s.setQue n m q).train = s.train := rfl
@[simp] theorem State.setQue_members (s : State) (n m : Nat) (q : MQueue) : (s.setQue n m q).members = s.members := rfl
@[simp] theorem State.setQue_membersNext (s : State) (n m : Nat) (q : MQueue) : (s.setQue n m q).membersNext = s.membersNext := rfl
@[simp] theorem State.setQue_surv (s : State) (n m : Nat) (q : MQueue) : (s.setQue n m q).surv = s.surv := rfl
@[simp] theorem State.setQue_fab (s : State) (n m : Nat) (q : MQueue) : (s.setQue n m q).fab = s.fab := rfl
@[simp] theorem State.setQue_host (s : State) (n m : Nat) (q : MQueue) : (s.setQue n m q).host = s.host := rfl
@[simp] theorem State.setQue_cxl (s : State) (n m : Nat) (q : MQueue) : (s.setQue n m q).cxl = s.cxl := rfl
@[simp] theorem State.setQue_mbx (s : State) (n m : Nat) (q : MQueue) : (s.setQue n m q).mbx = s.mbx := rfl
@[simp] theorem State.setQue_slices (s : State) (n m : Nat) (q : MQueue) : (s.setQue n m q).slices = s.slices := rfl
@[simp] theorem State.setQue_saved (s : State) (n m : Nat) (q : MQueue) : (s.setQue n m q).saved = s.saved := rfl
@[simp] theorem State.setQue_firm (s : State) (n m : Nat) (q : MQueue) : (s.setQue n m q).firm = s.firm := rfl
@[simp] theorem State.setQue_frost (s : State) (n m : Nat) (q : MQueue) : (s.setQue n m q).frost = s.frost := rfl
@[simp] theorem State.setQue_rst (s : State) (n m : Nat) (q : MQueue) : (s.setQue n m q).rst = s.rst := rfl
@[simp] theorem State.setQue_mgmt (s : State) (n m : Nat) (q : MQueue) : (s.setQue n m q).mgmt = s.mgmt := rfl
@[simp] theorem State.setQue_clk (s : State) (n m : Nat) (q : MQueue) : (s.setQue n m q).clk = s.clk := rfl
@[simp] theorem State.setQue_cross (s : State) (n m : Nat) (q : MQueue) : (s.setQue n m q).cross = s.cross := rfl
@[simp] theorem State.setQue_waits (s : State) (n m : Nat) (q : MQueue) : (s.setQue n m q).waits = s.waits := rfl
@[simp] theorem State.setQue_grants (s : State) (n m : Nat) (q : MQueue) : (s.setQue n m q).grants = s.grants := rfl
@[simp] theorem State.setQue_withdrawn (s : State) (n m : Nat) (q : MQueue) : (s.setQue n m q).withdrawn = s.withdrawn := rfl
@[simp] theorem State.setQue_evq (s : State) (n m : Nat) (q : MQueue) : (s.setQue n m q).evq = s.evq := rfl
@[simp] theorem State.setQue_freeIdx (s : State) (n m : Nat) (q : MQueue) : (s.setQue n m q).freeIdx = s.freeIdx := rfl
@[simp] theorem State.setSca_pending (s : State) (n : Nat) (x : Scalar) : (s.setSca n x).pending = s.pending := rfl
@[simp] theorem State.setSca_regs (s : State) (n : Nat) (x : Scalar) : (s.setSca n x).regs = s.regs := rfl
@[simp] theorem State.setSca_mem (s : State) (n : Nat) (x : Scalar) : (s.setSca n x).mem = s.mem := rfl
@[simp] theorem State.setSca_badWords (s : State) (n : Nat) (x : Scalar) : (s.setSca n x).badWords = s.badWords := rfl
@[simp] theorem State.setSca_poison (s : State) (n : Nat) (x : Scalar) : (s.setSca n x).poison = s.poison := rfl
@[simp] theorem State.setSca_hbm (s : State) (n : Nat) (x : Scalar) : (s.setSca n x).hbm = s.hbm := rfl
@[simp] theorem State.setSca_retryPeer (s : State) (n : Nat) (x : Scalar) : (s.setSca n x).retryPeer = s.retryPeer := rfl
@[simp] theorem State.setSca_hdmLost (s : State) (n : Nat) (x : Scalar) : (s.setSca n x).hdmLost = s.hdmLost := rfl
@[simp] theorem State.setSca_rdata (s : State) (n : Nat) (x : Scalar) : (s.setSca n x).rdata = s.rdata := rfl
@[simp] theorem State.setSca_rbytes (s : State) (n : Nat) (x : Scalar) : (s.setSca n x).rbytes = s.rbytes := rfl
@[simp] theorem State.setSca_rstatus (s : State) (n : Nat) (x : Scalar) : (s.setSca n x).rstatus = s.rstatus := rfl
@[simp] theorem State.setSca_dies (s : State) (n : Nat) (x : Scalar) : (s.setSca n x).dies = s.dies := rfl
@[simp] theorem State.setSca_claims (s : State) (n : Nat) (x : Scalar) : (s.setSca n x).claims = s.claims := rfl
@[simp] theorem State.setSca_pwr (s : State) (n : Nat) (x : Scalar) : (s.setSca n x).pwr = s.pwr := rfl
@[simp] theorem State.setSca_stepMap (s : State) (n : Nat) (x : Scalar) : (s.setSca n x).stepMap = s.stepMap := rfl
@[simp] theorem State.setSca_heldSteps (s : State) (n : Nat) (x : Scalar) : (s.setSca n x).heldSteps = s.heldSteps := rfl
@[simp] theorem State.setSca_train (s : State) (n : Nat) (x : Scalar) : (s.setSca n x).train = s.train := rfl
@[simp] theorem State.setSca_members (s : State) (n : Nat) (x : Scalar) : (s.setSca n x).members = s.members := rfl
@[simp] theorem State.setSca_membersNext (s : State) (n : Nat) (x : Scalar) : (s.setSca n x).membersNext = s.membersNext := rfl
@[simp] theorem State.setSca_surv (s : State) (n : Nat) (x : Scalar) : (s.setSca n x).surv = s.surv := rfl
@[simp] theorem State.setSca_fab (s : State) (n : Nat) (x : Scalar) : (s.setSca n x).fab = s.fab := rfl
@[simp] theorem State.setSca_host (s : State) (n : Nat) (x : Scalar) : (s.setSca n x).host = s.host := rfl
@[simp] theorem State.setSca_cxl (s : State) (n : Nat) (x : Scalar) : (s.setSca n x).cxl = s.cxl := rfl
@[simp] theorem State.setSca_mbx (s : State) (n : Nat) (x : Scalar) : (s.setSca n x).mbx = s.mbx := rfl
@[simp] theorem State.setSca_slices (s : State) (n : Nat) (x : Scalar) : (s.setSca n x).slices = s.slices := rfl
@[simp] theorem State.setSca_saved (s : State) (n : Nat) (x : Scalar) : (s.setSca n x).saved = s.saved := rfl
@[simp] theorem State.setSca_firm (s : State) (n : Nat) (x : Scalar) : (s.setSca n x).firm = s.firm := rfl
@[simp] theorem State.setSca_frost (s : State) (n : Nat) (x : Scalar) : (s.setSca n x).frost = s.frost := rfl
@[simp] theorem State.setSca_rst (s : State) (n : Nat) (x : Scalar) : (s.setSca n x).rst = s.rst := rfl
@[simp] theorem State.setSca_mgmt (s : State) (n : Nat) (x : Scalar) : (s.setSca n x).mgmt = s.mgmt := rfl
@[simp] theorem State.setSca_clk (s : State) (n : Nat) (x : Scalar) : (s.setSca n x).clk = s.clk := rfl
@[simp] theorem State.setSca_cross (s : State) (n : Nat) (x : Scalar) : (s.setSca n x).cross = s.cross := rfl
@[simp] theorem State.setSca_waits (s : State) (n : Nat) (x : Scalar) : (s.setSca n x).waits = s.waits := rfl
@[simp] theorem State.setSca_grants (s : State) (n : Nat) (x : Scalar) : (s.setSca n x).grants = s.grants := rfl
@[simp] theorem State.setSca_withdrawn (s : State) (n : Nat) (x : Scalar) : (s.setSca n x).withdrawn = s.withdrawn := rfl
@[simp] theorem State.setSca_evq (s : State) (n : Nat) (x : Scalar) : (s.setSca n x).evq = s.evq := rfl
@[simp] theorem State.setSca_freeIdx (s : State) (n : Nat) (x : Scalar) : (s.setSca n x).freeIdx = s.freeIdx := rfl
@[simp] theorem State.setDie_pending (s : State) (d : Nat) (x : Die) : (s.setDie d x).pending = s.pending := rfl
@[simp] theorem State.setDie_regs (s : State) (d : Nat) (x : Die) : (s.setDie d x).regs = s.regs := rfl
@[simp] theorem State.setDie_mem (s : State) (d : Nat) (x : Die) : (s.setDie d x).mem = s.mem := rfl
@[simp] theorem State.setDie_badWords (s : State) (d : Nat) (x : Die) : (s.setDie d x).badWords = s.badWords := rfl
@[simp] theorem State.setDie_poison (s : State) (d : Nat) (x : Die) : (s.setDie d x).poison = s.poison := rfl
@[simp] theorem State.setDie_hbm (s : State) (d : Nat) (x : Die) : (s.setDie d x).hbm = s.hbm := rfl
@[simp] theorem State.setDie_retryPeer (s : State) (d : Nat) (x : Die) : (s.setDie d x).retryPeer = s.retryPeer := rfl
@[simp] theorem State.setDie_hdmLost (s : State) (d : Nat) (x : Die) : (s.setDie d x).hdmLost = s.hdmLost := rfl
@[simp] theorem State.setDie_rdata (s : State) (d : Nat) (x : Die) : (s.setDie d x).rdata = s.rdata := rfl
@[simp] theorem State.setDie_rbytes (s : State) (d : Nat) (x : Die) : (s.setDie d x).rbytes = s.rbytes := rfl
@[simp] theorem State.setDie_rstatus (s : State) (d : Nat) (x : Die) : (s.setDie d x).rstatus = s.rstatus := rfl
@[simp] theorem State.setDie_cores (s : State) (d : Nat) (x : Die) : (s.setDie d x).cores = s.cores := rfl
@[simp] theorem State.setDie_claims (s : State) (d : Nat) (x : Die) : (s.setDie d x).claims = s.claims := rfl
@[simp] theorem State.setDie_pwr (s : State) (d : Nat) (x : Die) : (s.setDie d x).pwr = s.pwr := rfl
@[simp] theorem State.setDie_stepMap (s : State) (d : Nat) (x : Die) : (s.setDie d x).stepMap = s.stepMap := rfl
@[simp] theorem State.setDie_heldSteps (s : State) (d : Nat) (x : Die) : (s.setDie d x).heldSteps = s.heldSteps := rfl
@[simp] theorem State.setDie_train (s : State) (d : Nat) (x : Die) : (s.setDie d x).train = s.train := rfl
@[simp] theorem State.setDie_members (s : State) (d : Nat) (x : Die) : (s.setDie d x).members = s.members := rfl
@[simp] theorem State.setDie_membersNext (s : State) (d : Nat) (x : Die) : (s.setDie d x).membersNext = s.membersNext := rfl
@[simp] theorem State.setDie_surv (s : State) (d : Nat) (x : Die) : (s.setDie d x).surv = s.surv := rfl
@[simp] theorem State.setDie_fab (s : State) (d : Nat) (x : Die) : (s.setDie d x).fab = s.fab := rfl
@[simp] theorem State.setDie_host (s : State) (d : Nat) (x : Die) : (s.setDie d x).host = s.host := rfl
@[simp] theorem State.setDie_cxl (s : State) (d : Nat) (x : Die) : (s.setDie d x).cxl = s.cxl := rfl
@[simp] theorem State.setDie_mbx (s : State) (d : Nat) (x : Die) : (s.setDie d x).mbx = s.mbx := rfl
@[simp] theorem State.setDie_slices (s : State) (d : Nat) (x : Die) : (s.setDie d x).slices = s.slices := rfl
@[simp] theorem State.setDie_saved (s : State) (d : Nat) (x : Die) : (s.setDie d x).saved = s.saved := rfl
@[simp] theorem State.setDie_firm (s : State) (d : Nat) (x : Die) : (s.setDie d x).firm = s.firm := rfl
@[simp] theorem State.setDie_frost (s : State) (d : Nat) (x : Die) : (s.setDie d x).frost = s.frost := rfl
@[simp] theorem State.setDie_rst (s : State) (d : Nat) (x : Die) : (s.setDie d x).rst = s.rst := rfl
@[simp] theorem State.setDie_mgmt (s : State) (d : Nat) (x : Die) : (s.setDie d x).mgmt = s.mgmt := rfl
@[simp] theorem State.setDie_clk (s : State) (d : Nat) (x : Die) : (s.setDie d x).clk = s.clk := rfl
@[simp] theorem State.setDie_cross (s : State) (d : Nat) (x : Die) : (s.setDie d x).cross = s.cross := rfl
@[simp] theorem State.setDie_waits (s : State) (d : Nat) (x : Die) : (s.setDie d x).waits = s.waits := rfl
@[simp] theorem State.setDie_grants (s : State) (d : Nat) (x : Die) : (s.setDie d x).grants = s.grants := rfl
@[simp] theorem State.setDie_withdrawn (s : State) (d : Nat) (x : Die) : (s.setDie d x).withdrawn = s.withdrawn := rfl
@[simp] theorem State.setDie_evq (s : State) (d : Nat) (x : Die) : (s.setDie d x).evq = s.evq := rfl
@[simp] theorem State.setDie_freeIdx (s : State) (d : Nat) (x : Die) : (s.setDie d x).freeIdx = s.freeIdx := rfl
@[simp] theorem State.setMem_pending (s : State) (m : List Host.Cell) : (s.setMem m).pending = s.pending := rfl
@[simp] theorem State.setMem_regs (s : State) (m : List Host.Cell) : (s.setMem m).regs = s.regs := rfl
@[simp] theorem State.setMem_badWords (s : State) (m : List Host.Cell) : (s.setMem m).badWords = s.badWords := rfl
@[simp] theorem State.setMem_poison (s : State) (m : List Host.Cell) : (s.setMem m).poison = s.poison := rfl
@[simp] theorem State.setMem_hbm (s : State) (m : List Host.Cell) : (s.setMem m).hbm = s.hbm := rfl
@[simp] theorem State.setMem_retryPeer (s : State) (m : List Host.Cell) : (s.setMem m).retryPeer = s.retryPeer := rfl
@[simp] theorem State.setMem_hdmLost (s : State) (m : List Host.Cell) : (s.setMem m).hdmLost = s.hdmLost := rfl
@[simp] theorem State.setMem_rdata (s : State) (m : List Host.Cell) : (s.setMem m).rdata = s.rdata := rfl
@[simp] theorem State.setMem_rbytes (s : State) (m : List Host.Cell) : (s.setMem m).rbytes = s.rbytes := rfl
@[simp] theorem State.setMem_rstatus (s : State) (m : List Host.Cell) : (s.setMem m).rstatus = s.rstatus := rfl
@[simp] theorem State.setMem_cores (s : State) (m : List Host.Cell) : (s.setMem m).cores = s.cores := rfl
@[simp] theorem State.setMem_dies (s : State) (m : List Host.Cell) : (s.setMem m).dies = s.dies := rfl
@[simp] theorem State.setMem_claims (s : State) (m : List Host.Cell) : (s.setMem m).claims = s.claims := rfl
@[simp] theorem State.setMem_pwr (s : State) (m : List Host.Cell) : (s.setMem m).pwr = s.pwr := rfl
@[simp] theorem State.setMem_stepMap (s : State) (m : List Host.Cell) : (s.setMem m).stepMap = s.stepMap := rfl
@[simp] theorem State.setMem_heldSteps (s : State) (m : List Host.Cell) : (s.setMem m).heldSteps = s.heldSteps := rfl
@[simp] theorem State.setMem_train (s : State) (m : List Host.Cell) : (s.setMem m).train = s.train := rfl
@[simp] theorem State.setMem_members (s : State) (m : List Host.Cell) : (s.setMem m).members = s.members := rfl
@[simp] theorem State.setMem_membersNext (s : State) (m : List Host.Cell) : (s.setMem m).membersNext = s.membersNext := rfl
@[simp] theorem State.setMem_surv (s : State) (m : List Host.Cell) : (s.setMem m).surv = s.surv := rfl
@[simp] theorem State.setMem_fab (s : State) (m : List Host.Cell) : (s.setMem m).fab = s.fab := rfl
@[simp] theorem State.setMem_host (s : State) (m : List Host.Cell) : (s.setMem m).host = s.host := rfl
@[simp] theorem State.setMem_cxl (s : State) (m : List Host.Cell) : (s.setMem m).cxl = s.cxl := rfl
@[simp] theorem State.setMem_mbx (s : State) (m : List Host.Cell) : (s.setMem m).mbx = s.mbx := rfl
@[simp] theorem State.setMem_slices (s : State) (m : List Host.Cell) : (s.setMem m).slices = s.slices := rfl
@[simp] theorem State.setMem_saved (s : State) (m : List Host.Cell) : (s.setMem m).saved = s.saved := rfl
@[simp] theorem State.setMem_firm (s : State) (m : List Host.Cell) : (s.setMem m).firm = s.firm := rfl
@[simp] theorem State.setMem_frost (s : State) (m : List Host.Cell) : (s.setMem m).frost = s.frost := rfl
@[simp] theorem State.setMem_rst (s : State) (m : List Host.Cell) : (s.setMem m).rst = s.rst := rfl
@[simp] theorem State.setMem_mgmt (s : State) (m : List Host.Cell) : (s.setMem m).mgmt = s.mgmt := rfl
@[simp] theorem State.setMem_clk (s : State) (m : List Host.Cell) : (s.setMem m).clk = s.clk := rfl
@[simp] theorem State.setMem_cross (s : State) (m : List Host.Cell) : (s.setMem m).cross = s.cross := rfl
@[simp] theorem State.setMem_waits (s : State) (m : List Host.Cell) : (s.setMem m).waits = s.waits := rfl
@[simp] theorem State.setMem_grants (s : State) (m : List Host.Cell) : (s.setMem m).grants = s.grants := rfl
@[simp] theorem State.setMem_withdrawn (s : State) (m : List Host.Cell) : (s.setMem m).withdrawn = s.withdrawn := rfl
@[simp] theorem State.setMem_evq (s : State) (m : List Host.Cell) : (s.setMem m).evq = s.evq := rfl
@[simp] theorem State.setMem_freeIdx (s : State) (m : List Host.Cell) : (s.setMem m).freeIdx = s.freeIdx := rfl
@[simp] theorem State.event_pending (s : State) (isl code : Nat) (pl : List (Nat × Nat)) : (s.event isl code pl).pending = s.pending := rfl
@[simp] theorem State.event_regs (s : State) (isl code : Nat) (pl : List (Nat × Nat)) : (s.event isl code pl).regs = s.regs := rfl
@[simp] theorem State.event_mem (s : State) (isl code : Nat) (pl : List (Nat × Nat)) : (s.event isl code pl).mem = s.mem := rfl
@[simp] theorem State.event_badWords (s : State) (isl code : Nat) (pl : List (Nat × Nat)) : (s.event isl code pl).badWords = s.badWords := rfl
@[simp] theorem State.event_poison (s : State) (isl code : Nat) (pl : List (Nat × Nat)) : (s.event isl code pl).poison = s.poison := rfl
@[simp] theorem State.event_hbm (s : State) (isl code : Nat) (pl : List (Nat × Nat)) : (s.event isl code pl).hbm = s.hbm := rfl
@[simp] theorem State.event_retryPeer (s : State) (isl code : Nat) (pl : List (Nat × Nat)) : (s.event isl code pl).retryPeer = s.retryPeer := rfl
@[simp] theorem State.event_hdmLost (s : State) (isl code : Nat) (pl : List (Nat × Nat)) : (s.event isl code pl).hdmLost = s.hdmLost := rfl
@[simp] theorem State.event_rdata (s : State) (isl code : Nat) (pl : List (Nat × Nat)) : (s.event isl code pl).rdata = s.rdata := rfl
@[simp] theorem State.event_rbytes (s : State) (isl code : Nat) (pl : List (Nat × Nat)) : (s.event isl code pl).rbytes = s.rbytes := rfl
@[simp] theorem State.event_rstatus (s : State) (isl code : Nat) (pl : List (Nat × Nat)) : (s.event isl code pl).rstatus = s.rstatus := rfl
@[simp] theorem State.event_cores (s : State) (isl code : Nat) (pl : List (Nat × Nat)) : (s.event isl code pl).cores = s.cores := rfl
@[simp] theorem State.event_dies (s : State) (isl code : Nat) (pl : List (Nat × Nat)) : (s.event isl code pl).dies = s.dies := rfl
@[simp] theorem State.event_claims (s : State) (isl code : Nat) (pl : List (Nat × Nat)) : (s.event isl code pl).claims = s.claims := rfl
@[simp] theorem State.event_pwr (s : State) (isl code : Nat) (pl : List (Nat × Nat)) : (s.event isl code pl).pwr = s.pwr := rfl
@[simp] theorem State.event_stepMap (s : State) (isl code : Nat) (pl : List (Nat × Nat)) : (s.event isl code pl).stepMap = s.stepMap := rfl
@[simp] theorem State.event_heldSteps (s : State) (isl code : Nat) (pl : List (Nat × Nat)) : (s.event isl code pl).heldSteps = s.heldSteps := rfl
@[simp] theorem State.event_train (s : State) (isl code : Nat) (pl : List (Nat × Nat)) : (s.event isl code pl).train = s.train := rfl
@[simp] theorem State.event_members (s : State) (isl code : Nat) (pl : List (Nat × Nat)) : (s.event isl code pl).members = s.members := rfl
@[simp] theorem State.event_membersNext (s : State) (isl code : Nat) (pl : List (Nat × Nat)) : (s.event isl code pl).membersNext = s.membersNext := rfl
@[simp] theorem State.event_surv (s : State) (isl code : Nat) (pl : List (Nat × Nat)) : (s.event isl code pl).surv = s.surv := rfl
@[simp] theorem State.event_fab (s : State) (isl code : Nat) (pl : List (Nat × Nat)) : (s.event isl code pl).fab = s.fab := rfl
@[simp] theorem State.event_host (s : State) (isl code : Nat) (pl : List (Nat × Nat)) : (s.event isl code pl).host = s.host := rfl
@[simp] theorem State.event_cxl (s : State) (isl code : Nat) (pl : List (Nat × Nat)) : (s.event isl code pl).cxl = s.cxl := rfl
@[simp] theorem State.event_mbx (s : State) (isl code : Nat) (pl : List (Nat × Nat)) : (s.event isl code pl).mbx = s.mbx := rfl
@[simp] theorem State.event_slices (s : State) (isl code : Nat) (pl : List (Nat × Nat)) : (s.event isl code pl).slices = s.slices := rfl
@[simp] theorem State.event_saved (s : State) (isl code : Nat) (pl : List (Nat × Nat)) : (s.event isl code pl).saved = s.saved := rfl
@[simp] theorem State.event_firm (s : State) (isl code : Nat) (pl : List (Nat × Nat)) : (s.event isl code pl).firm = s.firm := rfl
@[simp] theorem State.event_frost (s : State) (isl code : Nat) (pl : List (Nat × Nat)) : (s.event isl code pl).frost = s.frost := rfl
@[simp] theorem State.event_rst (s : State) (isl code : Nat) (pl : List (Nat × Nat)) : (s.event isl code pl).rst = s.rst := rfl
@[simp] theorem State.event_mgmt (s : State) (isl code : Nat) (pl : List (Nat × Nat)) : (s.event isl code pl).mgmt = s.mgmt := rfl
@[simp] theorem State.event_clk (s : State) (isl code : Nat) (pl : List (Nat × Nat)) : (s.event isl code pl).clk = s.clk := rfl
@[simp] theorem State.event_cross (s : State) (isl code : Nat) (pl : List (Nat × Nat)) : (s.event isl code pl).cross = s.cross := rfl
@[simp] theorem State.event_waits (s : State) (isl code : Nat) (pl : List (Nat × Nat)) : (s.event isl code pl).waits = s.waits := rfl
@[simp] theorem State.event_grants (s : State) (isl code : Nat) (pl : List (Nat × Nat)) : (s.event isl code pl).grants = s.grants := rfl
@[simp] theorem State.event_withdrawn (s : State) (isl code : Nat) (pl : List (Nat × Nat)) : (s.event isl code pl).withdrawn = s.withdrawn := rfl
@[simp] theorem State.event_freeIdx (s : State) (isl code : Nat) (pl : List (Nat × Nat)) : (s.event isl code pl).freeIdx = s.freeIdx := rfl
@[simp] theorem State.send_pending (s : State) (src dst : Nat) (e : CrossEntry) : (s.send src dst e).pending = s.pending := rfl
@[simp] theorem State.send_regs (s : State) (src dst : Nat) (e : CrossEntry) : (s.send src dst e).regs = s.regs := rfl
@[simp] theorem State.send_mem (s : State) (src dst : Nat) (e : CrossEntry) : (s.send src dst e).mem = s.mem := rfl
@[simp] theorem State.send_badWords (s : State) (src dst : Nat) (e : CrossEntry) : (s.send src dst e).badWords = s.badWords := rfl
@[simp] theorem State.send_poison (s : State) (src dst : Nat) (e : CrossEntry) : (s.send src dst e).poison = s.poison := rfl
@[simp] theorem State.send_hbm (s : State) (src dst : Nat) (e : CrossEntry) : (s.send src dst e).hbm = s.hbm := rfl
@[simp] theorem State.send_retryPeer (s : State) (src dst : Nat) (e : CrossEntry) : (s.send src dst e).retryPeer = s.retryPeer := rfl
@[simp] theorem State.send_hdmLost (s : State) (src dst : Nat) (e : CrossEntry) : (s.send src dst e).hdmLost = s.hdmLost := rfl
@[simp] theorem State.send_rdata (s : State) (src dst : Nat) (e : CrossEntry) : (s.send src dst e).rdata = s.rdata := rfl
@[simp] theorem State.send_rbytes (s : State) (src dst : Nat) (e : CrossEntry) : (s.send src dst e).rbytes = s.rbytes := rfl
@[simp] theorem State.send_rstatus (s : State) (src dst : Nat) (e : CrossEntry) : (s.send src dst e).rstatus = s.rstatus := rfl
@[simp] theorem State.send_cores (s : State) (src dst : Nat) (e : CrossEntry) : (s.send src dst e).cores = s.cores := rfl
@[simp] theorem State.send_dies (s : State) (src dst : Nat) (e : CrossEntry) : (s.send src dst e).dies = s.dies := rfl
@[simp] theorem State.send_claims (s : State) (src dst : Nat) (e : CrossEntry) : (s.send src dst e).claims = s.claims := rfl
@[simp] theorem State.send_pwr (s : State) (src dst : Nat) (e : CrossEntry) : (s.send src dst e).pwr = s.pwr := rfl
@[simp] theorem State.send_stepMap (s : State) (src dst : Nat) (e : CrossEntry) : (s.send src dst e).stepMap = s.stepMap := rfl
@[simp] theorem State.send_heldSteps (s : State) (src dst : Nat) (e : CrossEntry) : (s.send src dst e).heldSteps = s.heldSteps := rfl
@[simp] theorem State.send_train (s : State) (src dst : Nat) (e : CrossEntry) : (s.send src dst e).train = s.train := rfl
@[simp] theorem State.send_members (s : State) (src dst : Nat) (e : CrossEntry) : (s.send src dst e).members = s.members := rfl
@[simp] theorem State.send_membersNext (s : State) (src dst : Nat) (e : CrossEntry) : (s.send src dst e).membersNext = s.membersNext := rfl
@[simp] theorem State.send_surv (s : State) (src dst : Nat) (e : CrossEntry) : (s.send src dst e).surv = s.surv := rfl
@[simp] theorem State.send_fab (s : State) (src dst : Nat) (e : CrossEntry) : (s.send src dst e).fab = s.fab := rfl
@[simp] theorem State.send_host (s : State) (src dst : Nat) (e : CrossEntry) : (s.send src dst e).host = s.host := rfl
@[simp] theorem State.send_cxl (s : State) (src dst : Nat) (e : CrossEntry) : (s.send src dst e).cxl = s.cxl := rfl
@[simp] theorem State.send_mbx (s : State) (src dst : Nat) (e : CrossEntry) : (s.send src dst e).mbx = s.mbx := rfl
@[simp] theorem State.send_slices (s : State) (src dst : Nat) (e : CrossEntry) : (s.send src dst e).slices = s.slices := rfl
@[simp] theorem State.send_saved (s : State) (src dst : Nat) (e : CrossEntry) : (s.send src dst e).saved = s.saved := rfl
@[simp] theorem State.send_firm (s : State) (src dst : Nat) (e : CrossEntry) : (s.send src dst e).firm = s.firm := rfl
@[simp] theorem State.send_frost (s : State) (src dst : Nat) (e : CrossEntry) : (s.send src dst e).frost = s.frost := rfl
@[simp] theorem State.send_rst (s : State) (src dst : Nat) (e : CrossEntry) : (s.send src dst e).rst = s.rst := rfl
@[simp] theorem State.send_mgmt (s : State) (src dst : Nat) (e : CrossEntry) : (s.send src dst e).mgmt = s.mgmt := rfl
@[simp] theorem State.send_clk (s : State) (src dst : Nat) (e : CrossEntry) : (s.send src dst e).clk = s.clk := rfl
@[simp] theorem State.send_waits (s : State) (src dst : Nat) (e : CrossEntry) : (s.send src dst e).waits = s.waits := rfl
@[simp] theorem State.send_grants (s : State) (src dst : Nat) (e : CrossEntry) : (s.send src dst e).grants = s.grants := rfl
@[simp] theorem State.send_withdrawn (s : State) (src dst : Nat) (e : CrossEntry) : (s.send src dst e).withdrawn = s.withdrawn := rfl
@[simp] theorem State.send_evq (s : State) (src dst : Nat) (e : CrossEntry) : (s.send src dst e).evq = s.evq := rfl
@[simp] theorem State.send_freeIdx (s : State) (src dst : Nat) (e : CrossEntry) : (s.send src dst e).freeIdx = s.freeIdx := rfl
@[simp] theorem State.changed_pending (s : State) (k : Nat) : (s.changed k).pending = s.pending := rfl
@[simp] theorem State.changed_regs (s : State) (k : Nat) : (s.changed k).regs = s.regs := rfl
@[simp] theorem State.changed_mem (s : State) (k : Nat) : (s.changed k).mem = s.mem := rfl
@[simp] theorem State.changed_badWords (s : State) (k : Nat) : (s.changed k).badWords = s.badWords := rfl
@[simp] theorem State.changed_poison (s : State) (k : Nat) : (s.changed k).poison = s.poison := rfl
@[simp] theorem State.changed_hbm (s : State) (k : Nat) : (s.changed k).hbm = s.hbm := rfl
@[simp] theorem State.changed_retryPeer (s : State) (k : Nat) : (s.changed k).retryPeer = s.retryPeer := rfl
@[simp] theorem State.changed_hdmLost (s : State) (k : Nat) : (s.changed k).hdmLost = s.hdmLost := rfl
@[simp] theorem State.changed_rdata (s : State) (k : Nat) : (s.changed k).rdata = s.rdata := rfl
@[simp] theorem State.changed_rbytes (s : State) (k : Nat) : (s.changed k).rbytes = s.rbytes := rfl
@[simp] theorem State.changed_rstatus (s : State) (k : Nat) : (s.changed k).rstatus = s.rstatus := rfl
@[simp] theorem State.changed_cores (s : State) (k : Nat) : (s.changed k).cores = s.cores := rfl
@[simp] theorem State.changed_dies (s : State) (k : Nat) : (s.changed k).dies = s.dies := rfl
@[simp] theorem State.changed_claims (s : State) (k : Nat) : (s.changed k).claims = s.claims := rfl
@[simp] theorem State.changed_pwr (s : State) (k : Nat) : (s.changed k).pwr = s.pwr := rfl
@[simp] theorem State.changed_stepMap (s : State) (k : Nat) : (s.changed k).stepMap = s.stepMap := rfl
@[simp] theorem State.changed_heldSteps (s : State) (k : Nat) : (s.changed k).heldSteps = s.heldSteps := rfl
@[simp] theorem State.changed_train (s : State) (k : Nat) : (s.changed k).train = s.train := rfl
@[simp] theorem State.changed_members (s : State) (k : Nat) : (s.changed k).members = s.members := rfl
@[simp] theorem State.changed_membersNext (s : State) (k : Nat) : (s.changed k).membersNext = s.membersNext := rfl
@[simp] theorem State.changed_surv (s : State) (k : Nat) : (s.changed k).surv = s.surv := rfl
@[simp] theorem State.changed_fab (s : State) (k : Nat) : (s.changed k).fab = s.fab := rfl
@[simp] theorem State.changed_host (s : State) (k : Nat) : (s.changed k).host = s.host := rfl
@[simp] theorem State.changed_cxl (s : State) (k : Nat) : (s.changed k).cxl = s.cxl := rfl
@[simp] theorem State.changed_mbx (s : State) (k : Nat) : (s.changed k).mbx = s.mbx := rfl
@[simp] theorem State.changed_slices (s : State) (k : Nat) : (s.changed k).slices = s.slices := rfl
@[simp] theorem State.changed_saved (s : State) (k : Nat) : (s.changed k).saved = s.saved := rfl
@[simp] theorem State.changed_frost (s : State) (k : Nat) : (s.changed k).frost = s.frost := rfl
@[simp] theorem State.changed_rst (s : State) (k : Nat) : (s.changed k).rst = s.rst := rfl
@[simp] theorem State.changed_mgmt (s : State) (k : Nat) : (s.changed k).mgmt = s.mgmt := rfl
@[simp] theorem State.changed_clk (s : State) (k : Nat) : (s.changed k).clk = s.clk := rfl
@[simp] theorem State.changed_cross (s : State) (k : Nat) : (s.changed k).cross = s.cross := rfl
@[simp] theorem State.changed_waits (s : State) (k : Nat) : (s.changed k).waits = s.waits := rfl
@[simp] theorem State.changed_grants (s : State) (k : Nat) : (s.changed k).grants = s.grants := rfl
@[simp] theorem State.changed_withdrawn (s : State) (k : Nat) : (s.changed k).withdrawn = s.withdrawn := rfl
@[simp] theorem State.changed_evq (s : State) (k : Nat) : (s.changed k).evq = s.evq := rfl
@[simp] theorem State.changed_freeIdx (s : State) (k : Nat) : (s.changed k).freeIdx = s.freeIdx := rfl

@[simp] theorem State.edge_pending (s : State) (i : Nat) : (s.edge i).pending = s.pending := by
  unfold State.edge; split; · rfl
  · dsimp only; split <;> rfl
@[simp] theorem State.edge_mem (s : State) (i : Nat) : (s.edge i).mem = s.mem := by
  unfold State.edge; split; · rfl
  · dsimp only; split <;> rfl
@[simp] theorem State.edge_badWords (s : State) (i : Nat) : (s.edge i).badWords = s.badWords := by
  unfold State.edge; split; · rfl
  · dsimp only; split <;> rfl
@[simp] theorem State.edge_poison (s : State) (i : Nat) : (s.edge i).poison = s.poison := by
  unfold State.edge; split; · rfl
  · dsimp only; split <;> rfl
@[simp] theorem State.edge_hbm (s : State) (i : Nat) : (s.edge i).hbm = s.hbm := by
  unfold State.edge; split; · rfl
  · dsimp only; split <;> rfl
@[simp] theorem State.edge_retryPeer (s : State) (i : Nat) : (s.edge i).retryPeer = s.retryPeer := by
  unfold State.edge; split; · rfl
  · dsimp only; split <;> rfl
@[simp] theorem State.edge_hdmLost (s : State) (i : Nat) : (s.edge i).hdmLost = s.hdmLost := by
  unfold State.edge; split; · rfl
  · dsimp only; split <;> rfl
@[simp] theorem State.edge_rdata (s : State) (i : Nat) : (s.edge i).rdata = s.rdata := by
  unfold State.edge; split; · rfl
  · dsimp only; split <;> rfl
@[simp] theorem State.edge_rbytes (s : State) (i : Nat) : (s.edge i).rbytes = s.rbytes := by
  unfold State.edge; split; · rfl
  · dsimp only; split <;> rfl
@[simp] theorem State.edge_rstatus (s : State) (i : Nat) : (s.edge i).rstatus = s.rstatus := by
  unfold State.edge; split; · rfl
  · dsimp only; split <;> rfl
@[simp] theorem State.edge_cores (s : State) (i : Nat) : (s.edge i).cores = s.cores := by
  unfold State.edge; split; · rfl
  · dsimp only; split <;> rfl
@[simp] theorem State.edge_dies (s : State) (i : Nat) : (s.edge i).dies = s.dies := by
  unfold State.edge; split; · rfl
  · dsimp only; split <;> rfl
@[simp] theorem State.edge_claims (s : State) (i : Nat) : (s.edge i).claims = s.claims := by
  unfold State.edge; split; · rfl
  · dsimp only; split <;> rfl
@[simp] theorem State.edge_pwr (s : State) (i : Nat) : (s.edge i).pwr = s.pwr := by
  unfold State.edge; split; · rfl
  · dsimp only; split <;> rfl
@[simp] theorem State.edge_stepMap (s : State) (i : Nat) : (s.edge i).stepMap = s.stepMap := by
  unfold State.edge; split; · rfl
  · dsimp only; split <;> rfl
@[simp] theorem State.edge_heldSteps (s : State) (i : Nat) : (s.edge i).heldSteps = s.heldSteps := by
  unfold State.edge; split; · rfl
  · dsimp only; split <;> rfl
@[simp] theorem State.edge_train (s : State) (i : Nat) : (s.edge i).train = s.train := by
  unfold State.edge; split; · rfl
  · dsimp only; split <;> rfl
@[simp] theorem State.edge_members (s : State) (i : Nat) : (s.edge i).members = s.members := by
  unfold State.edge; split; · rfl
  · dsimp only; split <;> rfl
@[simp] theorem State.edge_membersNext (s : State) (i : Nat) : (s.edge i).membersNext = s.membersNext := by
  unfold State.edge; split; · rfl
  · dsimp only; split <;> rfl
@[simp] theorem State.edge_surv (s : State) (i : Nat) : (s.edge i).surv = s.surv := by
  unfold State.edge; split; · rfl
  · dsimp only; split <;> rfl
@[simp] theorem State.edge_fab (s : State) (i : Nat) : (s.edge i).fab = s.fab := by
  unfold State.edge; split; · rfl
  · dsimp only; split <;> rfl
@[simp] theorem State.edge_host (s : State) (i : Nat) : (s.edge i).host = s.host := by
  unfold State.edge; split; · rfl
  · dsimp only; split <;> rfl
@[simp] theorem State.edge_cxl (s : State) (i : Nat) : (s.edge i).cxl = s.cxl := by
  unfold State.edge; split; · rfl
  · dsimp only; split <;> rfl
@[simp] theorem State.edge_mbx (s : State) (i : Nat) : (s.edge i).mbx = s.mbx := by
  unfold State.edge; split; · rfl
  · dsimp only; split <;> rfl
@[simp] theorem State.edge_slices (s : State) (i : Nat) : (s.edge i).slices = s.slices := by
  unfold State.edge; split; · rfl
  · dsimp only; split <;> rfl
@[simp] theorem State.edge_saved (s : State) (i : Nat) : (s.edge i).saved = s.saved := by
  unfold State.edge; split; · rfl
  · dsimp only; split <;> rfl
@[simp] theorem State.edge_firm (s : State) (i : Nat) : (s.edge i).firm = s.firm := by
  unfold State.edge; split; · rfl
  · dsimp only; split <;> rfl
@[simp] theorem State.edge_frost (s : State) (i : Nat) : (s.edge i).frost = s.frost := by
  unfold State.edge; split; · rfl
  · dsimp only; split <;> rfl
@[simp] theorem State.edge_rst (s : State) (i : Nat) : (s.edge i).rst = s.rst := by
  unfold State.edge; split; · rfl
  · dsimp only; split <;> rfl
@[simp] theorem State.edge_mgmt (s : State) (i : Nat) : (s.edge i).mgmt = s.mgmt := by
  unfold State.edge; split; · rfl
  · dsimp only; split <;> rfl
@[simp] theorem State.edge_clk (s : State) (i : Nat) : (s.edge i).clk = s.clk := by
  unfold State.edge; split; · rfl
  · dsimp only; split <;> rfl
@[simp] theorem State.edge_cross (s : State) (i : Nat) : (s.edge i).cross = s.cross := by
  unfold State.edge; split; · rfl
  · dsimp only; split <;> rfl
@[simp] theorem State.edge_waits (s : State) (i : Nat) : (s.edge i).waits = s.waits := by
  unfold State.edge; split; · rfl
  · dsimp only; split <;> rfl
@[simp] theorem State.edge_grants (s : State) (i : Nat) : (s.edge i).grants = s.grants := by
  unfold State.edge; split; · rfl
  · dsimp only; split <;> rfl
@[simp] theorem State.edge_withdrawn (s : State) (i : Nat) : (s.edge i).withdrawn = s.withdrawn := by
  unfold State.edge; split; · rfl
  · dsimp only; split <;> rfl
@[simp] theorem State.edge_evq (s : State) (i : Nat) : (s.edge i).evq = s.evq := by
  unfold State.edge; split; · rfl
  · dsimp only; split <;> rfl
@[simp] theorem State.edge_freeIdx (s : State) (i : Nat) : (s.edge i).freeIdx = s.freeIdx := by
  unfold State.edge; split; · rfl
  · dsimp only; split <;> rfl

/-! Registers. -/

theorem State.rd_wr (s : State) (r q : Reg) (v : BitVec 64) :
    (s.wr r v).rd q = if q.addr = r.addr then v else s.rd q := by
  unfold State.rd State.wr; rw [tget_tput]

@[simp] theorem State.rd_wr_same (s : State) (r : Reg) (v : BitVec 64) : (s.wr r v).rd r = v := by
  simp [State.rd_wr]

theorem State.rd_wr_ne (s : State) {r q : Reg} (h : q.addr ≠ r.addr) (v : BitVec 64) : (s.wr r v).rd q = s.rd q := by
  simp [State.rd_wr, h]

@[simp] theorem State.rd_setF_same (s : State) (r : Reg) (f : Fld) (x : Nat) : (s.setF r f x).rd r = fset (s.rd r) f x := by
  simp [State.setF]

theorem State.rd_setF_ne (s : State) {r q : Reg} (h : q.addr ≠ r.addr) (f : Fld) (x : Nat) : (s.setF r f x).rd q = s.rd q := by
  simp [State.setF, State.rd_wr_ne s h]

theorem State.fld_setF_same (s : State) (r : Reg) (f : Fld) (x : Nat) (h : f.lo + f.w ≤ 64) :
    (s.setF r f x).fld r f = x % 2 ^ f.w := by
  simp [State.fld, fget_fset_same _ _ _ h]

theorem State.fld_setF_other (s : State) (r : Reg) (f g : Fld) (x : Nat) (h : f.lo + f.w ≤ 64)
    (d : f.lo + f.w ≤ g.lo ∨ g.lo + g.w ≤ f.lo) : (s.setF r f x).fld r g = s.fld r g := by
  simp [State.fld, fget_fset_other _ _ _ _ h d]

theorem State.fld_setF_ne (s : State) {r q : Reg} (h : q.addr ≠ r.addr) (f g : Fld) (x : Nat) :
    (s.setF r f x).fld q g = s.fld q g := by
  simp [State.fld, State.rd_setF_ne s h]

/-! Updates that leave the registers, seen through a read. -/

@[simp] theorem State.rd_setCore (s : State) (n : Nat) (c : Core) (rr : Reg) : (s.setCore n c).rd rr = s.rd rr := rfl
@[simp] theorem State.fld_setCore (s : State) (n : Nat) (c : Core) (rr : Reg) (ff : Fld) : (s.setCore n c).fld rr ff = s.fld rr ff := rfl
@[simp] theorem State.rd_setOpe (s : State) (n : Nat) (o : Ope) (rr : Reg) : (s.setOpe n o).rd rr = s.rd rr := rfl
@[simp] theorem State.fld_setOpe (s : State) (n : Nat) (o : Ope) (rr : Reg) (ff : Fld) : (s.setOpe n o).fld rr ff = s.fld rr ff := rfl
@[simp] theorem State.rd_setVe (s : State) (n : Nat) (v : Ve) (rr : Reg) : (s.setVe n v).rd rr = s.rd rr := rfl
@[simp] theorem State.fld_setVe (s : State) (n : Nat) (v : Ve) (rr : Reg) (ff : Fld) : (s.setVe n v).fld rr ff = s.fld rr ff := rfl
@[simp] theorem State.rd_setQue (s : State) (n m : Nat) (q : MQueue) (rr : Reg) : (s.setQue n m q).rd rr = s.rd rr := rfl
@[simp] theorem State.fld_setQue (s : State) (n m : Nat) (q : MQueue) (rr : Reg) (ff : Fld) : (s.setQue n m q).fld rr ff = s.fld rr ff := rfl
@[simp] theorem State.rd_setSca (s : State) (n : Nat) (x : Scalar) (rr : Reg) : (s.setSca n x).rd rr = s.rd rr := rfl
@[simp] theorem State.fld_setSca (s : State) (n : Nat) (x : Scalar) (rr : Reg) (ff : Fld) : (s.setSca n x).fld rr ff = s.fld rr ff := rfl
@[simp] theorem State.rd_setDie (s : State) (d : Nat) (x : Die) (rr : Reg) : (s.setDie d x).rd rr = s.rd rr := rfl
@[simp] theorem State.fld_setDie (s : State) (d : Nat) (x : Die) (rr : Reg) (ff : Fld) : (s.setDie d x).fld rr ff = s.fld rr ff := rfl
@[simp] theorem State.rd_setMem (s : State) (m : List Host.Cell) (rr : Reg) : (s.setMem m).rd rr = s.rd rr := rfl
@[simp] theorem State.fld_setMem (s : State) (m : List Host.Cell) (rr : Reg) (ff : Fld) : (s.setMem m).fld rr ff = s.fld rr ff := rfl
@[simp] theorem State.rd_event (s : State) (isl code : Nat) (pl : List (Nat × Nat)) (rr : Reg) : (s.event isl code pl).rd rr = s.rd rr := rfl
@[simp] theorem State.fld_event (s : State) (isl code : Nat) (pl : List (Nat × Nat)) (rr : Reg) (ff : Fld) : (s.event isl code pl).fld rr ff = s.fld rr ff := rfl
@[simp] theorem State.rd_send (s : State) (src dst : Nat) (e : CrossEntry) (rr : Reg) : (s.send src dst e).rd rr = s.rd rr := rfl
@[simp] theorem State.fld_send (s : State) (src dst : Nat) (e : CrossEntry) (rr : Reg) (ff : Fld) : (s.send src dst e).fld rr ff = s.fld rr ff := rfl
@[simp] theorem State.rd_changed (s : State) (k : Nat) (rr : Reg) : (s.changed k).rd rr = s.rd rr := rfl
@[simp] theorem State.fld_changed (s : State) (k : Nat) (rr : Reg) (ff : Fld) : (s.changed k).fld rr ff = s.fld rr ff := rfl

/-! Cores, dies and memory. -/

theorem State.core_setCore (s : State) (n k : Nat) (c : Core) : (s.setCore n c).core k = if k = n then c else s.core k := by
  unfold State.core State.setCore
  rw [tget_tput]

@[simp] theorem State.core_setCore_same (s : State) (n : Nat) (c : Core) : (s.setCore n c).core n = c := by
  simp [State.core_setCore]

@[simp] theorem State.ope_setOpe (s : State) (n : Nat) (o : Ope) : (s.setOpe n o).ope n = o := by
  simp [State.ope, State.setOpe]

@[simp] theorem State.ve_setVe (s : State) (n : Nat) (v : Ve) : (s.setVe n v).ve n = v := by
  simp [State.ve, State.setVe]

@[simp] theorem State.ve_setOpe (s : State) (n : Nat) (o : Ope) : (s.setOpe n o).ve n = s.ve n := by
  simp [State.ve, State.setOpe]

@[simp] theorem State.ope_setVe (s : State) (n : Nat) (v : Ve) : (s.setVe n v).ope n = s.ope n := by
  simp [State.ope, State.setVe]

@[simp] theorem State.que_setQue (s : State) (n m : Nat) (q : MQueue) : (s.setQue n m q).que n m = q := by
  simp [State.que, State.setQue, tget_tput_same]

@[simp] theorem State.sca_setSca (s : State) (n : Nat) (x : Scalar) : (s.setSca n x).sca n = x := by
  simp [State.sca, State.setSca]

@[simp] theorem State.die_setDie (s : State) (d : Nat) (x : Die) : (s.setDie d x).die d = x := by
  simp [State.die, State.setDie, tget_tput_same]

@[simp] theorem State.core_wr (s : State) (r : Reg) (v : BitVec 64) (kk : Nat) : (s.wr r v).core kk = s.core kk := rfl
@[simp] theorem State.ope_wr (s : State) (r : Reg) (v : BitVec 64) (kk : Nat) : (s.wr r v).ope kk = s.ope kk := rfl
@[simp] theorem State.ve_wr (s : State) (r : Reg) (v : BitVec 64) (kk : Nat) : (s.wr r v).ve kk = s.ve kk := rfl
@[simp] theorem State.sca_wr (s : State) (r : Reg) (v : BitVec 64) (kk : Nat) : (s.wr r v).sca kk = s.sca kk := rfl
@[simp] theorem State.que_wr (s : State) (r : Reg) (v : BitVec 64) (kk jj : Nat) : (s.wr r v).que kk jj = s.que kk jj := rfl
@[simp] theorem State.core_setF (s : State) (r : Reg) (f : Fld) (x : Nat) (kk : Nat) : (s.setF r f x).core kk = s.core kk := rfl
@[simp] theorem State.ope_setF (s : State) (r : Reg) (f : Fld) (x : Nat) (kk : Nat) : (s.setF r f x).ope kk = s.ope kk := rfl
@[simp] theorem State.ve_setF (s : State) (r : Reg) (f : Fld) (x : Nat) (kk : Nat) : (s.setF r f x).ve kk = s.ve kk := rfl
@[simp] theorem State.sca_setF (s : State) (r : Reg) (f : Fld) (x : Nat) (kk : Nat) : (s.setF r f x).sca kk = s.sca kk := rfl
@[simp] theorem State.que_setF (s : State) (r : Reg) (f : Fld) (x : Nat) (kk jj : Nat) : (s.setF r f x).que kk jj = s.que kk jj := rfl
@[simp] theorem State.core_bumpF (s : State) (r : Reg) (f : Fld) (kk : Nat) : (s.bumpF r f).core kk = s.core kk := rfl
@[simp] theorem State.ope_bumpF (s : State) (r : Reg) (f : Fld) (kk : Nat) : (s.bumpF r f).ope kk = s.ope kk := rfl
@[simp] theorem State.ve_bumpF (s : State) (r : Reg) (f : Fld) (kk : Nat) : (s.bumpF r f).ve kk = s.ve kk := rfl
@[simp] theorem State.sca_bumpF (s : State) (r : Reg) (f : Fld) (kk : Nat) : (s.bumpF r f).sca kk = s.sca kk := rfl
@[simp] theorem State.que_bumpF (s : State) (r : Reg) (f : Fld) (kk jj : Nat) : (s.bumpF r f).que kk jj = s.que kk jj := rfl
@[simp] theorem State.core_setDie (s : State) (d : Nat) (x : Die) (kk : Nat) : (s.setDie d x).core kk = s.core kk := rfl
@[simp] theorem State.ope_setDie (s : State) (d : Nat) (x : Die) (kk : Nat) : (s.setDie d x).ope kk = s.ope kk := rfl
@[simp] theorem State.ve_setDie (s : State) (d : Nat) (x : Die) (kk : Nat) : (s.setDie d x).ve kk = s.ve kk := rfl
@[simp] theorem State.sca_setDie (s : State) (d : Nat) (x : Die) (kk : Nat) : (s.setDie d x).sca kk = s.sca kk := rfl
@[simp] theorem State.que_setDie (s : State) (d : Nat) (x : Die) (kk jj : Nat) : (s.setDie d x).que kk jj = s.que kk jj := rfl
@[simp] theorem State.core_setMem (s : State) (m : List Host.Cell) (kk : Nat) : (s.setMem m).core kk = s.core kk := rfl
@[simp] theorem State.ope_setMem (s : State) (m : List Host.Cell) (kk : Nat) : (s.setMem m).ope kk = s.ope kk := rfl
@[simp] theorem State.ve_setMem (s : State) (m : List Host.Cell) (kk : Nat) : (s.setMem m).ve kk = s.ve kk := rfl
@[simp] theorem State.sca_setMem (s : State) (m : List Host.Cell) (kk : Nat) : (s.setMem m).sca kk = s.sca kk := rfl
@[simp] theorem State.que_setMem (s : State) (m : List Host.Cell) (kk jj : Nat) : (s.setMem m).que kk jj = s.que kk jj := rfl
@[simp] theorem State.core_event (s : State) (isl code : Nat) (pl : List (Nat × Nat)) (kk : Nat) : (s.event isl code pl).core kk = s.core kk := rfl
@[simp] theorem State.ope_event (s : State) (isl code : Nat) (pl : List (Nat × Nat)) (kk : Nat) : (s.event isl code pl).ope kk = s.ope kk := rfl
@[simp] theorem State.ve_event (s : State) (isl code : Nat) (pl : List (Nat × Nat)) (kk : Nat) : (s.event isl code pl).ve kk = s.ve kk := rfl
@[simp] theorem State.sca_event (s : State) (isl code : Nat) (pl : List (Nat × Nat)) (kk : Nat) : (s.event isl code pl).sca kk = s.sca kk := rfl
@[simp] theorem State.que_event (s : State) (isl code : Nat) (pl : List (Nat × Nat)) (kk jj : Nat) : (s.event isl code pl).que kk jj = s.que kk jj := rfl
@[simp] theorem State.core_send (s : State) (src dst : Nat) (e : CrossEntry) (kk : Nat) : (s.send src dst e).core kk = s.core kk := rfl
@[simp] theorem State.ope_send (s : State) (src dst : Nat) (e : CrossEntry) (kk : Nat) : (s.send src dst e).ope kk = s.ope kk := rfl
@[simp] theorem State.ve_send (s : State) (src dst : Nat) (e : CrossEntry) (kk : Nat) : (s.send src dst e).ve kk = s.ve kk := rfl
@[simp] theorem State.sca_send (s : State) (src dst : Nat) (e : CrossEntry) (kk : Nat) : (s.send src dst e).sca kk = s.sca kk := rfl
@[simp] theorem State.que_send (s : State) (src dst : Nat) (e : CrossEntry) (kk jj : Nat) : (s.send src dst e).que kk jj = s.que kk jj := rfl
@[simp] theorem State.core_changed (s : State) (k : Nat) (kk : Nat) : (s.changed k).core kk = s.core kk := rfl
@[simp] theorem State.ope_changed (s : State) (k : Nat) (kk : Nat) : (s.changed k).ope kk = s.ope kk := rfl
@[simp] theorem State.ve_changed (s : State) (k : Nat) (kk : Nat) : (s.changed k).ve kk = s.ve kk := rfl
@[simp] theorem State.sca_changed (s : State) (k : Nat) (kk : Nat) : (s.changed k).sca kk = s.sca kk := rfl
@[simp] theorem State.que_changed (s : State) (k : Nat) (kk jj : Nat) : (s.changed k).que kk jj = s.que kk jj := rfl
@[simp] theorem State.core_edge (s : State) (i k : Nat) : (s.edge i).core k = s.core k := by
  simp only [State.core, State.edge_cores]
@[simp] theorem State.ope_edge (s : State) (i k : Nat) : (s.edge i).ope k = s.ope k := by
  simp only [State.ope, State.core, State.edge_cores]
@[simp] theorem State.ve_edge (s : State) (i k : Nat) : (s.edge i).ve k = s.ve k := by
  simp only [State.ve, State.core, State.edge_cores]
@[simp] theorem State.sca_edge (s : State) (i k : Nat) : (s.edge i).sca k = s.sca k := by
  simp only [State.sca, State.core, State.edge_cores]
@[simp] theorem State.que_edge (s : State) (i k j : Nat) : (s.edge i).que k j = s.que k j := by
  simp only [State.que, State.core, State.edge_cores]

end Sys2Proof.Machine
end

