-- ==== Sys2Proof/Laws/Ops.lean ====
section
/-! SUPPORT. One lemma for each shared operation over tokens, stall counters and tile memory: the fields of the state that it
can change, with all others as they were. -/

namespace Sys2Proof.Machine

/-- An edge of an interrupt source changes registers (R366). -/
theorem State.edge_eq (s : State) (i : Nat) : s.edge i = { s with regs := (s.edge i).regs } := by
  unfold State.edge
  simp only
  split
  · rfl
  · split <;> rfl

/-- A count added to a token changes registers and, past saturation, raises an event (R177). -/
theorem State.tokAdd_eq (s : State) (t : Tok) (n : Nat) :
    s.tokAdd t n = { s with regs := (s.tokAdd t n).regs, evq := (s.tokAdd t n).evq } := by
  unfold State.tokAdd
  by_cases h : s.tokCount t + n ≤ 65535
  · simp only [h, if_true]; rfl
  · simp only [h, if_false]; rfl

/-- A token gives counts exactly where its count covers them, and only registers change (R177). -/
theorem State.tokTake_eq_some (s u : State) (t : Tok) (n : Nat) (h : s.tokTake t n = some u) :
    n ≤ s.tokCount t ∧ u = s.setF (tokReg t) F.TOK_CNT_count (s.tokCount t - n) ∧ u = { s with regs := u.regs } := by
  unfold State.tokTake at h
  split at h
  · cases h; exact ⟨‹_›, rfl, rfl⟩
  · cases h

/-- A signal changes registers and raises an event, or enters a crossing (R179). -/
theorem State.signal_eq (s : State) (n : Nat) (t : Tok) (k : Nat) :
    s.signal n t k = { s with
      regs := (s.signal n t k).regs, evq := (s.signal n t k).evq, cross := (s.signal n t k).cross } := by
  unfold State.signal
  split
  · rw [State.tokAdd_eq]
  · rfl

/-- A wait at its turn changes registers, waits, grants and crossings (R178, R179). -/
theorem State.serveWait_eq (s : State) (w : Wait) :
    s.serveWait w = { s with
      regs := (s.serveWait w).regs, waits := (s.serveWait w).waits, grants := (s.serveWait w).grants
      cross := (s.serveWait w).cross } := by
  unfold State.serveWait
  split
  · rfl
  · obtain ⟨-, -, hu⟩ := State.tokTake_eq_some _ _ _ _ ‹_›
    rw [hu]
    simp only
    split <;> rfl

/-- So do all waits of a token, served in requester order (R178). -/
theorem State.serveToken_eq (s : State) (t : Tok) :
    s.serveToken t = { s with
      regs := (s.serveToken t).regs, waits := (s.serveToken t).waits, grants := (s.serveToken t).grants
      cross := (s.serveToken t).cross } := by
  unfold State.serveToken
  generalize inOrder _ = ws
  induction ws generalizing s with
  | nil => rfl
  | cons w ws ih =>
    rw [List.foldl_cons, ih (s.serveWait w), State.serveWait_eq s w]

/-- One attempt of a wait changes registers, waits, grants and crossings (R177 to R179). -/
theorem State.tokWaitAt_eq (s : State) (isl req : Nat) (t : Tok) (c : Nat) :
    (s.tokWaitAt isl req t c).1 = { s with
      regs := (s.tokWaitAt isl req t c).1.regs, waits := (s.tokWaitAt isl req t c).1.waits
      grants := (s.tokWaitAt isl req t c).1.grants, cross := (s.tokWaitAt isl req t c).1.cross } := by
  unfold State.tokWaitAt
  simp only
  split
  · rfl
  split
  · rfl
  split
  · rfl
  split
  · rw [State.serveToken_eq]
    split <;> split <;> rfl
  · split <;> rfl

/-- The running wait of an engine stands in its core (R158). -/
theorem State.lateStep_eq (s : State) (e : Eng) (n k : Nat) (w : Bool) :
    s.lateStep e n k w = { s with cores := (s.lateStep e n k w).cores } := by
  cases e <;> rfl

/-- Stall cycles change registers and the running wait of the engine (R157, R158). -/
theorem State.stalls_eq (s : State) (e : Eng) (n c k : Nat) :
    s.stalls e n c k = { s with regs := (s.stalls e n c k).regs, cores := (s.stalls e n c k).cores } := by
  unfold State.stalls
  simp only
  split
  · rw [State.lateStep_eq]
  · rw [State.lateStep_eq]; rfl
theorem State.stall_eq (s : State) (e : Eng) (n c : Nat) :
    s.stall e n c = { s with regs := (s.stall e n c).regs, cores := (s.stall e n c).cores } := s.stalls_eq e n c 1

/-- Errors met by partial writes are counted in registers (R129). -/
theorem State.partWords_eq (s : State) (ws : List Nat) : s.partWords ws = { s with regs := (s.partWords ws).regs } := by
  unfold State.partWords
  induction ws generalizing s with
  | nil => rfl
  | cons w ws ih => rw [List.foldl_cons, ih]; rfl

/-- A write to tile memory changes its bytes, the error state of the words it covers, and the error registers (R30, R129). -/
theorem State.tmWrite_eq (s : State) (n off : Nat) (bs : List Byte) :
    s.tmWrite n off bs = { s with
      mem := writeBytes s.mem (slotBase n + off) (bs.take (slotSize - off))
      badWords := clearWords s.badWords (slotBase n + off) (bs.take (slotSize - off)).length
      regs := (s.tmWrite n off bs).regs } := by
  unfold State.tmWrite
  simp only
  rw [State.partWords_eq]

/-- A write to tile memory leaves every byte outside it as it was, and stores its own (R30). -/
theorem State.cget_tmWrite (s : State) (n off : Nat) (bs : List Byte) (k : Nat) :
    cget (s.tmWrite n off bs).mem k =
      if slotBase n + off ≤ k ∧ k < slotBase n + off + (bs.take (slotSize - off)).length then
        (bs.take (slotSize - off)).getD (k - (slotBase n + off)) 0
      else cget s.mem k := by
  rw [State.tmWrite_eq, cget_writeBytes]

/-- A write to tile memory keeps the canonical form (R197). -/
theorem State.wf_tmWrite (s : State) (n off : Nat) (bs : List Byte) (h : Memory.wf s.mem) : Memory.wf (s.tmWrite n off bs).mem := by
  rw [State.tmWrite_eq]
  exact wf_writeBytes h _ _

/-- Single bytes written change memory, the error state of words, and the error registers (R129). -/
theorem State.putCells_eq (s : State) (cs : List Host.Cell) :
    s.putCells cs = { s with
      mem := writeCells s.mem cs, badWords := (s.putCells cs).badWords, regs := (s.putCells cs).regs } := by
  unfold State.putCells
  simp only
  rw [State.partWords_eq]

/-- A counter bumped once for each of some words changes registers. -/
theorem State.bumps_eq (s : State) (r : Reg) (f : Fld) (ws : List Nat) :
    ws.foldl (fun (s : State) _ => s.bumpF r f) s = { s with regs := (ws.foldl (fun (s : State) _ => s.bumpF r f) s).regs } := by
  induction ws generalizing s with
  | nil => rfl
  | cons w ws ih => rw [List.foldl_cons, ih]; rfl

/-- What a read of tile memory finds changes registers and the error state of words (R129). -/
theorem State.tmCheck_eq (s : State) (n off len : Nat) (e : Ecc) :
    (s.tmCheck n off len e).1 = { s with
      regs := (s.tmCheck n off len e).1.regs, badWords := (s.tmCheck n off len e).1.badWords } := by
  unfold State.tmCheck
  simp only
  generalize (List.eraseDups (_ : List Nat)) = ws
  generalize hu : (if e = .single then s.bumpF (reg0 .TM_ECC_STATUS n) F.TM_ECC_STATUS_corrected else s) = u
  have hs : u = { s with regs := u.regs } := by rw [← hu]; split <;> rfl
  split
  · rfl
  split
  · rw [hs]
  · rw [State.edge_eq, State.bumps_eq, hs]
    rfl

/-- The read of a word written in part changes an error counter or the error state of the word (R129). -/
theorem State.partErr_eq (s : State) (e : Ecc) (ws : List Nat) :
    s.partErr e ws = { s with regs := (s.partErr e ws).regs, badWords := (s.partErr e ws).badWords } := by
  unfold State.partErr
  split
  · rfl
  · cases e <;> rfl

/-- A write to tile memory that meets an error stores the same bytes (R129). -/
theorem State.tmWriteE_eq (s : State) (n off : Nat) (bs : List Byte) (e : Ecc) :
    s.tmWriteE n off bs e = { s with
      mem := writeBytes s.mem (slotBase n + off) (bs.take (slotSize - off))
      badWords := (s.tmWriteE n off bs e).badWords, regs := (s.tmWriteE n off bs e).regs } := by
  unfold State.tmWriteE
  simp only
  rw [State.tmWrite_eq, State.partErr_eq]

/-- Single bytes written that meet an error are stored all the same (R129). -/
theorem State.putCellsE_eq (s : State) (cs : List Host.Cell) (e : Ecc) :
    s.putCellsE cs e = { s with
      mem := writeCells s.mem cs, badWords := (s.putCellsE cs e).badWords, regs := (s.putCellsE cs e).regs } := by
  unfold State.putCellsE
  simp only
  rw [State.putCells_eq, State.partErr_eq]

end Sys2Proof.Machine
end

