-- ==== Sys2Proof/Tests/Slice0.lean ====
section
/-! SUPPORT. Tests: for each statement, states and operands that meet the hypotheses of its clauses; terms that WellFormed refuses; and
results of single commands that the spec states. -/

namespace Sys2Proof.Tests
open Sys2Proof.Machine
set_option Elab.async false
set_option synthInstance.maxSize 1000
set_option synthInstance.maxHeartbeats 400000

/-- A module that runs: the boot sequence is over, every clock runs, the mode is RUNNING. -/
def up : State :=
  let s := { State.reset with
    clk := { State.reset.clk with stopped := [] }
    rst := { State.reset.rst with waiting := false, booted := true, lost := false } }
  s.setF (reg0 .PCI_MBX_GLOBAL 0) F.PCI_MBX_GLOBAL_mode 1

/-- The outer-product and vector engines of core 5 with a few cells and one generator, all its other parts at reset. -/
def core5 : Core :=
  { Core.reset 5 with
    ope := { Ope.reset 0 with
      main := [⟨3, false, false⟩, ⟨5, true, false⟩], shadow := [⟨7, false, false⟩], gut0 := [⟨1, 2⟩, ⟨3, 4⟩]
      gut1 := [⟨1, 2⟩, ⟨3, 4⟩], gens := [⟨1, 2, 3, 4⟩] }
    ve := { Ve.reset 0 with gens := [⟨1, 2, 3, 4⟩] } }

/-- The same with core 5 as above. -/
def up5 : State := { up with cores := [(5, core5)] }

/-- A queue entry that holds an instruction word. -/
def word (w pc : Nat) : QEnt := ⟨pc, leBytes w 16, 0⟩

/-- Core 5 with an open tile, one that waits to be copied, and so on: an empty tile of the first shape. -/
def tile : Tile := ⟨0, 0, 0, 0, 0, none, [], [], true, true, 0, 0, 255, 255⟩

/-- The outer-product engine of core 5 RUNNING with two words in its queue, of which `q` is the first. -/
def opeAt (q : QEnt) (t : Option Tile := none) : State :=
  let s := ((up5.setPc false 5 64).setF (endReg false 5) F.OPE_PC_END_end 4096).setEngSt false 5 1
  let s := (s.setF (tokReg ⟨0, 5, 5⟩) F.TOK_CNT_count 9).setF (reg1 .OPE_DRAIN 5 0) F.OPE_DRAIN_stride_lines 8
  let s := (s.setF (reg1 .OPE_RING 5 0) F.OPE_RING_len_rows 4).setF (reg1 .OPE_RING 5 1) F.OPE_RING_len_rows 8
  s.setOpe 5 { s.ope 5 with
    st := { (s.ope 5).st with q := [q, word 0 80], bpc := 80 }, tile := t, out := [3], nextId := 4, late := 5 }

/-- Registers at non-reset values, entries in a crossing, a wait, a mapped step token. -/
def busy : State :=
  { up.setF (reg1 .CP_CORE_REMAP 0 5) F.CP_CORE_REMAP_state 2 with
    cross := [(5 * 128 + 88, [.signal ⟨4, 0, 3⟩ 9]), (5 * 128 + 89, [.wait ⟨⟨4, 0, 3⟩, 80, 5⟩]),
      (88 * 128 + 5, [.grant ⟨⟨4, 0, 3⟩, 80, 5⟩])]
    stepMap := [(7, 3)] }

/-- One wait for five of a token that holds `k`. -/
def waits (k : Nat) : State :=
  { up.setF (tokReg ⟨0, 5, 3⟩) F.TOK_CNT_count k with waits := [⟨⟨0, 5, 3⟩, 80, 5⟩] }

/-- The register aperture of the host at the first window. -/
def apertureAt (a : Nat) : State := up.setF (reg0 .PCI_REG_APERTURE 0) F.PCI_REG_APERTURE_base_hi (a / 0x800000)

def stopped (is : List Nat) (s : State) : State := { s with clk := { s.clk with stopped := is } }

/-- A member of a job of two, with a mapped step token. -/
def inJob : State :=
  { up with fab := { up.fab with id := 20 }, members := { up.members with ids := [20, 30] }, stepMap := [(7, 3)] }

/-- Core 5 inside a loop that has `r` iterations left, its last word at 64. -/
def inLoop (r : Nat) (q : QEnt) : State := (opeAt q).pushLoop false 5 r 32 64

/-- Two pending signals, the first of which waits for the records below `u`. -/
def signals (u : Nat) : State := up5.setOpe 5 { up5.ope 5 with sigs := [⟨5, 3, u⟩, ⟨5, 1, 9⟩], out := [3] }

/-- A PASS word: row count, begin, end, bias, slot, spill period, formats and shape, the last active row. -/
def passWord (k b e : Nat) (bias slot : Nat := 0) (spill : Nat := 8) (fl : Nat := 0) (shape : Nat := 0) (ma : Nat := 255) : Nat :=
  1 + shape * 2 ^ 8 + fl * 2 ^ 10 + fl * 2 ^ 14 + b * 2 ^ 18 + e * 2 ^ 19 + bias * 2 ^ 20 + slot * 2 ^ 21 + k * 2 ^ 24 + spill * 2 ^ 40 +
    2 ^ 59 + ma * 2 ^ 104 + 255 * 2 ^ 112

/-- A pass of `k` steps that ends its tile where `e` is 1, at step `t`. -/
def pass (k e t : Nat) : Run :=
  { id := 3, pc := 64, word := BitVec.ofNat 128 (passWord k 1 e), t := t, steps := max k 1, empty := k = 0
    ringL := 0x40000, ringR := 0, scaleL := 0, scaleR := 0, groupsL := 0, groupsR := 0, flags := 0, bp := 0, feed := 0, thr := 0 }

/-- Core 5 with its outer-product engine changed. -/
def ope5 (f : Ope → Ope) : State := let s := opeAt (word 0 64); s.setOpe 5 (f (s.ope 5))

/-- The pass above runs on an open tile, `g` changing the pass and `f` the tile. -/
def passing (k e t : Nat) (f : Tile → Tile := id) (g : Run → Run := id) : State :=
  ope5 (fun o => { o with run := some (g (pass k e t)), tile := some (f tile) })

/-- A tile that drains, `rows` rows left. -/
def draining (rows : Nat) : Drain :=
  ⟨fset (fset 0 F.OPE_DRAIN_dest_line 5) F.OPE_DRAIN_stride_lines 8,
    fset (fset 0 F.OPE_DRAIN_EXT_tok_en 1) F.OPE_DRAIN_EXT_drain_tok 5, tile, false, rows, cplOf 3 0 1 0 0 0, 64, 0, [⟨9, false, false⟩]⟩

/-- A CELLWISE word with immediate operands, waiting. -/
def cellwiseAt : State :=
  ope5 (fun o => { o with
    cw := some (word (4 + 3 * 256 + 3 * 1024 + 2 ^ 32 * 0x40400000 + 2 ^ 64 * 0x3F800000) 64), tile := some tile })

/-- A save area at line 640. -/
def save : Save := ⟨640, true, false, false, 3, 64⟩

/-- A resume from that area, whose second header word is `w`. -/
def resumeFrom (w : Nat) : State :=
  let s := ope5 (fun o => { o with resume := some save })
  s.tmWrite 5 (640 * 128) (List.replicate 0x80 0 ++ leBytes 0x0003000200050007 8 ++ leBytes w 8)

/-- Both feeders of a pass wait for tokens, the right one for token 5. -/
def bothFeeds (r : Run) : Run :=
  { r with ringL := fset r.ringL F.OPE_RING_feed_en 1, ringR := fset (fset r.ringR F.OPE_RING_feed_en 1) F.OPE_RING_feed_tok 5 }

/-- A pass whose last step issued now, throttled to one step in four cycles. -/
def throttled4 : State :=
  let s := passing 4 0 1
  (s.setOpe 5 { s.ope 5 with lastShape := some 0, lastIssue := (s.ope 5).cyc }).setF (reg0 .OPE_THROTTLE 5) F.OPE_THROTTLE_period 4

/-- The vector engine of core 5 RUNNING at 64 with a few registers written, `f` changing it. -/
def ve5 (f : Ve → Ve) : State :=
  let s := ((up5.setPc true 5 64).setF (endReg true 5) F.OPE_PC_END_end 4096).setEngSt true 5 1
  s.setVe 5 (f { s.ve 5 with
    a := [(2, 20)], p := [(3, [true, false, true])], v := [(1, [1, 2, 0xBF800000]), (9, [7, 8, 9])], w := [(1, [⟨5, 0⟩])]
    cyc := 12, seq := 4, gens := [⟨1, 2, 3, 4⟩, ⟨5, 6, 7, 8⟩] })

/-- A bundle at the head of its queue. -/
def bundle (bs : List Byte) : State :=
  ve5 (fun e => { e with st := { e.st with q := [⟨64, bs, 0⟩, ⟨70, [0, 0], 0⟩], bpc := 72 } })

/-- A header and one syllable. -/
def syllable (h w : Nat) : List Byte := leBytes h 2 ++ leBytes w 4

/-- One operation in flight, due now. -/
def landing (a : VAct) : State :=
  let s := ve5 (fun e => { e with pend := [⟨12, 3, 60, 1, a⟩], data := [(35, [1, 2, 3, 4, 5])] })
  { s with mem := [(slotBase 5 + 2560, 9), (slotBase 5 + 2561, 8), (slotBase 5 + 2600, 1)] }

/-- A bundle while a load step ramps; one that signals a token while a store is still to write. -/
def inLoadstep : State :=
  (bundle (syllable (2 + 64) (5 * 2 ^ 9 + 1 * 2 ^ 15 + 66 * 2 ^ 22))).setF (reg0 .PWR_STATUS 0) F.PWR_STATUS_loadstep 1

def storing5 : State :=
  let s := bundle (syllable (32 + 64) (7 + 5 * 64 + 3 * 2 ^ 15))
  s.setVe 5 { s.ve 5 with stored := 13 }

/-- A descriptor from its fields, each a lowest bit and a value. -/
def desc (fs : List (Nat × Nat)) : Nat := (fs.map (fun f => f.2 * 2 ^ f.1)).sum

/-- The first byte of the tile memory of core 5. -/
def tm5 : Nat := slotBase 5

/-- One descriptor of each operation; the index tables of GATHER and SCATTER lie at `tm5` + `i`. -/
def copyDesc : Nat := desc [(0, 1), (64, tm5 + 4096), (128, slotBase 9 + 640), (256, 1), (272, 100)]

def panelDesc : Nat :=
  desc [(0, 2), (32, 1), (64, tm5 + 4096), (128, tm5 + 8192), (224, 2), (256, 1), (272, 2), (448, 0), (464, 8)]

def gatherDesc (i : Nat) : Nat :=
  desc [(0, 3), (64, tm5 + 4096), (128, tm5 + 8192), (192, 128), (256, 1), (272, 10), (320, tm5 + i)]

def scatterDesc (i : Nat) : Nat :=
  desc [(0, 4), (64, tm5 + 4096), (128, tm5 + 8192), (192, 128), (256, 1), (272, 10), (320, tm5 + i)]

def chainDesc : Nat := desc [(0, 5), (64, tm5), (256, 2)]

/-- Queue 3 of core 5 BUSY, `f` changing it; index words 3, skip and 11 at the start of tile memory. -/
def queue5 (f : MQueue → MQueue) : State :=
  let s := (up5.setQ 5 3 F.MOV_Q_HEAD_state 1).wr (reg0 .MOV_CTRL 5) 0xFF
  let s := (s.setF (reg1 .MOV_Q_BASE 5 3) F.MOV_Q_BASE_size 4).setF (reg1 .MOV_Q_CFG 5 3) F.MOV_Q_CFG_max_out_m1 63
  let s := (s.setF (reg1 .MOV_Q_TAIL 5 3) F.MOV_Q_TAIL_tail 3).setF (reg1 .MOV_Q_CFG 5 3) F.MOV_Q_CFG_burst_m1 1
  let s := { s with mem := [(tm5, 3), (tm5 + 64, 255), (tm5 + 65, 255), (tm5 + 66, 255), (tm5 + 67, 255), (tm5 + 128, 11), (tm5 + 4096, 7)] }
  let s := s.wr (purCfg 0) (fset (fset (fset (fset 0 F.PUR_DIE_CFG_enable 1) F.PUR_DIE_CFG_source 1) F.PUR_DIE_CFG_members 0xE0)
    F.PUR_DIE_CFG_head 5)
  s.setQue 5 3 (f .reset)

/-- Descriptors fetched, and one started from which nothing has issued. -/
def fetched (d : Nat) : State := queue5 (fun q => { q with fetched := [(65535, d), (0, 0)] })

def started (d : Nat) : State := queue5 (fun q => { q with started := [MDesc.fresh 4 d] })

/-- The same queue in another state; a cancelled one that waits for its acknowledgement. -/
def queueIn (st : Nat) : State := (queue5 id).setQ 5 3 F.MOV_Q_HEAD_state st

def cancelling : State := (queue5 (fun q => { q with cancelTail := 3, cut := 70000, undone := 5 })).setQ 5 3 F.MOV_Q_HEAD_state 3

/-- Core 5 with late weights due and its scrubber at the last line. -/
def late5 : State :=
  (up5.setF (reg0 .MOV_LATE_BUDGET 5) F.MOV_LATE_BUDGET_budget 7).setCore 5 { core5 with movLate := 7, scrub := 196607 }

/-- A page on its way in the chain of die 0, at core `c`, flit `f`; core 6 keeps pages. -/
def chainAt (c f : Nat) (acc : List Nat) (fails : Nat := 0) : State :=
  let s := (up.setF (reg0 .PUR_CORE_CFG 6) F.PUR_CORE_CFG_keep 1).setF (reg0 .PUR_CORE_CFG 6) F.PUR_CORE_CFG_free_tok 3
  let s := s.setF (reg0 .PUR_CORE_CFG 6) F.PUR_CORE_CFG_rx_tok 4
  s.setDie 0 ⟨[⟨7, [(5, 9), (300, 8)], false, [(c, f)], acc, []⟩], [(6, fails)], .reset⟩

/-- The same while a wait that the cancellation withdrew is not answered yet. -/
def withdrawing : State := { cancelling with withdrawn := [⟨⟨1, 0, 3⟩, reqId 5 7, 2⟩] }

/-- The scalar processor of core 5 running at 0x100, `f` changing it. -/
def sca5 (f : Scalar → Scalar) : State :=
  let s := (up5.setF (tokReg ⟨0, 5, 7⟩) F.TOK_CNT_count 3).setF (reg1 .MOV_Q_BASE 5 3) F.MOV_Q_BASE_size 4
  s.setSca 5 (f { s.sca 5 with
    held := false, pc := 0x100, toksel := 7, qsel := 3, x := [(6, 0x10010), (7, 0xFFFFFFF0), (8, 0x10001)]
    dmem := [(0x10, 1), (0x13, 0x80), (0x40, 9)], mtvec := 0x200, mepc := 0x300, mpie := true })

/-- An instruction word at the pc. -/
def instr (w : Nat) : State := sca5 (fun x => { x with imem := writeBytes [] 0x100 (leBytes w 4) })

/-- An instruction word from its fields. -/
def rv (f7 rs2 rs1 f3 rd op : Nat) : Nat := op + rd * 2 ^ 7 + f3 * 2 ^ 12 + rs1 * 2 ^ 15 + rs2 * 2 ^ 20 + f7 * 2 ^ 25

/-- Source `i` pending at priority `p` for the scalar processor and the control processors. -/
def pend (i p : Nat) (s : State) : State :=
  s.wr (srcReg i) (fset (fset (fset (fset 0 F.ICU_SRC_pending 1) F.ICU_SRC_prio p) F.ICU_SRC_to_scalar 1) F.ICU_SRC_to_cp 1)

/-- A hold-off set for group 2 and an alarm armed; claims held by core 5. -/
def icu : State :=
  (up5.setF (reg1 .ICU_GROUP 0 2) F.ICU_GROUP_holdoff 50).setF (reg1 .ICU_ALARM_CTL 0 2) F.ICU_ALARM_CTL_armed 1

def claimed (cs : List Nat) : State := { icu with claims := [(5, cs)] }

/-- Three bytes at a burst of chunk 5 of pseudo-channel 77, and two poisoned bursts. -/
def chunk5 : Nat := chunkAddr 77 5

def stacked : State := { up with mem := [(chunk5, 3), (chunk5 + 64, 7), (chunk5 + 72, 9)] }

def poisoned (bs : List Nat) (s : State) : State := { s with poison := bs }

def request (o : Nat) (w : Option (List Byte)) : HReq := ⟨0, BitVec.ofNat 41 (chunk5 + o), w, 0, .host⟩

/-- Pseudo-channel 77 in state `x` with its copy pointer at `p` and one retirement. -/
def tried (k : Nat) : State := up.setChan 77 { HChan.reset with tries := k }

def channel (x p : Nat) : State :=
  let s := (up.setF (chReg 77) F.HBM_CH_STATE_state x).setF (chReg 77) F.HBM_CH_STATE_copy_ptr p
  { s with hbm := { s.hbm with retires := [⟨77, 3, false, [], [1, 2]⟩] } }

/-- The window of die 1: a schedule of four records at 0x1000, the second of one run of one far page, `f` changing its streamer. -/
def window (st : Nat) (f : WinSt → WinSt) : State :=
  let s := up.setWin 1 (f { (up.win 1) with base := 0x400000, pages := 16 })
  let s := (s.setF (reg0 .WIN_SCHED 1) F.WIN_SCHED_sched_base 0x1000).setF (reg0 .WIN_SCHED 1) F.WIN_SCHED_sched_count 4
  let s := (s.setF (reg0 .WIN_WINDOW 1) F.WIN_WINDOW_base_hi 2).setF (reg0 .WIN_WINDOW 1) F.WIN_WINDOW_pages 16
  let s := (s.setF (reg0 .WIN_CTRL 1) F.WIN_CTRL_ready_tok 194).setF (reg0 .WIN_CTRL 1) F.WIN_CTRL_rel_tok 195
  let s := (s.setF (reg0 .WIN_STATUS 1) F.WIN_STATUS_next_q 21).setF (reg0 .WIN_STATUS 1) F.WIN_STATUS_record 2
  let s := s.wr (reg1 .CXL_HDM 0 0) (fset (fset 0 F.CXL_HDM_enable 1) F.CXL_HDM_size_hi 16)
  let s := s.wr (purCfg 1) (fset (fset (fset 0 F.PUR_DIE_CFG_enable 1) F.PUR_DIE_CFG_members 0xE0) F.PUR_DIE_CFG_head 5)
  let s := (s.setF (reg0 .WIN_CTRL 1) F.WIN_CTRL_enable (min 1 st)).setF (reg0 .WIN_STATUS 1) F.WIN_STATUS_state st
  let m := writeBytes [] 0x1040 (leBytes (1 + 2 ^ 16 + 7 * 2 ^ 32 + 0x2000 * 2 ^ 64) 32)
  { s with mem := writeBytes m 0x2000 (leBytes (0x1000000040000 + 2 ^ 64) 16) }

/-- A layer of one far page whose page has been asked for. -/
def layer (w : WinSt) : WinSt := { w with layers := [⟨7, true, 21, [(0x1000000040000, 1)], 1, 0, true⟩] }

/-- Slot 5 of the window in a state; a poisoned page of it on its `k`-th source. -/
def slot5 (st : Nat) : State := (window 1 layer).setSlot 1 5 st

def retrying (k : Nat) : State := (window 1 (fun w => { (layer w) with retry := [(5, k)] })).setSlot 1 5 4

/-- Far-tier port 2 in a state, one decoder naming it; a request in flight there after `n` timeouts. -/
def farPort2 (st : Nat) (x : Cxl := .reset) : State :=
  let s := (up.setCxl 2 x).setF (reg0 .CXL_STATUS 3) F.CXL_STATUS_state st
  (s.wr (reg1 .CXL_HDM 0 0) (fset (fset (fset 0 F.CXL_HDM_enable 1) F.CXL_HDM_size_hi 16) F.CXL_HDM_ways 1)).wr (reg1 .CXL_HDM_TGT 0 0)
    0b1010

def inFlight (w : Bool) (n : Nat) : Cxl := { Cxl.reset with fly := [⟨.firmware, 0x1000000040000, w, 1⟩], late := n }

/-- The same page with a replica in the far tier. -/
def replicated : State :=
  let s := (retrying 1).setF (reg1 .WIN_REPLICA_SIZE 1 0) F.WIN_REPLICA_SIZE_size 0x100000
  s.setF (reg1 .WIN_REPLICA_ALT 1 0) F.WIN_REPLICA_ALT_alt_offset 0x80000

/-- One bucket of 512 elements, closed or not, reduced or not. -/
def bucket (cl rd : Bool) : Bucket :=
  { base := 0x200000, wide := false, elements := 512, tok := 259, sealCount := 2, localCount := if cl then 3 else 0, reducedCount := 0
    reducedBase := 0x400000, closed := cl, reduced := rd, run := 0 }

def unsealed : Bucket := { bucket true false with localCount := 0 }

/-- The part of the second member, of epoch `e`. -/
def partOf (e : Nat) : Part :=
  { bucket := 0, shard := 0, lo := 1, hi := 2, epoch := BitVec.ofNat 32 e, run := 0, empty := false, count := 3
    vals := List.replicate 256 0x40000000 }

/-- A commit record of step `n`. -/
def recordOf (n : Nat) : CommitRec := ⟨BitVec.ofNat 64 n, 4, 1, 1, 2, 0, 5, 6⟩

/-- Module 20 of the members `ids` in step 10 with buckets `bs`, `f` changing its step. -/
def training (bs : List Bucket) (ids : List Nat := [20, 30]) (f : Train → Train := id) : State :=
  let s := { up with
    fab := { up.fab with id := 20 }, members := { up.members with ids := ids, epoch := 4 }, mem := [(0x200001, 0x80), (0x200002, 0x3f)] }
  { s with train := f { s.train with buckets := bs, step := 10, plans := [(10, (4, []))], tables := [(2 ^ 64 - 1, bs)] } }

/-- The same with a durability table whose one tensor, 7, has its versions at 0x800000 and 0xA00000. -/
def withPolicy (b : Bucket) : State :=
  let s := training [b] [20, 30] (fun t => { t with replay := [(7, [])] })
  { s with surv := { s.surv with policy := zeros 64 ++ leBytes (7 + 0x800000 * 2 ^ 64 + 0xA00000 * 2 ^ 128 + 4096 * 2 ^ 192) 64 } }

/-- The capabilities that the far end sends. -/
def cap : Cap := ⟨33, 6, false, 1, 1, 0, 6, 1, 1, 5, 4⟩

def pairCap (feed : BitVec 16) : Cap := { cap with pairing := true, feed := feed }

def newerCap : Cap := { cap with protoMin := 2, protoMax := 3 }

def ownCap : Cap := { cap with id := 20 }

/-- Port `q` of module 20 in a state, on the lanes of a mask, `f` changing it. -/
def linkAt (q st : Nat) (lanes : Nat := 0) (f : Port → Port := id) : State :=
  let s := { up with fab := { up.fab with id := 20 } }
  (((s.setPort q (f (s.port q))).lnkF q F.LNK_STATUS_state st).setLanes q lanes lanes).wr (reg0 .LNK_CAP 11)
    (fset 0x00020101 F.LNK_CAP_feed_id 7)

/-- The header of a message of operation `op` from module 30 to module 20, and such a message queued. -/
def header (op : Nat) : MsgHdr := ⟨BitVec.ofNat 4 op, 0, true, 0, 1, 3, 0x10000, 0, 5, 9, 3, 2, 1, false, 30, 20⟩

def queued : TxMsg := ⟨header 1, [1, 2, 3], 0, some 4⟩

def quiet (op : Nat) : MsgHdr := { header op with wantComplete := false }

def elsewhere (op : Nat) : MsgHdr := { header op with addr := 0x90000 }

def toModule (n : Nat) : MsgHdr := { header 1 with dest := BitVec.ofNat 16 n }

def stepSignal : MsgHdr := { header 4 with wantComplete := false, target := 0x8123 }

/-- Port 6 ACTIVE on 8 lanes with credits, `f` changing it. -/
def live (f : Port → Port := id) : State :=
  ((linkAt 6 5 255 (fun x => f { x with aligned := true, slot := 4 })).setCredit 6 0 0 3).setCredit 6 1 1 9

/-- A DATA flit sent, and one received. -/
def sent (seq : Nat) : TxFlit := ⟨seq, 1, 0, true, 30, 20, [], none⟩

def flit (type seq : Nat) : Flit :=
  ⟨[⟨[1, 0, 0, 0, 0, 0, 0, 0], false⟩], flitBytes (type + 1 * 2 ^ 4 + seq * 2 ^ 8 + 20 * 2 ^ 32 + 30 * 2 ^ 48) (zeros 512)⟩

def groupFlit : Flit :=
  ⟨[], flitBytes (4 + 20 * 2 ^ 32 + 30 * 2 ^ 48) (leBytes groupMarker 8 ++ leBytes 7 4 ++ zeros 500)⟩

/-- A flit whose CRC is wrong, and one in a codeword that cannot be corrected. -/
def broken : Flit := ⟨[], zeros 527 ++ [1]⟩

def wrong : Flit := ⟨[⟨[16], false⟩], zeros 528⟩

/-- Eight lanes without errors, and eight of which three pass 10⁻⁴ errors. -/
def clean : List (BitVec 32 × BitVec 32) := List.replicate 8 (0, 10000)

/-- The fence pattern on four lanes. -/
def fencing4 : List (List Int) := List.replicate 4 (fencePeriod 0)

/-- The same with routes and a receive window of 0x1000 bytes at 0x10000, and one message whose answer `j` waits for. -/
def served (j : Option (Nat × Nat) := none) : State :=
  let s := live
  let s := s.wr (reg1 .LNK_ROUTE 0 1) (~~~(0xF#64 <<< 56) &&& (s.rd (reg1 .LNK_ROUTE 0 1)) ||| (2#64 <<< 56))
  let s := s.wr (reg1 .LNK_ROUTE 0 6) (~~~(0xFF#64 <<< 8) &&& (s.rd (reg1 .LNK_ROUTE 0 6)) ||| (9#64 <<< 12) ||| (7#64 <<< 8))
  let w := fset (fset (fset 0 F.LNK_RXWIN_base 0x10000) F.LNK_RXWIN_enable 1) F.LNK_RXWIN_get_allowed 1
  let s := (s.wr (reg1 .LNK_RXWIN 0 3) w).setF (reg1 .LNK_RXWIN_SIZE 0 3) F.LNK_RXWIN_SIZE_size 0x1000
  { s with mem := [(0x10001, 7)], fab := { s.fab with sent := [⟨4, 6, 1, 30, 9, true, 0x50000, 3, j, none⟩] } }

/-- Queues of port 6: one message in each of the sub-channels named. -/
def queues (ks : List Nat) : State := live (fun x => { x with vc := ks.map (fun k => (k, [queued])) })

/-- A message half received on port 6, whose receive direction stopped for a cause. -/
def receiving (cause : Nat) : State :=
  linkAt 6 5 255 (fun x => { x with aligned := true, rxStop := cause, open_ := [(2, header 1, [1, 2])] })

/-- A module in another mode. -/
def inMode (k : Nat) : State := up.setF (reg0 .PCI_MBX_GLOBAL 0) F.PCI_MBX_GLOBAL_mode k

/-- The first aperture on host memory. -/
def onHost : State := up.setF (reg1 .PCI_APERTURE 0 0) F.PCI_APERTURE_base_hi 0x200000

/-- A transfer of queue 3 of core 5 that waits for the host. -/
def hostRead : State :=
  let d := 0x1000 * 2 ^ 64 + (slotBase 5 + 64) * 2 ^ 128 + 100 * 2 ^ 272 + 1
  up5.setQue 5 3 { MQueue.reset with started := [{ (MDesc.fresh 4 d) with fly := [⟨0, 0, 0, 0, [], 0, true, d⟩] }] }

/-- A trained host link, bus mastering on, and a time dialogue under way. -/
def hostLink : State :=
  (up.setF (reg0 .PCI_STATUS 0) F.PCI_STATUS_width 16).setF (reg0 .PCI_STATUS 0) F.PCI_STATUS_bus_master 1

def dialogue (t g b : Nat) : State :=
  { hostLink with
    host := { hostLink.host with ptmOn := true, ptmGood := g, ptmBad := b }, clk := { hostLink.clk with refTime := t } }

def slewing : State := let s := dialogue 900000000 0 2; { s with clk := { s.clk with waits := true } }

/-- Ring 3 with its queues enabled, its tail at `t` and its head at 511, `f` changing it, and an entry at its head. -/
def ring3 (t : Nat := 514) (f : Ring → Ring := id) : State :=
  let s := (hostLink.setF (cqCfg 3) F.PCI_MBX_CQ_CFG_enable 1).setF (cqCfg 3) F.PCI_MBX_CQ_CFG_size 4
  let s := (s.setF (sqTail 3) F.PCI_MBX_SQ_TAIL_tail t).setF (sqHead 3) F.PCI_MBX_SQ_HEAD_head 511
  s.setRing 3 (f (s.ring 3))

def fetching (e : Nat) : State := { ring3 with mbx := { ring3.mbx with sq := [(3 * 512 + 511, e)] } }

/-- A completion that waits, its index `i`; events that wait; a background command, its outcome `o`. -/
def completing (i : Nat) : State := ring3 514 (fun r => { r with cpl := some ⟨77, 0x0100, 0, 0, 5, [1], 99⟩, idx := i })

def events (s : State) : State := { s with evq := [⟨0x0101, List.replicate 32 1, 77⟩, ⟨5, List.replicate 32 1, 77⟩] }

def background (op : Nat) (o : Option (Nat × Nat × List Byte)) : State :=
  { ring3 with mbx := { ring3.mbx with bg := [⟨3, 77, op, 0, false, o⟩] } }

/-- Module 20 of three in step 10, one bucket reduced and freed, one not; its partner is module 30; `f` changes its survival. -/
def member (f : Survive → Survive := id) : State :=
  let s := { up5 with fab := { up.fab with id := 20 }, members := { up.members with ids := [20, 30, 40], epoch := 4 } }
  let s := (s.setF (reg0 .CP_PAIR_STATUS 0) F.CP_PAIR_STATUS_partner_id 30).wr (reg1 .LNK_ROUTE 0 1) 0
  let s := s.wr (reg1 .LNK_ROUTE 0 0) 0
  let s := { s with clk := { s.clk with stopped := (upTo 0 68).filter (fun p => p != 5 && p != 22 && p != 16 && p != 33) } }
  { s with
    train := { s.train with
      step := 10, buckets := [bucket true true, bucket true false], freed := [0], plans := [(10, (3, []))], drops := [(10, 1)]
      parts := [{ bucket := 1, shard := 0, lo := 1, hi := 2, epoch := 4, run := 0, empty := true, count := 3, vals := [] }] }
    surv := f s.surv }

/-- The same with a probe out, a snapshot being copied, core 5 in a remap state, a membership list to come. -/
def probing : State := member (fun v => { v with probing := true, probe := 9 })

def copying : State := member (fun v => { v with copying := true, policy := zeros 64, number := 7, snapStep := 8 })

def remapped (k : Nat) (f : Survive → Survive := id) : State := (member f).setF (remapReg 5) F.CP_CORE_REMAP_state k

def toSwitch (n : Nat) : State := { member with membersNext := some { member.members with first := n } }

def inStep : State := { member with train := { member.train with running := true } }

/-- The module on a supply of 54 V; the same in frost state, or with the reset machine changed. -/
def supplied : State := { up with pwr := { up.pwr with mv := 54000 } }

def frosted : State := supplied.frostLatch 9 0

def resetting (f : Rst → Rst) (mv : Nat := 54000) : State :=
  { up with rst := f up.rst, pwr := { up.pwr with mv := mv } }

/-- The reset sequence at domain `k`. -/
def atDomain (k : Nat) : State := resetting (fun r => { r with seq := some k })

/-- A watchdog of the serving die that runs; a standby that is ready. -/
def watched : State := supplied.setF (reg1 .RST_WDOG 0 0) F.RST_WDOG_running 1

/-- Block 5 in a state, with a pending request, in a module whose other cores are stopped. -/
def block5 (x p r : Nat) : State :=
  let s := { up5 with clk := { up.clk with stopped := (upTo 0 68).filter (fun p => p != 5) } }
  ((s.setBlock 5 F.RST_BLOCK_state x).setBlock 5 F.RST_BLOCK_pending p).setBlock 5 F.RST_BLOCK_reset r

/-- The management target with an address and its pointer at `k`. -/
def target (k : Nat) : State := { up with mgmt := { up.mgmt with ptr := k, dyn := some 7 } }

/-- Both firmware slots with a header that is no image's. -/
def blank (s : State) : State :=
  let z : List (Nat × Byte) := [(0, 0), (1, 0), (2, 0), (3, 0)]
  { s with firm := { s.firm with slotA := z, slotB := z } }

/-- The same with the option that preserves memory off. -/
def unpreserved (s : State) : State :=
  { s with firm := { s.firm with opt0 := { s.firm.opt0 with hbmPreserve := 0 }, opt1 := { s.firm.opt1 with hbmPreserve := 0 } } }

/-- A submission entry: opcode, tag and argument fields (offset, width, value). -/
def entryWord (op tag : Nat) (fs : List (Nat × Nat × Nat)) : Nat := op + tag * 2^32 + (fs.map (fun f => f.2.2 % 2 ^ (8 * f.2.1) * 2 ^ (8 * f.1))).sum

/-- A running module with the host link up and a host window over all host addresses. -/
def linked : State := 
  let s := ((up.setF (reg0 .PCI_STATUS 0) F.PCI_STATUS_width 16).setF (reg0 .PCI_STATUS 0) F.PCI_STATUS_bus_master 1)
  ((s.setF (reg0 .PCI_HOST_WIN 0) F.PCI_HOST_WIN_enable 1).setF (reg0 .PCI_HOST_WIN 0) F.PCI_HOST_WIN_limit 0x7FFFFFFFFFFFF)

/-- An entry taken up by ring `m`; bytes laid in host memory; an entry on ring 3; words laid in host memory. -/
def withEntry (s : State) (m e : Nat) : State := s.setRing m { s.ring m with cur := some e }

def withBytes (s : State) (b : Nat) (bs : List Byte) : State := s.setMem (writeBytes s.mem (hostBase + b) bs)

def taking (op : Nat) (fs : List (Nat × Nat × Nat)) (s : State) : State := withEntry s 3 (entryWord op 9 fs)

def withWords (b k : Nat) (ws : List Nat) (s : State) : State := withBytes s b (ws.flatMap (fun w => leBytes w k))

/-- The same with core 5 small. -/
def linkedCore : State := { linked with cores := [(5, core5)] }

def chanAt (c x : Nat) (s : State) : State := s.setF (chReg c) F.HBM_CH_STATE_state x

def winAt (d x : Nat) (s : State) : State := s.setF (reg0 .WIN_STATUS d) F.WIN_STATUS_state x

def winReady (d : Nat) (s : State) : State := ((((s.setF (reg0 .WIN_CTRL d) F.WIN_CTRL_ready_tok 0x105).setF (reg0 .WIN_CTRL d) F.WIN_CTRL_rel_tok 0x106).setF (reg0 .WIN_SCHED d) F.WIN_SCHED_sched_count 3).setF (reg0 .WIN_WINDOW d) F.WIN_WINDOW_pages 20)

def cxlState (k x : Nat) (s : State) : State := s.setF (reg0 .CXL_STATUS (k+1)) F.CXL_STATUS_state x

def withLines (s : State) (b : Nat) (ws : List Nat) : State := withBytes s b (ws.flatMap (fun w => leBytes w 8))

def cfgw : List Nat := [0x1234567, 0x2345678, 0xFFFFFFFF, 0] ++ (upTo 0 12).map (fun i => 0x111111111111 * i)

def dec1 (base size ways : Nat) (ps : Nat) : List Nat := [base + size * 2^32 + ways * 2^50 + 2^55, ps]

def dg : State :=
  let s := linked.setF (reg0 .HBM_SPARE_STATUS 0) F.HBM_SPARE_STATUS_groups_needed 3
  { s with hbm := { s.hbm with degraded := [(633, 3)] } }

def slotsFull : State := { linked with hbm := { linked.hbm with retires := (upTo 0 16).map (fun k => ⟨100 + k, k, false, [], []⟩) } }

def cores56 : Nat := 2^5 + 2^6

def imgLoad (start : Nat := 0x40) : List Byte :=
  leBytes 0x0058444E 4 ++ leBytes 1 2 ++ zeros 4 ++ leBytes 3 2 ++ zeros 4 ++ leBytes 0xFFFFFFFF 4 ++ leBytes 0 4 ++
    leBytes 0xFFFFFFFF 4 ++ leBytes 0 4 ++ leBytes start 4 ++ leBytes 0x60 4 ++ leBytes 0xC0 4 ++ zeros 20 ++
    leBytes 0xf9121ede35d04cc690985fcdbd14d708211ff5cb19e842df30889d5caab77d19 32 ++
    (leBytes 1 2 ++ zeros 6 ++ leBytes 0x123 4 ++ leBytes 8 4 ++ zeros 16) ++
    (leBytes 4 2 ++ zeros 6 ++ leBytes 0x40 4 ++ leBytes 9 4 ++ zeros 16) ++
    (leBytes 5 2 ++ zeros 6 ++ leBytes 0x80 4 ++ leBytes 7 4 ++ zeros 16)

def sliceMod (n : Nat) (f : Slice → Slice) (s : State) : State := s.setSlice n (f (s.slice n))

def closedTile : Tile := ⟨0,0,0,0,0,none,[],[],true,true,0,0,255,255⟩

def engineCtrl (a b : Nat) (s : State) : State := s |> taking 0x201 [(8,8,cores56),(16,1,a),(17,1,b),(18,1,8),(19,1,1),(20,4,64)]

def engineAt (v : Bool) (n x : Nat) (s : State) : State := s.setEngSt v n x

def phased (p : Nat × Nat) (s : State) : State := s.setRing 3 { s.ring 3 with phase := some p }

def twoContexts (x : Slice) : Slice := { x with ctxs := x.ctxs ++ [(2, ⟨100,50000,0x200000,[1]⟩)], mask := 7, quantum := 200 }

def withId (k : Nat) (s : State) : State := { s with fab := { s.fab with id := k } }

def linkSt (p x : Nat) (s : State) : State := s.setF (reg0 .LNK_STATUS p) F.LNK_STATUS_state x

def withHalves (b : Nat) (ws : List Nat) (s : State) : State := withBytes s b (ws.flatMap (fun w => leBytes w 2))

def withMembers (ids : List Nat) (s : State) : State := { s with members := ⟨ids, 3, 0, [], []⟩ }

def txMsg (i : Nat) : TxMsg := { msg := some i, h := hdrOf 5 6 7 0, data := [], sent := 0 }

def bucketWord (base el tok sc rb : Nat) : Nat := base + el * 2^64 + tok * 2^96 + sc * 2^112 + rb * 2^192

def trainSet (f : Train → Train) (s : State) : State := s.setTrain (f s.train)

def atStep7 : State := linked |> trainSet (fun x => { x with step := 7 })

def twoBuckets (s : State) : State := (s.setF (reg1 .HBM_PMAP 0 0) F.HBM_PMAP_count 4096) |> withWords 0x77 32 [bucketWord 0x200000 (0x1000000/4) 0x105 3 0x4000000, bucketWord 0x2000000 (0x1000000/4) 0x10F 65535 0x600000]

def imgMarks : List Byte :=
  leBytes 0x0058444E 4 ++ leBytes 1 2 ++ zeros 4 ++ leBytes 1 2 ++ leBytes 1 4 ++ leBytes 0xFFFFFFFF 4 ++ leBytes 0 4 ++ leBytes 0xFFFFFFFF 4 ++ leBytes 0 4 ++ leBytes 0x40 4 ++ leBytes 0x60 4 ++ leBytes 0x80 4 ++ zeros 20 ++
  leBytes 0xb0c95ef63a4ec616c5954365d45a12acd5f9ed28490730e3a6dbca19585748d3 32 ++
  (leBytes 9 2 ++ leBytes 0 2 ++ zeros 4 ++ leBytes 0x0 4 ++ leBytes 16 4 ++ leBytes 0x80 4 ++ zeros 12) ++ leBytes 4 16

def firmed (f : Firm → Firm) (s : State) : State := s.setFirm (f s.firm)

def standbyReady (s : State) : State := s.setF (reg0 .PCI_MBX_GLOBAL 0) F.PCI_MBX_GLOBAL_standby_ready 1

def activating (l mv : Bool) (t lim : Nat) (s : State) : State := { (s |> standbyReady |> firmed (fun f => { f with act := some ⟨1,lim,t,l,mv,9⟩ })) with mbx := { linked.mbx with bg := [⟨3, 9, 0x0602, 1, false, none⟩, ⟨3, 8, 0x0602, 1, false, none⟩] } }

def readEntry (k i o n : Nat) (s : State) : State := s |> taking 0x800 [(8,2,k),(12,4,i),(16,8,0x77),(24,4,n),(28,4,o)]

def writeEntry (k i o n : Nat) (s : State) : State := withWords 0x77 1 (upTo 1 n) s |> taking 0x801 [(8,2,k),(12,4,i),(16,8,0x77),(24,4,n),(28,4,o)]

def resetEntry (k i : Nat) (s : State) : State := s |> taking 0xA00 [(8,1,k),(12,4,i)]

def restStopped : State := { linkedCore with clk := { linkedCore.clk with stopped := (upTo 0 68).filter (fun k => k ≠ 5 ∧ k ≠ 60) } }

def completed (op : Nat) : State :=
  let s := (((linkedCore.setF (cqCfg 3) F.PCI_MBX_CQ_CFG_enable 1).setF (cqCfg 3) F.PCI_MBX_CQ_CFG_size 4))
  s.setRing 3 { s.ring 3 with cpl := some ⟨77, op, 0, 0, 5, [1], 99⟩, idx := 19 }

def stepRuns1 : State := apertureAt (reg0 .WIN_SCHED 1).addr

def pendingSignal1 : State := (opeAt (word 0 64)).setEngSt false 5 0

def pendingSignal2 : State := (opeAt (word 0 64)).setEngSt false 5 3

def stepAdds2 : State := passing 4 0 0 id (fun r => { r with ringL := fset r.ringL F.OPE_RING_feed_en 1 })

def stepAdds3 : State := ope5 (fun o => { o with run := some (pass 4 1 3), tile := some tile, closed := [draining 256, draining 256], drain := some (draining 9) })

def closedTiles1 : State := opeAt (word 3 64) (some tile)

def closedTiles2 : State := (opeAt (word 3 64) (some tile)).wr (reg1 .OPE_DRAIN 5 0) 0

def closedTiles3 : State := ope5 (fun o => { o with closed := [draining 256] })

def closedTiles4 : State := ope5 (fun o => { o with drain := some (draining 0) })

def closedTiles5 : State := ope5 (fun o => { o with fin := [draining 0] })

def closedTiles6 : State := ope5 (fun o => { o with cpls := [cplOf 3 1 2 0 0 0], seq := 17 })

def closedTiles7 : State := ope5 (fun o => { o with drain := some (draining 1) })

def closedTiles8 : State := ope5 (fun o => { o with cwRun := some (cplOf 3 0 4 0 0 0) })

def suspendSaves1 : State := ope5 (fun o => { o with susp := some save })

def suspendSaves2 : State := ope5 (fun o => { o with saving := some save })

def suspendSaves3 : State := ope5 (fun o => { o with resume := some save })

def suspendSaves4 : State := ope5 (fun o => { o with replay := some save })

def suspendSaves5 : State := (ope5 (fun o => { o with run := some (pass 4 0 2) })).setEngSt false 5 3

def vectorResults1 : State := landing (.v 9 [true, false] (BitVec.allOnes 32) [5, 6] 4)

def vectorResults2 : State := landing (.w 1 [true] [⟨7, 7⟩] 1)

def vectorResults3 : State := landing (.p 3 [true] [false])

def vectorResults4 : State := landing (.seed false [⟨1, 1, 1, 1⟩])

def vectorResults5 : State := landing (.rput false 2 [true, true] [7, 8])

def vectorResults6 : State := landing (.store 20 [some 3, none, some 5] false)

def vectorResults7 : State := landing (.loadRead 35 20 8 false)

def vectorResults8 : State := landing (.loadV 35 9 [true, true])

def vectorResults9 : State := landing (.loadB 35 9 [true, true])

def vectorStream1 : State := bundle (syllable (2+64) 0x1FF)

def vectorStream3 : State := bundle (syllable (32+64) (7 + 5*64 + 3*2^15))

def vectorStream4 : State := bundle (syllable (32+64) (6 + 5*64 + 3*2^15))

def vectorStream5 : State := bundle (syllable (32+64) (4 + 3*64 + 20*2^16))

def vectorStream6 : State := (bundle (syllable (32+64) 5)).pushLoop true 5 1 32 64

def vectorStream7 : State := (bundle (syllable (32+64) (6 + 5*64 + 3*2^15))).setF (tokReg ⟨0,5,5⟩) F.TOK_CNT_count 3

def vectorStream8 : State := ((ve5 id).setEngSt false 5 1).setF (endReg false 5) F.OPE_PC_END_end 4096

def moveQueue1 : State := (queue5 id).setF (reg1 .MOV_Q_TAIL 5 3) F.MOV_Q_TAIL_tail 17

def moveQueue2 : State := fetched (desc [(8,1),(9,7)])

def moveQueue3 : State := (fetched (desc [(8,1),(9,7)])).setF (tokReg ⟨0,5,7⟩) F.TOK_CNT_count 1

def moveQueue4 : State := queue5 (fun q => { q with started := [{ MDesc.fresh 65535 copyDesc with i := 1 }] })

def moveQueue5 : State := queue5 (fun q => { q with started := [{ MDesc.fresh 65535 (copyDesc + desc [(18, 1), (19, 7), (28, 1)]) with i := 1 }] })

def chainPages1 : State := (chainAt 6 0 []).setF (tokReg ⟨0,6,3⟩) F.TOK_CNT_count 1

def scalarInstructions1 : State := sca5 (fun x => { x with pc := 0x10000 })

def scalarInstructions2 : State := sca5 (fun x => { x with pc := 0x101 })

def scalarSystem1 : State := pend 43 3 (sca5 (fun x => { x with meie := true }))

def interruptSources1 : State := (pend 43 3 icu).setF (reg1 .ICU_GROUP 0 2) F.ICU_GROUP_remaining 9

def interruptSources2 : State := icu.setF (srcReg 40) F.ICU_SRC_in_service 1

def interruptSources3 : State := claimed [3*1024+43, 2*1024+40]

def stackedRequests1 : State := poisoned [chunk5 + 64] stacked

def streamerFetches1 : State := (window 0 id).setF (reg0 .WIN_WINDOW 1) F.WIN_WINDOW_pages 5

def streamerFetches2 : State := window 1 (fun w => { w with fly := [(21, 0x1000000040000)] })

def streamerFetches3 : State := (slot5 2).setF (tokReg ⟨3,1,3⟩) F.TOK_CNT_count 1

def streamerFetches5 : State := window 4 (fun w => { w with prior := 2 })

def streamerFetches6 : State := (window 0 id).setF (reg0 .WIN_STATUS 1) F.WIN_STATUS_state 2

def farTier1 : State := farPort2 3 (inFlight false 14)

def farTier2 : State := farPort2 3 (inFlight false 15)

def farTier3 : State := farPort2 3 (inFlight true 15)

def bucketsAre1 : State := training [bucket true false]

def bucketsAre2 : State := { training [bucket false false] with grants := [⟨⟨4,0,3⟩, cpReq, 2⟩] }

def bucketsAre3 : State := training [bucket false false]

def bucketsAre4 : State := training [bucket true false] [20]

def bucketsAre5 : State := training [bucket true true] [20, 30] (fun t => { t with replay := [(7, [])] })

def bucketsAre6 : State := training [bucket true true] [20, 30] (fun t => { t with replay := [(7, [])], updated := [(7, 0)] })

def bucketsAre10 : State := training [bucket true false] [20, 30] (fun t => { t with parts := [partOf 4] })

def bucketsAre12 : State := withPolicy (bucket true true)

def bucketsAre13 : State := withPolicy { bucket true true with reducedCount := 3 }

def bucketsAre14 : State := (training [bucket true true] [30, 20] (fun t => { t with updated := [(7, 0)] })).wr (reg1 .LNK_ROUTE 0 1) 0

def bucketsAre15 : State := training [bucket true true] [20, 30] (fun t => { t with reports := [(0, 8), (1, 8)], freed := [0] })

def bucketsAre16 : State := training [bucket true true] [20, 30] (fun t => { t with reports := [(0, 8), (1, 9)], freed := [0] })

def linksTrain1 : State := linkAt 6 5 255 (fun x => { x with aligned := true, missing := 1 })

def linksTrain2 : State := linkAt 6 5 255 (fun x => { x with aligned := true, rxStop := 7 })

def linksTrain3 : State := linkAt 6 6 255 (fun x => { x with found := 1 })

def linksTrain4 : State := linkAt 6 5 127 (fun x => { x with aligned := true })

def linksTrain5 : State := linkAt 6 5 255 (fun x => { x with aligned := true, asked := 16 })

def flitsAnd1 : State := live (fun x => { x with slot := 0 })

def flitsAnd2 : State := live (fun x => { x with hbDue := true })

def flitsAnd3 : State := live (fun x => { x with nakDue := some 8 })

def flitsAnd4 : State := live (fun x => { x with returns := true, ctrlAge := 160 })

def flitsAnd5 : State := live (fun x => { x with replay := [sent 0, sent 1], resend := 2 })

def flitsAnd6 : State := (queues [0, 4]).setCredit 6 2 0 5

def flitsAnd7 : State := live (fun x => { x with discarding := true })

def flitsAnd9 : State := served.setF (reg0 .PCI_MBX_GLOBAL 0) F.PCI_MBX_GLOBAL_mode 2

def flitsAnd10 : State := live (fun x => { x with slot := 0, switchTo := true })

def mailboxRings1 : State := (completing 19).setF (cqHead 3) F.PCI_MBX_CQ_HEAD_head 4

def mailboxRings2 : State := ring3 514 (fun r => { r with cur := some 5 })

def mailboxRings3 : State := events (ring3.setF evCfg F.PCI_MBX_CQ_CFG_enable 1)

def mailboxRings4 : State := background 0x0103 (some (0x14, 2, [3]))

def failuresAre1 : State := (member.lnkF 6 F.LNK_STATUS_state 5).lnkF 6 F.LNK_STATUS_peer_id 30

def failuresAre2 : State := { member with members := { member.members with fenced := [30], ids := [30, 20] } }

def failuresAre3 : State := member (fun v => { v with policy := zeros 64 })

def failuresAre4 : State := { copying with mbx := { copying.mbx with transfers := [(snapJob, [(0, 0)])] } }

def failuresAre5 : State := (member (fun v => { v with policy := zeros 64 })).lnkF 11 F.LNK_STATUS_state 5

def failuresAre8 : State := stopped [33, 50, 67] (remapped 2 (fun v => { v with waitFill := [5] }))

def failuresAre9 : State := (remapped 1 (fun v => { v with filling := [5] })).setSlice 5 { (member.slice 5) with ctxs := [] }

def frostIs1 : State := resetting (fun r => { r with waiting := true })

def frostIs2 : State := frosted.setFrost { frosted.frost with ramp := 2 }

def resetsAnd1 : State := resetting (fun r => { r with waiting := true })

def resetsAnd2 : State := resetting (fun r => { r with waiting := true }) 47999

def resetsAnd3 : State := { atDomain 0 with firm := { up.firm with opt0 := { up.firm.opt0 with valid := false }, opt1 := { up.firm.opt1 with valid := false } } }

def resetsAnd4 : State := { atDomain 2 with firm := { up.firm with startCount := 5 } }

def resetsAnd5 : State := blank (resetting (fun r => { r with timer := true, booted := false }))

def resetsAnd6 : State := (resetting (fun r => { r with timer := true, booted := true })).setF (reg0 .PCI_MBX_GLOBAL 0) F.PCI_MBX_GLOBAL_mode 0

def powerIs1 : State := { supplied with pwr := { supplied.pwr with out := true } }

def powerIs2 : State := { supplied with pwr := { supplied.pwr with target := some 9, ramping := true } }

def managementTarget1 : State := { target 7 with mgmt := { (target 7).mgmt with sample := [5] } }

def generalCommands1 : State := withEntry { linked with fab := { linked.fab with id := 77 } } 3 (entryWord 0 7 [])

def generalCommands2 : State := withEntry ((linked.setF (reg0 .CXL_STATUS 2) F.CXL_STATUS_capacity_gib 200).wr (reg0 .LNK_LEVEL_STEP 0) 99) 3 (entryWord 1 7 [(8,8,0x5010)])

def generalCommands3 : State := withEntry (linked.setF (reg0 .PCI_STATUS 0) F.PCI_STATUS_width 0) 3 (entryWord 1 7 [(8,8,0x5010)])

def generalCommands4 : State := withEntry linked 3 (entryWord 2 9 [(8,8,0x7001), (16,4,1951)])

def generalCommands5 : State := withEntry linked 3 (entryWord 2 9 [(8,8,0x7001), (16,4,1952)])

def generalCommands6 : State := withEntry linked 3 (entryWord 3 9 [(8,8,55)])

def generalCommands7 : State := withEntry { linked with mbx := { linked.mbx with session := 5 }} 3 (entryWord 3 9 [(8,8,55)])

def generalCommands9 : State := withEntry linked 3 (entryWord 4 9 [(8,1,11),(9,1,20)])

def generalCommands10 : State := withEntry linked 3 (entryWord 4 9 [(8,1,10),(9,1,20)])

def generalCommands11 : State := withEntry linked 3 (entryWord 5 9 [(8,2,0x105),(10,2,0x100)])

def generalCommands12 : State := withEntry linked 3 (entryWord 5 9 [(8,2,0x105),(10,2,0x110)])

def memoryAnd1 : State := linked |> taking 0x100 [(8,2,4095),(10,2,2)]

def memoryAnd2 : State := withLines linked 0x55 [7, 0x1234567890ABCDEF] |> taking 0x100 [(8,2,4094),(10,2,2),(16,8,0x55)]

def memoryAnd3 : State := linked |> taking 0x101 [(8,1,7),(9,1,1)]

def memoryAnd4 : State := linked |> taking 0x102 [(8,1,63),(9,1,5)]

def memoryAnd5 : State := linked |> taking 0x102 [(8,1,64),(9,1,5)]

def memoryAnd6 : State := { linked with mbx := { linked.mbx with bg := [⟨3, 77, 0x0103, 633, false, none⟩] } } |> taking 0x103 [(8,2,633)]

def memoryAnd7 : State := linked |> chanAt 5 2 |> taking 0x103 [(8,2,633),(10,1,1)]

def memoryAnd8 : State := linked |> chanAt 633 3 |> taking 0x103 [(8,2,633),(10,1,2)]

def memoryAnd9 : State := linked |> chanAt 633 3 |> taking 0x103 [(8,2,633),(10,1,0)]

def memoryAnd10 : State := linked |> chanAt 633 3 |> taking 0x103 [(8,2,633),(10,1,1)]

def memoryAnd12 : State := slotsFull |> taking 0x103 [(8,2,633)]

def memoryAnd13 : State := linked |> taking 0x104 [(8,4,645119),(12,4,2)]

def memoryAnd14 : State := linked |> taking 0x104 [(8,4,645119),(12,4,1)]

def memoryAnd15 : State := dg |> taking 0x104 [(8,4,77),(12,4,2)]

def memoryAnd16 : State := dg |> chanAt 633 6 |> taking 0x104 [(8,4,77),(12,4,4)]

def memoryAnd17 : State := linked |> taking 0x105 [(8,8,0x301001000000)]

def memoryAnd18 : State := linked |> taking 0x105 [(8,8,0x301001000001)]

def memoryAnd20 : State := withLines linked 0x88 cfgw |> taking 0x300 [(8,1,6),(16,8,0x88)]

def memoryAnd23 : State := linked |> winReady 1 |> winReady 2 |> taking 0x301 [(8,1,6)]

def memoryAnd25 : State := linked |> winReady 1 |> taking 0x301 [(8,1,6),(9,1,1)]

def memoryAnd26 : State := linked |> winAt 1 1 |> taking 0x301 [(8,1,6),(9,1,2),(10,2,55)]

def memoryAnd27 : State := linked |> winAt 1 4 |> taking 0x301 [(8,1,6),(9,1,3),(10,2,55)]

def memoryAnd28 : State := (let s := linked |> taking 0x301 [(8,1,6),(9,1,2)]; s.setRing 3 { s.ring 3 with phase := some (0,0) })

def memoryAnd29 : State := withLines linked 0x88 (dec1 0 16 2 0xE4) |> taking 0x302 [(8,8,0x88)]

def memoryAnd30 : State := withLines linked 0x88 (dec1 0 16 1 0x4 ++ dec1 16 32 0 2) |> cxlState 0 2 |> cxlState 1 2 |> cxlState 2 2 |> taking 0x302 [(8,8,0x88)]

def memoryAnd32 : State := linked |> cxlState 2 2 |> taking 0x303 [(8,1,2),(9,1,1)]

def memoryAnd33 : State := linked |> cxlState 2 3 |> taking 0x303 [(8,1,2),(9,1,1)]

def memoryAnd34 : State := linked |> taking 0x303 [(8,1,2),(9,1,2),(10,1,9)]

def memoryAnd35 : State := linked |> taking 0x304 [(8,1,10),(10,2,0x1234),(16,8,0x777777777)]

def programAnd1 : State := withBytes linkedCore 0x99 (imgLoad 0xFFFFFFFF) |> taking 0x200 [(8,8,0x99),(16,4,192),(24,8,cores56)]

def programAnd2 : State := withBytes linkedCore 0x99 imgLoad |> taking 0x200 [(8,8,0x99),(16,4,192),(24,8,cores56)]

def programAnd4 : State := withBytes linkedCore 0x99 (zeros 5) |> taking 0x200 [(8,8,0x99),(16,4,192),(24,8,cores56)]

def programAnd5 : State := withBytes linkedCore 0x99 imgLoad |> sliceMod 5 (fun x => { x with ctxs := x.ctxs ++ [(2, ⟨100,200,0x200000,[]⟩)] }) |> taking 0x200 [(8,8,0x99),(16,4,192),(24,8,cores56),(32,1,2)]

def programAnd6 : State := (linkedCore.setF (endReg false 5) F.OPE_PC_END_end 64) |> engineCtrl 0 0

def programAnd8 : State := linkedCore |> engineAt false 5 1 |> engineCtrl 0 2

def programAnd10 : State := linkedCore |> engineAt false 5 2 |> engineCtrl 0 3

def programAnd11 : State := linkedCore |> engineAt false 5 3 |> engineCtrl 0 4

def programAnd12 : State := linkedCore |> engineAt false 5 3 |> engineCtrl 0 6

def programAnd15 : State := (linkedCore.setF (endReg true 5) F.OPE_PC_END_end 64) |> engineCtrl 1 0

def programAnd17 : State := linkedCore |> engineAt true 5 1 |> engineCtrl 1 1

def programAnd18 : State := linkedCore |> engineAt true 5 3 |> engineCtrl 1 4

def programAnd19 : State := (linkedCore.wr (reg0 .MOV_CTRL 5) 0xFF) |> engineCtrl 2 1

def programAnd20 : State := (linkedCore.setQ 5 3 F.MOV_Q_HEAD_state 2) |> engineCtrl 2 4

def programAnd21 : State := linkedCore |> taking 0x201 [(8,8,cores56),(16,1,0),(17,1,2)] |> phased (0,0)

def programAnd22 : State := linkedCore |> taking 0x201 [(8,8,cores56),(16,1,0),(17,1,2)] |> phased (32,0x14)

def programAnd23 : State := linkedCore |> taking 0x202 [(8,8,cores56),(16,1,2),(20,4,100),(24,4,50),(32,8,0x200000)]

def programAnd26 : State := linkedCore |> taking 0x202 [(8,8,cores56),(16,1,2),(20,4,100),(24,4,50),(32,8,0x13B00000000)]

def programAnd27 : State := linkedCore |> sliceMod 5 (fun x => { x with ctxs := x.ctxs ++ [(2, ⟨100,200,0x200000,[]⟩)] }) |> taking 0x203 [(8,8,cores56),(16,1,2)]

def programAnd28 : State := linkedCore |> taking 0x204 [(8,8,cores56),(16,4,500),(20,1,1),(21,1,7)]

def programAnd29 : State := linkedCore |> taking 0x204 [(8,8,cores56),(16,4,50),(20,1,1),(21,1,7)]

def programAnd30 : State := linkedCore |> sliceMod 5 (fun x => { x with ctxs := x.ctxs ++ [(2, ⟨100,200,0x200000,[]⟩)] }) |> taking 0x205 [(8,8,cores56),(16,1,2)]

def programAnd31 : State := linkedCore |> taking 0x205 [(8,8,cores56),(16,1,2)]

def programAnd32 : State := linkedCore |> taking 0x206 [(8,8,cores56),(16,4,5000000)]

def programAnd33 : State := linkedCore |> taking 0x206 [(8,8,cores56),(16,4,5000001)]

def contextsAre1 : State := linkedCore |> sliceMod 5 (fun x => { twoContexts x with want := some (2, false) })

def contextsAre3 : State := linkedCore |> sliceMod 5 (fun x => { twoContexts x with mask := 0 })

def contextsAre4 : State := linkedCore |> sliceMod 5 (fun x => { twoContexts x with want := some (2, false) }) |> (fun s => s.setOpe 5 { s.ope 5 with tile := some closedTile })

def fabricCommands1 : State := linked |> taking 0x400 [(8,2,0xFFFF)]

def fabricCommands2 : State := linked |> withId 5 |> withMembers [5,6] |> taking 0x400 [(8,2,7)]

def fabricCommands3 : State := linked |> withId 5 |> taking 0x400 [(8,2,7)]

def fabricCommands4 : State := linked |> withId 5 |> withHalves 0x77 [4,5,9] |> taking 0x401 [(8,4,4),(12,2,3),(16,8,0x77),(24,8,10)]

def fabricCommands5 : State := linked |> withId 5 |> withMembers [5,6] |> withHalves 0x77 [4,5,9] |> taking 0x401 [(8,4,4),(12,2,3),(16,8,0x77),(24,8,10)]

def fabricCommands6 : State := linked |> withId 5 |> withMembers [5,6] |> withHalves 0x77 [4,5,9] |> taking 0x401 [(8,4,3),(12,2,3),(16,8,0x77),(24,8,10)]

def fabricCommands7 : State := linked |> withId 5 |> withMembers [5,6] |> withHalves 0x77 [5,5,9] |> taking 0x401 [(8,4,4),(12,2,3),(16,8,0x77),(24,8,10)]

def fabricCommands9 : State := linked |> taking 0x402 [(8,2,5),(10,1,1)]

def fabricCommands10 : State := linked |> withId 5 |> taking 0x402 [(8,2,6),(10,1,1)]

def fabricCommands11 : State := linked |> withId 5 |> withMembers [5,7] |> linkSt 11 5 |> taking 0x402 [(8,2,6),(10,1,1)]

def fabricCommands12 : State := linked |> withId 5 |> linkSt 11 8 |> (fun s => s.setPort 11 { s.port 11 with failed := some 5 }) |> taking 0x402 [(8,2,6),(10,1,1)]

def fabricCommands13 : State := linked |> withHalves 0x77 [0x0304, 0x0F05] |> taking 0x403 [(8,2,65533),(10,2,3),(16,8,0x77)]

def fabricCommands15 : State := linked |> withHalves 0x77 [0x1304, 0x0F05] |> taking 0x403 [(8,2,65533),(10,2,3),(16,8,0x77)]

def fabricCommands16 : State := linked |> taking 0x403 [(8,2,65533),(10,2,4),(16,8,0x77)]

def fabricCommands17 : State := linked |> taking 0x404 [(8,1,5),(9,1,3),(16,8,0x5000),(24,8,0x777)]

def fabricCommands18 : State := linked |> taking 0x404 [(8,1,5),(9,1,3),(16,8,0x5001),(24,8,0x777)]

def fabricCommands19 : State := linked |> taking 0x404 [(8,1,5),(9,1,3),(16,8,0x13B00000000),(24,8,0x777)]

def fabricCommands20 : State := linked |> taking 0x405 [(8,1,6),(10,1,0xFE)]

def fabricCommands21 : State := linked |> linkSt 6 5 |> taking 0x405 [(8,1,6),(10,1,0xFE)]

def fabricCommands22 : State := linked |> linkSt 6 5 |> (fun s => { s with fab := { s.fab with sent := [⟨3,6,0,0,0,false,0,0,none,none⟩] } }) |> taking 0x405 [(8,1,6),(9,1,1)]

def fabricCommands23 : State := linked |> linkSt 6 7 |> taking 0x405 [(8,1,6),(9,1,1)]

def fabricCommands24 : State := linked |> linkSt 6 5 |> taking 0x405 [(8,1,6),(9,1,2)]

def fabricCommands26 : State := { linked with stepMap := [(5,7)] } |> taking 0x406 [(8,2,5),(10,1,9),(11,1,1)]

def fabricCommands28 : State := linked |> withHalves 0x77 [2,0,0,0,0,0,0,0,0,0,0,0,0,0,0,0,0,0,0,0,4] |> taking 0x407 [(8,8,0x77),(16,4,2)]

def fabricCommands30 : State := linked |> withHalves 0x77 [2,0,0,0,0,0,0,0,0,0,0,0,0,0,0,0,0,0,0,0,3] |> taking 0x407 [(8,8,0x77),(16,4,2)]

def fabricCommands31 : State := (linked |> withId 5 |> (fun s => s.setPort 6 { s.port 6 with vc := [(3, [{ txMsg 4 with msg := none }])] }) |> taking 0x408 [(8,1,6),(9,1,1),(10,1,1)]).wr (reg1 .LNK_ROUTE 0 0) 0

def fabricCommands32 : State := linked |> (fun s => { s with fab := { s.fab with sent := [⟨3,6,0,0,0,false,0,0,none,none⟩, ⟨4,6,0,0,0,false,0,0,none,none⟩] } }) |> (fun s => s.setPort 6 { s.port 6 with vc := [(3, [txMsg 4]), (4, [txMsg 5])] }) |> taking 0x408 [(8,1,6),(9,1,1),(10,1,1)]

def fabricCommands33 : State := { linked with firm := { linked.firm with slotA := [(14, 2), (15, 0)], slotB := [(14, 2), (15, 0)] } } |> taking 0x409 [(8,2,1)]

def fabricCommands34 : State := { linked with firm := { linked.firm with slotA := [(14, 2), (15, 0)], slotB := [(14, 2), (15, 0)] } } |> taking 0x40A [(8,2,0)]

def fabricCommands35 : State := { linked with firm := { linked.firm with slotA := [(14, 2), (15, 0)], slotB := [(14, 2), (15, 0)] } } |> taking 0x40A [(8,2,1)]

def fabricCommands36 : State := { linked with firm := { linked.firm with slotA := [(14, 2), (15, 0)], slotB := [(14, 2), (15, 0)] } } |> taking 0x40A [(8,2,1),(16,8,0x1234567890),(24,4,55)]

def fabricCommands37 : State := { linked with firm := { linked.firm with slotA := [(14, 2), (15, 0)], slotB := [(14, 2), (15, 0)] } } |> taking 0x40A [(8,2,1),(16,8,0x1234567890)]

def stepCommands1 : State := atStep7 |> twoBuckets |> taking 0x500 [(8,8,0x77),(16,2,2),(24,8,7)]

def stepCommands4 : State := atStep7 |> twoBuckets |> taking 0x500 [(8,8,0x77),(16,2,2),(24,8,6)]

def stepCommands6 : State := atStep7 |> withWords 0x77 4 [1,2] |> taking 0x501 [(8,8,8),(16,4,5),(24,8,0x77),(32,4,7)]

def stepCommands7 : State := atStep7 |> withWords 0x77 4 [1,2] |> taking 0x501 [(8,8,6),(16,4,5),(24,8,0x77),(32,4,7)]

def stepCommands8 : State := atStep7 |> taking 0x502 [(8,8,6),(16,4,5)]

def stepCommands9 : State := atStep7 |> taking 0x502 [(8,8,7),(16,4,5)]

def stepCommands10 : State := atStep7 |> trainSet (fun x => { x with drops := [(7,5)] }) |> taking 0x502 [(8,8,7),(16,4,5)]

def stepCommands11 : State := atStep7 |> taking 0x503 [(8,8,0x77),(16,4,1)]

def stepCommands12 : State := atStep7 |> withWords 0x77 64 [1] |> taking 0x503 [(8,8,0x77),(16,4,1)]

def stepCommands13 : State := atStep7 |> taking 0x504 [(8,4,5),(16,8,0x77),(24,4,64)]

def stepCommands14 : State := { atStep7 with mbx := { atStep7.mbx with bg := [⟨3, 77, 0x0506, 0, false, none⟩] } } |> taking 0x506 []

def stepCommands15 : State := atStep7 |> trainSet (fun x => { x with retained := [(7,3)], updated := [(9,3),(7,4)], ready := true }) |> taking 0x507 [(8,8,7)]

def stepCommands16 : State := atStep7 |> trainSet (fun x => { x with retained := [(6,3)], ready := true }) |> taking 0x507 [(8,8,6)]

def stepCommands17 : State := atStep7 |> taking 0x508 [(8,8,0x77),(16,4,32)]

def stepCommands18 : State := atStep7 |> withWords 0x77 4 [5, 0, 8, 0] |> taking 0x508 [(8,8,0x77),(16,4,32)]

def stepCommands19 : State := atStep7 |> withWords 0x77 4 [5, 0, 7, 0] |> taking 0x508 [(8,8,0x77),(16,4,32)]

def stepCommands20 : State := { atStep7 with mbx := { atStep7.mbx with bg := [⟨3, 77, 0x0508, 0, false, none⟩] } } |> taking 0x508 []

def stepCommands21 : State := atStep7 |> withWords 0x77 32 [bucketWord 0x200001 (0x1000000/4) 0x105 3 0x4000000] |> taking 0x500 [(8,8,0x77),(16,2,1),(24,8,7)]

def stepCommands22 : State := { atStep7 with train := { atStep7.train with buckets := [⟨0, false, 0, 0, 0, 0, 0, 0, false, false, 0⟩] } } |> twoBuckets |> taking 0x500 [(8,8,0x77),(16,2,2),(24,8,8)]

def stepCommands23 : State := withBytes atStep7 0x88 imgMarks |> taking 0x504 [(8,4,5),(16,8,0x88),(24,4,144)]

def firmwareCommands1 : State := linked |> withWords 0x77 2 [300] |> firmed (fun f => { f with inUse := 1 }) |> taking 0xA06 [(8,2,0x0E),(10,2,2),(16,8,0x77)]

def firmwareCommands2 : State := linked |> withWords 0x77 4 [7, 8] |> taking 0x600 [(8,1,1),(12,4,100),(16,8,0x77),(24,4,3)]

def firmwareCommands3 : State := linked |> withWords 0x77 4 [7, 8] |> taking 0x600 [(8,1,0),(12,4,100),(16,8,0x77),(24,4,3)]

def firmwareCommands4 : State := linked |> taking 0x600 [(8,1,1),(12,4,100),(16,8,0x77),(24,4,0x100001)]

def firmwareCommands5 : State := linked |> taking 0x600 [(8,1,1),(12,4,0x2000000),(16,8,0x77),(24,4,0x1)]

def firmwareCommands6 : State := linked |> firmed (fun f => { f with slotB := [(0, 0), (1, 0), (2, 0), (3, 0)] }) |> taking 0x601 [(8,1,1)]

def firmwareCommands7 : State := linked |> firmed (fun f => { f with verified := [1] }) |> taking 0x602 [(8,1,1)]

def firmwareCommands8 : State := linked |> standbyReady |> firmed (fun f => { f with verified := [1] }) |> taking 0x602 [(8,1,1)]

def firmwareCommands9 : State := linked |> standbyReady |> firmed (fun f => { f with act := some ⟨1,2,0,false,false,9⟩, slotA := [(0, 0), (1, 0), (2, 0), (3, 0)], slotB := [(0, 0), (1, 0), (2, 0), (3, 0)] }) |> taking 0x602 [(8,1,1)]

def firmwareCommands10 : State := linked |> firmed (fun f => { f with verified := [1] }) |> taking 0x603 [(8,1,1)]

def firmwareCommands11 : State := linked |> firmed (fun f => { f with inUse := 1, verified := [1] }) |> taking 0x603 [(8,1,1)]

def firmwareCommands12 : State := linked |> firmed (fun f => { f with slotA := [(6, 9), (7, 0)], slotB := [(6, 1), (7, 0)] }) |> taking 0x604 [(8,1,5)]

def firmwareCommands14 : State := linked |> taking 0x605 [(8,32,0x123456789012345678901234567890),(40,4,4),(48,8,0x77),(56,4,0x40+48+3308)]

def firmwareCommands15 : State := linked |> taking 0x605 [(8,32,0x123456789012345678901234567890),(40,4,4),(48,8,0x77),(56,4,0x40+48+3309)]

def firmwareCommands16 : State := linked |> firmed (fun f => { f with bootLog := [⟨5,1,0,2,3,77,0,1⟩, ⟨4,1,0,2,3,77,0,1⟩] }) |> taking 0xA04 [(8,8,0x77)]

def firmwareCommands17 : State := linked |> firmed (fun f => { f with startCount := 5}) |> taking 0xA05 []

def firmwareCommands18 : State := linked |> taking 0xA06 [(8,2,7),(10,2,1)]

def firmwareCommands19 : State := linked |> withWords 0x77 2 [300] |> taking 0xA06 [(8,2,0x0E),(10,2,2),(16,8,0x77)]

def firmwareCommands20 : State := linked |> withWords 0x77 2 [401] |> taking 0xA06 [(8,2,0x0E),(10,2,2),(16,8,0x77)]

def firmwareCommands21 : State := linked |> taking 0xA07 [(8,8,0x77)]

def firmwareCommands22 : State := (linked |> taking 0 []).setMbx (linked |> taking 0 []).mbx |> (fun s => s.setFirm (activating true false 4 5 linked).firm)

def firmwareCommands23 : State := (linked |> taking 0 []) |> (fun s => s.setFirm (activating true false 3 5 linked).firm)

def telemetryAnd1 : State := linked |> taking 0x700 [(8,2,4),(16,8,0x77)]

def telemetryAnd3 : State := linked |> (fun s => s.setF (tempReg 3) F.PWR_TEMP_temp 99) |> taking 0x701 [(8,2,4)]

def telemetryAnd4 : State := linked |> (fun s => s.wr (reg0 .LNK_ERR 6) 0xFFFFFFFFFFFF) |> taking 0x701 [(8,2,2)]

def telemetryAnd5 : State := linked |> taking 0x702 [(8,2,1),(10,2,5),(16,8,77)]

def telemetryAnd7 : State := linked |> taking 0x702 [(8,2,1),(10,2,60000),(16,8,77)]

def telemetryAnd8 : State := linkedCore |> readEntry 0x13 0x80000005 0 1048577

def telemetryAnd9 : State := linkedCore |> taking 0x801 [(8,2,0x13),(12,4,0x80000005),(16,8,0x77),(24,4,1048577),(28,4,0)]

def telemetryAnd10 : State := linkedCore |> (fun s => s.wr (tokReg ⟨0,5,7⟩) 99) |> readEntry 4 5 0 512

def telemetryAnd14 : State := linkedCore |> (fun s => s.setEngSt false 5 1) |> writeEntry 2 20 0 16

def telemetryAnd16 : State := linked |> taking 0x900 [(8,2,3600)]

def telemetryAnd17 : State := linked |> taking 0x902 [(8,8,96),(16,1,0)]

def telemetryAnd18 : State := linked |> taking 0x902 [(8,8,96),(16,1,16)]

def telemetryAnd20 : State := linked |> taking 0xA03 [(8,8,0x77)]

def telemetryAnd21 : State := (restStopped.setF (reg1 .RST_BLOCK 0 5) F.RST_BLOCK_reset 1) |> resetEntry 0 5

def telemetryAnd22 : State := (restStopped.setF (reg1 .CP_CORE_REMAP 0 5) F.CP_CORE_REMAP_state 2) |> resetEntry 0 5

def telemetryAnd23 : State := completed 0xA01 |> (fun s => s.setF (cqHead 3) F.PCI_MBX_CQ_HEAD_head 10)

def telemetryAnd24 : State := completed 0xA02 |> (fun s => s.setF (cqHead 3) F.PCI_MBX_CQ_HEAD_head 10)

/-- LEVEL_SET in frost state, on an urgent ring, and with a byte that is reserved. -/
def inFrost : State := withEntry (linked.setF (reg0 .PCI_MBX_GLOBAL 0) F.PCI_MBX_GLOBAL_mode 3) 3 (entryWord 0x40A 7 [])
def urgentRing : State := withEntry linked 1 (entryWord 0x40A 7 [])
def badByte : State := withEntry linked 3 (entryWord 0x40A 7 [(60, 1, 2)])

/-- The commit record of step 9 applied while partner 77 mirrors. -/
def mirroring : State :=
  (training [bucket true true] [20, 30] (fun t => { t with record := some (recordOf 9), midx := [7] })).setF (reg0 .CP_PAIR_STATUS 0)
    F.CP_PAIR_STATUS_partner_id 77

/-- The fault of a bundle that is not one. -/
def bundleFault (r : Except Nat Bundle) : Option Nat :=
  match r with
  | .error k => some k
  | .ok _ => none

theorem test_RegisterWriteFollowsTheAccessCodes_hypotheses :
    ((reg0 .OPE_NUM_CTRL 5).name ∈ plainRegisters) ∧
    ((reg0 .OPE_NUM_CTRL 5).valid = true) ∧
    (up.regStatus (reg0 .OPE_NUM_CTRL 5) = Status.ok) := by
  decide +kernel

theorem test_RegisterReadReturnsThenClears_hypotheses :
    ((reg0 .OPE_NUM_CTRL 5).valid = true) ∧
    (up.regStatus (reg0 .OPE_NUM_CTRL 5) = Status.ok) ∧
    (¬(reg0 .OPE_NUM_CTRL 5).name ∈
      [.ICU_CLAIM, .ICU_CP_CLAIM, .ICU_CORE_SRC, .ICU_STATUS, .ICU_CP_STATUS,
      .ICU_PEND, .PWR_TEMP]) := by
  decide +kernel

theorem test_ApertureReadsAndRestricts_hypotheses :
    ((BitVec.ofNat 23 (reg0 .WIN_SCHED 1).addr).toNat % 8 = 0) ∧
    (Option.any
      (fun r =>
      decide
      (up.regStatus r = Status.ok ∧
      r.name.masks.rc = 0#64 ∧
      ¬r.name ∈
      [.ICU_CLAIM, .ICU_CP_CLAIM, .ICU_CORE_SRC, .ICU_STATUS,
      .ICU_CP_STATUS, .ICU_PEND]))
      (regAt
      (up.fld (reg0 .PCI_REG_APERTURE 0) F.PCI_REG_APERTURE_base_hi * 8388608 +
      (BitVec.ofNat 23 (reg0 .WIN_SCHED 1).addr).toNat)) =
      true) ∧
    (Option.any
      (fun r =>
      decide (52776562327552 ≤ r.addr ∧ regTok r = none ∧ ¬r.name ∈ [.PCI_HOST_WIN, .PCI_APERTURE]))
      (regAt
      (stepRuns1.fld (reg0 .PCI_REG_APERTURE 0) F.PCI_REG_APERTURE_base_hi * 8388608 +
      (BitVec.ofNat 23 (reg0 .WIN_SCHED 1).addr).toNat)) =
      true) ∧
    ((BitVec.ofNat 23 (sigReg (Tok.mk 0 5 3)).addr).toNat % 8 = 0) ∧
    ((Tok.mk 0 5 3).wf = true) ∧
    (regAt
      (up.fld (reg0 .PCI_REG_APERTURE 0) F.PCI_REG_APERTURE_base_hi * 8388608 +
      (BitVec.ofNat 23 (sigReg (Tok.mk 0 5 3)).addr).toNat) =
      some (sigReg (Tok.mk 0 5 3))) ∧
    (up.regStatus (sigReg (Tok.mk 0 5 3)) = Status.ok) := by
  decide +kernel

theorem test_FailedAccessesReachNothing_hypotheses :
    (reachesNothing (35184397254656#52).toNat = true) ∧
    (busy.remap 5 ≠ 0) ∧
    (Requester.move 5 0 ≠ Requester.host) := by
  decide +kernel

theorem test_CrossingKeepsOrderAndDiscards_hypotheses :
    ((tget [] (stopped [5, 88, 89] busy).cross (5 * 128 + 88)).head?.isSome = true) ∧
    ((stopped [5, 88, 89] busy).clk.stopped.contains 88 = true) ∧
    ((tget [] busy.cross (5 * 128 + 88)).head?.isSome = true) ∧
    (busy.clk.stopped.contains 88 = false) := by
  decide +kernel

theorem test_SignalsAndWritesSetTokens_hypotheses :
    ((Tok.mk 0 5 3).wf = true) ∧
    (up.regStatus (tokReg (Tok.mk 0 5 3)) = Status.ok) ∧
    (up.tokCount (Tok.mk 0 5 3) + (65535#16).toNat ≤ 65535) ∧
    ((waits 5).regStatus (tokReg (Tok.mk 0 5 3)) = Status.ok) ∧
    (65535 < (waits 5).tokCount (Tok.mk 0 5 3) + (65535#16).toNat) ∧
    (65535 < (waits 5).tokCount (Tok.mk 0 5 3) + (18446744073709551615#64).toNat % 65536) ∧
    (busy.regStatus (tokReg (Tok.mk 0 5 3)) ≠ Status.ok) := by
  decide +kernel

theorem test_WaitIsServedWhenTheCountCoversIt_hypotheses :
    ((Wait.mk (Tok.mk 0 5 3) 80 5).tok.wf = true) ∧
    ((waits 5).waits = [Wait.mk (Tok.mk 0 5 3) 80 5]) ∧
    ((waits 5).reqIsland (Wait.mk (Tok.mk 0 5 3) 80 5).req = (waits 5).tokIsland (Wait.mk (Tok.mk 0 5 3) 80 5).tok) ∧
    ((waits 5).regStatus (tokReg (Wait.mk (Tok.mk 0 5 3) 80 5).tok) = Status.ok) ∧
    ((Wait.mk (Tok.mk 0 5 3) 80 5).n ≤ (waits 5).tokCount (Wait.mk (Tok.mk 0 5 3) 80 5).tok) ∧
    ((waits 4).waits = [Wait.mk (Tok.mk 0 5 3) 80 5]) ∧
    ((waits 4).reqIsland (Wait.mk (Tok.mk 0 5 3) 80 5).req = (waits 4).tokIsland (Wait.mk (Tok.mk 0 5 3) 80 5).tok) ∧
    ((waits 4).regStatus (tokReg (Wait.mk (Tok.mk 0 5 3) 80 5).tok) = Status.ok) ∧
    ((waits 4).tokCount (Wait.mk (Tok.mk 0 5 3) 80 5).tok < (Wait.mk (Tok.mk 0 5 3) 80 5).n) := by
  decide +kernel

theorem test_StepTokenBecomesAModuleSignal_hypotheses :
    (busy.stepFree = false) ∧
    (up.stepFree = true) ∧
    ((List.map (fun x => x.fst) up.stepMap).contains (7#15).toNat = false) ∧
    (inJob.stepFree = true) ∧
    ((List.map (fun x => x.fst) inJob.stepMap).contains (7#15).toNat = true) ∧
    (tget 0 inJob.stepMap (7#15).toNat = 3) ∧
    (inJob.members.ids.contains inJob.fab.id = true) := by
  decide +kernel

theorem test_OuterProductWordsIssue_hypotheses :
    (opeHead (opeAt (word 0 64)) 5 0 (word 0 64)) ∧
    (opeHead (opeAt (word 2 64) (some tile)) 5 2 (word 2 64)) ∧
    (((opeAt (word 2 64) (some tile)).ope 5).tile.isSome = true) ∧
    (opeHead (opeAt (word 4 64) (some tile)) 5 4 (word 4 64)) ∧
    (((opeAt (word 4 64) (some tile)).ope 5).tile.isSome = true) ∧
    (opeHead (opeAt (word 274877907205 64)) 5 5 (word 274877907205 64)) ∧
    (opeHead (opeAt (word 549755813894 64)) 5 6 (word 549755813894 64)) ∧
    (((opeAt (word 2 64)).ope 5).tile = none) ∧
    (opeHead (opeAt (word 2 64)) 5 2 (word 2 64)) ∧
    (((opeAt (word 3 64)).ope 5).tile = none) ∧
    (opeHead (opeAt (word 3 64)) 5 3 (word 3 64)) ∧
    (isDrainFmt ((opeAt (word 3 64)).fld (reg1 .OPE_DRAIN 5 (bitsOf (word 3 64).word 8 3)) F.OPE_DRAIN_fmt_out) =
      true) ∧
    (((opeAt (word 4 64)).ope 5).tile = none) ∧
    (opeHead (opeAt (word 4 64)) 5 4 (word 4 64)) := by
  decide +kernel

theorem test_OuterProductControlWordsAct_hypotheses :
    (opeHead (opeAt (word (16 + 2 ^ 64 * 33) 64)) 5 16 (word (16 + 2 ^ 64 * 33) 64)) ∧
    (bitsOf (word (16 + 2 ^ 64 * 33) 64).word 64 25 = 33) ∧
    ((if bitsOf (word (16 + 2 ^ 64 * 33) 64).word 8 1 = 1 then
      (opeAt (word (16 + 2 ^ 64 * 33) 64)).fld
      (reg1 .OPE_LOOPCNT 5 (bitsOf (word (16 + 2 ^ 64 * 33) 64).word 9 3)) F.OPE_LOOPCNT_count
      else bitsOf (word (16 + 2 ^ 64 * 33) 64).word 32 32) =
      0) ∧
    (33 = 0 ∨
      33 % 16 ≠ 0 ∨
      (opeAt (word (16 + 2 ^ 64 * 33) 64)).pcEnd false 5 ≤ (word (16 + 2 ^ 64 * 33) 64).pc + 33 ∨
      0 ≠ 0 ∧ 4 ≤ (opeAt (word (16 + 2 ^ 64 * 33) 64)).loopDepth false 5) ∧
    (opeHead (opeAt (word (16 + 2 ^ 32 * 3 + 2 ^ 64 * 32) 64)) 5 16 (word (16 + 2 ^ 32 * 3 + 2 ^ 64 * 32) 64)) ∧
    (bitsOf (word (16 + 2 ^ 32 * 3 + 2 ^ 64 * 32) 64).word 64 25 = 32) ∧
    ((if bitsOf (word (16 + 2 ^ 32 * 3 + 2 ^ 64 * 32) 64).word 8 1 = 1 then
      (opeAt (word (16 + 2 ^ 32 * 3 + 2 ^ 64 * 32) 64)).fld
      (reg1 .OPE_LOOPCNT 5 (bitsOf (word (16 + 2 ^ 32 * 3 + 2 ^ 64 * 32) 64).word 9 3)) F.OPE_LOOPCNT_count
      else bitsOf (word (16 + 2 ^ 32 * 3 + 2 ^ 64 * 32) 64).word 32 32) =
      3) ∧
    (¬(32 = 0 ∨
      32 % 16 ≠ 0 ∨
      (opeAt (word (16 + 2 ^ 32 * 3 + 2 ^ 64 * 32) 64)).pcEnd false 5 ≤
      (word (16 + 2 ^ 32 * 3 + 2 ^ 64 * 32) 64).pc + 32 ∨
      3 ≠ 0 ∧ 4 ≤ (opeAt (word (16 + 2 ^ 32 * 3 + 2 ^ 64 * 32) 64)).loopDepth false 5)) ∧
    (opeHead (opeAt (word (16 + 2 ^ 64 * 32) 64)) 5 16 (word (16 + 2 ^ 64 * 32) 64)) ∧
    (bitsOf (word (16 + 2 ^ 64 * 32) 64).word 64 25 = 32) ∧
    ((if bitsOf (word (16 + 2 ^ 64 * 32) 64).word 8 1 = 1 then
      (opeAt (word (16 + 2 ^ 64 * 32) 64)).fld
      (reg1 .OPE_LOOPCNT 5 (bitsOf (word (16 + 2 ^ 64 * 32) 64).word 9 3)) F.OPE_LOOPCNT_count
      else bitsOf (word (16 + 2 ^ 64 * 32) 64).word 32 32) =
      0) ∧
    (¬(32 = 0 ∨
      32 % 16 ≠ 0 ∨
      (opeAt (word (16 + 2 ^ 64 * 32) 64)).pcEnd false 5 ≤ (word (16 + 2 ^ 64 * 32) 64).pc + 32 ∨
      0 ≠ 0 ∧ 4 ≤ (opeAt (word (16 + 2 ^ 64 * 32) 64)).loopDepth false 5)) ∧
    (opeHead (inLoop 1 (word 17 64)) 5 17 (word 17 64)) ∧
    ((inLoop 1 (word 17 64)).loopDepth false 5 = 0 + 1) ∧
    ((inLoop 1 (word 17 64)).fld (loopEndReg false 5 0) F.OPE_LOOP_END_end_pc = (word 17 64).pc) ∧
    ((inLoop 1 (word 17 64)).fld (loopReg false 5 0) F.OPE_LOOP_remaining ≤ 1) ∧
    (opeHead (opeAt (word (18 + 256 * 5 + 2 ^ 32 * 9) 64)) 5 18 (word (18 + 256 * 5 + 2 ^ 32 * 9) 64)) ∧
    (bitsOf (word (18 + 256 * 5 + 2 ^ 32 * 9) 64).word 8 9 = 5) ∧
    (bitsOf (word (18 + 256 * 5 + 2 ^ 32 * 9) 64).word 32 16 ≤
      (opeAt (word (18 + 256 * 5 + 2 ^ 32 * 9) 64)).tokCount (Tok.mk 0 5 5)) ∧
    ((opeAt (word (18 + 256 * 5 + 2 ^ 32 * 9) 64)).grants = []) ∧
    ((opeAt (word (18 + 256 * 5 + 2 ^ 32 * 9) 64)).waits = []) ∧
    ((opeAt (word (18 + 256 * 5 + 2 ^ 32 * 9) 64)).withdrawn = []) ∧
    (opeHead (opeAt (word (19 + 256 * 5 + 2 ^ 32 * 65526) 64)) 5 19 (word (19 + 256 * 5 + 2 ^ 32 * 65526) 64)) ∧
    (bitsOf (word (19 + 256 * 5 + 2 ^ 32 * 65526) 64).word 8 9 = 5) ∧
    (bitsOf (word (19 + 256 * 5 + 2 ^ 32 * 65526) 64).word 17 1 = 0) ∧
    ((opeAt (word (19 + 256 * 5 + 2 ^ 32 * 65526) 64)).tokCount (Tok.mk 0 5 5) +
      bitsOf (word (19 + 256 * 5 + 2 ^ 32 * 65526) 64).word 32 16 ≤
      65535) ∧
    (opeHead (opeAt (word (19 + 256 * 5 + 2 ^ 32 * 7 + 2 ^ 17) 64)) 5 19 (word (19 + 256 * 5 + 2 ^ 32 * 7 + 2 ^ 17) 64)) ∧
    (bitsOf (word (19 + 256 * 5 + 2 ^ 32 * 7 + 2 ^ 17) 64).word 8 9 = 5) ∧
    (bitsOf (word (19 + 256 * 5 + 2 ^ 32 * 7 + 2 ^ 17) 64).word 17 1 = 1) ∧
    (((opeAt (word (19 + 256 * 5 + 2 ^ 32 * 7 + 2 ^ 17) 64)).ope 5).sigs.length < 8) ∧
    (opeHead (opeAt (word (18 + 256 * 5 + 2 ^ 32 * 10) 64)) 5 18 (word (18 + 256 * 5 + 2 ^ 32 * 10) 64)) ∧
    (bitsOf (word (18 + 256 * 5 + 2 ^ 32 * 10) 64).word 8 9 = 5) ∧
    ((opeAt (word (18 + 256 * 5 + 2 ^ 32 * 10) 64)).tokCount (Tok.mk 0 5 5) <
      bitsOf (word (18 + 256 * 5 + 2 ^ 32 * 10) 64).word 32 16) ∧
    ((opeAt (word (18 + 256 * 5 + 2 ^ 32 * 10) 64)).grants = []) ∧
    ((opeAt (word (18 + 256 * 5 + 2 ^ 32 * 10) 64)).waits = []) ∧
    ((opeAt (word (18 + 256 * 5 + 2 ^ 32 * 10) 64)).withdrawn = []) ∧
    (opeHead (opeAt (word (19 + 256 * (5 + 64) + 2 ^ 32 * 7) 64)) 5 19 (word (19 + 256 * (5 + 64) + 2 ^ 32 * 7) 64)) ∧
    (bitsOf (word (19 + 256 * (5 + 64) + 2 ^ 32 * 7) 64).word 17 1 = 0) ∧
    (Option.any (fun k => decide (k.scope ≠ 0)) (tokRef 5 (bitsOf (word (19 + 256 * (5 + 64) + 2 ^ 32 * 7) 64).word 8 9)) =
      true) ∧
    (tokRef 5 (bitsOf (word (18 + 256 * (6 * 64) + 2 ^ 32 * 7) 64).word 8 9) = none) ∧
    (opeHead (opeAt (word (18 + 256 * (6 * 64) + 2 ^ 32 * 7) 64)) 5 18 (word (18 + 256 * (6 * 64) + 2 ^ 32 * 7) 64)) ∧
    (tokRef 5 (bitsOf (word (19 + 256 * (6 * 64) + 2 ^ 32 * 7) 64).word 8 9) = none) ∧
    (opeHead (opeAt (word (19 + 256 * (6 * 64) + 2 ^ 32 * 7) 64)) 5 19 (word (19 + 256 * (6 * 64) + 2 ^ 32 * 7) 64)) ∧
    (opeHead (opeAt (word 20 64)) 5 ((word 20 64).word % 256) (word 20 64)) ∧
    (6 < (word 20 64).word % 256) ∧
    ((word 20 64).word % 256 < 16 ∨ 19 < (word 20 64).word % 256) := by
  and_intros <;> first | decide +kernel | rfl

theorem test_PendingSignalRunAndFaultClear_hypotheses :
    ((signals 3).alive 5 = true) ∧
    (Option.any
      (fun g =>
      decide
      ((∀ (i : Nat), i ∈ ((signals 3).ope 5).out → g.upto ≤ i) ∧
      g.ref < 64 ∧ (signals 3).tokCount (Tok.mk 0 5 g.ref) + g.n ≤ 65535))
      ((signals 3).ope 5).sigs.head? =
      true) ∧
    (pendingSignal1.alive 5 = true) ∧
    (pendingSignal1.engSt false 5 = 0) ∧
    (pendingSignal1.pc false 5 < pendingSignal1.pcEnd false 5) ∧
    (pendingSignal2.alive 5 = true) ∧
    (pendingSignal2.engSt false 5 = 3) := by
  decide +kernel

theorem test_PassChecksAndBegins_hypotheses :
    (opeHead (opeAt (word (passWord 4 0 0) 64)) 5 1 (word (passWord 4 0 0) 64)) ∧
    ((opeAt (word (passWord 4 0 0) 64)).passCheck 5 (passOf (word (passWord 4 0 0) 64).word) = 4) ∧
    (opeHead (opeAt (word (passWord 4 1 0 0 0 8 15) 64)) 5 1 (word (passWord 4 1 0 0 0 8 15) 64)) ∧
    (fmtRank (passOf (word (passWord 4 1 0 0 0 8 15) 64).word).fmtL ≠
      fmtRank (passOf (word (passWord 4 1 0 0 0 8 15) 64).word).fmtR ∨
      fmtRank (passOf (word (passWord 4 1 0 0 0 8 15) 64).word).fmtL = none ∨
      (passOf (word (passWord 4 1 0 0 0 8 15) 64).word).ends = true ∧
      isDrainFmt
      ((opeAt (word (passWord 4 1 0 0 0 8 15) 64)).fld
      (reg1 .OPE_DRAIN 5 (passOf (word (passWord 4 1 0 0 0 8 15) 64).word).dset) F.OPE_DRAIN_fmt_out) =
      false) ∧
    (opeHead (opeAt (word (passWord 4 1 0 0 0 0) 64)) 5 1 (word (passWord 4 1 0 0 0 0) 64)) ∧
    ((passOf (word (passWord 4 1 0 0 0 0) 64).word).ends = false) ∧
    (Option.any
      (fun k =>
      decide
      ((passOf (word (passWord 4 1 0 0 0 0) 64).word).spillL = 0 ∨
      32768 < (passOf (word (passWord 4 1 0 0 0 0) 64).word).spillL ∨
      (passOf (word (passWord 4 1 0 0 0 0) 64).word).spillL % k ≠ 0))
      (fmtRank (passOf (word (passWord 4 1 0 0 0 0) 64).word).fmtL) =
      true) ∧
    (opeHead (opeAt (word (passWord 4 1 0 0 0 8 0 1) 64)) 5 1 (word (passWord 4 1 0 0 0 8 0 1) 64)) ∧
    ((passOf (word (passWord 4 1 0 0 0 8 0 1) 64).word).ends = false) ∧
    ((shapeOf (passOf (word (passWord 4 1 0 0 0 8 0 1) 64).word).shape).h ≤
      (passOf (word (passWord 4 1 0 0 0 8 0 1) 64).word).mAct ∨
      (shapeOf (passOf (word (passWord 4 1 0 0 0 8 0 1) 64).word).shape).w ≤
      (passOf (word (passWord 4 1 0 0 0 8 0 1) 64).word).nAct) ∧
    (Option.any
      (fun k =>
      decide
      ¬((passOf (word (passWord 4 1 0 0 0 8 0 1) 64).word).spillL = 0 ∨
      32768 < (passOf (word (passWord 4 1 0 0 0 8 0 1) 64).word).spillL ∨
      (passOf (word (passWord 4 1 0 0 0 8 0 1) 64).word).spillL % k ≠ 0))
      (fmtRank (passOf (word (passWord 4 1 0 0 0 8 0 1) 64).word).fmtL) =
      true) ∧
    ((passOf (word (passWord 4 0 0) 64).word).ends = false) ∧
    (¬((shapeOf (passOf (word (passWord 4 0 0) 64).word).shape).h ≤ (passOf (word (passWord 4 0 0) 64).word).mAct ∨
      (shapeOf (passOf (word (passWord 4 0 0) 64).word).shape).w ≤ (passOf (word (passWord 4 0 0) 64).word).nAct)) ∧
    ((passOf (word (passWord 4 0 0) 64).word).begins = false) ∧
    (((opeAt (word (passWord 4 0 0) 64)).ope 5).tile = none) ∧
    (Option.any
      (fun k =>
      decide
      ¬((passOf (word (passWord 4 0 0) 64).word).spillL = 0 ∨
      32768 < (passOf (word (passWord 4 0 0) 64).word).spillL ∨
      (passOf (word (passWord 4 0 0) 64).word).spillL % k ≠ 0))
      (fmtRank (passOf (word (passWord 4 0 0) 64).word).fmtL) =
      true) ∧
    (opeHead (opeAt (word (passWord 4 1 0) 64)) 5 1 (word (passWord 4 1 0) 64)) ∧
    ((opeAt (word (passWord 4 1 0) 64)).passCheck 5 (passOf (word (passWord 4 1 0) 64).word) = 0) ∧
    ((passOf (word (passWord 4 1 0) 64).word).begins = true) ∧
    (opeHead (opeAt (word (passWord 4 0 0) 64) (some tile)) 5 1 (word (passWord 4 0 0) 64)) ∧
    ((opeAt (word (passWord 4 0 0) 64) (some tile)).passCheck 5 (passOf (word (passWord 4 0 0) 64).word) = 0) ∧
    (((opeAt (word (passWord 4 0 0) 64) (some tile)).ope 5).tile.isSome = true) := by
  decide +kernel

theorem test_StepAddsItsProducts_hypotheses :
    (Option.any
      (fun r =>
      decide
      (r.empty = true ∧
      Option.any (fun x => decide (opeStepReady (passing 0 0 0) 5 r x)) ((passing 0 0 0).ope 5).tile = true))
      ((passing 0 0 0).ope 5).run =
      true) ∧
    (Option.any
      (fun r =>
      decide
      (r.empty = false ∧
      Option.any (fun x => decide (opeStepReady (passing 4 0 0) 5 r x)) ((passing 4 0 0).ope 5).tile = true))
      ((passing 4 0 0).ope 5).run =
      true) ∧
    (Option.any
      (fun r =>
      decide
      (r.t + 1 ≠ r.steps ∧
      r.empty = false ∧
      Option.any (fun x => decide (opeStepReady (passing 4 0 0) 5 r x)) ((passing 4 0 0).ope 5).tile = true))
      ((passing 4 0 0).ope 5).run =
      true) ∧
    (Option.any
      (fun r =>
      decide
      (r.t + 1 = r.steps ∧
      (passOf r.word.toNat).ends = false ∧
      Option.any (fun x => decide (opeStepReady (passing 4 0 3) 5 r x)) ((passing 4 0 3).ope 5).tile = true))
      ((passing 4 0 3).ope 5).run =
      true) ∧
    (Option.any
      (fun r =>
      decide
      (r.t + 1 = r.steps ∧
      (passOf r.word.toNat).ends = true ∧
      Option.any (fun x => decide (opeStepReady (passing 4 1 3) 5 r x)) ((passing 4 1 3).ope 5).tile = true))
      ((passing 4 1 3).ope 5).run =
      true) := by
  decide +kernel

theorem test_WithheldStepCountsItsCause_hypotheses :
    ((stepAdds2.ope 5).tile.isSome = true) ∧
    (stepAdds2.fld (reg0 .TM_STALL_CTRL 5) F.TM_STALL_CTRL_freeze = 0) ∧
    (Option.any
      (fun r =>
      decide
      (opeStepGate stepAdds2 5 r ∧
      r.empty = false ∧
      (fget r.ringL F.OPE_RING_feed_en = 1 ∧
      r.groupsL ≤ r.t / (fget r.ringL F.OPE_RING_grant_m1 + 1) ∧
      stepAdds2.tokCount (Tok.mk 0 5 (fget r.ringL F.OPE_RING_feed_tok)) = 0 ∧
      (stepAdds2.rd (reg0 .MOV_HOLD 5)).getLsbD (fget r.ringL F.OPE_RING_feed_tok) = false) ∧
      fget r.ringR F.OPE_RING_feed_en = 0))
      (stepAdds2.ope 5).run =
      true) ∧
    (((passing 4 1 3 id bothFeeds).ope 5).tile.isSome = true) ∧
    ((passing 4 1 3 id bothFeeds).fld (reg0 .TM_STALL_CTRL 5) F.TM_STALL_CTRL_freeze = 0) ∧
    (Option.any
      (fun r =>
      decide
      (opeStepGate (passing 4 1 3 id bothFeeds) 5 r ∧
      r.empty = false ∧
      (fget r.ringL F.OPE_RING_feed_en = 1 ∧
      r.groupsL ≤ r.t / (fget r.ringL F.OPE_RING_grant_m1 + 1) ∧
      (passing 4 1 3 id bothFeeds).tokCount (Tok.mk 0 5 (fget r.ringL F.OPE_RING_feed_tok)) = 0 ∧
      ((passing 4 1 3 id bothFeeds).rd (reg0 .MOV_HOLD 5)).getLsbD
      (fget r.ringL F.OPE_RING_feed_tok) =
      false) ∧
      fget r.ringR F.OPE_RING_feed_en = 1 ∧
      r.groupsR ≤ r.t / (fget r.ringR F.OPE_RING_grant_m1 + 1) ∧
      0 < (passing 4 1 3 id bothFeeds).tokCount (Tok.mk 0 5 (fget r.ringR F.OPE_RING_feed_tok))))
      ((passing 4 1 3 id bothFeeds).ope 5).run =
      true) ∧
    (stepAdds3.fld (reg0 .TM_STALL_CTRL 5) F.TM_STALL_CTRL_freeze = 0) ∧
    (Option.any (fun x => decide (x.spillDue = 0)) (stepAdds3.ope 5).tile = true) ∧
    (Option.any
      (fun r =>
      decide
      (opeStepGate stepAdds3 5 r ∧
      fget r.ringL F.OPE_RING_feed_en = 0 ∧
      fget r.ringR F.OPE_RING_feed_en = 0 ∧
      (passOf r.word.toNat).ends = true ∧
      r.t + 1 = r.steps ∧ (stepAdds3.ope 5).copyReady (passOf r.word.toNat).shape = false))
      (stepAdds3.ope 5).run =
      true) ∧
    ((passing 4 0 0).fld (reg0 .TM_STALL_CTRL 5) F.TM_STALL_CTRL_freeze = 0) ∧
    (Option.any (fun x => decide (x.spillDue = 0)) ((passing 4 0 0).ope 5).tile = true) ∧
    (Option.any
      (fun r =>
      decide
      (opeStepGate (passing 4 0 0) 5 r ∧
      fget r.ringL F.OPE_RING_feed_en = 0 ∧
      fget r.ringR F.OPE_RING_feed_en = 0 ∧
      ¬((passOf r.word.toNat).ends = true ∧
      r.t + 1 = r.steps ∧ ((passing 4 0 0).ope 5).copyReady (passOf r.word.toNat).shape = false)))
      ((passing 4 0 0).ope 5).run =
      true) ∧
    (throttled4.fld (reg0 .TM_STALL_CTRL 5) F.TM_STALL_CTRL_freeze = 0) ∧
    (throttled4.throttled 5 = true) ∧
    (Option.any (fun x => decide (x.spillDue = 0)) (throttled4.ope 5).tile = true) ∧
    (Option.any
      (fun r =>
      decide
      (opeStepGate throttled4 5 r ∧
      fget r.ringL F.OPE_RING_feed_en = 0 ∧
      fget r.ringR F.OPE_RING_feed_en = 0 ∧
      ¬((passOf r.word.toNat).ends = true ∧
      r.t + 1 = r.steps ∧ (throttled4.ope 5).copyReady (passOf r.word.toNat).shape = false)))
      (throttled4.ope 5).run =
      true) := by
  decide +kernel

theorem test_WindowSumsDoNotDependOnOrder_hypotheses :
    (∀ (p : Int × Bool × Bool), p ∈ [(1, false, true), (2, true, false)] → p.fst.natAbs < 2 ^ 47) ∧
    ([(1, false, true), (2, true, false)].length ≤ 32768) ∧
    ([(1, false, true), (2, true, false)].Perm [(1, false, true), (2, true, false)]) := by
  decide +kernel

theorem test_ClosedTilesDrainAndComplete_hypotheses :
    ((closedTiles2.ope 5).tile.isSome = true) ∧
    (Option.any
      (fun q =>
      decide
      (opeHead closedTiles2 5 3 q ∧
      isDrainFmt (closedTiles2.fld (reg1 .OPE_DRAIN 5 (bitsOf q.word 8 3)) F.OPE_DRAIN_fmt_out) = true ∧
      closedTiles2.fld (reg1 .OPE_DRAIN 5 (bitsOf q.word 8 3)) F.OPE_DRAIN_stride_lines = 0))
      (closedTiles2.ope 5).st.q.head? =
      true) ∧
    ((closedTiles1.ope 5).nextAt ≤ (closedTiles1.ope 5).cyc) ∧
    (closedTiles1.throttled 5 = false) ∧
    (Option.any
      (fun x =>
      decide
      ((closedTiles1.ope 5).copyReady x.shape = true ∧
      x.spillDue = 0 ∧ (closedTiles1.ope 5).shapeReady x.shape = true))
      (closedTiles1.ope 5).tile =
      true) ∧
    (Option.any
      (fun q =>
      decide
      (opeHead closedTiles1 5 3 q ∧
      isDrainFmt (closedTiles1.fld (reg1 .OPE_DRAIN 5 (bitsOf q.word 8 3)) F.OPE_DRAIN_fmt_out) = true ∧
      closedTiles1.fld (reg1 .OPE_DRAIN 5 (bitsOf q.word 8 3)) F.OPE_DRAIN_stride_lines ≠ 0))
      (closedTiles1.ope 5).st.q.head? =
      true) ∧
    ((closedTiles3.ope 5).closed.head?.isSome = true) ∧
    ((closedTiles3.ope 5).drain = none) ∧
    ((closedTiles3.ope 5).saving = none) ∧
    ((closedTiles3.ope 5).replay = none) ∧
    ((closedTiles4.ope 5).saving = none) ∧
    ((closedTiles4.ope 5).replay = none) ∧
    (Option.any (fun d => decide (d.rows = 0)) (closedTiles4.ope 5).drain = true) ∧
    (closedTiles5.fld (reg0 .OPE_CTRL 5) F.OPE_CTRL_dump = 0) ∧
    (Option.any (fun d => decide (closedTiles5.tokCount (Tok.mk 0 5 (dsetOf d.dset d.dext).tok) < 65535))
      (closedTiles5.ope 5).fin.head? =
      true) ∧
    ((closedTiles6.ope 5).cpls.head?.isSome = true) ∧
    (closedTiles6.alive 5 = true) ∧
    (closedTiles6.fld (reg0 .OPE_CPL_BASE 5) F.OPE_CPL_BASE_base_line * 128 +
      32 * ((closedTiles6.ope 5).seq.toNat % 2 ^ closedTiles6.fld (reg0 .OPE_CPL_BASE 5) F.OPE_CPL_BASE_size) =
      32) ∧
    (32 + 32 ≤ slotSize) ∧
    (closedTiles6.badWords = []) := by
  decide +kernel

theorem test_DrainRowRoundsEachElementOnce_hypotheses :
    (closedTiles7.alive 5 = true) ∧
    ((closedTiles7.ope 5).saving = none) ∧
    ((closedTiles7.ope 5).replay = none) ∧
    (closedTiles7.badWords = []) ∧
    ((closedTiles7.ope 5).gens[0]?.isSome = true) ∧
    (Option.any
      (fun d =>
      decide
      (d.rows = d.rows - 1 + 1 ∧
      d.spilled = false ∧
      d.tile.bias = none ∧
      fget d.dset F.OPE_DRAIN_fmt_out = 0 ∧
      fget d.dset F.OPE_DRAIN_round = 0 ∧
      d.rows - 1 < 256 ∧
      fget d.dset F.OPE_DRAIN_dest_line * 128 +
      (d.rows - 1) * fget d.dset F.OPE_DRAIN_stride_lines * 128 +
      1024 ≤
      slotSize ∧
      (closedTiles7.ope 5).shadow[256 * (d.rows - 1) + 0]?.isSome = true ∧
      ((closedTiles7.ope 5).gut d.tile.slot)[256 * (d.rows - 1) + 0]?.isSome = true ∧
      (shapeOf d.tile.shape).la (d.rows - 1) ≤ d.tile.mAct ∧
      (shapeOf d.tile.shape).lb 0 ≤ d.tile.nAct))
      (closedTiles7.ope 5).drain =
      true) := by
  decide +kernel

theorem test_CellwiseFoldsTheTile_hypotheses :
    (cellwiseAt.alive 5 = true) ∧
    (cellwiseAt.engSt false 5 = 1) ∧
    ((cellwiseAt.ope 5).susp = none) ∧
    ((cellwiseAt.ope 5).saving = none) ∧
    ((cellwiseAt.ope 5).settled = true) ∧
    ((cellwiseAt.ope 5).closed = []) ∧
    ((cellwiseAt.ope 5).drain = none) ∧
    ((cellwiseAt.ope 5).main[0]?.isSome = true) ∧
    (Option.any
      (fun x =>
      decide (x.bias = none ∧ cellwiseAt.spills 5 x.slot < 65535 ∧ ((cellwiseAt.ope 5).gut x.slot)[0]?.isSome = true))
      (cellwiseAt.ope 5).tile =
      true) ∧
    (Option.any (fun q => decide (bitsOf q.word 8 2 = 3 ∧ bitsOf q.word 10 2 = 3)) (cellwiseAt.ope 5).cw = true) ∧
    (Option.any (fun x => decide (x.bias = none ∧ cellwiseAt.spills 5 x.slot < 65535 ∧ x.slot ≤ 1))
      (cellwiseAt.ope 5).tile =
      true) ∧
    ((closedTiles8.ope 5).cwRun.isSome = true) ∧
    (closedTiles8.engSt false 5 ≠ 1 ∨ closedTiles8.pc false 5 < closedTiles8.pcEnd false 5) := by
  decide +kernel

theorem test_SuspendSavesAndResumeRestores_hypotheses :
    ((ope5 id).alive 5 = true) ∧
    ((ope5 id).engSt false 5 < 2) ∧
    (((ope5 id).ope 5).susp = none) ∧
    (((ope5 id).ope 5).saving = none) ∧
    (suspendSaves1.alive 5 = true) ∧
    ((suspendSaves1.ope 5).susp.isSome = true) ∧
    ((suspendSaves1.ope 5).cwRun = none) ∧
    ((suspendSaves1.ope 5).replay = none) ∧
    (suspendSaves1.engSt false 5 ≠ 3) ∧
    (suspendSaves2.alive 5 = true) ∧
    (suspendSaves2.fld (reg0 .TM_STALL_CTRL 5) F.TM_STALL_CTRL_freeze = 0) ∧
    (Option.any (fun sv => decide (sv.queued = false ∧ sv.line * 128 + 4096 ≤ slotSize)) (suspendSaves2.ope 5).saving =
      true) ∧
    (Option.any
      (fun sv =>
      decide
      (sv.queued = false ∧
      sv.line * 128 + 4096 ≤ slotSize ∧ ¬(slotBase 5 + sv.line * 128 ≤ 0 ∧ 0 < slotBase 5 + slotSize)))
      (suspendSaves2.ope 5).saving =
      true) ∧
    ((ope5 id).engSt false 5 ≠ 3) ∧
    (((ope5 id).ope 5).resume = none) ∧
    (suspendSaves3.alive 5 = true) ∧
    (suspendSaves3.engSt false 5 ≠ 3) ∧
    ((suspendSaves3.ope 5).closed = []) ∧
    ((suspendSaves3.ope 5).drain = none) ∧
    ((suspendSaves3.ope 5).cwRun = none) ∧
    ((suspendSaves3.ope 5).saving = none) ∧
    ((suspendSaves3.ope 5).settled = true) ∧
    (Option.any
      (fun sv =>
      decide
      (bitsOf (leNat (suspendSaves3.tmRead 5 (sv.line * 128 + 136) 8)) 0 9 = 0 ∧
      bitsOf (leNat (suspendSaves3.tmRead 5 (sv.line * 128 + 136) 8)) 9 7 = 0))
      (suspendSaves3.ope 5).resume =
      true) ∧
    ((resumeFrom 300).alive 5 = true) ∧
    ((resumeFrom 300).engSt false 5 ≠ 3) ∧
    (((resumeFrom 300).ope 5).closed = []) ∧
    (((resumeFrom 300).ope 5).drain = none) ∧
    (((resumeFrom 300).ope 5).cwRun = none) ∧
    (((resumeFrom 300).ope 5).saving = none) ∧
    (((resumeFrom 300).ope 5).settled = true) ∧
    (Option.any (fun sv => decide (256 < bitsOf (leNat ((resumeFrom 300).tmRead 5 (sv.line * 128 + 136) 8)) 0 9))
      ((resumeFrom 300).ope 5).resume =
      true) ∧
    (suspendSaves4.alive 5 = true) ∧
    ((suspendSaves4.ope 5).replay.isSome = true) ∧
    ((suspendSaves4.ope 5).run = none) ∧
    (suspendSaves4.pc false 5 < suspendSaves4.pcEnd false 5) ∧
    (suspendSaves4.engSt false 5 ≠ 3) ∧
    ((suspendSaves4.ope 5).hist = []) ∧
    (Option.any (fun sv => decide (sv.queued = false)) (suspendSaves4.ope 5).replay = true) ∧
    (suspendSaves5.alive 5 = true) ∧
    (suspendSaves5.engSt false 5 = 3) ∧
    ((suspendSaves5.ope 5).drain = none) ∧
    ((suspendSaves5.ope 5).closed = []) ∧
    ((suspendSaves5.ope 5).fin = []) ∧
    (suspendSaves5.fld (reg0 .OPE_SAVE_BASE 5) F.OPE_SAVE_BASE_save_line_hi * 32 = 0) ∧
    (0 * 128 + 4096 ≤ slotSize) ∧
    (¬(slotBase 5 + 0 * 128 ≤ 0 ∧ 0 < slotBase 5 + slotSize)) := by
  decide +kernel

theorem test_VectorArithmeticReadsThenWritesLater_hypotheses :
    (veQuiet (ve5 id) 5) ∧
    (convOk (Conv.mk 0 1 false false 0) = true) := by
  decide +kernel

theorem test_VectorMemoryTableAndRandomOpsIssue_hypotheses :
    (veQuiet (ve5 id) 5) ∧
    (drainGensFree (ve5 id) 5) ∧
    (true = true → drainGensFree (ve5 id) 5) := by
  decide +kernel

theorem test_VectorResultsLandUnderTheirMask_hypotheses :
    (vectorResults1.alive 5 = true) ∧
    (Option.any
      (fun x =>
      decide (x.due ≤ (vectorResults1.ve 5).cyc ∧ x.act = VAct.v 9 [true, false] (BitVec.allOnes 32) [5#32, 6#32] 4))
      (vectorResults1.ve 5).pend.head? =
      true) ∧
    (vectorResults2.alive 5 = true) ∧
    (Option.any (fun x => decide (x.due ≤ (vectorResults2.ve 5).cyc ∧ x.act = VAct.w 1 [true] [Wide.mk 7#80 7#16] 1))
      (vectorResults2.ve 5).pend.head? =
      true) ∧
    (vectorResults3.alive 5 = true) ∧
    (Option.any (fun x => decide (x.due ≤ (vectorResults3.ve 5).cyc ∧ x.act = VAct.p 3 [true] [false]))
      (vectorResults3.ve 5).pend.head? =
      true) ∧
    ((landing (VAct.a 3 9#32)).alive 5 = true) ∧
    (Option.any (fun x => decide (x.due ≤ ((landing (VAct.a 3 9#32)).ve 5).cyc ∧ x.act = VAct.a 3 9#32))
      ((landing (VAct.a 3 9#32)).ve 5).pend.head? =
      true) ∧
    (vectorResults4.alive 5 = true) ∧
    (Option.any
      (fun x => decide (x.due ≤ (vectorResults4.ve 5).cyc ∧ x.act = VAct.seed false [Gen.mk 1#32 1#32 1#32 1#32]))
      (vectorResults4.ve 5).pend.head? =
      true) ∧
    (vectorResults5.alive 5 = true) ∧
    (Option.any (fun x => decide (x.due ≤ (vectorResults5.ve 5).cyc ∧ x.act = VAct.rput false 2 [true, true] [7#32, 8#32]))
      (vectorResults5.ve 5).pend.head? =
      true) ∧
    (vectorResults6.alive 5 = true) ∧
    (20 * 128 + [some 3, none, some 5].length ≤ slotSize) ∧
    (vectorResults6.badWords = []) ∧
    ([some 3, none, some 5][0]?.isSome = true) ∧
    (Option.any (fun x => decide (x.due ≤ (vectorResults6.ve 5).cyc ∧ x.act = VAct.store 20 [some 3, none, some 5] false))
      (vectorResults6.ve 5).pend.head? =
      true) ∧
    (vectorResults7.alive 5 = true) ∧
    ((vectorResults7.ve 5).dead = []) ∧
    (vectorResults7.badWords = []) ∧
    (Option.any (fun x => decide (x.due ≤ (vectorResults7.ve 5).cyc ∧ x.act = VAct.loadRead 35 20 8 false))
      (vectorResults7.ve 5).pend.head? =
      true) ∧
    (20 < slotSize) ∧
    (vectorResults7.engSt true 5 ≠ 3) ∧
    (vectorResults8.alive 5 = true) ∧
    ((vectorResults8.ve 5).dead = []) ∧
    (Option.any (fun x => decide (x.due ≤ (vectorResults8.ve 5).cyc ∧ x.act = VAct.loadV 35 9 [true, true]))
      (vectorResults8.ve 5).pend.head? =
      true) ∧
    (vectorResults9.alive 5 = true) ∧
    ((vectorResults9.ve 5).dead = []) ∧
    (Option.any (fun x => decide (x.due ≤ (vectorResults9.ve 5).cyc ∧ x.act = VAct.loadB 35 9 [true, true]))
      (vectorResults9.ve 5).pend.head? =
      true) ∧
    ((landing (VAct.tblRead 35 20 4)).alive 5 = true) ∧
    (Option.any (fun x => decide (x.due ≤ ((landing (VAct.tblRead 35 20 4)).ve 5).cyc ∧ x.act = VAct.tblRead 35 20 4))
      ((landing (VAct.tblRead 35 20 4)).ve 5).pend.head? =
      true) ∧
    (((landing (VAct.tblRead 35 20 4)).ve 5).dead = []) ∧
    ((landing (VAct.tblRead 35 20 4)).badWords = []) ∧
    (Option.any
      (fun x => decide (x.due ≤ ((landing (VAct.tblRead 35 20 4)).ve 5).cyc ∧ x.act = VAct.tblRead 35 20 (3 + 1)))
      ((landing (VAct.tblRead 35 20 4)).ve 5).pend.head? =
      true) ∧
    ((landing (VAct.tblEffect 35 3)).alive 5 = true) ∧
    (((landing (VAct.tblEffect 35 3)).ve 5).dead = []) ∧
    (Option.any (fun x => decide (x.due ≤ ((landing (VAct.tblEffect 35 3)).ve 5).cyc ∧ x.act = VAct.tblEffect 35 3))
      ((landing (VAct.tblEffect 35 3)).ve 5).pend.head? =
      true) := by
  decide +kernel

theorem test_VectorStreamRunsItsBundles_hypotheses :
    (veQuiet vectorStream1 5) ∧
    (Option.any (fun q => decide (q.fault = 0 ∧ vectorStream1.pc true 5 = q.pc ∧ bundleFault (decBundle 5 q.bytes) = some 1))
      (vectorStream1.ve 5).st.q.head? =
      true) ∧
    (veQuiet inLoadstep 5) ∧
    (Option.any
      (fun q =>
      decide
      (q.fault = 0 ∧
      inLoadstep.pc true 5 = q.pc ∧
      (decBundle 5 q.bytes).toOption = some (Bundle.mk [VOp.int IntK.add 0 5 (Src.v 1) (Src.s 2)] false)))
      (inLoadstep.ve 5).st.q.head? =
      true) ∧
    (inLoadstep.fld (reg0 .PWR_STATUS 0) F.PWR_STATUS_loadstep = 1) ∧
    (inLoadstep.fld (reg0 .TM_STALL_CTRL 5) F.TM_STALL_CTRL_freeze = 0) ∧
    (veQuiet storing5 5) ∧
    ((storing5.ve 5).cyc < (storing5.ve 5).stored) ∧
    (Option.any
      (fun q =>
      decide
      (q.fault = 0 ∧
      storing5.pc true 5 = q.pc ∧ (decBundle 5 q.bytes).toOption = some (Bundle.mk [VOp.sigtok 5 3] false)))
      (storing5.ve 5).st.q.head? =
      true) ∧
    (veQuiet vectorStream3 5) ∧
    (vectorStream3.tokCount (Tok.mk 0 5 5) + 3 ≤ 65535) ∧
    ((vectorStream3.ve 5).stored ≤ (vectorStream3.ve 5).cyc) ∧
    (Option.any
      (fun q =>
      decide
      (q.fault = 0 ∧
      vectorStream3.pc true 5 = q.pc ∧ (decBundle 5 q.bytes).toOption = some (Bundle.mk [VOp.sigtok 5 3] false)))
      (vectorStream3.ve 5).st.q.head? =
      true) ∧
    (veQuiet vectorStream7 5) ∧
    (vectorStream7.waits = []) ∧
    (vectorStream7.grants = []) ∧
    (vectorStream7.withdrawn = []) ∧
    (3 ≤ vectorStream7.tokCount (Tok.mk 0 5 5)) ∧
    (Option.any
      (fun q =>
      decide
      (q.fault = 0 ∧
      vectorStream7.pc true 5 = q.pc ∧ (decBundle 5 q.bytes).toOption = some (Bundle.mk [VOp.waittok 5 3] false)))
      (vectorStream7.ve 5).st.q.head? =
      true) ∧
    (veQuiet vectorStream4 5) ∧
    (vectorStream4.waits = []) ∧
    (vectorStream4.grants = []) ∧
    (vectorStream4.withdrawn = []) ∧
    (vectorStream4.tokCount (Tok.mk 0 5 5) < 3) ∧
    (Option.any
      (fun q =>
      decide
      (q.fault = 0 ∧
      vectorStream4.pc true 5 = q.pc ∧ (decBundle 5 q.bytes).toOption = some (Bundle.mk [VOp.waittok 5 3] false)))
      (vectorStream4.ve 5).st.q.head? =
      true) ∧
    (veQuiet vectorStream5 5) ∧
    (vectorStream5.loopDepth true 5 = 0) ∧
    (Option.any
      (fun q =>
      decide
      (q.fault = 0 ∧
      vectorStream5.pc true 5 = q.pc ∧
      (decBundle 5 q.bytes).toOption = some (Bundle.mk [VOp.loop false 3 3 40] false) ∧
      q.pc + 40 < vectorStream5.pcEnd true 5))
      (vectorStream5.ve 5).st.q.head? =
      true) ∧
    (veQuiet vectorStream6 5) ∧
    (vectorStream6.loopDepth true 5 = 0 + 1) ∧
    (vectorStream6.fld (loopReg true 5 0) F.OPE_LOOP_remaining ≤ 1) ∧
    (Option.any
      (fun q =>
      decide
      (q.fault = 0 ∧
      vectorStream6.pc true 5 = q.pc ∧
      (decBundle 5 q.bytes).toOption = some (Bundle.mk [VOp.endloop] false) ∧
      vectorStream6.fld (loopEndReg true 5 0) F.OPE_LOOP_END_end_pc = q.pc))
      (vectorStream6.ve 5).st.q.head? =
      true) ∧
    (((ve5 id).setEngSt true 5 0).alive 5 = true) ∧
    (((ve5 id).setEngSt true 5 0).engSt true 5 = 0) ∧
    (((ve5 id).setEngSt true 5 0).pc true 5 < ((ve5 id).setEngSt true 5 0).pcEnd true 5) ∧
    (inLoadstep.engSt true 5 = 1) ∧
    (((ve5 id).setEngSt true 5 3).engSt true 5 = 3) ∧
    (vectorStream8.alive 5 = true) ∧
    (vectorStream8.engSt false 5 = 1) ∧
    ((vectorStream8.ope 5).st = Stream.at 0 []) ∧
    (128 ≤ vectorStream8.pcEnd false 5) ∧
    (vectorStream8.badWords = []) ∧
    (∀ (k : Nat),
      k < 8 →
      BitVec.toNat (cget vectorStream8.mem (slotBase 5 + 16 * k)) ≠ 16 ∧
      BitVec.toNat (cget vectorStream8.mem (slotBase 5 + 16 * k)) ≠ 17) := by
  and_intros <;> first | decide +kernel | rfl

theorem test_MoveQueueFetchesStartsAndRetires_hypotheses :
    ((queue5 id).alive 5 = true) ∧
    ((queue5 id).qSt 5 3 < 2) ∧
    ((queueIn 2).alive 5 = true) ∧
    (2 ≤ (queueIn 2).qSt 5 3) ∧
    (moveQueue1.alive 5 = true) ∧
    (moveQueue1.qEnabled 5 3 = true) ∧
    (moveQueue1.qSt 5 3 < 2) ∧
    ((moveQueue1.que 5 3).old = []) ∧
    (moveQueue1.badWords = []) ∧
    (moveQueue1.qHead 5 3 = 0) ∧
    (sub16 (moveQueue1.qTail 5 3) 0 = 17) ∧
    (moveQueue1.qSize 5 3 < 17) ∧
    ((queue5 id).qEnabled 5 3 = true) ∧
    (((queue5 id).que 5 3).old = []) ∧
    ((queue5 id).badWords = []) ∧
    ((queue5 id).qHead 5 3 = 0) ∧
    (sub16 ((queue5 id).qTail 5 3) 0 = 3) ∧
    (3 ≤ (queue5 id).qSize 5 3) ∧
    (min 3 ((queue5 id).fld (reg1 .MOV_Q_CFG 5 3) F.MOV_Q_CFG_burst_m1 + 1) = 2) ∧
    (((queue5 id).que 5 3).fetched.length + 2 ≤ 32) ∧
    (∀ (i : Nat), i ∈ upTo 0 2 → (queue5 id).qEntry 5 3 ((0 + i) % 65536) + 64 ≤ slotSize) ∧
    ((fetched copyDesc).alive 5 = true) ∧
    (movQuiet (fetched copyDesc) 5 3) ∧
    (Option.any
      (fun f =>
      decide
      ((fetched copyDesc).descCheck 5 f.snd = 0 ∧
      ((fetched copyDesc).srcSlots f.snd = [] ∨ dOp f.snd = 0) ∧ dWaitEn f.snd = false))
      ((fetched copyDesc).que 5 3).fetched.head? =
      true) ∧
    (moveQueue3.alive 5 = true) ∧
    (movQuiet moveQueue3 5 3) ∧
    (moveQueue3.waits = []) ∧
    (moveQueue3.grants = []) ∧
    (moveQueue3.withdrawn = []) ∧
    (Option.any
      (fun f =>
      decide
      (moveQueue3.descCheck 5 f.snd = 0 ∧
      (moveQueue3.srcSlots f.snd = [] ∨ dOp f.snd = 0) ∧
      dWaitEn f.snd = true ∧ dWaitTok f.snd < 64 ∧ 1 ≤ moveQueue3.tokCount (Tok.mk 0 5 (dWaitTok f.snd))))
      (moveQueue3.que 5 3).fetched.head? =
      true) ∧
    (moveQueue2.alive 5 = true) ∧
    (movQuiet moveQueue2 5 3) ∧
    (moveQueue2.waits = []) ∧
    (moveQueue2.grants = []) ∧
    (moveQueue2.withdrawn = []) ∧
    (Option.any
      (fun f =>
      decide
      (moveQueue2.descCheck 5 f.snd = 0 ∧
      (moveQueue2.srcSlots f.snd = [] ∨ dOp f.snd = 0) ∧
      dWaitEn f.snd = true ∧ dWaitTok f.snd < 64 ∧ moveQueue2.tokCount (Tok.mk 0 5 (dWaitTok f.snd)) = 0))
      (moveQueue2.que 5 3).fetched.head? =
      true) ∧
    ((fetched 0).alive 5 = true) ∧
    (movQuiet (fetched 0) 5 3) ∧
    (Option.any
      (fun f =>
      decide
      ((fetched 0).descCheck 5 f.snd = 0 ∧
      ((fetched 0).srcSlots f.snd = [] ∨ dOp f.snd = 0) ∧ dOp f.snd = 0 ∧ dWaitEn f.snd = false))
      ((fetched 0).que 5 3).fetched.head? =
      true) ∧
    (moveQueue4.alive 5 = true) ∧
    (moveQueue4.qSt 5 3 ≠ 3) ∧
    (Option.any
      (fun x =>
      decide
      (xferEnd x.d x.i = true ∧
      x.fly = [] ∧
      x.badEntry = none ∧ (dOp x.d ≠ 2 ∨ dSummEn x.d = false) ∧ dSigEn x.d = false ∧ bitsOf x.d 28 1 = 0))
      (moveQueue4.que 5 3).started.head? =
      true) ∧
    (moveQueue5.alive 5 = true) ∧
    (moveQueue5.qSt 5 3 ≠ 3) ∧
    (Option.any
      (fun x =>
      decide
      (xferEnd x.d x.i = true ∧
      x.fly = [] ∧
      x.badEntry = none ∧
      (dOp x.d ≠ 2 ∨ dSummEn x.d = false) ∧
      dSigEn x.d = true ∧
      dSigTok x.d < 64 ∧ moveQueue5.tokCount (Tok.mk 0 5 (dSigTok x.d)) < 65535 ∧ bitsOf x.d 28 1 = 1))
      (moveQueue5.que 5 3).started.head? =
      true) := by
  decide +kernel

theorem test_TransfersMoveTheBytesOfTheirDescriptor_hypotheses_1 :
    (movReady (started copyDesc) 5 3 copyDesc) ∧
    (dHint copyDesc < 3) ∧
    (dSummEn copyDesc = false) ∧
    (dOp copyDesc = 1) ∧
    (dCountA copyDesc = 1) ∧
    (0 < dCountB copyDesc) ∧
    (dTrans copyDesc = false) ∧
    (dSrc copyDesc % 2048 + dCountB copyDesc ≤ 2048) ∧
    (inTile (started copyDesc) (dSrc copyDesc) (dCountB copyDesc)) ∧
    (inTile (started copyDesc) (dDst copyDesc) (dCountB copyDesc)) ∧
    (movReady (started panelDesc) 5 3 panelDesc) ∧
    (dHint panelDesc < 3) ∧
    (dSummEn panelDesc = false) ∧
    (dOp panelDesc = 2) ∧
    (dCountA panelDesc = 1) ∧
    (0 < dCountB panelDesc) ∧
    (dMx panelDesc = false) ∧
    (dPackedRun panelDesc = false) ∧
    (∀ (k : Nat),
      k ∈ upTo 0 (dCountB panelDesc) →
      inTile (started panelDesc) (dSrc panelDesc + k * dStrideB panelDesc) (dSrcBits panelDesc / 8)) ∧
    (panelAddr panelDesc (panelRow panelDesc 0 0) 0 = 35184539869184) ∧
    (inTile (started panelDesc) 35184539869184 4) ∧
    (Option.any (fun r => decide (dCountB panelDesc ≤ r)) (fmtRank (dFmt panelDesc)) = true) ∧
    (movReady (started (gatherDesc 0)) 5 3 (gatherDesc 0)) ∧
    (dHint (gatherDesc 0) < 3) ∧
    (dSummEn (gatherDesc 0) = false) ∧
    (leNat (readBytes (started (gatherDesc 0)).mem (dAux (gatherDesc 0)) 4) = 3) ∧
    (dOp (gatherDesc 0) = 3) ∧
    (dCountA (gatherDesc 0) = 1) ∧
    (inTile (started (gatherDesc 0)) (dAux (gatherDesc 0)) 4) ∧
    (3 < dCountB (gatherDesc 0)) ∧
    (dGran (gatherDesc 0) ≤ 2048) ∧
    (inTile (started (gatherDesc 0)) (dSrc (gatherDesc 0) + 3 * dStrideA (gatherDesc 0)) (dGran (gatherDesc 0))) ∧
    (inTile (started (gatherDesc 0)) (dDst (gatherDesc 0)) (dGran (gatherDesc 0))) ∧
    (movReady (started (gatherDesc 64)) 5 3 (gatherDesc 64)) ∧
    (dHint (gatherDesc 64) < 3) ∧
    (dSummEn (gatherDesc 64) = false) ∧
    (leNat (readBytes (started (gatherDesc 64)).mem (dAux (gatherDesc 64)) 4) = 4294967295) ∧
    (dOp (gatherDesc 64) = 3) ∧
    (dCountA (gatherDesc 64) = 1) := by
  and_intros <;> first | decide +kernel | rfl

theorem test_TransfersMoveTheBytesOfTheirDescriptor_hypotheses_2 :
    (inTile (started (gatherDesc 64)) (dAux (gatherDesc 64)) 4) ∧
    (inTile (started (gatherDesc 64)) (dDst (gatherDesc 64)) (dGran (gatherDesc 64))) ∧
    (movReady (started (gatherDesc 128)) 5 3 (gatherDesc 128)) ∧
    (dHint (gatherDesc 128) < 3) ∧
    (dSummEn (gatherDesc 128) = false) ∧
    (leNat (readBytes (started (gatherDesc 128)).mem (dAux (gatherDesc 128)) 4) = 11) ∧
    (dOp (gatherDesc 128) = 3) ∧
    (dCountA (gatherDesc 128) = 1) ∧
    (inTile (started (gatherDesc 128)) (dAux (gatherDesc 128)) 4) ∧
    (dCountB (gatherDesc 128) ≤ 11) ∧
    (movReady (started (scatterDesc 0)) 5 3 (scatterDesc 0)) ∧
    (dHint (scatterDesc 0) < 3) ∧
    (dSummEn (scatterDesc 0) = false) ∧
    (leNat (readBytes (started (scatterDesc 0)).mem (dAux (scatterDesc 0)) 4) = 3) ∧
    (dOp (scatterDesc 0) = 4) ∧
    (dCountA (scatterDesc 0) = 1) ∧
    (inTile (started (scatterDesc 0)) (dAux (scatterDesc 0)) 4) ∧
    (3 < dCountB (scatterDesc 0)) ∧
    (dGran (scatterDesc 0) ≤ 2048) ∧
    (inTile (started (scatterDesc 0)) (dSrc (scatterDesc 0)) (dGran (scatterDesc 0))) ∧
    (inTile (started (scatterDesc 0)) (dDst (scatterDesc 0) + 3 * dStrideA (scatterDesc 0)) (dGran (scatterDesc 0))) ∧
    (movReady (started (scatterDesc 64)) 5 3 (scatterDesc 64)) ∧
    (dHint (scatterDesc 64) < 3) ∧
    (dSummEn (scatterDesc 64) = false) ∧
    (leNat (readBytes (started (scatterDesc 64)).mem (dAux (scatterDesc 64)) 4) = 4294967295) ∧
    (dOp (scatterDesc 64) = 4) ∧
    (dCountA (scatterDesc 64) = 1) ∧
    (inTile (started (scatterDesc 64)) (dAux (scatterDesc 64)) 4) ∧
    (movReady (started chainDesc) 5 3 chainDesc) ∧
    (dHint chainDesc < 3) ∧
    (dSummEn chainDesc = false) ∧
    (dOp chainDesc = 5) ∧
    (0 < dCountA chainDesc) ∧
    (fget ((started chainDesc).rd (purCfg 0)) F.PUR_DIE_CFG_source ≠ 0) ∧
    (headOf ((started chainDesc).rd (purCfg 0)) = 5 % 16) ∧
    ((started chainDesc).canInject 0 = true) ∧
    (∀ (k : Nat), k ∈ upTo 0 8 → k ≠ 3 → ((started chainDesc).que 5 k).started = []) ∧
    (inTile (started chainDesc) (dSrc chainDesc) 262144) := by
  and_intros <;> first | decide +kernel | rfl

theorem test_MoveQueueClearsAndCancels_hypotheses :
    ((queueIn 2).alive 5 = true) ∧
    ((queueIn 2).qSt 5 3 = 2) ∧
    ((queueIn 2).fld (reg1 .MOV_Q_ERR 5 3) F.MOV_Q_ERR_cause ≠ 6) ∧
    ((queueIn 2).qHead 5 3 = 0) ∧
    ((queueIn 2).qSt 5 3 ≠ 3) ∧
    (((queueIn 2).que 5 3).fetched = []) ∧
    (withdrawing.alive 5 = true) ∧
    (withdrawing.qSt 5 3 = 3) ∧
    ((withdrawing.que 5 3).old = []) ∧
    ((withdrawing.withdrawn.any fun w => decide (w.req = reqId 5 (4 + 3))) = true) ∧
    (cancelling.alive 5 = true) ∧
    (cancelling.qSt 5 3 = 3) ∧
    ((cancelling.que 5 3).old = []) ∧
    ((cancelling.withdrawn.any fun w => decide (w.req = reqId 5 (4 + 3))) = false) ∧
    (cancelling.fld (reg1 .MOV_Q_CANCEL_TOK 5 3) F.MOV_Q_CANCEL_TOK_tok_en = 0) ∧
    (cancelling.fld (reg1 .MOV_Q_CANCEL_TOK 5 3) F.MOV_Q_CANCEL_TOK_event = 0) ∧
    ((cancelling.que 5 3).cancelTail < 65536) ∧
    (late5.alive 5 = true) ∧
    ((late5.core 5).movLateRaised = false) ∧
    (0 < (late5.core 5).movLate) ∧
    (late5.fld (reg0 .MOV_LATE_BUDGET 5) (Fld.mk 0 32) ≤ (late5.core 5).movLate) ∧
    (((queueIn 2).core 5).scrub < 196608) ∧
    ((queueIn 2).badWords = []) := by
  decide +kernel

theorem test_ChainPagesHopAreAcceptedAndReported_hypotheses :
    (((chainAt 7 1 []).die 0).chain.length = 1) ∧
    ((chainAt 7 1 []).clk.stopped.contains (dieIsland 0) = false) ∧
    ((chainAt 7 1 []).fld (purStatus 0) F.PUR_DIE_STATUS_mode = 0) ∧
    ((chainAt 7 1 []).keeps (16 * 0 + 7) = false) ∧
    (Option.any (fun p => decide (p.flits = [(7, 1)] ∧ p.accepted = [])) ((chainAt 7 1 []).die 0).chain.head? = true) ∧
    (((chainAt 6 1 [6]).die 0).chain.length = 1) ∧
    ((chainAt 6 1 [6]).clk.stopped.contains (dieIsland 0) = false) ∧
    ((chainAt 6 1 [6]).fld (purStatus 0) F.PUR_DIE_STATUS_mode = 0) ∧
    ((chainAt 6 1 [6]).badWords = []) ∧
    (Option.any
      (fun p =>
      decide
      (p.accepted.length = 1 ∧
      Option.any
      (fun c =>
      decide
      (p.flits = [(c, 1)] ∧
      16 * 0 + c < 64 ∧ (chainAt 6 1 [6]).frameOf (16 * 0 + c) p.seq + 256 * 1 + 256 ≤ slotSize))
      p.accepted.head? =
      true))
      ((chainAt 6 1 [6]).die 0).chain.head? =
      true) ∧
    ((chainPages1.die (6 / 16)).chain.length = 1) ∧
    (chainPages1.clk.stopped.contains (dieIsland (6 / 16)) = false) ∧
    (chainPages1.keeps 6 = true) ∧
    (chainPages1.waits = []) ∧
    (chainPages1.grants = []) ∧
    (chainPages1.withdrawn = []) ∧
    (chainPages1.fld (reg0 .PUR_CORE_CFG 6) F.PUR_CORE_CFG_free_tok = 3) ∧
    (1 ≤ chainPages1.tokCount (Tok.mk 0 6 3)) ∧
    (Option.any (fun p => decide (p.flits = [(6 % 16, 0)] ∧ p.accepted = [])) (chainPages1.die (6 / 16)).chain.head? = true) ∧
    (((chainAt 6 0 []).die (6 / 16)).chain.length = 1) ∧
    ((chainAt 6 0 []).clk.stopped.contains (dieIsland (6 / 16)) = false) ∧
    ((chainAt 6 0 []).keeps 6 = true) ∧
    ((chainAt 6 0 []).waits = []) ∧
    ((chainAt 6 0 []).grants = []) ∧
    ((chainAt 6 0 []).withdrawn = []) ∧
    ((chainAt 6 0 []).fld (reg0 .PUR_CORE_CFG 6) F.PUR_CORE_CFG_free_tok = 3) ∧
    ((chainAt 6 0 []).tokCount (Tok.mk 0 6 3) = 0) ∧
    (Option.any (fun p => decide (p.flits = [(6 % 16, 0)] ∧ p.accepted = [])) ((chainAt 6 0 []).die (6 / 16)).chain.head? =
      true) ∧
    (((chainAt 6 1024 [6]).die (6 / 16)).chain.length = 1) ∧
    ((chainAt 6 1024 [6]).clk.stopped.contains (dieIsland (6 / 16)) = false) ∧
    ((chainAt 6 1024 [6]).fld (reg0 .PUR_CORE_CFG 6) F.PUR_CORE_CFG_rx_tok = 4) ∧
    ((chainAt 6 1024 [6]).tokCount (Tok.mk 0 6 4) < 65535) ∧
    (Option.any (fun p => decide (p.flits = [(6 % 16, 1024)] ∧ p.accepted = [6 % 16] ∧ p.written = []))
      ((chainAt 6 1024 [6]).die (6 / 16)).chain.head? =
      true) ∧
    ((chainAt 6 1 [6]).clk.stopped.contains (dieIsland (5 / 16)) = false) ∧
    ((chainAt 6 1 [6]).flitTo 5 = false) ∧
    ((chainAt 6 1 [6]).clk.stopped.contains (dieIsland (6 / 16)) = false) ∧
    (tget 0 ((chainAt 6 1 [6]).die (6 / 16)).fails (6 % 16) = 0) ∧
    ((chainAt 6 1 [6]).flitTo 6 = true) ∧
    ((chainAt 6 1 [] 7).clk.stopped.contains (dieIsland (6 / 16)) = false) ∧
    (tget 0 ((chainAt 6 1 [] 7).die (6 / 16)).fails (6 % 16) = 7) ∧
    ((chainAt 6 1 [] 7).flitTo 6 = true) := by
  decide +kernel

theorem test_ScalarInstructionsExecute_hypotheses_1 :
    (scaRuns scalarInstructions2 5) ∧
    ((scalarInstructions2.sca 5).pc.toNat % 2 = 1) ∧
    (scaRuns scalarInstructions1 5) ∧
    ((scalarInstructions1.sca 5).pc.toNat % 2 = 0) ∧
    (65536 ≤ (scalarInstructions1.sca 5).pc.toNat) ∧
    (scaRuns (instr (rv 127 31 7 0 9 19)) 5) ∧
    (((instr (rv 127 31 7 0 9 19)).sca 5).pc.toNat % 2 = 0) ∧
    (((instr (rv 127 31 7 0 9 19)).sca 5).pc.toNat + 4 ≤ 65536) ∧
    (leNat (readBytes ((instr (rv 127 31 7 0 9 19)).sca 5).imem ((instr (rv 127 31 7 0 9 19)).sca 5).pc.toNat 4) =
      4294149267) ∧
    (bitsOf 4294149267 7 5 = 9) ∧
    (bitsOf 4294149267 12 3 = 0) ∧
    (bitsOf 4294149267 25 7 = 127) ∧
    (scaRuns (instr (rv 1 2 7 4 0 19)) 5) ∧
    (((instr (rv 1 2 7 4 0 19)).sca 5).pc.toNat % 2 = 0) ∧
    (((instr (rv 1 2 7 4 0 19)).sca 5).pc.toNat + 4 ≤ 65536) ∧
    (leNat (readBytes ((instr (rv 1 2 7 4 0 19)).sca 5).imem ((instr (rv 1 2 7 4 0 19)).sca 5).pc.toNat 4) = 35897363) ∧
    (bitsOf 35897363 7 5 = 0) ∧
    (bitsOf 35897363 12 3 = 4) ∧
    (bitsOf 35897363 25 7 = 1) ∧
    (scaRuns (instr (rv 0 6 7 0 9 51)) 5) ∧
    (((instr (rv 0 6 7 0 9 51)).sca 5).pc.toNat % 2 = 0) ∧
    (((instr (rv 0 6 7 0 9 51)).sca 5).pc.toNat + 4 ≤ 65536) ∧
    (leNat (readBytes ((instr (rv 0 6 7 0 9 51)).sca 5).imem ((instr (rv 0 6 7 0 9 51)).sca 5).pc.toNat 4) = 6522035) ∧
    (bitsOf 6522035 7 5 = 9) ∧
    (bitsOf 6522035 12 3 = 0) ∧
    (bitsOf 6522035 25 7 = 0) ∧
    (scaRuns (instr (rv 32 6 7 0 9 51)) 5) ∧
    (((instr (rv 32 6 7 0 9 51)).sca 5).pc.toNat % 2 = 0) ∧
    (((instr (rv 32 6 7 0 9 51)).sca 5).pc.toNat + 4 ≤ 65536) ∧
    (leNat (readBytes ((instr (rv 32 6 7 0 9 51)).sca 5).imem ((instr (rv 32 6 7 0 9 51)).sca 5).pc.toNat 4) = 1080263859) ∧
    (bitsOf 1080263859 7 5 = 9) ∧
    (bitsOf 1080263859 12 3 = 0) ∧
    (bitsOf 1080263859 25 7 = 32) ∧
    (scaRuns (instr (rv 0 6 7 3 9 51)) 5) ∧
    (((instr (rv 0 6 7 3 9 51)).sca 5).pc.toNat % 2 = 0) ∧
    (((instr (rv 0 6 7 3 9 51)).sca 5).pc.toNat + 4 ≤ 65536) ∧
    (leNat (readBytes ((instr (rv 0 6 7 3 9 51)).sca 5).imem ((instr (rv 0 6 7 3 9 51)).sca 5).pc.toNat 4) = 6534323) ∧
    (bitsOf 6534323 7 5 = 9) ∧
    (bitsOf 6534323 12 3 = 3) ∧
    (bitsOf 6534323 25 7 = 0) ∧
    (scaRuns (instr (rv 1 6 7 0 9 51)) 5) ∧
    (((instr (rv 1 6 7 0 9 51)).sca 5).pc.toNat % 2 = 0) ∧
    (((instr (rv 1 6 7 0 9 51)).sca 5).pc.toNat + 4 ≤ 65536) ∧
    (leNat (readBytes ((instr (rv 1 6 7 0 9 51)).sca 5).imem ((instr (rv 1 6 7 0 9 51)).sca 5).pc.toNat 4) = 40076467) ∧
    (bitsOf 40076467 7 5 = 9) ∧
    (bitsOf 40076467 12 3 = 0) ∧
    (bitsOf 40076467 25 7 = 1) ∧
    (scaRuns (instr (rv 1 6 7 3 9 51)) 5) ∧
    (((instr (rv 1 6 7 3 9 51)).sca 5).pc.toNat % 2 = 0) := by
  decide +kernel

theorem test_ScalarInstructionsExecute_hypotheses_2 :
    (((instr (rv 1 6 7 3 9 51)).sca 5).pc.toNat + 4 ≤ 65536) ∧
    (leNat (readBytes ((instr (rv 1 6 7 3 9 51)).sca 5).imem ((instr (rv 1 6 7 3 9 51)).sca 5).pc.toNat 4) = 40088755) ∧
    (bitsOf 40088755 7 5 = 9) ∧
    (bitsOf 40088755 12 3 = 3) ∧
    (bitsOf 40088755 25 7 = 1) ∧
    (scaRuns (instr (rv 1 0 7 5 9 51)) 5) ∧
    (((instr (rv 1 0 7 5 9 51)).sca 5).pc.toNat % 2 = 0) ∧
    (((instr (rv 1 0 7 5 9 51)).sca 5).pc.toNat + 4 ≤ 65536) ∧
    (leNat (readBytes ((instr (rv 1 0 7 5 9 51)).sca 5).imem ((instr (rv 1 0 7 5 9 51)).sca 5).pc.toNat 4) = 33805491) ∧
    (bitsOf 33805491 7 5 = 9) ∧
    (bitsOf 33805491 12 3 = 5) ∧
    (bitsOf 33805491 25 7 = 1) ∧
    (scaRuns (instr 2882397367) 5) ∧
    (((instr 2882397367).sca 5).pc.toNat % 2 = 0) ∧
    (((instr 2882397367).sca 5).pc.toNat + 4 ≤ 65536) ∧
    (leNat (readBytes ((instr 2882397367).sca 5).imem ((instr 2882397367).sca 5).pc.toNat 4) = 2882397367) ∧
    (bitsOf 2882397367 7 5 = 9) ∧
    (bitsOf 2882397367 12 3 = 6) ∧
    (bitsOf 2882397367 25 7 = 85) ∧
    (scaRuns (instr (rv 0 5 7 0 9 103)) 5) ∧
    (((instr (rv 0 5 7 0 9 103)).sca 5).pc.toNat % 2 = 0) ∧
    (((instr (rv 0 5 7 0 9 103)).sca 5).pc.toNat + 4 ≤ 65536) ∧
    (leNat (readBytes ((instr (rv 0 5 7 0 9 103)).sca 5).imem ((instr (rv 0 5 7 0 9 103)).sca 5).pc.toNat 4) = 5473511) ∧
    (bitsOf 5473511 7 5 = 9) ∧
    (bitsOf 5473511 12 3 = 0) ∧
    (bitsOf 5473511 25 7 = 0) ∧
    (scaRuns (instr (rv 127 6 6 0 25 99)) 5) ∧
    (((instr (rv 127 6 6 0 25 99)).sca 5).pc.toNat % 2 = 0) ∧
    (((instr (rv 127 6 6 0 25 99)).sca 5).pc.toNat + 4 ≤ 65536) ∧
    (leNat (readBytes ((instr (rv 127 6 6 0 25 99)).sca 5).imem ((instr (rv 127 6 6 0 25 99)).sca 5).pc.toNat 4) =
      4267904227) ∧
    (bitsOf 4267904227 7 5 = 25) ∧
    (bitsOf 4267904227 12 3 = 0) ∧
    (bitsOf 4267904227 25 7 = 127) ∧
    (scaRuns (instr (rv 0 0 6 2 9 3)) 5) ∧
    (((instr (rv 0 0 6 2 9 3)).sca 5).pc.toNat % 2 = 0) ∧
    (((instr (rv 0 0 6 2 9 3)).sca 5).pc.toNat + 4 ≤ 65536) ∧
    (leNat (readBytes ((instr (rv 0 0 6 2 9 3)).sca 5).imem ((instr (rv 0 0 6 2 9 3)).sca 5).pc.toNat 4) = 205955) ∧
    (bitsOf 205955 7 5 = 9) ∧
    (bitsOf 205955 12 3 = 2) ∧
    (bitsOf 205955 25 7 = 0) ∧
    (((instr (rv 0 0 6 2 9 3)).xget 5 (bitsOf 205955 15 5) + BitVec.ofInt 32 (signedOf 12 (bitsOf 205955 20 12))).toNat =
      65552) ∧
    (scaRuns (instr (rv 0 0 8 2 9 3)) 5) ∧
    (((instr (rv 0 0 8 2 9 3)).sca 5).pc.toNat % 2 = 0) ∧
    (((instr (rv 0 0 8 2 9 3)).sca 5).pc.toNat + 4 ≤ 65536) ∧
    (leNat (readBytes ((instr (rv 0 0 8 2 9 3)).sca 5).imem ((instr (rv 0 0 8 2 9 3)).sca 5).pc.toNat 4) = 271491) ∧
    (bitsOf 271491 7 5 = 9) ∧
    (bitsOf 271491 12 3 = 2) ∧
    (bitsOf 271491 25 7 = 0) ∧
    (((instr (rv 0 0 8 2 9 3)).xget 5 (bitsOf 271491 15 5) + BitVec.ofInt 32 (signedOf 12 (bitsOf 271491 20 12))).toNat =
      65537) := by
  decide +kernel

theorem test_ScalarInstructionsExecute_hypotheses_3 :
    (scaRuns (instr (rv 0 7 6 2 4 35)) 5) ∧
    (((instr (rv 0 7 6 2 4 35)).sca 5).pc.toNat % 2 = 0) ∧
    (((instr (rv 0 7 6 2 4 35)).sca 5).pc.toNat + 4 ≤ 65536) ∧
    (leNat (readBytes ((instr (rv 0 7 6 2 4 35)).sca 5).imem ((instr (rv 0 7 6 2 4 35)).sca 5).pc.toNat 4) = 7545379) ∧
    (bitsOf 7545379 7 5 = 4) ∧
    (bitsOf 7545379 12 3 = 2) ∧
    (bitsOf 7545379 25 7 = 0) ∧
    (((instr (rv 0 7 6 2 4 35)).xget 5 (bitsOf 7545379 15 5) + BitVec.ofInt 32 (signedOf 12 (0 * 32 + 4))).toNat = 65556) ∧
    (¬(65556 - 65536 ≤ 0 ∧ 0 < 65556 - 65536 + 4)) ∧
    (scaRuns (instr (rv 0 7 0 2 4 35)) 5) ∧
    (((instr (rv 0 7 0 2 4 35)).sca 5).pc.toNat % 2 = 0) ∧
    (((instr (rv 0 7 0 2 4 35)).sca 5).pc.toNat + 4 ≤ 65536) ∧
    (leNat (readBytes ((instr (rv 0 7 0 2 4 35)).sca 5).imem ((instr (rv 0 7 0 2 4 35)).sca 5).pc.toNat 4) = 7348771) ∧
    (bitsOf 7348771 7 5 = 4) ∧
    (bitsOf 7348771 12 3 = 2) ∧
    (bitsOf 7348771 25 7 = 0) ∧
    (((instr (rv 0 7 0 2 4 35)).xget 5 (bitsOf 7348771 15 5) + BitVec.ofInt 32 (signedOf 12 (0 * 32 + 4))).toNat = 4) ∧
    (scaRuns (instr 115) 5) ∧
    (((instr 115).sca 5).pc.toNat % 2 = 0) ∧
    (((instr 115).sca 5).pc.toNat + 4 ≤ 65536) ∧
    (leNat (readBytes ((instr 115).sca 5).imem ((instr 115).sca 5).pc.toNat 4) = 115) ∧
    (bitsOf 115 7 5 = 0) ∧
    (bitsOf 115 12 3 = 0) ∧
    (bitsOf 115 25 7 = 0) ∧
    (scaRuns (instr 807403635) 5) ∧
    (((instr 807403635).sca 5).pc.toNat % 2 = 0) ∧
    (((instr 807403635).sca 5).pc.toNat + 4 ≤ 65536) ∧
    (leNat (readBytes ((instr 807403635).sca 5).imem ((instr 807403635).sca 5).pc.toNat 4) = 807403635) ∧
    (bitsOf 807403635 7 5 = 0) ∧
    (bitsOf 807403635 12 3 = 0) ∧
    (bitsOf 807403635 25 7 = 24) ∧
    (scaRuns (instr (rv 120 20 0 2 9 115)) 5) ∧
    (((instr (rv 120 20 0 2 9 115)).sca 5).pc.toNat % 2 = 0) ∧
    (((instr (rv 120 20 0 2 9 115)).sca 5).pc.toNat + 4 ≤ 65536) ∧
    (leNat (readBytes ((instr (rv 120 20 0 2 9 115)).sca 5).imem ((instr (rv 120 20 0 2 9 115)).sca 5).pc.toNat 4) =
      4047512819) ∧
    (bitsOf 4047512819 7 5 = 9) ∧
    (bitsOf 4047512819 12 3 = 2) ∧
    (bitsOf 4047512819 25 7 = 120) ∧
    (bitsOf 4047512819 15 5 = 0) ∧
    (bitsOf 4047512819 20 12 = 3860) ∧
    (scaRuns (instr (rv 96 1 0 2 9 115)) 5) ∧
    (((instr (rv 96 1 0 2 9 115)).sca 5).pc.toNat % 2 = 0) ∧
    (((instr (rv 96 1 0 2 9 115)).sca 5).pc.toNat + 4 ≤ 65536) ∧
    (leNat (readBytes ((instr (rv 96 1 0 2 9 115)).sca 5).imem ((instr (rv 96 1 0 2 9 115)).sca 5).pc.toNat 4) = 3222283507) ∧
    (bitsOf 3222283507 7 5 = 9) ∧
    (bitsOf 3222283507 12 3 = 2) ∧
    (bitsOf 3222283507 25 7 = 96) ∧
    (bitsOf 3222283507 20 12 = 3073) := by
  decide +kernel

theorem test_ScalarSystemOperationsAct_hypotheses :
    (scaRuns scalarSystem1 5) ∧
    (scalarSystem1.meip 5 = true) ∧
    ((scalarSystem1.sca 5).meie = true) ∧
    (scaRuns (sca5 id) 5) ∧
    ((sca5 id).meip 5 = false ∨ ((sca5 id).sca 5).meie = false) ∧
    (TrapCause.ecall ≠ TrapCause.external) ∧
    (((sca5 id).sca 5).toksel.toNat = 7) ∧
    ((sca5 id).waits = []) ∧
    ((sca5 id).grants = []) ∧
    ((sca5 id).withdrawn = []) ∧
    ((sca5 id).tokCount (Tok.mk 0 5 7) = 3) ∧
    ((3#32).toNat % 65536 ≤ 3) ∧
    (3 < (4#32).toNat % 65536) ∧
    (3 + (3#32).toNat % 65536 ≤ 65535) ∧
    (((sca5 id).sca 5).qsel.toNat = 3) ∧
    ((sca5 id).badWords = []) ∧
    ((65600#32).toNat % 64 = 0) ∧
    (65536 ≤ (65600#32).toNat) ∧
    ((65600#32).toNat < 131072) ∧
    ((sca5 id).qFree 5 3 ≠ 0) ∧
    ((sca5 id).qEntry 5 3 ((sca5 id).qTail 5 3) = 0) ∧
    (0 + 64 ≤ slotSize) ∧
    ((3#32).toNat % 64 ≠ 0) ∧
    (3#32 ≠ 1#32) ∧
    ((sca5 id).qSt 5 3 ≠ 3) ∧
    (((sca5 id).que 5 3).fetched = []) := by
  decide +kernel

theorem test_InterruptSourcesAreClaimedAndCompleted_hypotheses :
    (reservedSource 530 = false) ∧
    (levelSource 530 = false) ∧
    (interruptSources1.fld (srcReg 530) F.ICU_SRC_pending = 0) ∧
    (reservedSource 43 = false) ∧
    (levelSource 43 = false) ∧
    (interruptSources1.fld (srcReg 43) F.ICU_SRC_pending = 1) ∧
    (levelSource 40 = true) ∧
    (interruptSources1.fld (srcReg 40) F.ICU_SRC_in_service = 0) ∧
    (interruptSources2.fld (srcReg 40) F.ICU_SRC_in_service = 1) ∧
    (interruptSources1.fld (reg1 .ICU_GROUP 0 (43 / 16)) F.ICU_GROUP_remaining ≠ 0 ∨ interruptSources1.prioOf 43 = 0) ∧
    (interruptSources1.regStatus (reg1 .ICU_GROUP 0 2) = Status.ok) ∧
    ((pend 43 3 icu).eligible 43 5 = true) ∧
    (Option.any (fun i => decide (i < 768)) ((pend 43 3 icu).bestSource 5) = true) ∧
    (interruptSources1.request 5 = false) ∧
    (Option.any (fun c => decide (c % 1024 = (43#64).toNat % 1024 ∧ c % 1024 < 768)) (interruptSources3.claimsOf 5).head? =
      true) ∧
    (Option.map (fun x => x % 1024) (interruptSources1.claimsOf 5).head? ≠ some ((43#64).toNat % 1024)) ∧
    (interruptSources1.fld (reg1 .ICU_ALARM_CTL 0 2) F.ICU_ALARM_CTL_armed = 1) ∧
    (interruptSources1.fld (reg1 .ICU_ALARM 0 2) F.ICU_ALARM_time_ns ≤ interruptSources1.clk.refTime) ∧
    (0 < if 0 = 0 then 64 else 32) ∧
    ((43#64).getLsbD 0 = true) ∧
    (((claimed [3 * 1024 + 43]).claimsOf 5).length = 1) ∧
    (Option.any (fun c => decide (c % 1024 < 768)) ((claimed [3 * 1024 + 43]).claimsOf 5).head? = true) := by
  decide +kernel

theorem test_StackedRequestsAreServed_hypotheses :
    (stacked.clk.stopped.contains (90 + 77 / 64) = false) ∧
    (stacked.hbm.released = []) ∧
    (stacked.hbm.sets = []) ∧
    ((stacked.chan 77).q = []) ∧
    (stacked.chSt 77 = 0) ∧
    ((stacked.chan 77).lost = []) ∧
    (chanOf (request 0 (some [9, 9])).addr.toNat = 77) ∧
    ((request 0 (some [9, 9])).addr.toNat = 10504192) ∧
    ((request 0 (some [9, 9])).hint = 0) ∧
    (Option.any (fun bs => decide (10504192 % 64 + bs.length ≤ 64 ∧ bs ≠ [])) (request 0 (some [9, 9])).write = true) ∧
    (chanOf (request 70 none).addr.toNat = 77) ∧
    ((request 70 none).addr.toNat = 10504262) ∧
    ((request 70 none).hint = 0) ∧
    ((request 70 none).write = none) ∧
    (¬10504262 / 64 * 64 ∈ stacked.poison) ∧
    (stackedRequests1.clk.stopped.contains (90 + 77 / 64) = false) ∧
    (stackedRequests1.hbm.released = []) ∧
    (stackedRequests1.hbm.sets = []) ∧
    ((stackedRequests1.chan 77).q = []) ∧
    (stackedRequests1.chSt 77 = 0) ∧
    ((stackedRequests1.chan 77).lost = []) ∧
    (10504262 / 64 * 64 ∈ stackedRequests1.poison) ∧
    (∀ (n : CoreId) (m : Fin 8), (request 70 none).who ≠ Requester.move n m) ∧
    ((stacked.pageClass (10504262 / 262144)).fst = false) ∧
    ((stacked.chan 77).corrs.length < 63) := by
  decide +kernel

theorem test_ChannelsAreScrubbedMigratedAndRepaired_hypotheses :
    (up.clk.stopped.contains (90 + 1) = false) ∧
    (up.clk.stopped.contains (90 + 77 / 64) = false) ∧
    ((up.chan 77).tries < 15) ∧
    ((tried 15).clk.stopped.contains (90 + 77 / 64) = false) ∧
    (((tried 15).chan 77).tries = 15) ∧
    (stackedClean
      (State.mk (tried 15).pending (tried 15).regs (tried 15).mem (tried 15).badWords (tried 15).poison
      (have __src := (tried 15).hbm;
      Hbm.mk __src.sets [] __src.retires __src.queue __src.released __src.degraded __src.granted __src.scrub)
      (tried 15).retryPeer (tried 15).hdmLost (tried 15).rdata (tried 15).rbytes (tried 15).rstatus (tried 15).cores
      (tried 15).dies (tried 15).claims (tried 15).pwr (tried 15).stepMap (tried 15).heldSteps (tried 15).train
      (tried 15).members (tried 15).membersNext (tried 15).surv (tried 15).fab (tried 15).host (tried 15).cxl
      (tried 15).mbx (tried 15).slices (tried 15).saved (tried 15).firm (tried 15).frost (tried 15).rst (tried 15).mgmt
      (tried 15).clk (tried 15).cross (tried 15).waits (tried 15).grants (tried 15).withdrawn (tried 15).evq
      (tried 15).freeIdx)) ∧
    ((channel 2 5).clk.stopped.contains (90 + 77 / 64) = false) ∧
    ((channel 2 5).chSt 77 = 2) ∧
    ((channel 2 5).copyPtr 77 + 1 < 645120) ∧
    (chunk5 < 1352914698240) ∧
    ((channel 2 655360).clk.stopped.contains (90 + 77 / 64) = false) ∧
    ((channel 2 655360).chSt 77 = 2) ∧
    (655360 ≤ (channel 2 655360).copyPtr 77) ∧
    ((channel 2 655360).hbm.queue = []) ∧
    ((channel 5 655360).clk.stopped.contains (90 + 77 / 64) = false) ∧
    ((channel 5 655360).chSt 77 = 5) ∧
    (655360 ≤ (channel 5 655360).copyPtr 77) ∧
    ((channel 5 655360).hbm.queue = []) ∧
    ((channel 2 5).hbm.queue = []) ∧
    ((channel 6 0).clk.stopped.contains (90 + 77 / 64) = false) ∧
    ((channel 6 0).chSt 77 = 6) ∧
    (stackedClean up) ∧
    ((channel 4 7).clk.stopped.contains (90 + 77 / 64) = false) ∧
    ((channel 4 7).chSt 77 = 4) := by
  decide +kernel

theorem test_StreamerFetchesInjectsAndReleases_hypotheses_1 :
    ((window 0 id).clk.stopped.contains (dieIsland 1) = false) ∧
    (((window 0 id).win 1).pages < 65536) ∧
    ((window 0 id).fld (reg0 .WIN_CTRL 1) F.WIN_CTRL_enable = 0) ∧
    ((window 0 id).winState 1 = 0) ∧
    ((window 0 id).winCheck 1 = 0) ∧
    (streamerFetches1.clk.stopped.contains (dieIsland 1) = false) ∧
    ((streamerFetches1.win 1).pages < 65536) ∧
    (streamerFetches1.fld (reg0 .WIN_CTRL 1) F.WIN_CTRL_enable = 0) ∧
    (streamerFetches1.winState 1 = 0) ∧
    (streamerFetches1.winCheck 1 = 3) ∧
    (streamerFetches6.clk.stopped.contains (dieIsland 1) = false) ∧
    ((streamerFetches6.win 1).pages < 65536) ∧
    (streamerFetches6.fld (reg0 .WIN_CTRL 1) F.WIN_CTRL_enable = 0) ∧
    (streamerFetches6.winState 1 ≠ 0) ∧
    (streamerFetches6.winState 1 ≠ 1) ∧
    ((window 1 id).clk.stopped.contains (dieIsland 1) = false) ∧
    (((window 1 id).win 1).pages < 65536) ∧
    ((window 1 id).fld (reg0 .WIN_CTRL 1) F.WIN_CTRL_enable = 1) ∧
    (stackedClean (window 1 id)) ∧
    ((window 1 id).winState 1 = 1) ∧
    (((window 1 id).win 1).ended = false) ∧
    (((window 1 id).win 1).next = none) ∧
    (((window 1 id).win 1).layers = []) ∧
    (((window 1 id).win 1).fly = []) ∧
    (((window 1 id).win 1).old = []) ∧
    (8 ≤ ((window 1 id).win 1).pages) ∧
    ((window 1 id).fld (reg0 .WIN_STATUS 1) F.WIN_STATUS_record = 2) ∧
    ((window 1 id).fld (reg0 .WIN_STATUS 1) F.WIN_STATUS_next_q = 21) ∧
    (leNat
      (readBytes (window 1 id).mem ((window 1 id).fld (reg0 .WIN_SCHED 1) F.WIN_SCHED_sched_base + 32 * 2) 32) =
      151115727451858711674881) ∧
    (bitsOf 151115727451858711674881 0 16 = 1) ∧
    (bitsOf 151115727451858711674881 64 52 = 8192) ∧
    (leNat (readBytes (window 1 id).mem 8192 16) = 18447025548686524416) ∧
    ((window 1 id).runOk 18447025548686524416 = true) ∧
    (bitsOf 18447025548686524416 64 16 = 1) ∧
    ((window 1 id).slotSt 1 (21 % ((window 1 id).win 1).pages) = 0) ∧
    (streamerFetches2.clk.stopped.contains (dieIsland 1) = false) ∧
    ((streamerFetches2.win 1).pages < 65536) ∧
    ((streamerFetches2.win 1).fly = [(21, 281474976972800)]) ∧
    ((streamerFetches2.win 1).old = []) ∧
    (stackedClean streamerFetches2) ∧
    (streamerFetches2.farLost (281474976972800 - 281474976710656) = false) ∧
    ((streamerFetches2.win 1).layers = []) ∧
    (0 < (streamerFetches2.win 1).pages) ∧
    ((slot5 2).clk.stopped.contains (dieIsland 1) = false) ∧
    (((slot5 2).win 1).pages < 65536) ∧
    (((slot5 2).win 1).layers.length = 1) := by
  and_intros <;> first | decide +kernel | rfl

theorem test_StreamerFetchesInjectsAndReleases_hypotheses_2 :
    (stackedClean (slot5 2)) ∧
    (fget ((slot5 2).rd (purCfg 1)) F.PUR_DIE_CFG_source = 0) ∧
    ((slot5 2).canInject 1 = true) ∧
    ((slot5 2).winState 1 < 3) ∧
    (Option.any
      (fun l =>
      decide
      (l.chain = true ∧
      l.sent = 0 ∧
      0 < l.asked ∧
      0 < l.pages ∧
      (slot5 2).slotSt 1 (((slot5 2).win 1).slotOf l 0) = 2 ∧
      ((slot5 2).win 1).base + ((slot5 2).win 1).slotOf l 0 * 262144 + 262144 ≤ 1352914698240))
      ((slot5 2).win 1).layers.head? =
      true) ∧
    (streamerFetches3.clk.stopped.contains (dieIsland 1) = false) ∧
    ((streamerFetches3.win 1).pages < 65536) ∧
    (streamerFetches3.winState 1 < 3) ∧
    (streamerFetches3.waits = []) ∧
    (streamerFetches3.grants = []) ∧
    (streamerFetches3.withdrawn = []) ∧
    (Option.any (fun t => decide (t.scope = 3 ∧ 1 ≤ streamerFetches3.tokCount t))
      (winTok 1 (streamerFetches3.fld (reg0 .WIN_CTRL 1) F.WIN_CTRL_rel_tok)) =
      true) ∧
    (Option.any (fun l => decide (l.asked = 1)) (streamerFetches3.win 1).layers.head? = true) ∧
    ((slot5 2).waits = []) ∧
    ((slot5 2).grants = []) ∧
    ((slot5 2).withdrawn = []) ∧
    (Option.any (fun t => decide (t.scope = 3 ∧ (slot5 2).tokCount t = 0))
      (winTok 1 ((slot5 2).fld (reg0 .WIN_CTRL 1) F.WIN_CTRL_rel_tok)) =
      true) ∧
    (Option.any (fun l => decide (l.asked = 1)) ((slot5 2).win 1).layers.head? = true) ∧
    ((5#16).toNat = 5) ∧
    ((slot5 2).slotSt 1 5 = 2) ∧
    ((retrying 1).clk.stopped.contains (dieIsland 1) = false) ∧
    (((retrying 1).win 1).pages < 65536) ∧
    ((retrying 1).slotSt 1 5 = 4) ∧
    (tget 0 ((retrying 1).win 1).retry 5 = 1) ∧
    (stackedClean (retrying 1)) ∧
    ((((retrying 1).win 1).layers.all fun l => l.signalled) = true) ∧
    (Option.any
      (fun p => decide ((retrying 1).farPage p.snd.snd = true ∧ p.snd.fst % max 1 ((retrying 1).win 1).pages = 5))
      (((retrying 1).win 1).pageOf 5) =
      true) ∧
    (replicated.clk.stopped.contains (dieIsland 1) = false) ∧
    ((replicated.win 1).pages < 65536) ∧
    (replicated.slotSt 1 5 = 4) ∧
    (tget 0 (replicated.win 1).retry 5 = 1) ∧
    (Option.any
      (fun p => decide (replicated.nextSource 1 (1 + 1) p.snd.snd ≤ 4 ∧ replicated.nextSource 1 (1 + 1) p.snd.snd ≤ 2))
      ((replicated.win 1).pageOf 5) =
      true) ∧
    ((retrying 1).winState 1 < 3) ∧
    (∀ (n : Nat), n < 64 → ∀ (m : Nat), m < 8 → (retrying 1).qSt n m ≠ 1) ∧
    (Option.any (fun p => decide ((retrying 1).nextSource 1 (1 + 1) p.snd.snd = 5)) (((retrying 1).win 1).pageOf 5) = true) ∧
    ((window 0 id).winState 1 ≠ 3) ∧
    ((window 3 id).clk.stopped.contains (dieIsland 1) = false) ∧
    (((window 3 id).win 1).pages < 65536) ∧
    ((window 3 id).winState 1 = 3) ∧
    (((window 3 id).win 1).old = []) ∧
    (((window 3 id).die 1).chain = []) ∧
    (streamerFetches5.clk.stopped.contains (dieIsland 1) = false) ∧
    ((streamerFetches5.win 1).pages < 65536) ∧
    (streamerFetches5.winState 1 = 4) ∧
    ((streamerFetches5.win 1).prior < 4) := by
  decide +kernel

theorem test_FarTierRequestsEndAndPortsComeAndGo_hypotheses :
    (region (281474976972800#52).toNat = Region.far) ∧
    ((farPort2 2).farPort ((281474976972800#52).toNat - 281474976710656) = some 2) ∧
    (((farPort2 2).cxlPort 2).wait = []) ∧
    ((farPort2 2).cxlSt 2 = 2) ∧
    ((farPort2 2).mode ≠ 3) ∧
    (((farPort2 2).cxlPort 2).load = 0) ∧
    (((farPort2 2).cxlPort 2).fly = []) ∧
    ((farPort2 0).farPort ((281474976972800#52).toNat - 281474976710656) = some 2) ∧
    (((farPort2 0).cxlPort 2).wait = []) ∧
    ((farPort2 0).cxlSt 2 ≠ 2) ∧
    (region (281543696187392#52).toNat = Region.far) ∧
    ((farPort2 0).farPort ((281543696187392#52).toNat - 281474976710656) = none) ∧
    ((farPort2 0).farLost ((281543696187392#52).toNat - 281474976710656) = false) ∧
    ((farTier1.cxlPort 2).fly.length = 1) ∧
    ((farTier1.cxlPort 2).wait = []) ∧
    (farTier1.cxlSt 2 ≠ 2) ∧
    (Option.any (fun r => decide (r.who = Requester.firmware ∧ r.write = false)) (farTier1.cxlPort 2).fly.head? = true) ∧
    ((farTier3.cxlPort 2).fly.length = 1) ∧
    ((farTier3.cxlPort 2).wait = []) ∧
    (farTier3.cxlSt 2 ≠ 2) ∧
    (Option.any (fun r => decide (r.who = Requester.firmware ∧ r.write = true)) (farTier3.cxlPort 2).fly.head? = true) ∧
    ((farTier1.cxlPort 2).late < 15) ∧
    (Option.any (fun r => decide (r.who = Requester.firmware)) (farTier1.cxlPort 2).fly.head? = true) ∧
    ((farTier2.cxlPort 2).fly.length = 1) ∧
    ((farTier2.cxlPort 2).wait = []) ∧
    (farTier2.cxlSt 2 ≠ 2) ∧
    ((farTier2.cxlPort 2).late = 15) ∧
    (farTier2.hdmNames 0 2 = true) ∧
    (Option.any (fun r => decide (r.who = Requester.firmware)) (farTier2.cxlPort 2).fly.head? = true) ∧
    ((farPort2 2).hdmNames 0 2 = true) ∧
    ((farPort2 3).cxlSt 2 = 3) ∧
    (((farPort2 3).cxlPort 2).fly = []) ∧
    (((farPort2 3).cxlPort 2).wait = []) ∧
    ((farPort2 3).hdmNames 0 2 = true) ∧
    ((farPort2 0).clk.stopped.contains (107 + 2) = false) ∧
    ((farPort2 0).cxlSt 2 = 0 ∨ (farPort2 0).cxlSt 2 = 4 ∨ (farPort2 0).cxlSt 2 = 5) ∧
    ((farPort2 1).clk.stopped.contains (107 + 2) = false) ∧
    ((farPort2 1).cxlSt 2 = 1) ∧
    ((CxlDev.mk (2#2) true 16#5 0#2 100#32).type ≠ 3#2) ∧
    ((CxlDev.mk (3#2) true 8#5 1#2 65535#32).type = 3#2) ∧
    ((CxlDev.mk (3#2) true 8#5 1#2 65535#32).flit256 = true) ∧
    ((CxlDev.mk (3#2) true 8#5 1#2 65535#32).width = 16#5 ∨ (CxlDev.mk (3#2) true 8#5 1#2 65535#32).width = 8#5) ∧
    ((CxlDev.mk (3#2) true 8#5 1#2 65535#32).switches.toNat ≤ 1) := by
  decide +kernel

theorem test_BucketsAreSealedReducedAndCommitted_hypotheses_1 :
    (bucketsAre2.fld (reg0 .RST_STATUS 0) F.RST_STATUS_frost = 0) ∧
    (∀ (y : Bucket), y ∈ List.take (0#12).toNat bucketsAre2.train.buckets → y.closed = true) ∧
    (bucketsAre2.withdrawn = []) ∧
    (1 ≠ (0#12).toNat) ∧
    (Option.any
      (fun x =>
      decide
      (x.closed = false ∧
      x.sealCount ≠ 0 ∧ bucketsAre2.grants = [Wait.mk (Tok.mk 4 0 (x.tok % 16)) cpReq x.sealCount]))
      (bucketAt bucketsAre2.train.buckets (0#12).toNat) =
      true) ∧
    (bucketsAre2.position < bucketsAre2.memberCount) ∧
    (bucketsAre2.memberCount ≤ 4096) ∧
    (0 < bucketsAre2.memberCount) ∧
    ((bucketsAre2.position + bucketsAre2.memberCount - 0) % bucketsAre2.memberCount = 0) ∧
    (bucketsAre2.havePart (0#12).toNat 0 0 (0 + 1) = none) ∧
    (bucketsAre3.fld (reg0 .RST_STATUS 0) F.RST_STATUS_frost = 0) ∧
    (∀ (y : Bucket), y ∈ List.take (0#12).toNat bucketsAre3.train.buckets → y.closed = true) ∧
    (bucketsAre3.withdrawn = []) ∧
    (bucketsAre3.grants = []) ∧
    (bucketsAre3.waits = []) ∧
    (bucketsAre3.cross = []) ∧
    (Option.any (fun x => decide (x.closed = false ∧ x.sealCount ≠ 0)) (bucketAt bucketsAre3.train.buckets (0#12).toNat) =
      true) ∧
    (bucketsAre1.fld (reg0 .RST_STATUS 0) F.RST_STATUS_frost = 0) ∧
    (Option.any
      (fun x =>
      decide
      ((partOf 3).epoch.toNat ≠ bucketsAre1.members.epoch ∨
      (partOf 3).run.toNat ≠ x.run ∨ x.reduced = true ∧ (partOf 3).shard.toNat = bucketsAre1.position))
      (bucketAt bucketsAre1.train.buckets (partOf 3).bucket.toNat) =
      true) ∧
    ((partOf 4).epoch.toNat = bucketsAre1.members.epoch) ∧
    (Option.any
      (fun x =>
      decide ((partOf 4).run.toNat = x.run ∧ (x.reduced = false ∨ (partOf 4).shard.toNat ≠ bucketsAre1.position)))
      (bucketAt bucketsAre1.train.buckets (partOf 4).bucket.toNat) =
      true) ∧
    (bucketsAre4.fld (reg0 .RST_STATUS 0) F.RST_STATUS_frost = 0) ∧
    (bucketsAre4.members.standIn = []) ∧
    (bucketsAre4.position < bucketsAre4.memberCount) ∧
    (bucketsAre4.mirror = 0) ∧
    (bucketsAre4.surv.plan = none) ∧
    (stackedClean bucketsAre4) ∧
    (¬(0#12).toNat ∈ bucketsAre4.train.freed) ∧
    (∀ (k : Nat), k < bucketsAre4.memberCount → k ≠ bucketsAre4.position → ((0#12).toNat, k) ∈ bucketsAre4.train.owners) ∧
    (Option.any
      (fun x =>
      decide
      (x.reduced = false ∧
      Option.any (fun r => decide (r.empty = false ∧ x.reducedBase + 4 * r.vals.length ≤ 1352914698240))
      (State.nodePart (0#12).toNat x bucketsAre4.position 14 bucketsAre4 0 bucketsAre4.memberCount) =
      true))
      (bucketAt bucketsAre4.train.buckets (0#12).toNat) =
      true) ∧
    (bucketsAre10.fld (reg0 .RST_STATUS 0) F.RST_STATUS_frost = 0) ∧
    (bucketsAre10.members.standIn = []) ∧
    (bucketsAre10.position < bucketsAre10.memberCount) ∧
    (bucketsAre10.mirror = 0) ∧
    (bucketsAre10.surv.plan = none) ∧
    (stackedClean bucketsAre10) ∧
    (¬(0#12).toNat ∈ bucketsAre10.train.freed) ∧
    (1 < bucketsAre10.memberCount) ∧
    (1 ≠ bucketsAre10.position) ∧
    (¬((0#12).toNat, 1) ∈ bucketsAre10.train.owners) ∧
    (Option.any
      (fun x =>
      decide
      (x.reduced = false ∧
      Option.any (fun r => decide (r.empty = false ∧ x.reducedBase + 4 * r.vals.length ≤ 1352914698240))
      (State.nodePart (0#12).toNat x bucketsAre10.position 14 bucketsAre10 0 bucketsAre10.memberCount) =
      true))
      (bucketAt bucketsAre10.train.buckets (0#12).toNat) =
      true) ∧
    ((training [unsealed] [20]).fld (reg0 .RST_STATUS 0) F.RST_STATUS_frost = 0) ∧
    ((training [unsealed] [20]).members.standIn = []) ∧
    ((training [unsealed] [20]).position < (training [unsealed] [20]).memberCount) ∧
    ((training [unsealed] [20]).mirror = 0) ∧
    ((training [unsealed] [20]).surv.plan = none) ∧
    (Option.any
      (fun x =>
      decide
      (x.reduced = false ∧
      Option.any (fun r => decide (r.empty = true))
      (State.nodePart (0#12).toNat x (training [unsealed] [20]).position 14 (training [unsealed] [20]) 0
      (training [unsealed] [20]).memberCount) =
      true))
      (bucketAt (training [unsealed] [20]).train.buckets (0#12).toNat) =
      true) ∧
    ((bucketAt bucketsAre4.train.buckets (0#12).toNat).isSome = true) ∧
    (¬((0#12).toNat, (0#12).toNat) ∈ bucketsAre4.train.owners) ∧
    (∀ (k : Nat), k < bucketsAre4.memberCount → k ≠ (0#12).toNat → ((0#12).toNat, k) ∈ bucketsAre4.train.owners) ∧
    ((bucketAt bucketsAre1.train.buckets (0#12).toNat).isSome = true) ∧
    (¬(0#12).toNat ∈ bucketsAre1.train.freed) ∧
    (¬((0#12).toNat, (0#12).toNat) ∈ bucketsAre1.train.owners) ∧
    (1 < bucketsAre1.memberCount) ∧
    (¬((0#12).toNat, 1) ∈ bucketsAre1.train.owners) ∧
    (bucketsAre5.fld (reg0 .RST_STATUS 0) F.RST_STATUS_frost = 0) ∧
    ((7#32).toNat ∈ List.map (fun x => x.fst) bucketsAre5.train.replay) ∧
    (¬((7#32).toNat, (0#12).toNat) ∈ bucketsAre5.train.updated) ∧
    (bucketsAre5.surv.copying = false) ∧
    (bucketsAre5.mirror ≠ 1) := by
  decide +kernel

theorem test_BucketsAreSealedReducedAndCommitted_hypotheses_2 :
    (bucketsAre5.entryOf (7#32).toNat = none) ∧
    (Option.any (fun x => decide (x.reduced = true)) (bucketAt bucketsAre5.train.buckets (0#12).toNat) = true) ∧
    (bucketsAre12.fld (reg0 .RST_STATUS 0) F.RST_STATUS_frost = 0) ∧
    ((7#32).toNat ∈ List.map (fun x => x.fst) bucketsAre12.train.replay) ∧
    (¬((7#32).toNat, (0#12).toNat) ∈ bucketsAre12.train.updated) ∧
    (bucketsAre12.surv.copying = false) ∧
    (bucketsAre12.mirror ≠ 1) ∧
    (stackedClean bucketsAre12) ∧
    (Option.any (fun x => decide (x.reduced = true ∧ x.reducedCount = 0))
      (bucketAt bucketsAre12.train.buckets (0#12).toNat) =
      true) ∧
    (bucketsAre13.fld (reg0 .RST_STATUS 0) F.RST_STATUS_frost = 0) ∧
    ((7#32).toNat ∈ List.map (fun x => x.fst) bucketsAre13.train.replay) ∧
    (¬((7#32).toNat, (0#12).toNat) ∈ bucketsAre13.train.updated) ∧
    (bucketsAre13.surv.copying = false) ∧
    (bucketsAre13.mirror ≠ 1) ∧
    (stackedClean bucketsAre13) ∧
    (Option.any (fun x => decide (x.reduced = true ∧ x.reducedCount ≠ 0))
      (bucketAt bucketsAre13.train.buckets (0#12).toNat) =
      true) ∧
    ((bucketAt bucketsAre5.train.buckets (0#12).toNat).isSome = true) ∧
    (stackedClean bucketsAre5) ∧
    (¬(bucketsAre5.train.step % 2 ^ 64, (7#32).toNat, (0#12).toNat) ∈ bucketsAre5.train.mupdated) ∧
    (bucketsAre5.train.step < 2 ^ 64) ∧
    (bucketsAre6.fld (reg0 .RST_STATUS 0) F.RST_STATUS_frost = 0) ∧
    (bucketsAre6.train.ready = false) ∧
    (bucketsAre6.train.buckets ≠ []) ∧
    (bucketsAre6.members.standIn = []) ∧
    (∀ (b : Nat),
      b < bucketsAre6.train.buckets.length →
      ∃ x,
      bucketAt bucketsAre6.train.buckets b = some x ∧
      x.reduced = true ∧ b ∈ List.map (fun x => x.snd) bucketsAre6.train.updated) ∧
    (bucketsAre6.leader = bucketsAre6.position) ∧
    (bucketsAre14.fld (reg0 .RST_STATUS 0) F.RST_STATUS_frost = 0) ∧
    (bucketsAre14.train.ready = false) ∧
    (bucketsAre14.train.buckets ≠ []) ∧
    (bucketsAre14.members.standIn = []) ∧
    (∀ (b : Nat),
      b < bucketsAre14.train.buckets.length →
      ∃ x,
      bucketAt bucketsAre14.train.buckets b = some x ∧
      x.reduced = true ∧ b ∈ List.map (fun x => x.snd) bucketsAre14.train.updated) ∧
    (bucketsAre14.leader ≠ bucketsAre14.position) ∧
    (bucketsAre14.fab.id ≠ 65535) ∧
    (bucketsAre14.idAt bucketsAre14.leader = 30) ∧
    (5 + bucketsAre14.route 30 % 8 = 5) ∧
    (bucketsAre14.lnk 5 ≠ 7) ∧
    (bucketsAre15.fld (reg0 .RST_STATUS 0) F.RST_STATUS_frost = 0) ∧
    (bucketsAre15.leader = bucketsAre15.position) ∧
    (bucketsAre15.train.formed = none) ∧
    (0 < bucketsAre15.memberCount) ∧
    (∀ (p : Nat), p < bucketsAre15.memberCount → p ∈ List.map (fun x => x.fst) bucketsAre15.train.reports) ∧
    (∀ (b : Nat), b < bucketsAre15.train.buckets.length → b ∈ bucketsAre15.train.freed) ∧
    (∀ (p : Nat),
      p < bucketsAre15.memberCount →
      tget (0#256) bucketsAre15.train.reports p = tget (0#256) bucketsAre15.train.reports bucketsAre15.position) ∧
    (bucketsAre16.fld (reg0 .RST_STATUS 0) F.RST_STATUS_frost = 0) ∧
    (bucketsAre16.leader = bucketsAre16.position) ∧
    (bucketsAre16.train.formed = none) ∧
    (0 < bucketsAre16.memberCount) ∧
    (∀ (p : Nat), p < bucketsAre16.memberCount → p ∈ List.map (fun x => x.fst) bucketsAre16.train.reports) ∧
    (∀ (b : Nat), b < bucketsAre16.train.buckets.length → b ∈ bucketsAre16.train.freed) ∧
    (1 < bucketsAre16.memberCount) ∧
    (tget (0#256) bucketsAre16.train.reports 1 ≠ tget (0#256) bucketsAre16.train.reports bucketsAre16.position) ∧
    ((recordOf 10).step.toNat = bucketsAre1.train.step) ∧
    (bucketsAre1.surv.policy = []) ∧
    (bucketsAre1.surv.policyNext = none) ∧
    (bucketsAre1.surv.plan = none) ∧
    (bucketsAre1.membersNext = none) ∧
    (bucketsAre1.heldSteps = []) ∧
    ((recordOf 11).step.toNat ≠ bucketsAre1.train.step) ∧
    (bucketsAre1.train.record = none) := by
  decide +kernel

theorem test_LinksTrainDegradeAndFence_hypotheses_1 :
    (clean[0]?.isSome = true) ∧
    ((linkAt 6 0).clk.stopped.contains (111 + 1) = false) ∧
    ((linkAt 6 0).lnk (1 + 5) = 0 ∨ (linkAt 6 0).lnk (1 + 5) = 7 ∨ (linkAt 6 0).lnk (1 + 5) = 8) ∧
    ((linkAt 6 1).clk.stopped.contains (111 + 1) = false) ∧
    ((linkAt 6 1).lnk (1 + 5) = 1) ∧
    (7 ≤ (lanesOf (255#8).toNat).length) ∧
    ((lanesOf (3#8).toNat).length < 7) ∧
    ((linkAt 6 2).clk.stopped.contains (111 + 1) = false) ∧
    ((linkAt 6 2).lnk (1 + 5) = 2) ∧
    (admittedLanes clean = 255) ∧
    ((linkAt 6 2).fld (reg0 .LNK_CTRL (1 + 5)) F.LNK_CTRL_lane_mask = 255) ∧
    (7 ≤ (lanesOf (255 &&& 255)).length) ∧
    (7 ≤ (lanesOf ((255#8).toNat &&& 255)).length) ∧
    ((lanesOf (255 &&& 255)).length < 7 ∨ (lanesOf ((3#8).toNat &&& 255)).length < 7) ∧
    ((linkAt 6 3).clk.stopped.contains (111 + 1) = false) ∧
    ((linkAt 6 3).lnk (1 + 5) = 3) ∧
    ((linkAt 6 4).clk.stopped.contains (111 + 1) = false) ∧
    ((linkAt 6 4).lnk (1 + 5) = 4) ∧
    (¬(cap.id.toNat = (linkAt 6 4).fab.id ∧ (linkAt 6 4).fab.id ≠ 65535)) ∧
    (cap.pairing = decide (1 + 5 = 11)) ∧
    (fget ((linkAt 6 4).rd (reg0 .LNK_CAP (1 + 5))) F.LNK_CAP_proto_min ≤ cap.protoMax.toNat ∧
      cap.protoMin.toNat ≤ fget ((linkAt 6 4).rd (reg0 .LNK_CAP (1 + 5))) F.LNK_CAP_proto_max) ∧
    (1 + 5 = 11 →
      (linkAt 6 4).fld (reg0 .LNK_CTRL (1 + 5)) F.LNK_CTRL_pair_override = 1 ∨
      cap.feed.toNat ≠ fget ((linkAt 6 4).rd (reg0 .LNK_CAP (1 + 5))) F.LNK_CAP_feed_id ∧
      cap.feed ≠ 65535#16 ∧ fget ((linkAt 6 4).rd (reg0 .LNK_CAP (1 + 5))) F.LNK_CAP_feed_id ≠ 65535) ∧
    (ownCap.id.toNat = (linkAt 6 4).fab.id ∧ (linkAt 6 4).fab.id ≠ 65535) ∧
    (¬((pairCap 4660#16).id.toNat = (linkAt 6 4).fab.id ∧ (linkAt 6 4).fab.id ≠ 65535)) ∧
    (¬(pairCap 4660#16).pairing = decide (1 + 5 = 11)) ∧
    (¬(newerCap.id.toNat = (linkAt 6 4).fab.id ∧ (linkAt 6 4).fab.id ≠ 65535)) ∧
    (newerCap.pairing = decide (1 + 5 = 11)) ∧
    (¬(fget ((linkAt 6 4).rd (reg0 .LNK_CAP (1 + 5))) F.LNK_CAP_proto_min ≤ newerCap.protoMax.toNat ∧
      newerCap.protoMin.toNat ≤ fget ((linkAt 6 4).rd (reg0 .LNK_CAP (1 + 5))) F.LNK_CAP_proto_max)) ∧
    ((linkAt 11 4).clk.stopped.contains (111 + 6) = false) ∧
    ((linkAt 11 4).lnk (6 + 5) = 4) ∧
    (¬((pairCap 65535#16).id.toNat = (linkAt 11 4).fab.id ∧ (linkAt 11 4).fab.id ≠ 65535)) ∧
    ((pairCap 65535#16).pairing = decide (6 + 5 = 11)) ∧
    (fget ((linkAt 11 4).rd (reg0 .LNK_CAP (6 + 5))) F.LNK_CAP_proto_min ≤ (pairCap 65535#16).protoMax.toNat ∧
      (pairCap 65535#16).protoMin.toNat ≤ fget ((linkAt 11 4).rd (reg0 .LNK_CAP (6 + 5))) F.LNK_CAP_proto_max) ∧
    (¬(6 + 5 = 11 →
      (linkAt 11 4).fld (reg0 .LNK_CTRL (6 + 5)) F.LNK_CTRL_pair_override = 1 ∨
      (pairCap 65535#16).feed.toNat ≠ fget ((linkAt 11 4).rd (reg0 .LNK_CAP (6 + 5))) F.LNK_CAP_feed_id ∧
      (pairCap 65535#16).feed ≠ 65535#16 ∧
      fget ((linkAt 11 4).rd (reg0 .LNK_CAP (6 + 5))) F.LNK_CAP_feed_id ≠ 65535)) ∧
    (3#8 = 2#8 ∨ 3#8 = 3#8 ∨ 3#8 = 4#8) ∧
    ((linkAt 6 5).clk.stopped.contains (111 + 1) = false) ∧
    ((linkAt 6 5).lnk (1 + 5) = 5) ∧
    (true = true ∨ (linkAt 6 5).fld (reg0 .LNK_CTRL (1 + 5)) F.LNK_CTRL_renegotiate = 1) ∧
    (fget ((linkAt 6 5).rd (reg0 .LNK_CAP (1 + 5))) F.LNK_CAP_proto_min ≤ (255#8).toNat) ∧
    ((1#8).toNat ≤ fget ((linkAt 6 5).rd (reg0 .LNK_CAP (1 + 5))) F.LNK_CAP_proto_max) ∧
    ((255#8).toNat < fget ((linkAt 6 5).rd (reg0 .LNK_CAP (1 + 5))) F.LNK_CAP_proto_min ∨
      fget ((linkAt 6 5).rd (reg0 .LNK_CAP (1 + 5))) F.LNK_CAP_proto_max < (255#8).toNat) ∧
    (live.clk.stopped.contains (111 + 1) = false) ∧
    (live.portLive (1 + 5) = true) ∧
    ((live.port (1 + 5)).rxStop = 0) ∧
    (isGroupFlit groupFlit = true) ∧
    ((live.port (1 + 5)).aligned = true) ∧
    (isGroupFlit (flit 1 0) = false) ∧
    ((live.port (1 + 5)).missing = 0) ∧
    (linksTrain1.clk.stopped.contains (111 + 1) = false) ∧
    (linksTrain1.portLive (1 + 5) = true) := by
  and_intros <;> first | decide +kernel | rfl

theorem test_LinksTrainDegradeAndFence_hypotheses_2 :
    ((linksTrain1.port (1 + 5)).rxStop = 0) ∧
    ((linksTrain1.port (1 + 5)).aligned = true) ∧
    ((linksTrain1.port (1 + 5)).missing ≠ 0) ∧
    ((linkAt 6 5).portLive (1 + 5) = true) ∧
    (((linkAt 6 5).port (1 + 5)).rxStop = 0) ∧
    (((linkAt 6 5).port (1 + 5)).aligned = false) ∧
    (((linkAt 6 5).port (1 + 5)).found = 0) ∧
    (linksTrain3.clk.stopped.contains (111 + 1) = false) ∧
    (linksTrain3.portLive (1 + 5) = true) ∧
    ((linksTrain3.port (1 + 5)).rxStop = 0) ∧
    ((linksTrain3.port (1 + 5)).aligned = false) ∧
    ((linksTrain3.port (1 + 5)).found = 1) ∧
    (linksTrain3.lnk (1 + 5) = 6) ∧
    (LaneFault.symbols 2 = LaneFault.lockLost 2 ∨
      LaneFault.symbols 2 = LaneFault.symbols 2 ∨
      LaneFault.symbols 2 = LaneFault.replays (some 2) ∧
      (16 ≤ (live.port (1 + 5)).asked ∨ 16 ≤ (live.port (1 + 5)).again)) ∧
    (live.rxLanes (1 + 5) = 255) ∧
    (linksTrain4.clk.stopped.contains (111 + 1) = false) ∧
    (linksTrain4.portLive (1 + 5) = true) ∧
    (LaneFault.symbols 2 = LaneFault.lockLost 2 ∨
      LaneFault.symbols 2 = LaneFault.symbols 2 ∨
      LaneFault.symbols 2 = LaneFault.replays (some 2) ∧
      (16 ≤ (linksTrain4.port (1 + 5)).asked ∨ 16 ≤ (linksTrain4.port (1 + 5)).again)) ∧
    ((lanesOf (linksTrain4.rxLanes (1 + 5))).length = 7) ∧
    ((linksTrain4.rxLanes (1 + 5)).testBit 2 = true) ∧
    (linksTrain5.clk.stopped.contains (111 + 1) = false) ∧
    (linksTrain5.portLive (1 + 5) = true) ∧
    (16 ≤ (linksTrain5.port (1 + 5)).asked ∨ 16 ≤ (linksTrain5.port (1 + 5)).again) ∧
    (((linkAt 6 5).port (1 + 5)).asked < 16) ∧
    (((linkAt 6 5).port (1 + 5)).again < 16) ∧
    ((live.port (1 + 5)).sevenAt = none) ∧
    ((live.txLanes (1 + 5)).testBit 2 = true) ∧
    (((linkAt 6 5).port (1 + 5)).open_ = []) ∧
    ((linkAt 6 5).fab.sent = []) ∧
    ((receiving 0).clk.stopped.contains (111 + 1) = false) ∧
    ((receiving 0).portLive (1 + 5) = true) ∧
    (((receiving 0).port (1 + 5)).rxStop = 0) ∧
    (((receiving 0).port (1 + 5)).open_ = [(2, header 1, [1#8, 2#8])]) ∧
    ((receiving 0).fab.sent = []) ∧
    (linksTrain2.clk.stopped.contains (111 + 1) = false) ∧
    (linksTrain2.portLive (1 + 5) = true) ∧
    ((linksTrain2.port (1 + 5)).rxStop = 7) ∧
    ((linksTrain2.port (1 + 5)).open_ = []) ∧
    (linksTrain2.fab.sent = []) ∧
    ((receiving 7).clk.stopped.contains (111 + 1) = false) ∧
    ((receiving 7).portLive (1 + 5) = true) ∧
    (((receiving 7).port (1 + 5)).rxStop = 7) ∧
    (((receiving 7).port (1 + 5)).open_ = [(2, header 1, [1#8, 2#8])]) ∧
    ((receiving 7).fab.sent = []) ∧
    ((linkAt 6 0).lnk (1 + 5) ≠ 7) ∧
    (((linkAt 6 0).port (1 + 5)).open_ = []) ∧
    ((linkAt 6 0).fab.sent = []) ∧
    ((receiving 0).lnk (1 + 5) ≠ 7) ∧
    (4 ≤ (List.filter fenceMatch (List.take 8 fencing4)).length) ∧
    ((List.filter fenceMatch (List.take 8 [])).length < 4) := by
  decide +kernel

theorem test_FlitsAndMessagesAreServed_hypotheses_1 :
    (flitsAnd1.portLive 6 = true) ∧
    (1 = ((flitsAnd1.port 6).slot + 1) % 1285) ∧
    ((flitsAnd1.port 6).sevenAt = none) ∧
    ((flitsAnd1.port 6).switchTo = false) ∧
    (flitsAnd10.portLive 6 = true) ∧
    (1 = ((flitsAnd10.port 6).slot + 1) % 1285) ∧
    ((flitsAnd10.port 6).sevenAt = none) ∧
    ((flitsAnd10.port 6).switchTo = true) ∧
    (flitsAnd2.portLive 6 = true) ∧
    (5 = ((flitsAnd2.port 6).slot + 1) % 1285) ∧
    ((flitsAnd2.port 6).hbDue = true) ∧
    (flitsAnd3.portLive 6 = true) ∧
    (5 = ((flitsAnd3.port 6).slot + 1) % 1285) ∧
    ((flitsAnd3.port 6).hbDue = false) ∧
    ((flitsAnd3.port 6).nakDue.isSome = true) ∧
    (flitsAnd4.portLive 6 = true) ∧
    (5 = ((flitsAnd4.port 6).slot + 1) % 1285) ∧
    ((flitsAnd4.port 6).hbDue = false) ∧
    ((flitsAnd4.port 6).nakDue = none) ∧
    ((flitsAnd4.port 6).returns = true) ∧
    (161 ≤ (flitsAnd4.port 6).ctrlAge + 1) ∧
    (flitsAnd5.portLive 6 = true) ∧
    (5 = ((flitsAnd5.port 6).slot + 1) % 1285) ∧
    ((flitsAnd5.port 6).hbDue = false) ∧
    ((flitsAnd5.port 6).nakDue = none) ∧
    ((flitsAnd5.port 6).returns = false) ∧
    ((flitsAnd5.port 6).degrade = none) ∧
    ((flitsAnd5.port 6).txStop = false) ∧
    ((flitsAnd5.port 6).replay.head?.isSome = true) ∧
    ((flitsAnd5.port 6).resend = (flitsAnd5.port 6).replay.tail.length + 1) ∧
    ((queues [0, 3]).portLive 6 = true) ∧
    (5 = (((queues [0, 3]).port 6).slot + 1) % 1285) ∧
    (((queues [0, 3]).port 6).hbDue = false) ∧
    (((queues [0, 3]).port 6).nakDue = none) ∧
    (((queues [0, 3]).port 6).returns = false) ∧
    (((queues [0, 3]).port 6).degrade = none) ∧
    (((queues [0, 3]).port 6).txStop = false) ∧
    (((queues [0, 3]).port 6).resend = 0) ∧
    (((queues [0, 3]).port 6).replay.length < 2048) ∧
    (((queues [0, 3]).port 6).sevenAt = none) ∧
    ((queues [0, 3]).vcReady 6 1 0 = true ∨ (queues [0, 3]).vcReady 6 1 1 = true) ∧
    ((List.filter (fun k => k == 1) ((queues [0, 3]).port 6).hist).length < 8) ∧
    (1 = if (queues [0, 3]).vcReady 6 1 1 = true then 1 else 0) ∧
    (flitsAnd6.portLive 6 = true) ∧
    (5 = ((flitsAnd6.port 6).slot + 1) % 1285) ∧
    ((flitsAnd6.port 6).hbDue = false) := by
  decide +kernel

theorem test_FlitsAndMessagesAreServed_hypotheses_2 :
    ((flitsAnd6.port 6).nakDue = none) ∧
    ((flitsAnd6.port 6).returns = false) ∧
    ((flitsAnd6.port 6).degrade = none) ∧
    ((flitsAnd6.port 6).txStop = false) ∧
    ((flitsAnd6.port 6).resend = 0) ∧
    ((flitsAnd6.port 6).replay.length < 2048) ∧
    ((flitsAnd6.port 6).sevenAt = none) ∧
    (¬((flitsAnd6.vcReady 6 1 0 = true ∨ flitsAnd6.vcReady 6 1 1 = true) ∧
      (List.filter (fun k => k == 1) (flitsAnd6.port 6).hist).length < 8)) ∧
    (flitsAnd6.vcReady 6 2 0 = true ∨ flitsAnd6.vcReady 6 2 1 = true) ∧
    ((List.filter (fun k => k == 2) (flitsAnd6.port 6).hist).length < 4) ∧
    (0 = if flitsAnd6.vcReady 6 2 1 = true then 1 else 0) ∧
    ((queues [0]).portLive 6 = true) ∧
    (5 = (((queues [0]).port 6).slot + 1) % 1285) ∧
    (((queues [0]).port 6).hbDue = false) ∧
    (((queues [0]).port 6).nakDue = none) ∧
    (((queues [0]).port 6).returns = false) ∧
    (((queues [0]).port 6).degrade = none) ∧
    (((queues [0]).port 6).txStop = false) ∧
    (((queues [0]).port 6).resend = 0) ∧
    (((queues [0]).port 6).replay.length < 2048) ∧
    (((queues [0]).port 6).sevenAt = none) ∧
    (¬(((queues [0]).vcReady 6 1 0 = true ∨ (queues [0]).vcReady 6 1 1 = true) ∧
      (List.filter (fun k => k == 1) ((queues [0]).port 6).hist).length < 8)) ∧
    (¬(((queues [0]).vcReady 6 2 0 = true ∨ (queues [0]).vcReady 6 2 1 = true) ∧
      (List.filter (fun k => k == 2) ((queues [0]).port 6).hist).length < 4)) ∧
    ((queues [0]).vcReady 6 0 0 = true ∨ (queues [0]).vcReady 6 0 1 = true) ∧
    (0 = if (queues [0]).vcReady 6 0 1 = true then 1 else 0) ∧
    (live.portLive 6 = true) ∧
    (5 = ((live.port 6).slot + 1) % 1285) ∧
    ((live.port 6).hbDue = false) ∧
    ((live.port 6).nakDue = none) ∧
    ((live.port 6).returns = false) ∧
    ((live.port 6).degrade = none) ∧
    ((live.port 6).txStop = false) ∧
    ((live.port 6).resend = 0) ∧
    ((live.port 6).replay.length < 2048) ∧
    ((live.port 6).sevenAt = none) ∧
    (¬(live.vcReady 6 0 0 = true ∨ live.vcReady 6 0 1 = true)) ∧
    (¬(live.vcReady 6 1 0 = true ∨ live.vcReady 6 1 1 = true)) ∧
    (¬(live.vcReady 6 2 0 = true ∨ live.vcReady 6 2 1 = true)) ∧
    ((flitsAnd1.port 6).rxStop = 0) ∧
    ((flitsAnd1.port 6).aligned = true) ∧
    ((flitsAnd1.port 6).replay = []) ∧
    ((flit 1 0).uncorrectable = false) ∧
    ((flit 1 0).crcFail = false) ∧
    ((flit 1 0).type = 1 ∨ (flit 1 0).type = 2) ∧
    ((flit 1 0).seq = (flitsAnd1.port 6).rxSeq) ∧
    ((flit 1 0).cls ≠ 3) := by
  and_intros <;> first | decide +kernel | rfl

theorem test_FlitsAndMessagesAreServed_hypotheses_3 :
    (2 = (flit 1 0).cls * 2 + (flit 1 0).sub.toNat) ∧
    ((flit 1 4).uncorrectable = false) ∧
    ((flit 1 4).crcFail = false) ∧
    ((flit 1 4).type = 1 ∨ (flit 1 4).type = 2) ∧
    ((flit 1 4).seq ≠ (flitsAnd1.port 6).rxSeq ∨ (flit 1 4).cls = 3) ∧
    ((flitsAnd1.port 6).discarding = false) ∧
    (broken.uncorrectable = true ∨ broken.crcFail = true) ∧
    (flitsAnd7.portLive 6 = true) ∧
    ((flitsAnd7.port 6).rxStop = 0) ∧
    ((flitsAnd7.port 6).aligned = true) ∧
    ((flitsAnd7.port 6).replay = []) ∧
    (broken.uncorrectable = false) ∧
    (broken.crcFail = true) ∧
    ((flitsAnd7.port 6).discarding = true) ∧
    ((LinkCtrl.mk [] false 0#12 [] none none).codes.any CodeRead.bad = false) ∧
    ((LinkCtrl.mk [] false 0#12 [] none none).ok = false) ∧
    ((LinkCtrl.mk [] true 0#12 [] none (some (Heartbeat.mk 5#32 30#16 4#32 1#16 1#16 9#64))).codes.any CodeRead.bad = false) ∧
    ((LinkCtrl.mk [] true 0#12 [] none (some (Heartbeat.mk 5#32 30#16 4#32 1#16 1#16 9#64))).ok = true) ∧
    ((LinkCtrl.mk [] true 0#12 [] none (some (Heartbeat.mk 5#32 30#16 4#32 1#16 1#16 9#64))).nak = none) ∧
    ((LinkCtrl.mk [] true 0#12 [] none (some (Heartbeat.mk 5#32 30#16 4#32 1#16 1#16 9#64))).credits = []) ∧
    ((LinkCtrl.mk [] true 0#12 [] none (some (Heartbeat.mk 5#32 30#16 4#32 1#16 1#16 9#64))).hb.isSome = true) ∧
    ((LinkCtrl.mk [] true 0#12 [1#16] none none).codes.any CodeRead.bad = false) ∧
    ((LinkCtrl.mk [] true 0#12 [1#16] none none).ok = true) ∧
    ((LinkCtrl.mk [] true 0#12 [1#16] none none).nak = none) ∧
    ((LinkCtrl.mk [] true 0#12 [1#16] none none).hb = none) ∧
    ((LinkCtrl.mk [] true 0#12 [1#16] none none).credits.length = 1) ∧
    (flitsAnd1.credit 6 0 0 < 64) ∧
    (Option.any (fun v => decide (v.toNat = tget 0 (flitsAnd1.port 6).seen 0 + 1))
      (LinkCtrl.mk [] true 0#12 [1#16] none none).credits.head? =
      true) ∧
    ((flitsAnd5.port 6).rxStop = 0) ∧
    ((flitsAnd5.port 6).aligned = true) ∧
    ((LinkCtrl.mk [] true 0#12 [] (some 0#12) none).codes.any CodeRead.bad = false) ∧
    ((LinkCtrl.mk [] true 0#12 [] (some 0#12) none).ok = true) ∧
    ((LinkCtrl.mk [] true 0#12 [] (some 0#12) none).hb = none) ∧
    ((LinkCtrl.mk [] true 0#12 [] (some 0#12) none).credits = []) ∧
    ((flitsAnd5.port 6).from_ = none) ∧
    (Option.any
      (fun f =>
      decide
      ((LinkCtrl.mk [] true 0#12 [] (some 0#12) none).ack.toNat = f.seq ∧
      Option.map (fun x => x.toNat) (LinkCtrl.mk [] true 0#12 [] (some 0#12) none).nak = some f.seq))
      (flitsAnd5.port 6).replay.head? =
      true) ∧
    (answerPort served 6 (header 1) 7) ∧
    (msgGood served 6 1 (header 1)) ∧
    ([1#8, 2#8, 3#8].length = (header 1).length.toNat) ∧
    (stackedClean served) ∧
    (served.rxCovers (header 1).addr.toNat (header 1).length.toNat false = true) ∧
    ((header 1).wantComplete = true) ∧
    (answerPort served 6 (quiet 1) 7) ∧
    (msgGood served 6 1 (quiet 1)) ∧
    ([1#8, 2#8, 3#8].length = (quiet 1).length.toNat) ∧
    (served.rxCovers (quiet 1).addr.toNat (quiet 1).length.toNat false = true) := by
  and_intros <;> first | decide +kernel | rfl

theorem test_FlitsAndMessagesAreServed_hypotheses_4 :
    ((quiet 1).wantComplete = false) ∧
    (answerPort served 6 (elsewhere 1) 7) ∧
    (msgGood served 6 1 (elsewhere 1)) ∧
    ([1#8, 2#8, 3#8].length = (elsewhere 1).length.toNat) ∧
    (served.rxCovers (elsewhere 1).addr.toNat (elsewhere 1).length.toNat false = false) ∧
    ((elsewhere 1).wantComplete = true) ∧
    (answerPort served 6 (header 2) 7) ∧
    (msgGood served 6 2 (header 2)) ∧
    (served.rxCovers (header 2).addr.toNat (header 2).length.toNat true = true) ∧
    (answerPort served 6 (elsewhere 2) 7) ∧
    (msgGood served 6 2 (elsewhere 2)) ∧
    (served.rxCovers (elsewhere 2).addr.toNat (elsewhere 2).length.toNat true = false) ∧
    (answerPort served 6 (toModule 99) 7) ∧
    (served.portLive 6 = true) ∧
    (served.fab.id ≠ 65535) ∧
    ((toModule 99).dest.toNat ≠ served.fab.id) ∧
    (served.route (toModule 99).dest.toNat = 9) ∧
    (served.lnk (5 + 9 % 8) ≠ 7) ∧
    (3 = ↑(toModule 99).cls * 2 + if (toModule 99).sub = true ∨ 8 ≤ 9 then 1 else 0) ∧
    (answerPort served 6 (toModule 98) 7) ∧
    ((toModule 98).dest.toNat ≠ served.fab.id) ∧
    (served.route (toModule 98).dest.toNat = 7) ∧
    (6 = 11 ∨ 6 ≤ 7 % 8) ∧
    (msgGood (served (some (8, 1))) 6 6 (header 6)) ∧
    (Option.any (fun m => decide (m.shard = none ∧ m.job.isSome = true)) ((served (some (8, 1))).sentFor (header 6)) = true) ∧
    (msgGood served 6 3 (header 3)) ∧
    ((header 3).status = 0#4) ∧
    (Option.any
      (fun m => decide (m.shard = none ∧ m.job = none ∧ [1#8, 2#8, 3#8].length = m.len ∧ m.loc + m.len ≤ 1352914698240))
      (served.sentFor (header 3)) =
      true) ∧
    (msgGood flitsAnd1 6 4 (quiet 4)) ∧
    ((quiet 4).target.getLsbD 15 = false) ∧
    (3 = (quiet 4).target.toNat % 16) ∧
    ((quiet 4).wantComplete = false) ∧
    (msgGood served 6 4 (header 4)) ∧
    ((header 4).target.getLsbD 15 = false) ∧
    (3 = (header 4).target.toNat % 16) ∧
    ((header 4).wantComplete = true) ∧
    (answerPort served 6 (header 4) 7) ∧
    (msgGood flitsAnd9 6 4 stepSignal) ∧
    (stepSignal.target.getLsbD 15 = true) ∧
    (flitsAnd9.mode = 2) ∧
    (msgGood flitsAnd1 6 5 (header 5)) ∧
    (36 = ([36#8, 0#8, 0#8].headD 0#8).toNat) ∧
    (641 = if 36 = 36 then 641 else if 36 = 37 then 642 else 643) ∧
    (1 = ([1#8, 2#8, 3#8].headD 0#8).toNat) ∧
    (tget [] ((queues [4]).port 6).vc (2 * 2 + false.toNat) ≠ []) ∧
    ((queues [4]).credit 6 2 false.toNat = 0) := by
  decide +kernel

theorem test_HostReachesTheModule_hypotheses :
    (17179869184 = 2 ^ (inMode 3).host.bar2Size * 2 ^ 30 / 4) ∧
    ((4096#41).toNat < 4 * 17179869184) ∧
    ((inMode 3).fld (reg1 .PCI_APERTURE 0 ((4096#41).toNat / 17179869184)) F.PCI_APERTURE_base_hi * 2 ^ 30 +
      (4096#41).toNat % 17179869184 =
      4096) ∧
    ((inMode 3).mode = 3 ∨ (inMode 3).mode = 4) ∧
    (17179869184 = 2 ^ up.host.bar2Size * 2 ^ 30 / 4) ∧
    (up.fld (reg1 .PCI_APERTURE 0 ((4096#41).toNat / 17179869184)) F.PCI_APERTURE_base_hi * 2 ^ 30 +
      (4096#41).toNat % 17179869184 =
      4096) ∧
    (up.mode = 1) ∧
    (stackedClean up) ∧
    (4096 + (70#13).toNat ≤ 1352914698240) ∧
    (4096 + [1#8, 2#8, 3#8].length ≤ 1352914698240) ∧
    ([1#8, 2#8, 3#8] ≠ []) ∧
    (4096 < 4096 + [1#8, 2#8, 3#8].length) ∧
    (17179869184 = 2 ^ onHost.host.bar2Size * 2 ^ 30 / 4) ∧
    (onHost.fld (reg1 .PCI_APERTURE 0 ((4096#41).toNat / 17179869184)) F.PCI_APERTURE_base_hi * 2 ^ 30 +
      (4096#41).toNat % 17179869184 =
      2251799813689344) ∧
    (onHost.mode = 1) ∧
    (region 2251799813689344 = Region.host) ∧
    ((hostRead.que 5 3).started.length = 1) ∧
    ((hostRead.que 5 3).old = []) ∧
    ((hostRead.que 5 3).fetched = []) ∧
    (HostCpl.abort ≠ HostCpl.ok) ∧
    (Option.any (fun x => decide (x.fly.length = 1 ∧ Option.any (fun f => decide (f.host = true)) x.fly.head? = true))
      (hostRead.que 5 3).started.head? =
      true) ∧
    ((dialogue 4000 1 2).host.ptmOn = true) ∧
    ((dialogue 4000 1 2).fld (reg0 .PCI_STATUS 0) F.PCI_STATUS_width ≠ 0) ∧
    ((dialogue 4000 1 2).clk.refTime ≤ (5000#64).toNat) ∧
    ((dialogue 4000 1 2).clk.refTime + 10000000 < (99999999#64).toNat) ∧
    ((dialogue 900000000 0 2).host.ptmOn = true) ∧
    ((dialogue 900000000 0 2).fld (reg0 .PCI_STATUS 0) F.PCI_STATUS_width ≠ 0) ∧
    ((5000#64).toNat + 10000000 < (dialogue 900000000 0 2).clk.refTime) ∧
    (slewing.host.ptmOn = true) ∧
    (slewing.fld (reg0 .PCI_STATUS 0) F.PCI_STATUS_width ≠ 0) ∧
    ((5000#64).toNat < slewing.clk.refTime) ∧
    (slewing.clk.waits = true) ∧
    (1 ≤ (dialogue 4000 1 2).host.ptmGood) ∧
    (2 ≤ (dialogue 4000 1 2).host.ptmBad) ∧
    ((dialogue 4000 0 1).host.ptmOn = true) ∧
    ((dialogue 4000 0 1).fld (reg0 .PCI_STATUS 0) F.PCI_STATUS_width ≠ 0) ∧
    ((dialogue 4000 0 1).host.ptmBad < 2) ∧
    ((dialogue 4000 1 2).host.pend = []) ∧
    (CfgField.sriov = CfgField.sriov ∨
      CfgField.sriov = CfgField.ats ∨
      CfgField.sriov = CfgField.pasid ∨
      CfgField.sriov = CfgField.pri ∨
      CfgField.sriov = CfgField.msi ∨ CfgField.sriov = CfgField.intx ∨ CfgField.sriov = CfgField.flr) ∧
    (6#3 ≠ 7#3) ∧
    ((16#5).toNat ∈ [1, 2, 4, 8, 16]) ∧
    (up.clk.stopped.contains 106 = false) ∧
    (up.rst.opt.pcieRate < 8) := by
  decide +kernel

theorem test_MailboxRingsRun_hypotheses_1 :
    ([5#512, 9#512].length ≤ 512) ∧
    (0 < [5#512, 9#512].length) ∧
    (0 = (up.fld (sqTail 3) F.PCI_MBX_SQ_TAIL_tail + 0) % 512) ∧
    (2 ^ 36 * 2 ^ 30 / 4 / 2 ^ 30 < 3 * 512 ∨ 3 * 512 + 512 ≤ 2 ^ 36 * 2 ^ 30 / 4 / 2 ^ 30) ∧
    ((ring3 1024).fetchable 3 = true) ∧
    (2 ≤ 3 → (ring3 1024).fetchable 0 = false ∧ (ring3 1024).fetchable 1 = false) ∧
    ((ring3 1024).fld (sqHead 3) F.PCI_MBX_SQ_HEAD_head = 511) ∧
    (ringGap ((ring3 1024).fld (sqTail 3) F.PCI_MBX_SQ_TAIL_tail) 511 = 513) ∧
    ((fetching 4294967552).fetchable 3 = true) ∧
    (2 ≤ 3 → (fetching 4294967552).fetchable 0 = false ∧ (fetching 4294967552).fetchable 1 = false) ∧
    ((fetching 4294967552).fld (sqHead 3) F.PCI_MBX_SQ_HEAD_head = 511) ∧
    (ringGap ((fetching 4294967552).fld (sqTail 3) F.PCI_MBX_SQ_TAIL_tail) 511 = 3) ∧
    (tget 0 (fetching 4294967552).mbx.sq (3 * 512 + 511 % 512) = 4294967552) ∧
    ((cmdInfo (opcodeOf 4294967552)).isSome = true) ∧
    (2 ^ 36 * 2 ^ 30 / 4 / 2 ^ 30 ≠ 3) ∧
    ((fetching 1911).fetchable 3 = true) ∧
    (2 ≤ 3 → (fetching 1911).fetchable 0 = false ∧ (fetching 1911).fetchable 1 = false) ∧
    ((fetching 1911).fld (sqHead 3) F.PCI_MBX_SQ_HEAD_head = 511) ∧
    (ringGap ((fetching 1911).fld (sqTail 3) F.PCI_MBX_SQ_TAIL_tail) 511 = 3) ∧
    (tget 0 (fetching 1911).mbx.sq (3 * 512 + 511 % 512) = 1911) ∧
    ((cmdInfo (opcodeOf 1911)).isNone = true) ∧
    (((fetching 1911).ring 3).orphan = false) ∧
    (((completing 19).ring 3).cpl.isSome = true) ∧
    ((completing 19).mbxServed = true) ∧
    ((completing 19).hostUp = true) ∧
    ((completing 19).fld (cqCfg 3) F.PCI_MBX_CQ_CFG_enable = 1) ∧
    (2 ^ (completing 19).fld (cqCfg 3) F.PCI_MBX_CQ_CFG_size = 16) ∧
    (((completing 19).ring 3).idx = 19) ∧
    (ringGap (19 % 65536) ((completing 19).fld (cqHead 3) F.PCI_MBX_CQ_HEAD_head) = 19) ∧
    (mailboxRings1.mbxServed = true) ∧
    (mailboxRings1.hostUp = true) ∧
    (mailboxRings1.fld (cqCfg 3) F.PCI_MBX_CQ_CFG_enable = 1) ∧
    (2 ^ mailboxRings1.fld (cqCfg 3) F.PCI_MBX_CQ_CFG_size = 16) ∧
    ((mailboxRings1.ring 3).idx = 19) := by
  decide +kernel

theorem test_MailboxRingsRun_hypotheses_2 :
    (ringGap (19 % 65536) (mailboxRings1.fld (cqHead 3) F.PCI_MBX_CQ_HEAD_head) = 15) ∧
    (hostBase + mailboxRings1.fld (reg1 .PCI_MBX_CQ_BASE 0 3) F.PCI_MBX_CQ_BASE_base_hi * 64 + 64 * (19 % 16) =
      2251799813685440) ∧
    (mailboxRings1.fld (cqCfg 3) F.PCI_MBX_CQ_CFG_int_en = 0) ∧
    (Option.any (fun d => decide (d.opcode ≠ 2561 ∧ d.opcode ≠ 2562)) (mailboxRings1.ring 3).cpl = true) ∧
    ((up.ring 3).cpl = none) ∧
    ((up.ring 3).cur = none) ∧
    ((mailboxRings2.ring 3).cpl = none) ∧
    ((mailboxRings2.ring 3).cur ≠ none) ∧
    ((events ring3).mbxServed = true) ∧
    ((events ring3).fld evStatus F.PCI_MBX_EV_STATUS_next_seq = 0) ∧
    ((events ring3).fld evCfg F.PCI_MBX_CQ_CFG_enable = 0) ∧
    (Option.any (fun v => decide ((events ring3).delivered v.code = true)) (events ring3).evq.head? = true) ∧
    (mailboxRings3.mbxServed = true) ∧
    (mailboxRings3.fld evStatus F.PCI_MBX_EV_STATUS_next_seq = 0) ∧
    (mailboxRings3.fld evCfg F.PCI_MBX_CQ_CFG_enable = 1) ∧
    (mailboxRings3.hostUp = true) ∧
    (mailboxRings3.mbx.lost = none) ∧
    (2 ^ mailboxRings3.fld evCfg F.PCI_MBX_CQ_CFG_size = 16) ∧
    (mailboxRings3.mbx.evIdx = 0) ∧
    (ringGap (0 % 65536) (mailboxRings3.fld (reg0 .PCI_MBX_EV_HEAD 0) F.PCI_MBX_CQ_HEAD_head) < 16) ∧
    (hostBase + mailboxRings3.fld (reg0 .PCI_MBX_EV_BASE 0) F.PCI_MBX_CQ_BASE_base_hi * 64 + 64 * (0 % 16) =
      2251799813685248) ∧
    (Option.any (fun v => decide (mailboxRings3.delivered v.code = true)) mailboxRings3.evq.head? = true) ∧
    (mailboxRings4.mbxServed = true) ∧
    (mailboxRings4.mbx.bg.length = 1) ∧
    (Option.any (fun b => decide (b.tag = (77#32).toNat ∧ b.out.isSome = true)) mailboxRings4.mbx.bg.head? = true) ∧
    ((background 2457 none).mbxServed = true) ∧
    ((background 2457 none).mbx.bg.length = 1) ∧
    ((42#16).toNat = 42 ∨ (42#16).toNat = 43) ∧
    (Option.any (fun b => decide (b.tag = (77#32).toNat ∧ b.out = none ∧ (background 2457 none).bgEnd b = none))
      (background 2457 none).mbx.bg.head? =
      true) ∧
    ((0#16).toNat = 0) ∧
    ((inMode 2).mode = 2) ∧
    ((inMode 2).heldSteps = []) ∧
    ((inMode 2).rst.failover = false) := by
  decide +kernel

theorem test_FailuresAreSurvived_hypotheses_1 :
    (member.fld (reg0 .RST_STATUS 0) F.RST_STATUS_frost = 0) ∧
    ((20#16).toNat ≠ member.partner) ∧
    (member.fab.id ≠ 65535) ∧
    (member.route (20#16).toNat % 8 < 6) ∧
    (5 + member.route (20#16).toNat % 8 = 5) ∧
    (member.lnk 5 ≠ 7) ∧
    ((probing.setMirror 2).fld (reg0 .RST_STATUS 0) F.RST_STATUS_frost = 0) ∧
    ((probing.setMirror 2).surv.probing = true) ∧
    ((9#32).toNat = (probing.setMirror 2).surv.probe % 2 ^ 32) ∧
    ((probing.setMirror 2).lnk 11 ≠ 5) ∧
    ((probing.setMirror 2).mirror ≠ 0) ∧
    (probing.fld (reg0 .RST_STATUS 0) F.RST_STATUS_frost = 0) ∧
    (probing.surv.probing = true) ∧
    ((9#32).toNat = probing.surv.probe % 2 ^ 32) ∧
    (probing.lnk 11 = 5 ∨ probing.mirror = 0) ∧
    (member.surv.probing = false ∨ (4#32).toNat ≠ member.surv.probe % 2 ^ 32) ∧
    (probing.partner = 30) ∧
    (probing.mirror = 0) ∧
    (30 ≠ probing.fab.id) ∧
    (30 ∈ probing.members.ids) ∧
    (¬30 ∈ probing.members.fenced) ∧
    (∀ (p : Nat), p < 12 → probing.lnk p ≠ 5 ∨ probing.fld (reg0 .LNK_STATUS p) F.LNK_STATUS_peer_id ≠ 30) ∧
    ((9#32).toNat ≠ member.members.epoch) ∧
    ((4#32).toNat = member.members.epoch) ∧
    ((20#16).toNat = member.fab.id) ∧
    ((30#16).toNat ≠ member.fab.id) ∧
    ((30#16).toNat ∈ member.members.ids) ∧
    (¬(30#16).toNat ∈ member.members.fenced) ∧
    (1 < member.train.buckets.length) ∧
    (¬1 ∈ member.train.freed) ∧
    ((bucketAt member.train.buckets 1).isSome = true) ∧
    (member.train.buckets.length ≤ 4096) ∧
    (0 ∈ member.train.freed) ∧
    (failuresAre1.fld (reg0 .RST_STATUS 0) F.RST_STATUS_frost = 0) ∧
    ((4#32).toNat = failuresAre1.members.epoch) ∧
    ((30#16).toNat ≠ failuresAre1.fab.id) ∧
    ((30#16).toNat ∈ failuresAre1.members.ids) ∧
    (¬(30#16).toNat ∈ failuresAre1.members.fenced) ∧
    (failuresAre1.lnk 6 = 5) ∧
    (failuresAre1.fld (reg0 .LNK_STATUS 6) F.LNK_STATUS_peer_id = (30#16).toNat) ∧
    (failuresAre2.fld (reg0 .RST_STATUS 0) F.RST_STATUS_frost = 0) ∧
    (failuresAre2.posFenced (0#16).toNat = true) ∧
    (member.posFenced (30#16).toNat = false) ∧
    (member.surv.policy = [] ∨ member.train.step ≠ (9#64).toNat + 1 ∧ member.surv.marks = [] ∨ member.surv.copying = true) ∧
    (failuresAre3.fld (reg0 .RST_STATUS 0) F.RST_STATUS_frost = 0) ∧
    (failuresAre3.surv.policy ≠ []) ∧
    (failuresAre3.train.step = (9#64).toNat + 1) := by
  and_intros <;> first | decide +kernel | rfl

theorem test_FailuresAreSurvived_hypotheses_2 :
    (failuresAre3.surv.copying = false) ∧
    (copying.fld (reg0 .RST_STATUS 0) F.RST_STATUS_frost = 0) ∧
    (copying.surv.copying = true) ∧
    (copying.surv.marks = []) ∧
    (∀ (m : Sent), m ∈ copying.fab.sent → Option.map (fun x => x.fst) m.job ≠ some snapJob) ∧
    (tget [] copying.mbx.transfers snapJob = []) ∧
    (failuresAre4.fld (reg0 .RST_STATUS 0) F.RST_STATUS_frost = 0) ∧
    (failuresAre4.surv.copying = true) ∧
    (failuresAre4.surv.marks = []) ∧
    (∀ (m : Sent), m ∈ failuresAre4.fab.sent → Option.map (fun x => x.fst) m.job ≠ some snapJob) ∧
    (tget [] failuresAre4.mbx.transfers snapJob ≠ []) ∧
    (∀ (d : Nat × Nat), d ∈ tget [] failuresAre4.mbx.transfers snapJob → d.snd = 0) ∧
    (failuresAre5.fld (reg0 .RST_STATUS 0) F.RST_STATUS_frost = 0) ∧
    (failuresAre5.partnerUp = true) ∧
    (failuresAre5.mirror = 0 ∨ failuresAre5.mirror = 3) ∧
    (List.filter (fun k => decide (failuresAre5.methodOf k = 1)) (policyEntries failuresAre5.surv.policy) = []) ∧
    (member.surv.filling = []) ∧
    (∀ (k : Nat), k < 64 → (if true = true then k / 4 = 5 / 4 else k = 5) → member.remap k < 2) ∧
    (if true = true then 5 / 4 = 5 / 4 else 5 = 5) ∧
    (¬if true = true then 1 / 4 = 5 / 4 else 1 = 5) ∧
    (1 < (tget (0, []) member.train.plans member.train.step).fst) ∧
    (inStep.fld (reg0 .RST_STATUS 0) F.RST_STATUS_frost = 0) ∧
    (inStep.train.running = true) ∧
    ((remapped 2).fld (reg0 .RST_STATUS 0) F.RST_STATUS_frost = 0) ∧
    ((remapped 2).remap 5 = 2) ∧
    ((remapped 2).train.running = false) ∧
    ((remapped 2).heldSteps = []) ∧
    (¬5 ∈ (remapped 2).surv.waitFill) ∧
    ((remapped 2).spareFree (5 / 16) = true) ∧
    (failuresAre8.fld (reg0 .RST_STATUS 0) F.RST_STATUS_frost = 0) ∧
    (failuresAre8.remap 5 = 2) ∧
    (failuresAre8.train.running = false) ∧
    (failuresAre8.heldSteps = []) ∧
    (5 ∈ failuresAre8.surv.waitFill) ∧
    (failuresAre8.surv.filling = []) ∧
    (∀ (d : Nat), d < 4 → d ≠ 5 / 16 → failuresAre8.spareFree d = false) ∧
    (failuresAre9.fld (reg0 .RST_STATUS 0) F.RST_STATUS_frost = 0) ∧
    (failuresAre9.surv.filling = [5]) ∧
    (failuresAre9.remap 5 = 1) ∧
    ((failuresAre9.slice 5).ctxs = []) ∧
    (failuresAre9.surv.jobStopped = false) ∧
    (failuresAre9.train.running = false) ∧
    (failuresAre9.heldSteps = []) ∧
    ((toSwitch 10).fld (reg0 .RST_STATUS 0) F.RST_STATUS_frost = 0) ∧
    (Option.any (fun m => decide (m.first ≤ (toSwitch 10).train.step)) (toSwitch 10).membersNext = true) ∧
    ((toSwitch 11).fld (reg0 .RST_STATUS 0) F.RST_STATUS_frost = 0) ∧
    (Option.any (fun m => decide ((toSwitch 11).train.step < m.first)) (toSwitch 11).membersNext = true) := by
  and_intros <;> first | decide +kernel | rfl

theorem test_FrostIsLatchedAndRampsDown_hypotheses :
    (supplied.fld (reg0 .RST_STATUS 0) F.RST_STATUS_frost = 0) ∧
    (supplied.rst.timer = false) ∧
    (¬(supplied.rst.waiting = true ∧ FrostCause.lockstep = FrostCause.supply)) ∧
    (hostLink.fld (reg0 .RST_STATUS 0) F.RST_STATUS_frost = 0) ∧
    (hostLink.rst.timer = false) ∧
    (¬(hostLink.rst.waiting = true ∧ FrostCause.lockstep = FrostCause.supply)) ∧
    (hostLink.hostUp = true) ∧
    (frostIs1.fld (reg0 .RST_STATUS 0) F.RST_STATUS_frost = 0) ∧
    (frostIs1.rst.timer = false) ∧
    (frostIs1.rst.waiting = true) ∧
    (frosted.fld (reg0 .RST_STATUS 0) F.RST_STATUS_frost = 1) ∧
    (frosted.frost.ramp = 1) ∧
    (frosted.frost.times.length = 6) ∧
    (frostIs2.frost.ramp = 2) ∧
    ((320#16).toNat ≤ 320) ∧
    (320 < (900#16).toNat) := by
  decide +kernel

theorem test_ResetsAndStartsFollowTheirOrder_hypotheses_1 :
    (slotBase 0 ≤ slotBase 0) ∧
    (slotBase 0 < slotBase 0 + slotSize) ∧
    (region 281474976710656 = Region.far ∨ region 281474976710656 = Region.host) ∧
    (region 0 = Region.stacked) ∧
    (supplied.rst.waiting = false) ∧
    (supplied.rst.timer = false) ∧
    (1000 ≤ (1000#32).toNat) ∧
    (supplied.optInUse.ranged.hbmPreserve = 1) ∧
    (supplied.rst.lost = false) ∧
    ((unpreserved supplied).rst.waiting = false) ∧
    ((unpreserved supplied).rst.timer = false) ∧
    ((unpreserved supplied).optInUse.ranged.hbmPreserve = 0) ∧
    ((100#32).toNat ≤ 100) ∧
    (resetsAnd1.rst.waiting = true) ∧
    (resetsAnd1.frost.ramp = 0) ∧
    (48000 ≤ resetsAnd1.pwr.mv) ∧
    (resetsAnd1.pwr.mv ≤ 58000) ∧
    (resetsAnd1.fld (reg0 .RST_STATUS 0) F.RST_STATUS_frost = 0) ∧
    (resetsAnd1.rst.timer = false) ∧
    (resetsAnd2.rst.waiting = true) ∧
    (resetsAnd2.frost.ramp = 0) ∧
    (resetsAnd2.pwr.mv < 48000) ∧
    ((atDomain 0).rst.seq = some 0) ∧
    ((newerCopy (atDomain 0).firm.opt0 (atDomain 0).firm.opt1).isSome = true) ∧
    (resetsAnd3.rst.seq = some 0) ∧
    (newerCopy resetsAnd3.firm.opt0 resetsAnd3.firm.opt1 = none) ∧
    (resetsAnd3.fld (reg0 .RST_STATUS 0) F.RST_STATUS_frost = 0) ∧
    (resetsAnd3.rst.timer = false) ∧
    (resetsAnd3.rst.waiting = false) ∧
    ((atDomain 0).mode ≠ 4) ∧
    (Option.any (fun k => decide (k ≠ domainPlace Domain.pins)) (atDomain 0).rst.seq = true) ∧
    ((atDomain 1).mode ≠ 4) ∧
    ((atDomain 1).firm.startCount < (atDomain 1).rst.opt.startLimit) ∧
    (Option.any (fun k => decide (k = domainPlace Domain.pins)) (atDomain 1).rst.seq = true) ∧
    ((atDomain 94).mode ≠ 4) ∧
    ((atDomain 94).firm.startCount < (atDomain 94).rst.opt.startLimit) ∧
    (Option.any (fun k => decide (k = domainPlace Domain.complete)) (atDomain 94).rst.seq = true) ∧
    (resetsAnd4.mode ≠ 4) ∧
    (resetsAnd4.rst.opt.startLimit ≤ resetsAnd4.firm.startCount) ∧
    (Option.any (fun k => decide (k = 2)) resetsAnd4.rst.seq = true) ∧
    (resetsAnd5.rst.timer = true) ∧
    (resetsAnd5.rst.booted = false) := by
  decide +kernel

theorem test_ResetsAndStartsFollowTheirOrder_hypotheses_2 :
    (¬118 ∈ resetsAnd5.clk.stopped) ∧
    (resetsAnd5.fld (reg0 .RST_STATUS 0) F.RST_STATUS_frost = 0) ∧
    (resetsAnd5.rst.opt.bootSlot ≤ 1) ∧
    (resetsAnd5.rst.opt.bootSlot = 0) ∧
    (resetsAnd5.verifyImage 0 ≠ 0) ∧
    (resetsAnd5.verifyImage (1 - 0) ≠ 0) ∧
    (resetsAnd6.rst.timer = true) ∧
    (resetsAnd6.rst.booted = true) ∧
    (resetsAnd6.mode = 0) ∧
    (resetsAnd6.rst.lost = false) ∧
    (resetsAnd5.rst.waiting = false) ∧
    (supplied.fld (reg0 .PCI_MBX_GLOBAL 0) F.PCI_MBX_GLOBAL_serving_die = 0) ∧
    (supplied.fld (reg1 .RST_WDOG 0 0) F.RST_WDOG_running = 0) ∧
    (watched.fld (reg0 .PCI_MBX_GLOBAL 0) F.PCI_MBX_GLOBAL_serving_die = 0) ∧
    (watched.fld (reg1 .RST_WDOG 0 0) F.RST_WDOG_running = 1) ∧
    (watched.fld (reg0 .PCI_MBX_GLOBAL 0) F.PCI_MBX_GLOBAL_standby_ready = 0) ∧
    (watched.rst.waiting = false) ∧
    (watched.rst.timer = false) ∧
    (watched.optInUse.ranged.hbmPreserve = 1) ∧
    (watched.rst.lost = false) ∧
    ((unpreserved watched).fld (reg0 .PCI_MBX_GLOBAL 0) F.PCI_MBX_GLOBAL_serving_die = 0) ∧
    ((unpreserved watched).fld (reg1 .RST_WDOG 0 0) F.RST_WDOG_running = 1) ∧
    ((unpreserved watched).fld (reg0 .PCI_MBX_GLOBAL 0) F.PCI_MBX_GLOBAL_standby_ready = 0) ∧
    ((unpreserved watched).rst.waiting = false) ∧
    ((unpreserved watched).rst.timer = false) ∧
    ((unpreserved watched).optInUse.ranged.hbmPreserve = 0) ∧
    ((watched.setStandby 1).fld (reg0 .PCI_MBX_GLOBAL 0) F.PCI_MBX_GLOBAL_serving_die = 0) ∧
    ((watched.setStandby 1).fld (reg1 .RST_WDOG 0 0) F.RST_WDOG_running = 1) ∧
    ((watched.setStandby 1).fld (reg0 .PCI_MBX_GLOBAL 0) F.PCI_MBX_GLOBAL_standby_ready = 1) ∧
    ((watched.setStandby 1).firm.act = none) ∧
    (supplied.rst.booted = true) ∧
    (supplied.mode = 1) ∧
    (supplied.fld (reg0 .RST_STATUS 0) F.RST_STATUS_frost = 0) ∧
    (supplied.fld (reg0 .PCI_MBX_GLOBAL 0) F.PCI_MBX_GLOBAL_standby_ready = 0) ∧
    ((watched.setStandby 1).rst.booted = true) ∧
    ((watched.setStandby 1).mode = 1) ∧
    ((watched.setStandby 1).fld (reg0 .RST_STATUS 0) F.RST_STATUS_frost = 0) ∧
    ((watched.setStandby 1).rst.timer = false) ∧
    (supplied.firm.act = none) ∧
    (1 = 1 - supplied.fld (reg0 .PCI_MBX_GLOBAL 0) F.PCI_MBX_GLOBAL_serving_die) ∧
    (supplied.blockSt (124 + 1) = 0) := by
  decide +kernel

theorem test_BlocksShutDownAndStart_hypotheses :
    ((block5 0 0 0).fld (reg0 .RST_STATUS 0) F.RST_STATUS_frost = 0) ∧
    (blockKind 5 = some (0, 5)) ∧
    ((block5 0 0 0).blockSt 5 = 0) ∧
    ((block5 0 0 0).blockFree 0 5 = true) ∧
    (blockKind 124 = some (6, 0)) ∧
    ((block5 0 0 0).blockSt 124 = 0) ∧
    ((block5 0 0 0).blockFree 6 0 = false) ∧
    ((block5 1 0 0).fld (reg0 .RST_STATUS 0) F.RST_STATUS_frost = 0) ∧
    ((block5 1 0 0).blockSt 5 = 1) ∧
    ((block5 2 0 0).fld (reg0 .RST_STATUS 0) F.RST_STATUS_frost = 0) ∧
    ((block5 2 0 0).blockSt 5 = 2) ∧
    ((block5 2 0 0).blockPend 5 = 0) ∧
    ((block5 3 0 0).fld (reg0 .RST_STATUS 0) F.RST_STATUS_frost = 0) ∧
    ((block5 3 0 0).blockSt 5 = 3) ∧
    ((block5 1 0 0).blockQuiet 0 5 = true) ∧
    ((block5 1 0 0).blockPend 5 = 0) ∧
    (5 ∈ (block5 1 0 0).blockIslands 0 5) ∧
    ((block5 1 1 0).fld (reg0 .RST_STATUS 0) F.RST_STATUS_frost = 0) ∧
    ((block5 1 1 0).blockSt 5 = 1) ∧
    ((block5 1 1 0).blockQuiet 0 5 = true) ∧
    ((block5 1 1 0).blockPend 5 = 1) ∧
    ((block5 1 0 0).remap 5 < 2) ∧
    ((block5 1 0 0).phys 5 = 5) ∧
    (slotBase 5 ≤ slotBase 5) ∧
    (slotBase 5 < slotBase 5 + slotSize) ∧
    ((block5 3 0 0).blockPend 5 = 0) ∧
    (5 ∈ (block5 3 0 0).blockIslands 0 5) ∧
    ((block5 3 0 1).fld (reg0 .RST_STATUS 0) F.RST_STATUS_frost = 0) ∧
    ((block5 3 0 1).blockSt 5 = 3) ∧
    ((block5 3 0 1).blockPend 5 = 0) ∧
    ((block5 3 0 1).fld (reg1 .RST_BLOCK 0 5) F.RST_BLOCK_reset = 1) ∧
    ((block5 3 2 0).fld (reg0 .RST_STATUS 0) F.RST_STATUS_frost = 0) ∧
    ((block5 3 2 0).blockSt 5 = 3) ∧
    ((block5 3 2 0).blockPend 5 = 2) ∧
    ((block5 3 2 0).blockFree 0 5 = true) := by
  decide +kernel

theorem test_PowerIsWatchedAndAnnounced_hypotheses :
    (powerIs1.fld (reg0 .RST_STATUS 0) F.RST_STATUS_frost = 0) ∧
    (powerIs1.rst.timer = false) ∧
    (powerIs1.rst.waiting = false) ∧
    (powerIs1.pwr.out = true) ∧
    (supplied.fld (reg0 .RST_STATUS 0) F.RST_STATUS_frost = 0) ∧
    (supplied.rst.timer = false) ∧
    (supplied.rst.waiting = false) ∧
    ((List.replicate 63 900#16 ++ [1150#16]).length = 64) ∧
    (1150#16 ∈ List.replicate 63 900#16 ++ [1150#16]) ∧
    (supplied.pwr.out = false) ∧
    ((40000#32).toInt.toNat = 40000) ∧
    (tget 1 supplied.pwr.need 4 ≤ 1) ∧
    (40000 < 47000 ∨ 59000 < 40000) ∧
    ((47000#32).toInt.toNat = 47000) ∧
    (48000 ≤ supplied.pwr.mv) ∧
    ((1000#32).toInt.toNat = 1000) ∧
    ((List.replicate 64 900#16).length = 64) ∧
    (900#16 ∈ List.replicate 64 900#16) ∧
    (supplied.fld pwrStatus F.PWR_STATUS_loadstep = 0) ∧
    (frosted.fld (reg0 .RST_STATUS 0) F.RST_STATUS_frost = 1) ∧
    (powerIs2.pwr.target.isSome = true) ∧
    (powerIs2.pwr.ramping = true) := by
  decide +kernel

theorem test_ManagementTargetAnswers_hypotheses :
    (up.mgmt.dyn = none) ∧
    (9#7 ≠ 44#7) ∧
    ((target 0).mgmt.dyn ≠ none) ∧
    (up.mgmt.ptr = 0) ∧
    (up.mgmt.sample = []) ∧
    ((target 1).mgmt.ptr = 1) ∧
    ((target 1).mgmt.sample = []) ∧
    ((target 6).mgmt.ptr = 6) ∧
    ((target 6).mgmt.sample = []) ∧
    ((target 6).fld pwrStatus F.PWR_STATUS_input_mv = 0) ∧
    ((target 9).mgmt.ptr = 9) ∧
    ((target 9).mgmt.sample = []) ∧
    ((target 16).mgmt.ptr = 16) ∧
    ((target 16).mgmt.sample = []) ∧
    (managementTarget1.mgmt.ptr = 7) ∧
    (managementTarget1.mgmt.sample.head?.isSome = true) := by
  decide +kernel

theorem test_GeneralCommandsAnswer_hypotheses :
    (Option.any (fun e => decide (cmdReady 3 0 [] e generalCommands1)) (generalCommands1.ring 3).cur = true) ∧
    (Option.any (fun e => decide (cmdReady 3 1 [(8, 8)] e generalCommands2 ∧ bufGood (arg e 8 8) 256 generalCommands2))
      (generalCommands2.ring 3).cur =
      true) ∧
    (generalCommands3.hostUp = false) ∧
    (Option.any
      (fun e =>
      decide
      (cmdReady 3 1 [(8, 8)] e generalCommands3 ∧
      arg e 8 8 < 2251799813684992 ∧ generalCommands3.hostOk (hostBase + arg e 8 8 + 255) = true))
      (generalCommands3.ring 3).cur =
      true) ∧
    (Option.any (fun e => decide (cmdReady 3 2 [(8, 8), (16, 4)] e generalCommands4 ∧ arg e 16 4 < 1952))
      (generalCommands4.ring 3).cur =
      true) ∧
    (Option.any
      (fun e =>
      decide
      (cmdReady 3 2 [(8, 8), (16, 4)] e generalCommands5 ∧
      1952 ≤ arg e 16 4 ∧ bufGood (arg e 8 8) 1952 generalCommands5))
      (generalCommands5.ring 3).cur =
      true) ∧
    (generalCommands6.mbx.session = 0) ∧
    (Option.any
      (fun e =>
      decide
      (cmdReady 3 3 [(8, 8), (16, 1)] e generalCommands6 ∧
      arg e 16 1 ≤ 1 ∧ (0 = 0 ∨ 0 = arg e 8 8 ∨ arg e 16 1 = 1)))
      (generalCommands6.ring 3).cur =
      true) ∧
    (generalCommands7.mbx.session = 5) ∧
    (Option.any
      (fun e =>
      decide (cmdReady 3 3 [(8, 8), (16, 1)] e generalCommands7 ∧ arg e 16 1 ≤ 1 ∧ 5 ≠ arg e 8 8 ∧ arg e 16 1 = 0))
      (generalCommands7.ring 3).cur =
      true) ∧
    (Option.any (fun e => decide (cmdReady 3 4 [(8, 1), (9, 1)] e generalCommands9 ∧ 10 < arg e 8 1))
      (generalCommands9.ring 3).cur =
      true) ∧
    (Option.any
      (fun e =>
      decide
      (cmdReady 3 4 [(8, 1), (9, 1)] e generalCommands10 ∧
      arg e 8 1 ≤ 10 ∧ 16 ≤ arg e 9 1 ∧ arg e 9 1 ≤ 63 ∧ 0 ≠ arg e 8 1))
      (generalCommands10.ring 3).cur =
      true) ∧
    (Option.any (fun e => decide (cmdReady 3 5 [(8, 2), (10, 2), (12, 1)] e generalCommands11 ∧ arg e 10 2 < arg e 8 2))
      (generalCommands11.ring 3).cur =
      true) ∧
    (Option.any
      (fun e =>
      decide (cmdReady 3 5 [(8, 2), (10, 2), (12, 1)] e generalCommands12 ∧ arg e 8 2 ≤ arg e 10 2 ∧ arg e 12 1 ≤ 1))
      (generalCommands12.ring 3).cur =
      true) := by
  decide +kernel

theorem test_MemoryAndFarTierCommandsAct_hypotheses :
    (Option.any
      (fun e =>
      decide
      (cmdReady 3 256 [(8, 2), (10, 2), (16, 8)] e memoryAnd1 ∧ 4096 < arg e 8 2 + arg e 10 2 ∧ arg e 8 2 < 4096))
      (memoryAnd1.ring 3).cur =
      true) ∧
    (Option.any
      (fun e =>
      decide
      (cmdReady 3 256 [(8, 2), (10, 2), (16, 8)] e memoryAnd2 ∧
      0 < arg e 10 2 ∧
      arg e 8 2 + arg e 10 2 ≤ 4096 ∧ bufGood (arg e 16 8) (8 * arg e 10 2) memoryAnd2 ∧ 0 < arg e 10 2))
      (memoryAnd2.ring 3).cur =
      true) ∧
    (Option.any (fun e => decide (cmdReady 3 257 [(8, 1), (9, 1)] e (taking 257 [(8, 1, 77)] linked) ∧ arg e 9 1 = 0))
      ((taking 257 [(8, 1, 77)] linked).ring 3).cur =
      true) ∧
    (memoryAnd3.mbx.bg.length < 64) ∧
    (Option.any (fun e => decide (cmdReady 3 257 [(8, 1), (9, 1)] e memoryAnd3 ∧ arg e 9 1 = 1)) (memoryAnd3.ring 3).cur =
      true) ∧
    (Option.any (fun e => decide (cmdReady 3 258 [(8, 1), (9, 1)] e memoryAnd4 ∧ arg e 8 1 < 64 ∧ arg e 9 1 < 64))
      (memoryAnd4.ring 3).cur =
      true) ∧
    (Option.any (fun e => decide (cmdReady 3 258 [(8, 1), (9, 1)] e memoryAnd5 ∧ 64 ≤ arg e 8 1)) (memoryAnd5.ring 3).cur =
      true) ∧
    (Option.any
      (fun e =>
      decide
      (cmdReady 3 259 [(8, 2), (10, 1)] e memoryAnd6 ∧
      arg e 8 2 < 1024 ∧ arg e 10 1 ≤ 2 ∧ ∃ x, x ∈ memoryAnd6.mbx.bg ∧ x.opcode = 259 ∧ x.arg = arg e 8 2))
      (memoryAnd6.ring 3).cur =
      true) ∧
    ((taking 259 [(8, 2, 633)] linked).mbx.bg.length < 64) ∧
    ((taking 259 [(8, 2, 633)] linked).slotsUsed.length + (taking 259 [(8, 2, 633)] linked).hbm.queue.length < 16) ∧
    ((taking 259 [(8, 2, 633)] linked).migrating = false) ∧
    (Option.any
      (fun e =>
      decide
      (cmdReady 3 259 [(8, 2), (10, 1)] e (taking 259 [(8, 2, 633)] linked) ∧
      arg e 8 2 < 1024 ∧
      arg e 10 1 ≤ 2 ∧
      (∀ (x : Bg), x ∈ (taking 259 [(8, 2, 633)] linked).mbx.bg → x.opcode ≠ 259 ∨ x.arg ≠ arg e 8 2) ∧
      arg e 10 1 < 2 ∧ (taking 259 [(8, 2, 633)] linked).chSt (arg e 8 2) = 0 ∧ 0 ≠ arg e 8 2))
      ((taking 259 [(8, 2, 633)] linked).ring 3).cur =
      true) ∧
    (memoryAnd7.mbx.bg.length < 64) ∧
    (memoryAnd7.slotsUsed.length + memoryAnd7.hbm.queue.length < 16) ∧
    (memoryAnd7.migrating = true) ∧
    (Option.any
      (fun e =>
      decide
      (cmdReady 3 259 [(8, 2), (10, 1)] e memoryAnd7 ∧
      arg e 8 2 < 1024 ∧
      arg e 10 1 ≤ 2 ∧
      (∀ (x : Bg), x ∈ memoryAnd7.mbx.bg → x.opcode ≠ 259 ∨ x.arg ≠ arg e 8 2) ∧
      arg e 10 1 < 2 ∧ memoryAnd7.chSt (arg e 8 2) = 0 ∧ 0 ≠ arg e 8 2))
      (memoryAnd7.ring 3).cur =
      true) ∧
    (memoryAnd12.mbx.bg.length < 64) ∧
    (16 ≤ memoryAnd12.slotsUsed.length) ∧
    (Option.any
      (fun e =>
      decide
      (cmdReady 3 259 [(8, 2), (10, 1)] e memoryAnd12 ∧
      arg e 8 2 < 1024 ∧
      arg e 10 1 ≤ 2 ∧
      (∀ (x : Bg), x ∈ memoryAnd12.mbx.bg → x.opcode ≠ 259 ∨ x.arg ≠ arg e 8 2) ∧
      arg e 10 1 < 2 ∧ memoryAnd12.chSt (arg e 8 2) = 0))
      (memoryAnd12.ring 3).cur =
      true) ∧
    (memoryAnd8.mbx.bg.length < 64) ∧
    (Option.any
      (fun e =>
      decide
      (cmdReady 3 259 [(8, 2), (10, 1)] e memoryAnd8 ∧
      arg e 8 2 < 1024 ∧
      arg e 10 1 ≤ 2 ∧
      (∀ (x : Bg), x ∈ memoryAnd8.mbx.bg → x.opcode ≠ 259 ∨ x.arg ≠ arg e 8 2) ∧
      arg e 10 1 = 2 ∧ memoryAnd8.chSt (arg e 8 2) = 3 ∧ 0 ≠ arg e 8 2))
      (memoryAnd8.ring 3).cur =
      true) ∧
    (memoryAnd9.mbx.bg.length < 64) ∧
    (Option.any
      (fun e =>
      decide
      (cmdReady 3 259 [(8, 2), (10, 1)] e memoryAnd9 ∧
      arg e 8 2 < 1024 ∧
      arg e 10 1 ≤ 2 ∧
      (∀ (x : Bg), x ∈ memoryAnd9.mbx.bg → x.opcode ≠ 259 ∨ x.arg ≠ arg e 8 2) ∧
      arg e 10 1 = 0 ∧ (memoryAnd9.chSt (arg e 8 2) = 3 ∨ memoryAnd9.chSt (arg e 8 2) = 7) ∧ 0 ≠ arg e 8 2))
      (memoryAnd9.ring 3).cur =
      true) ∧
    (memoryAnd10.mbx.bg.length < 64) ∧
    (Option.any
      (fun e =>
      decide
      (cmdReady 3 259 [(8, 2), (10, 1)] e memoryAnd10 ∧
      arg e 8 2 < 1024 ∧
      arg e 10 1 ≤ 2 ∧
      (∀ (x : Bg), x ∈ memoryAnd10.mbx.bg → x.opcode ≠ 259 ∨ x.arg ≠ arg e 8 2) ∧
      (arg e 10 1 = 2 ∧ memoryAnd10.chSt (arg e 8 2) ≠ 3 ∨
      arg e 10 1 < 2 ∧
      memoryAnd10.chSt (arg e 8 2) ≠ 0 ∧
      memoryAnd10.chSt (arg e 8 2) ≠ 3 ∧ memoryAnd10.chSt (arg e 8 2) ≠ 7 ∨
      arg e 10 1 = 1 ∧ (memoryAnd10.chSt (arg e 8 2) = 3 ∨ memoryAnd10.chSt (arg e 8 2) = 7))))
      (memoryAnd10.ring 3).cur =
      true) ∧
    (Option.any
      (fun e =>
      decide (cmdReady 3 260 [(8, 4), (12, 4)] e memoryAnd13 ∧ arg e 8 4 < 645120 ∧ 645120 < arg e 8 4 + arg e 12 4))
      (memoryAnd13.ring 3).cur =
      true) ∧
    (Option.any
      (fun e =>
      decide
      (cmdReady 3 260 [(8, 4), (12, 4)] e memoryAnd14 ∧
      arg e 8 4 < 645120 ∧
      arg e 8 4 + arg e 12 4 ≤ 645120 ∧
      (memoryAnd14.hbm.degraded = [] ∨
      List.filter (fun g => !memoryAnd14.hbm.released.contains g) (upTo (arg e 8 4) (arg e 12 4)) = [])))
      (memoryAnd14.ring 3).cur =
      true) ∧
    (memoryAnd15.hbm.degraded = (633, 3) :: memoryAnd15.hbm.degraded.tail) ∧
    (Option.any
      (fun e =>
      decide
      (cmdReady 3 260 [(8, 4), (12, 4)] e memoryAnd15 ∧
      arg e 8 4 < 645120 ∧
      arg e 8 4 + arg e 12 4 ≤ 645120 ∧
      0 <
      (List.filter (fun g => !memoryAnd15.hbm.released.contains g)
      (upTo (arg e 8 4) (arg e 12 4))).length ∧
      (List.filter (fun g => !memoryAnd15.hbm.released.contains g) (upTo (arg e 8 4) (arg e 12 4))).length <
      3))
      (memoryAnd15.ring 3).cur =
      true) ∧
    (memoryAnd16.hbm.degraded = [(633, 3)]) ∧
    (memoryAnd16.migrating = false) ∧
    (memoryAnd16.hbm.queue = []) ∧
    (memoryAnd16.chSt 633 = 6) ∧
    (Option.any
      (fun e =>
      decide
      (cmdReady 3 260 [(8, 4), (12, 4)] e memoryAnd16 ∧
      arg e 8 4 < 645120 ∧
      arg e 8 4 + arg e 12 4 ≤ 645120 ∧
      3 ≤
      (List.filter (fun g => !memoryAnd16.hbm.released.contains g) (upTo (arg e 8 4) (arg e 12 4))).length))
      (memoryAnd16.ring 3).cur =
      true) ∧
    (Option.any
      (fun e =>
      decide (cmdReady 3 261 [(8, 8)] e memoryAnd17 ∧ arg e 8 8 % 8388608 = 0 ∧ region (arg e 8 8) = Region.regs))
      (memoryAnd17.ring 3).cur =
      true) ∧
    (Option.any
      (fun e =>
      decide (cmdReady 3 261 [(8, 8)] e memoryAnd18 ∧ (arg e 8 8 % 8388608 ≠ 0 ∨ region (arg e 8 8) ≠ Region.regs)))
      (memoryAnd18.ring 3).cur =
      true) ∧
    ((if memoryAnd20.dieStatus 1 ≠ 0 then memoryAnd20.dieStatus 1 else if memoryAnd20.winState 1 ≠ 0 then 20 else 0) = 0) ∧
    (Option.any
      (fun e =>
      decide
      (cmdReady 3 768 [(8, 1), (16, 8)] e memoryAnd20 ∧
      arg e 8 1 < 16 ∧ bufGood (arg e 16 8) 128 memoryAnd20 ∧ (arg e 8 1).testBit 1 = true))
      (memoryAnd20.ring 3).cur =
      true) ∧
    (Option.any
      (fun e =>
      decide
      (cmdReady 3 769 [(8, 1), (9, 1), (10, 2)] e memoryAnd23 ∧
      arg e 8 1 < 16 ∧
      arg e 10 2 < 4096 ∧
      arg e 9 1 = 0 ∧
      (∀ (d : Nat),
      d < 4 →
      (arg e 8 1).testBit d = true ∧ memoryAnd23.dieStatus d = 0 →
      memoryAnd23.fld (reg0 .WIN_CTRL d) F.WIN_CTRL_enable = 0 ∧
      memoryAnd23.winState d = 0 ∧ memoryAnd23.winCheck d = 0) ∧
      (arg e 8 1).testBit 1 = true ∧ memoryAnd23.dieStatus 1 = 0))
      (memoryAnd23.ring 3).cur =
      true) ∧
    (Option.any
      (fun e =>
      decide
      (cmdReady 3 769 [(8, 1), (9, 1), (10, 2)] e memoryAnd23 ∧
      arg e 8 1 < 16 ∧
      arg e 10 2 < 4096 ∧
      arg e 9 1 = 0 ∧
      (∀ (d : Nat),
      d < 4 →
      (arg e 8 1).testBit d = true ∧ memoryAnd23.dieStatus d = 0 →
      memoryAnd23.fld (reg0 .WIN_CTRL d) F.WIN_CTRL_enable = 0 ∧
      memoryAnd23.winState d = 0 ∧ memoryAnd23.winCheck d = 0) ∧
      ¬((arg e 8 1).testBit 0 = true ∧ memoryAnd23.dieStatus 0 = 0)))
      (memoryAnd23.ring 3).cur =
      true) ∧
    (Option.any
      (fun e =>
      decide
      (cmdReady 3 769 [(8, 1), (9, 1), (10, 2)] e memoryAnd25 ∧
      arg e 8 1 < 16 ∧
      arg e 10 2 < 4096 ∧ arg e 9 1 = 1 ∧ (arg e 8 1).testBit 1 = true ∧ memoryAnd25.dieStatus 1 = 0))
      (memoryAnd25.ring 3).cur =
      true) ∧
    (Option.any
      (fun e =>
      decide
      (cmdReady 3 769 [(8, 1), (9, 1), (10, 2)] e memoryAnd26 ∧
      arg e 8 1 < 16 ∧
      arg e 10 2 < 4096 ∧
      arg e 9 1 = 2 ∧
      ((upTo 0 4).any (fun d => decide ((arg e 8 1).testBit d = true ∧ memoryAnd26.dieStatus d = 0)) = true) ∧
      (arg e 8 1).testBit 1 = true ∧ memoryAnd26.dieStatus 1 = 0))
      (memoryAnd26.ring 3).cur =
      true) ∧
    (Option.any
      (fun e =>
      decide
      (cmdReady 3 769 [(8, 1), (9, 1), (10, 2)] e memoryAnd26 ∧
      arg e 8 1 < 16 ∧
      arg e 10 2 < 4096 ∧
      arg e 9 1 = 2 ∧
      ((upTo 0 4).any (fun d => decide ((arg e 8 1).testBit d = true ∧ memoryAnd26.dieStatus d = 0)) = true) ∧
      ¬((arg e 8 1).testBit 0 = true ∧ memoryAnd26.dieStatus 0 = 0)))
      (memoryAnd26.ring 3).cur =
      true) ∧
    (memoryAnd27.winState 1 = 4) ∧
    (Option.any
      (fun e =>
      decide
      (cmdReady 3 769 [(8, 1), (9, 1), (10, 2)] e memoryAnd27 ∧
      arg e 8 1 < 16 ∧
      arg e 10 2 < 4096 ∧ arg e 9 1 = 3 ∧ (arg e 8 1).testBit 1 = true ∧ memoryAnd27.dieStatus 1 = 0))
      (memoryAnd27.ring 3).cur =
      true) ∧
    ((memoryAnd28.ring 3).orphan = false) ∧
    (memoryAnd28.mbxServed = true) ∧
    (∀ (d : Nat), d < 4 → memoryAnd28.winState d ≠ 3) ∧
    (Option.any (fun p => decide (p = (0, 0))) (memoryAnd28.ring 3).phase = true) ∧
    (Option.any
      (fun e =>
      decide
      (e.testBit 16 = false ∧
      opcodeOf e = 769 ∧
      reservedByte e [(8, 1), (9, 1), (10, 2)] = none ∧ arg e 8 1 < 16 ∧ arg e 9 1 = 2 ∧ arg e 10 2 < 4096))
      (memoryAnd28.ring 3).cur =
      true) ∧
    (Option.any
      (fun e =>
      decide
      (cmdReady 3 770 [(8, 8)] e memoryAnd29 ∧
      bufGood (arg e 8 8) 256 memoryAnd29 ∧
      (((List.filterMap hdmOf
      (List.map (fun k => leNat (bufBytes memoryAnd29 (arg e 8 8 + 16 * k) 16)) (upTo 0 16))).any (fun x => decide (131072 < x.fst + x.snd.fst ∨
      x.snd.fst % x.snd.snd.length ≠ 0 ∨ x.snd.snd.any (fun k => decide (memoryAnd29.cxlSt k ≠ 2)) = true)) = true) ∨
      memoryAnd29.hdmSetOk
      (List.map (fun k => leNat (bufBytes memoryAnd29 (arg e 8 8 + 16 * k) 16)) (upTo 0 16)) =
      false)))
      (memoryAnd29.ring 3).cur =
      true) ∧
    (Option.any
      (fun e =>
      decide
      (cmdReady 3 770 [(8, 8)] e memoryAnd30 ∧
      bufGood (arg e 8 8) 256 memoryAnd30 ∧
      ¬(((List.filterMap hdmOf
      (List.map (fun k => leNat (bufBytes memoryAnd30 (arg e 8 8 + 16 * k) 16)) (upTo 0 16))).any (fun x => decide (131072 < x.fst + x.snd.fst ∨
      x.snd.fst % x.snd.snd.length ≠ 0 ∨ x.snd.snd.any (fun k => decide (memoryAnd30.cxlSt k ≠ 2)) = true)) = true) ∨
      memoryAnd30.hdmSetOk
      (List.map (fun k => leNat (bufBytes memoryAnd30 (arg e 8 8 + 16 * k) 16)) (upTo 0 16)) =
      false)))
      (memoryAnd30.ring 3).cur =
      true) ∧
    (Option.any
      (fun e =>
      decide
      (cmdReady 3 771 [(8, 1), (9, 1), (10, 1)] e (taking 771 [(8, 1, 2)] linked) ∧
      arg e 8 1 < 4 ∧
      arg e 9 1 = 0 ∧
      ((taking 771 [(8, 1, 2)] linked).cxlSt (arg e 8 1) = 0 ∨
      (taking 771 [(8, 1, 2)] linked).cxlSt (arg e 8 1) = 4 ∨ (taking 771 [(8, 1, 2)] linked).cxlSt (arg e 8 1) = 5) ∧
      0 ≠ arg e 8 1))
      ((taking 771 [(8, 1, 2)] linked).ring 3).cur =
      true) ∧
    (memoryAnd32.mbx.bg.length < 64) ∧
    (Option.any
      (fun e =>
      decide
      (cmdReady 3 771 [(8, 1), (9, 1), (10, 1)] e memoryAnd32 ∧
      arg e 8 1 < 4 ∧ arg e 9 1 = 1 ∧ memoryAnd32.cxlSt (arg e 8 1) = 2 ∧ 0 ≠ arg e 8 1))
      (memoryAnd32.ring 3).cur =
      true) ∧
    (Option.any
      (fun e =>
      decide
      (cmdReady 3 771 [(8, 1), (9, 1), (10, 1)] e memoryAnd33 ∧
      arg e 8 1 < 4 ∧ arg e 9 1 = 1 ∧ memoryAnd33.cxlSt (arg e 8 1) = 3))
      (memoryAnd33.ring 3).cur =
      true) ∧
    (Option.any
      (fun e =>
      decide
      (cmdReady 3 771 [(8, 1), (9, 1), (10, 1)] e memoryAnd34 ∧ arg e 8 1 < 4 ∧ arg e 9 1 = 2 ∧ arg e 10 1 ≤ 15))
      (memoryAnd34.ring 3).cur =
      true) ∧
    (Option.any (fun e => decide (cmdReady 3 772 [(8, 1), (10, 2), (16, 8)] e memoryAnd35 ∧ arg e 8 1 < 16))
      (memoryAnd35.ring 3).cur =
      true) := by
  decide +kernel

theorem test_ProgramAndContextCommandsAct_hypotheses_1 :
    (programAnd4.mbx.bg.length < 64) ∧
    (Option.any
      (fun e =>
      decide
      (cmdReady 3 512 [(8, 8), (16, 4), (24, 8), (32, 1)] e programAnd4 ∧
      arg e 32 1 < 8 ∧
      bufGood (arg e 8 8) (arg e 16 4) programAnd4 ∧
      programAnd4.imageCheck (bufBytes programAnd4 (arg e 8 8) (arg e 16 4))
      (List.filter (fun n => (arg e 24 8).testBit n && decide (programAnd4.coreStatus n = 0))
      (upTo 0 64)) ≠
      0))
      (programAnd4.ring 3).cur =
      true) ∧
    (programAnd1.mbx.bg.length < 64) ∧
    ((Sect.mk 1 0 291 8 0).target.fst = 1) ∧
    (Option.any
      (fun e =>
      decide
      (cmdReady 3 512 [(8, 8), (16, 4), (24, 8), (32, 1)] e programAnd1 ∧
      arg e 32 1 < 8 ∧
      bufGood (arg e 8 8) (arg e 16 4) programAnd1 ∧
      programAnd1.imageCheck (bufBytes programAnd1 (arg e 8 8) (arg e 16 4))
      (List.filter (fun n => (arg e 24 8).testBit n && decide (programAnd1.coreStatus n = 0))
      (upTo 0 64)) =
      0 ∧
      (arg e 24 8).testBit 5 = true ∧
      (if programAnd1.coreStatus 5 ≠ 0 then programAnd1.coreStatus 5
      else if ((programAnd1.slice 5).ctx (arg e 32 1)).isNone = true then 17 else 0) =
      0 ∧
      Sect.mk 1 0 291 8 0 ∈ imageSects (bufBytes programAnd1 (arg e 8 8) (arg e 16 4))))
      (programAnd1.ring 3).cur =
      true) ∧
    ((Sect.mk 4 0 64 9 0).target.fst = 2) ∧
    (Option.any
      (fun e =>
      decide
      (cmdReady 3 512 [(8, 8), (16, 4), (24, 8), (32, 1)] e programAnd1 ∧
      arg e 32 1 < 8 ∧
      bufGood (arg e 8 8) (arg e 16 4) programAnd1 ∧
      programAnd1.imageCheck (bufBytes programAnd1 (arg e 8 8) (arg e 16 4))
      (List.filter (fun n => (arg e 24 8).testBit n && decide (programAnd1.coreStatus n = 0))
      (upTo 0 64)) =
      0 ∧
      (arg e 24 8).testBit 5 = true ∧
      (if programAnd1.coreStatus 5 ≠ 0 then programAnd1.coreStatus 5
      else if ((programAnd1.slice 5).ctx (arg e 32 1)).isNone = true then 17 else 0) =
      0 ∧
      (programAnd1.slice 5).cur = arg e 32 1 ∧
      Sect.mk 4 0 64 9 0 ∈ imageSects (bufBytes programAnd1 (arg e 8 8) (arg e 16 4))))
      (programAnd1.ring 3).cur =
      true) ∧
    ((Sect.mk 5 0 128 7 0).target.fst = 3) ∧
    (Option.any
      (fun e =>
      decide
      (cmdReady 3 512 [(8, 8), (16, 4), (24, 8), (32, 1)] e programAnd1 ∧
      arg e 32 1 < 8 ∧
      bufGood (arg e 8 8) (arg e 16 4) programAnd1 ∧
      programAnd1.imageCheck (bufBytes programAnd1 (arg e 8 8) (arg e 16 4))
      (List.filter (fun n => (arg e 24 8).testBit n && decide (programAnd1.coreStatus n = 0))
      (upTo 0 64)) =
      0 ∧
      (arg e 24 8).testBit 5 = true ∧
      (if programAnd1.coreStatus 5 ≠ 0 then programAnd1.coreStatus 5
      else if ((programAnd1.slice 5).ctx (arg e 32 1)).isNone = true then 17 else 0) =
      0 ∧
      (programAnd1.slice 5).cur = arg e 32 1 ∧
      Sect.mk 5 0 128 7 0 ∈ imageSects (bufBytes programAnd1 (arg e 8 8) (arg e 16 4))))
      (programAnd1.ring 3).cur =
      true) ∧
    (programAnd2.mbx.bg.length < 64) ∧
    (Option.any
      (fun e =>
      decide
      (cmdReady 3 512 [(8, 8), (16, 4), (24, 8), (32, 1)] e programAnd2 ∧
      arg e 32 1 < 8 ∧
      bufGood (arg e 8 8) (arg e 16 4) programAnd2 ∧
      programAnd2.imageCheck (bufBytes programAnd2 (arg e 8 8) (arg e 16 4))
      (List.filter (fun n => (arg e 24 8).testBit n && decide (programAnd2.coreStatus n = 0))
      (upTo 0 64)) =
      0 ∧
      (arg e 24 8).testBit 5 = true ∧
      (if programAnd2.coreStatus 5 ≠ 0 then programAnd2.coreStatus 5
      else if ((programAnd2.slice 5).ctx (arg e 32 1)).isNone = true then 17 else 0) =
      0 ∧
      (programAnd2.slice 5).cur = arg e 32 1 ∧
      leNat (List.take 4 (List.drop 32 (bufBytes programAnd2 (arg e 8 8) (arg e 16 4)))) ≠
      4294967295))
      (programAnd2.ring 3).cur =
      true) ∧
    (Option.any
      (fun e =>
      decide
      (cmdReady 3 512 [(8, 8), (16, 4), (24, 8), (32, 1)] e programAnd1 ∧
      arg e 32 1 < 8 ∧
      bufGood (arg e 8 8) (arg e 16 4) programAnd1 ∧
      programAnd1.imageCheck (bufBytes programAnd1 (arg e 8 8) (arg e 16 4))
      (List.filter (fun n => (arg e 24 8).testBit n && decide (programAnd1.coreStatus n = 0))
      (upTo 0 64)) =
      0 ∧
      (arg e 24 8).testBit 5 = true ∧
      (if programAnd1.coreStatus 5 ≠ 0 then programAnd1.coreStatus 5
      else if ((programAnd1.slice 5).ctx (arg e 32 1)).isNone = true then 17 else 0) =
      0 ∧
      (programAnd1.slice 5).cur = arg e 32 1 ∧
      leNat (List.take 4 (List.drop 32 (bufBytes programAnd1 (arg e 8 8) (arg e 16 4)))) =
      4294967295))
      (programAnd1.ring 3).cur =
      true) ∧
    (programAnd5.mbx.bg.length < 64) ∧
    (Option.any
      (fun e =>
      decide
      (cmdReady 3 512 [(8, 8), (16, 4), (24, 8), (32, 1)] e programAnd5 ∧
      arg e 32 1 < 8 ∧
      bufGood (arg e 8 8) (arg e 16 4) programAnd5 ∧
      programAnd5.imageCheck (bufBytes programAnd5 (arg e 8 8) (arg e 16 4))
      (List.filter (fun n => (arg e 24 8).testBit n && decide (programAnd5.coreStatus n = 0))
      (upTo 0 64)) =
      0 ∧
      (arg e 24 8).testBit 5 = true ∧
      (if programAnd5.coreStatus 5 ≠ 0 then programAnd5.coreStatus 5
      else if ((programAnd5.slice 5).ctx (arg e 32 1)).isNone = true then 17 else 0) =
      0 ∧
      (programAnd5.slice 5).cur ≠ arg e 32 1))
      (programAnd5.ring 3).cur =
      true) ∧
    (slotBase 7 ≤ slotBase 7 ∧ slotBase 7 < slotBase 7 + slotSize) ∧
    (Option.any
      (fun e =>
      decide
      (cmdReady 3 512 [(8, 8), (16, 4), (24, 8), (32, 1)] e programAnd1 ∧
      arg e 32 1 < 8 ∧
      bufGood (arg e 8 8) (arg e 16 4) programAnd1 ∧
      programAnd1.imageCheck (bufBytes programAnd1 (arg e 8 8) (arg e 16 4))
      (List.filter (fun n => (arg e 24 8).testBit n && decide (programAnd1.coreStatus n = 0))
      (upTo 0 64)) =
      0 ∧
      ((arg e 24 8).testBit 7 = false ∨
      (if programAnd1.coreStatus 7 ≠ 0 then programAnd1.coreStatus 7
      else if ((programAnd1.slice 7).ctx (arg e 32 1)).isNone = true then 17 else 0) ≠
      0)))
      (programAnd1.ring 3).cur =
      true) ∧
    (decide (programAnd6.engSt false 5 ≠ 0) = false) ∧
    (reg0 .OPE_STATUS 5 ∈ [reg0 .OPE_STATUS 5, reg0 .OPE_CTRL 5, reg0 .OPE_SAVE_BASE 5]) ∧
    (Option.any
      (fun e =>
      decide
      (cmdReady 3 513 [(8, 8), (16, 1), (17, 1), (18, 1), (19, 1), (20, 4)] e programAnd6 ∧
      arg e 19 1 ≤ 1 ∧
      arg e 20 4 % 32 = 0 ∧
      (arg e 20 4 + if arg e 19 1 = 1 then 20800 else 8512) ≤ 196608 ∧
      arg e 16 1 = 0 ∧ arg e 17 1 = 0 ∧ (arg e 8 8).testBit 5 = true ∧ programAnd6.coreStatus 5 = 0))
      (programAnd6.ring 3).cur =
      true) ∧
    (Option.any
      (fun e =>
      decide
      (cmdReady 3 513 [(8, 8), (16, 1), (17, 1), (18, 1), (19, 1), (20, 4)] e programAnd6 ∧
      arg e 19 1 ≤ 1 ∧
      arg e 20 4 % 32 = 0 ∧
      (arg e 20 4 + if arg e 19 1 = 1 then 20800 else 8512) ≤ 196608 ∧
      arg e 16 1 = 0 ∧
      arg e 17 1 = 0 ∧
      (¬((arg e 8 8).testBit 7 = true ∧ programAnd6.coreStatus 7 = 0) ∨
      decide (programAnd6.engSt false 7 ≠ 0) = true)))
      (programAnd6.ring 3).cur =
      true) ∧
    (Option.any
      (fun e =>
      decide
      (cmdReady 3 513 [(8, 8), (16, 1), (17, 1), (18, 1), (19, 1), (20, 4)] e programAnd6 ∧
      arg e 19 1 ≤ 1 ∧
      arg e 20 4 % 32 = 0 ∧
      (arg e 20 4 + if arg e 19 1 = 1 then 20800 else 8512) ≤ 196608 ∧ arg e 16 1 = 0 ∧ arg e 17 1 = 0))
      (programAnd6.ring 3).cur =
      true) ∧
    (decide (2 ≤ programAnd8.engSt false 5) = false) ∧
    (Option.any
      (fun e =>
      decide
      (cmdReady 3 513 [(8, 8), (16, 1), (17, 1), (18, 1), (19, 1), (20, 4)] e programAnd8 ∧
      arg e 19 1 ≤ 1 ∧
      arg e 20 4 % 32 = 0 ∧
      (arg e 20 4 + if arg e 19 1 = 1 then 20800 else 8512) ≤ 196608 ∧
      arg e 16 1 = 0 ∧ arg e 17 1 = 2 ∧ (arg e 8 8).testBit 5 = true ∧ programAnd8.coreStatus 5 = 0))
      (programAnd8.ring 3).cur =
      true) ∧
    (Option.any
      (fun e =>
      decide
      (cmdReady 3 513 [(8, 8), (16, 1), (17, 1), (18, 1), (19, 1), (20, 4)] e programAnd8 ∧
      arg e 19 1 ≤ 1 ∧
      arg e 20 4 % 32 = 0 ∧
      (arg e 20 4 + if arg e 19 1 = 1 then 20800 else 8512) ≤ 196608 ∧
      arg e 16 1 = 0 ∧
      arg e 17 1 = 2 ∧
      (¬((arg e 8 8).testBit 7 = true ∧ programAnd8.coreStatus 7 = 0) ∨
      decide (2 ≤ programAnd8.engSt false 7) = true)))
      (programAnd8.ring 3).cur =
      true) ∧
    (Option.any
      (fun e =>
      decide
      (cmdReady 3 513 [(8, 8), (16, 1), (17, 1), (18, 1), (19, 1), (20, 4)] e programAnd8 ∧
      arg e 19 1 ≤ 1 ∧
      arg e 20 4 % 32 = 0 ∧
      (arg e 20 4 + if arg e 19 1 = 1 then 20800 else 8512) ≤ 196608 ∧ arg e 16 1 = 0 ∧ arg e 17 1 = 2))
      (programAnd8.ring 3).cur =
      true) ∧
    (decide (programAnd10.engSt false 5 = 3) = false) ∧
    (Option.any
      (fun e =>
      decide
      (cmdReady 3 513 [(8, 8), (16, 1), (17, 1), (18, 1), (19, 1), (20, 4)] e programAnd10 ∧
      arg e 19 1 ≤ 1 ∧
      arg e 20 4 % 32 = 0 ∧
      (arg e 20 4 + if arg e 19 1 = 1 then 20800 else 8512) ≤ 196608 ∧
      arg e 16 1 = 0 ∧ arg e 17 1 = 3 ∧ (arg e 8 8).testBit 5 = true ∧ programAnd10.coreStatus 5 = 0))
      (programAnd10.ring 3).cur =
      true) ∧
    (Option.any
      (fun e =>
      decide
      (cmdReady 3 513 [(8, 8), (16, 1), (17, 1), (18, 1), (19, 1), (20, 4)] e programAnd10 ∧
      arg e 19 1 ≤ 1 ∧
      arg e 20 4 % 32 = 0 ∧
      (arg e 20 4 + if arg e 19 1 = 1 then 20800 else 8512) ≤ 196608 ∧
      arg e 16 1 = 0 ∧
      arg e 17 1 = 3 ∧
      (¬((arg e 8 8).testBit 7 = true ∧ programAnd10.coreStatus 7 = 0) ∨
      decide (programAnd10.engSt false 7 = 3) = true)))
      (programAnd10.ring 3).cur =
      true) ∧
    (Option.any
      (fun e =>
      decide
      (cmdReady 3 513 [(8, 8), (16, 1), (17, 1), (18, 1), (19, 1), (20, 4)] e programAnd10 ∧
      arg e 19 1 ≤ 1 ∧
      arg e 20 4 % 32 = 0 ∧
      (arg e 20 4 + if arg e 19 1 = 1 then 20800 else 8512) ≤ 196608 ∧ arg e 16 1 = 0 ∧ arg e 17 1 = 3))
      (programAnd10.ring 3).cur =
      true) ∧
    (decide (programAnd11.engSt false 5 ≠ 3) = false) ∧
    (Option.any
      (fun e =>
      decide
      (cmdReady 3 513 [(8, 8), (16, 1), (17, 1), (18, 1), (19, 1), (20, 4)] e programAnd11 ∧
      arg e 19 1 ≤ 1 ∧
      arg e 20 4 % 32 = 0 ∧
      (arg e 20 4 + if arg e 19 1 = 1 then 20800 else 8512) ≤ 196608 ∧
      arg e 16 1 = 0 ∧ arg e 17 1 = 4 ∧ (arg e 8 8).testBit 5 = true ∧ programAnd11.coreStatus 5 = 0))
      (programAnd11.ring 3).cur =
      true) ∧
    (Option.any
      (fun e =>
      decide
      (cmdReady 3 513 [(8, 8), (16, 1), (17, 1), (18, 1), (19, 1), (20, 4)] e programAnd11 ∧
      arg e 19 1 ≤ 1 ∧
      arg e 20 4 % 32 = 0 ∧
      (arg e 20 4 + if arg e 19 1 = 1 then 20800 else 8512) ≤ 196608 ∧
      arg e 16 1 = 0 ∧
      arg e 17 1 = 4 ∧
      (¬((arg e 8 8).testBit 6 = true ∧ programAnd11.coreStatus 6 = 0) ∨
      decide (programAnd11.engSt false 6 ≠ 3) = true)))
      (programAnd11.ring 3).cur =
      true) ∧
    (Option.any
      (fun e =>
      decide
      (cmdReady 3 513 [(8, 8), (16, 1), (17, 1), (18, 1), (19, 1), (20, 4)] e programAnd11 ∧
      arg e 19 1 ≤ 1 ∧
      arg e 20 4 % 32 = 0 ∧
      (arg e 20 4 + if arg e 19 1 = 1 then 20800 else 8512) ≤ 196608 ∧ arg e 16 1 = 0 ∧ arg e 17 1 = 4))
      (programAnd11.ring 3).cur =
      true) ∧
    (decide (programAnd12.engSt false 5 ≠ 3) = false) ∧
    (Option.any
      (fun e =>
      decide
      (cmdReady 3 513 [(8, 8), (16, 1), (17, 1), (18, 1), (19, 1), (20, 4)] e programAnd12 ∧
      arg e 19 1 ≤ 1 ∧
      arg e 20 4 % 32 = 0 ∧
      (arg e 20 4 + if arg e 19 1 = 1 then 20800 else 8512) ≤ 196608 ∧
      arg e 16 1 = 0 ∧ arg e 17 1 = 6 ∧ (arg e 8 8).testBit 5 = true ∧ programAnd12.coreStatus 5 = 0))
      (programAnd12.ring 3).cur =
      true) ∧
    (Option.any
      (fun e =>
      decide
      (cmdReady 3 513 [(8, 8), (16, 1), (17, 1), (18, 1), (19, 1), (20, 4)] e programAnd12 ∧
      arg e 19 1 ≤ 1 ∧
      arg e 20 4 % 32 = 0 ∧
      (arg e 20 4 + if arg e 19 1 = 1 then 20800 else 8512) ≤ 196608 ∧
      arg e 16 1 = 0 ∧
      arg e 17 1 = 6 ∧
      (¬((arg e 8 8).testBit 6 = true ∧ programAnd12.coreStatus 6 = 0) ∨
      decide (programAnd12.engSt false 6 ≠ 3) = true)))
      (programAnd12.ring 3).cur =
      true) ∧
    (Option.any
      (fun e =>
      decide
      (cmdReady 3 513 [(8, 8), (16, 1), (17, 1), (18, 1), (19, 1), (20, 4)] e programAnd12 ∧
      arg e 19 1 ≤ 1 ∧
      arg e 20 4 % 32 = 0 ∧
      (arg e 20 4 + if arg e 19 1 = 1 then 20800 else 8512) ≤ 196608 ∧ arg e 16 1 = 0 ∧ arg e 17 1 = 6))
      (programAnd12.ring 3).cur =
      true) ∧
    ((decide (programAnd15.engSt true 5 ≠ 0) && !(decide (programAnd15.engSt true 5 = 2) && (programAnd15.ve 5).halted)) =
      false) ∧
    (Option.any
      (fun e =>
      decide
      (cmdReady 3 513 [(8, 8), (16, 1), (17, 1), (18, 1), (19, 1), (20, 4)] e programAnd15 ∧
      arg e 19 1 ≤ 1 ∧
      arg e 20 4 % 32 = 0 ∧
      (arg e 20 4 + if arg e 19 1 = 1 then 20800 else 8512) ≤ 196608 ∧
      arg e 16 1 = 1 ∧ arg e 17 1 = 0 ∧ (arg e 8 8).testBit 5 = true ∧ programAnd15.coreStatus 5 = 0))
      (programAnd15.ring 3).cur =
      true) ∧
    (Option.any
      (fun e =>
      decide
      (cmdReady 3 513 [(8, 8), (16, 1), (17, 1), (18, 1), (19, 1), (20, 4)] e programAnd15 ∧
      arg e 19 1 ≤ 1 ∧
      arg e 20 4 % 32 = 0 ∧
      (arg e 20 4 + if arg e 19 1 = 1 then 20800 else 8512) ≤ 196608 ∧
      arg e 16 1 = 1 ∧
      arg e 17 1 = 0 ∧
      (¬((arg e 8 8).testBit 7 = true ∧ programAnd15.coreStatus 7 = 0) ∨
      (decide (programAnd15.engSt true 7 ≠ 0) &&
      !(decide (programAnd15.engSt true 7 = 2) && (programAnd15.ve 7).halted)) =
      true)))
      (programAnd15.ring 3).cur =
      true) ∧
    (Option.any
      (fun e =>
      decide
      (cmdReady 3 513 [(8, 8), (16, 1), (17, 1), (18, 1), (19, 1), (20, 4)] e programAnd15 ∧
      arg e 19 1 ≤ 1 ∧
      arg e 20 4 % 32 = 0 ∧
      (arg e 20 4 + if arg e 19 1 = 1 then 20800 else 8512) ≤ 196608 ∧ arg e 16 1 = 1 ∧ arg e 17 1 = 0))
      (programAnd15.ring 3).cur =
      true) ∧
    ((decide (programAnd17.engSt true 5 ≠ 1) && decide (programAnd17.engSt true 5 ≠ 2)) = false) ∧
    (Option.any
      (fun e =>
      decide
      (cmdReady 3 513 [(8, 8), (16, 1), (17, 1), (18, 1), (19, 1), (20, 4)] e programAnd17 ∧
      arg e 19 1 ≤ 1 ∧
      arg e 20 4 % 32 = 0 ∧
      (arg e 20 4 + if arg e 19 1 = 1 then 20800 else 8512) ≤ 196608 ∧
      arg e 16 1 = 1 ∧ arg e 17 1 = 1 ∧ (arg e 8 8).testBit 5 = true ∧ programAnd17.coreStatus 5 = 0))
      (programAnd17.ring 3).cur =
      true) ∧
    (Option.any
      (fun e =>
      decide
      (cmdReady 3 513 [(8, 8), (16, 1), (17, 1), (18, 1), (19, 1), (20, 4)] e programAnd17 ∧
      arg e 19 1 ≤ 1 ∧
      arg e 20 4 % 32 = 0 ∧
      (arg e 20 4 + if arg e 19 1 = 1 then 20800 else 8512) ≤ 196608 ∧
      arg e 16 1 = 1 ∧
      arg e 17 1 = 1 ∧
      (¬((arg e 8 8).testBit 6 = true ∧ programAnd17.coreStatus 6 = 0) ∨
      (decide (programAnd17.engSt true 6 ≠ 1) && decide (programAnd17.engSt true 6 ≠ 2)) = true)))
      (programAnd17.ring 3).cur =
      true) ∧
    (Option.any
      (fun e =>
      decide
      (cmdReady 3 513 [(8, 8), (16, 1), (17, 1), (18, 1), (19, 1), (20, 4)] e programAnd17 ∧
      arg e 19 1 ≤ 1 ∧
      arg e 20 4 % 32 = 0 ∧
      (arg e 20 4 + if arg e 19 1 = 1 then 20800 else 8512) ≤ 196608 ∧ arg e 16 1 = 1 ∧ arg e 17 1 = 1))
      (programAnd17.ring 3).cur =
      true) ∧
    (decide (programAnd18.engSt true 5 ≠ 3) = false) := by
  decide +kernel

theorem test_ProgramAndContextCommandsAct_hypotheses_2 :
    (Option.any
      (fun e =>
      decide
      (cmdReady 3 513 [(8, 8), (16, 1), (17, 1), (18, 1), (19, 1), (20, 4)] e programAnd18 ∧
      arg e 19 1 ≤ 1 ∧
      arg e 20 4 % 32 = 0 ∧
      (arg e 20 4 + if arg e 19 1 = 1 then 20800 else 8512) ≤ 196608 ∧
      arg e 16 1 = 1 ∧ arg e 17 1 = 4 ∧ (arg e 8 8).testBit 5 = true ∧ programAnd18.coreStatus 5 = 0))
      (programAnd18.ring 3).cur =
      true) ∧
    (Option.any
      (fun e =>
      decide
      (cmdReady 3 513 [(8, 8), (16, 1), (17, 1), (18, 1), (19, 1), (20, 4)] e programAnd18 ∧
      arg e 19 1 ≤ 1 ∧
      arg e 20 4 % 32 = 0 ∧
      (arg e 20 4 + if arg e 19 1 = 1 then 20800 else 8512) ≤ 196608 ∧
      arg e 16 1 = 1 ∧
      arg e 17 1 = 4 ∧
      (¬((arg e 8 8).testBit 6 = true ∧ programAnd18.coreStatus 6 = 0) ∨
      decide (programAnd18.engSt true 6 ≠ 3) = true)))
      (programAnd18.ring 3).cur =
      true) ∧
    (Option.any
      (fun e =>
      decide
      (cmdReady 3 513 [(8, 8), (16, 1), (17, 1), (18, 1), (19, 1), (20, 4)] e programAnd18 ∧
      arg e 19 1 ≤ 1 ∧
      arg e 20 4 % 32 = 0 ∧
      (arg e 20 4 + if arg e 19 1 = 1 then 20800 else 8512) ≤ 196608 ∧ arg e 16 1 = 1 ∧ arg e 17 1 = 4))
      (programAnd18.ring 3).cur =
      true) ∧
    (Option.any
      (fun e =>
      decide
      (cmdReady 3 513 [(8, 8), (16, 1), (17, 1), (18, 1), (19, 1), (20, 4)] e (engineCtrl 2 0 linkedCore) ∧
      arg e 19 1 ≤ 1 ∧
      arg e 20 4 % 32 = 0 ∧
      (arg e 20 4 + if arg e 19 1 = 1 then 20800 else 8512) ≤ 196608 ∧
      arg e 16 1 = 2 ∧ arg e 17 1 = 0 ∧ (arg e 8 8).testBit 5 = true ∧ (engineCtrl 2 0 linkedCore).coreStatus 5 = 0))
      ((engineCtrl 2 0 linkedCore).ring 3).cur =
      true) ∧
    (Option.any
      (fun e =>
      decide
      (cmdReady 3 513 [(8, 8), (16, 1), (17, 1), (18, 1), (19, 1), (20, 4)] e (engineCtrl 2 0 linkedCore) ∧
      arg e 19 1 ≤ 1 ∧
      arg e 20 4 % 32 = 0 ∧
      (arg e 20 4 + if arg e 19 1 = 1 then 20800 else 8512) ≤ 196608 ∧
      arg e 16 1 = 2 ∧
      arg e 17 1 = 0 ∧ (¬((arg e 8 8).testBit 7 = true ∧ (engineCtrl 2 0 linkedCore).coreStatus 7 = 0) ∨ false = true)))
      ((engineCtrl 2 0 linkedCore).ring 3).cur =
      true) ∧
    (Option.any
      (fun e =>
      decide
      (cmdReady 3 513 [(8, 8), (16, 1), (17, 1), (18, 1), (19, 1), (20, 4)] e (engineCtrl 2 0 linkedCore) ∧
      arg e 19 1 ≤ 1 ∧
      arg e 20 4 % 32 = 0 ∧
      (arg e 20 4 + if arg e 19 1 = 1 then 20800 else 8512) ≤ 196608 ∧ arg e 16 1 = 2 ∧ arg e 17 1 = 0))
      ((engineCtrl 2 0 linkedCore).ring 3).cur =
      true) ∧
    (Option.any
      (fun e =>
      decide
      (cmdReady 3 513 [(8, 8), (16, 1), (17, 1), (18, 1), (19, 1), (20, 4)] e programAnd19 ∧
      arg e 19 1 ≤ 1 ∧
      arg e 20 4 % 32 = 0 ∧
      (arg e 20 4 + if arg e 19 1 = 1 then 20800 else 8512) ≤ 196608 ∧
      arg e 16 1 = 2 ∧ arg e 17 1 = 1 ∧ (arg e 8 8).testBit 5 = true ∧ programAnd19.coreStatus 5 = 0))
      (programAnd19.ring 3).cur =
      true) ∧
    (Option.any
      (fun e =>
      decide
      (cmdReady 3 513 [(8, 8), (16, 1), (17, 1), (18, 1), (19, 1), (20, 4)] e programAnd19 ∧
      arg e 19 1 ≤ 1 ∧
      arg e 20 4 % 32 = 0 ∧
      (arg e 20 4 + if arg e 19 1 = 1 then 20800 else 8512) ≤ 196608 ∧
      arg e 16 1 = 2 ∧
      arg e 17 1 = 1 ∧ (¬((arg e 8 8).testBit 7 = true ∧ programAnd19.coreStatus 7 = 0) ∨ false = true)))
      (programAnd19.ring 3).cur =
      true) ∧
    (Option.any
      (fun e =>
      decide
      (cmdReady 3 513 [(8, 8), (16, 1), (17, 1), (18, 1), (19, 1), (20, 4)] e programAnd19 ∧
      arg e 19 1 ≤ 1 ∧
      arg e 20 4 % 32 = 0 ∧
      (arg e 20 4 + if arg e 19 1 = 1 then 20800 else 8512) ≤ 196608 ∧ arg e 16 1 = 2 ∧ arg e 17 1 = 1))
      (programAnd19.ring 3).cur =
      true) ∧
    (Option.any
      (fun e =>
      decide
      (cmdReady 3 513 [(8, 8), (16, 1), (17, 1), (18, 1), (19, 1), (20, 4)] e programAnd20 ∧
      arg e 19 1 ≤ 1 ∧
      arg e 20 4 % 32 = 0 ∧
      (arg e 20 4 + if arg e 19 1 = 1 then 20800 else 8512) ≤ 196608 ∧
      arg e 16 1 = 2 ∧
      arg e 17 1 = 4 ∧
      ((arg e 8 8).testBit 5 = true ∧ programAnd20.coreStatus 5 = 0) ∧
      ((upTo 0 8).any fun q => (arg e 18 1).testBit q && decide (programAnd20.qSt 5 q ≠ 2)) = false ∧
      (arg e 18 1).testBit 3 = true))
      (programAnd20.ring 3).cur =
      true) ∧
    (Option.any
      (fun e =>
      decide
      (cmdReady 3 513 [(8, 8), (16, 1), (17, 1), (18, 1), (19, 1), (20, 4)] e programAnd20 ∧
      arg e 19 1 ≤ 1 ∧
      arg e 20 4 % 32 = 0 ∧
      (arg e 20 4 + if arg e 19 1 = 1 then 20800 else 8512) ≤ 196608 ∧
      arg e 16 1 = 2 ∧
      arg e 17 1 = 4 ∧
      ((arg e 8 8).testBit 5 = true ∧ programAnd20.coreStatus 5 = 0) ∧
      ((upTo 0 8).any fun q => (arg e 18 1).testBit q && decide (programAnd20.qSt 5 q ≠ 2)) = false ∧
      (arg e 18 1).testBit 4 = false))
      (programAnd20.ring 3).cur =
      true) ∧
    (Option.any
      (fun e =>
      decide
      (cmdReady 3 513 [(8, 8), (16, 1), (17, 1), (18, 1), (19, 1), (20, 4)] e programAnd20 ∧
      arg e 19 1 ≤ 1 ∧
      arg e 20 4 % 32 = 0 ∧
      (arg e 20 4 + if arg e 19 1 = 1 then 20800 else 8512) ≤ 196608 ∧
      arg e 16 1 = 2 ∧
      arg e 17 1 = 4 ∧
      (¬((arg e 8 8).testBit 6 = true ∧ programAnd20.coreStatus 6 = 0) ∨
      ((upTo 0 8).any fun q => (arg e 18 1).testBit q && decide (programAnd20.qSt 6 q ≠ 2)) = true)))
      (programAnd20.ring 3).cur =
      true) ∧
    (Option.any
      (fun e =>
      decide
      (cmdReady 3 513 [(8, 8), (16, 1), (17, 1), (18, 1), (19, 1), (20, 4)] e programAnd20 ∧
      arg e 19 1 ≤ 1 ∧
      arg e 20 4 % 32 = 0 ∧
      (arg e 20 4 + if arg e 19 1 = 1 then 20800 else 8512) ≤ 196608 ∧ arg e 16 1 = 2 ∧ arg e 17 1 = 4))
      (programAnd20.ring 3).cur =
      true) ∧
    (Option.any
      (fun e =>
      decide
      (cmdReady 3 513 [(8, 8), (16, 1), (17, 1), (18, 1), (19, 1), (20, 4)] e (engineCtrl 2 5 linkedCore) ∧
      arg e 19 1 ≤ 1 ∧
      arg e 20 4 % 32 = 0 ∧
      (arg e 20 4 + if arg e 19 1 = 1 then 20800 else 8512) ≤ 196608 ∧
      arg e 16 1 = 2 ∧
      arg e 17 1 = 5 ∧
      ((arg e 8 8).testBit 5 = true ∧ (engineCtrl 2 5 linkedCore).coreStatus 5 = 0) ∧ (arg e 18 1).testBit 3 = true))
      ((engineCtrl 2 5 linkedCore).ring 3).cur =
      true) ∧
    (Option.any
      (fun e =>
      decide
      (cmdReady 3 513 [(8, 8), (16, 1), (17, 1), (18, 1), (19, 1), (20, 4)] e (engineCtrl 2 5 linkedCore) ∧
      arg e 19 1 ≤ 1 ∧
      arg e 20 4 % 32 = 0 ∧
      (arg e 20 4 + if arg e 19 1 = 1 then 20800 else 8512) ≤ 196608 ∧
      arg e 16 1 = 2 ∧
      arg e 17 1 = 5 ∧
      ((arg e 8 8).testBit 5 = true ∧ (engineCtrl 2 5 linkedCore).coreStatus 5 = 0) ∧ (arg e 18 1).testBit 4 = false))
      ((engineCtrl 2 5 linkedCore).ring 3).cur =
      true) ∧
    (Option.any
      (fun e =>
      decide
      (cmdReady 3 513 [(8, 8), (16, 1), (17, 1), (18, 1), (19, 1), (20, 4)] e (engineCtrl 2 5 linkedCore) ∧
      arg e 19 1 ≤ 1 ∧
      arg e 20 4 % 32 = 0 ∧
      (arg e 20 4 + if arg e 19 1 = 1 then 20800 else 8512) ≤ 196608 ∧
      arg e 16 1 = 2 ∧
      arg e 17 1 = 5 ∧ (¬((arg e 8 8).testBit 7 = true ∧ (engineCtrl 2 5 linkedCore).coreStatus 7 = 0) ∨ false = true)))
      ((engineCtrl 2 5 linkedCore).ring 3).cur =
      true) ∧
    (Option.any
      (fun e =>
      decide
      (cmdReady 3 513 [(8, 8), (16, 1), (17, 1), (18, 1), (19, 1), (20, 4)] e (engineCtrl 2 5 linkedCore) ∧
      arg e 19 1 ≤ 1 ∧
      arg e 20 4 % 32 = 0 ∧
      (arg e 20 4 + if arg e 19 1 = 1 then 20800 else 8512) ≤ 196608 ∧ arg e 16 1 = 2 ∧ arg e 17 1 = 5))
      ((engineCtrl 2 5 linkedCore).ring 3).cur =
      true) ∧
    ((!((engineCtrl 3 0 linkedCore).sca 5).held) = false) ∧
    (Option.any
      (fun e =>
      decide
      (cmdReady 3 513 [(8, 8), (16, 1), (17, 1), (18, 1), (19, 1), (20, 4)] e (engineCtrl 3 0 linkedCore) ∧
      arg e 19 1 ≤ 1 ∧
      arg e 20 4 % 32 = 0 ∧
      (arg e 20 4 + if arg e 19 1 = 1 then 20800 else 8512) ≤ 196608 ∧
      arg e 16 1 = 3 ∧ arg e 17 1 = 0 ∧ (arg e 8 8).testBit 5 = true ∧ (engineCtrl 3 0 linkedCore).coreStatus 5 = 0))
      ((engineCtrl 3 0 linkedCore).ring 3).cur =
      true) ∧
    (Option.any
      (fun e =>
      decide
      (cmdReady 3 513 [(8, 8), (16, 1), (17, 1), (18, 1), (19, 1), (20, 4)] e (engineCtrl 3 0 linkedCore) ∧
      arg e 19 1 ≤ 1 ∧
      arg e 20 4 % 32 = 0 ∧
      (arg e 20 4 + if arg e 19 1 = 1 then 20800 else 8512) ≤ 196608 ∧
      arg e 16 1 = 3 ∧
      arg e 17 1 = 0 ∧
      (¬((arg e 8 8).testBit 7 = true ∧ (engineCtrl 3 0 linkedCore).coreStatus 7 = 0) ∨
      (!((engineCtrl 3 0 linkedCore).sca 7).held) = true)))
      ((engineCtrl 3 0 linkedCore).ring 3).cur =
      true) ∧
    (Option.any
      (fun e =>
      decide
      (cmdReady 3 513 [(8, 8), (16, 1), (17, 1), (18, 1), (19, 1), (20, 4)] e (engineCtrl 3 0 linkedCore) ∧
      arg e 19 1 ≤ 1 ∧
      arg e 20 4 % 32 = 0 ∧
      (arg e 20 4 + if arg e 19 1 = 1 then 20800 else 8512) ≤ 196608 ∧ arg e 16 1 = 3 ∧ arg e 17 1 = 0))
      ((engineCtrl 3 0 linkedCore).ring 3).cur =
      true) ∧
    (Option.any
      (fun e =>
      decide
      (cmdReady 3 513 [(8, 8), (16, 1), (17, 1), (18, 1), (19, 1), (20, 4)] e (engineCtrl 3 1 linkedCore) ∧
      arg e 19 1 ≤ 1 ∧
      arg e 20 4 % 32 = 0 ∧
      (arg e 20 4 + if arg e 19 1 = 1 then 20800 else 8512) ≤ 196608 ∧
      arg e 16 1 = 3 ∧ arg e 17 1 = 1 ∧ (arg e 8 8).testBit 5 = true ∧ (engineCtrl 3 1 linkedCore).coreStatus 5 = 0))
      ((engineCtrl 3 1 linkedCore).ring 3).cur =
      true) ∧
    (Option.any
      (fun e =>
      decide
      (cmdReady 3 513 [(8, 8), (16, 1), (17, 1), (18, 1), (19, 1), (20, 4)] e (engineCtrl 3 1 linkedCore) ∧
      arg e 19 1 ≤ 1 ∧
      arg e 20 4 % 32 = 0 ∧
      (arg e 20 4 + if arg e 19 1 = 1 then 20800 else 8512) ≤ 196608 ∧
      arg e 16 1 = 3 ∧
      arg e 17 1 = 1 ∧ (¬((arg e 8 8).testBit 7 = true ∧ (engineCtrl 3 1 linkedCore).coreStatus 7 = 0) ∨ false = true)))
      ((engineCtrl 3 1 linkedCore).ring 3).cur =
      true) ∧
    (Option.any
      (fun e =>
      decide
      (cmdReady 3 513 [(8, 8), (16, 1), (17, 1), (18, 1), (19, 1), (20, 4)] e (engineCtrl 3 1 linkedCore) ∧
      arg e 19 1 ≤ 1 ∧
      arg e 20 4 % 32 = 0 ∧
      (arg e 20 4 + if arg e 19 1 = 1 then 20800 else 8512) ≤ 196608 ∧ arg e 16 1 = 3 ∧ arg e 17 1 = 1))
      ((engineCtrl 3 1 linkedCore).ring 3).cur =
      true) ∧
    ((programAnd21.ring 3).orphan = false) ∧
    (programAnd21.mbxServed = true) ∧
    (Option.any (fun p => decide (p = (0, 0))) (programAnd21.ring 3).phase = true) ∧
    (Option.any
      (fun e =>
      decide
      (e.testBit 16 = false ∧
      opcodeOf e = 513 ∧
      reservedByte e [(8, 8), (16, 1), (17, 1), (18, 1), (19, 1), (20, 4)] = none ∧
      arg e 16 1 = 0 ∧
      arg e 17 1 = 2 ∧
      arg e 19 1 = 0 ∧
      arg e 20 4 = 0 ∧
      ∀ (n : Nat),
      n < 64 →
      (arg e 8 8).testBit n = true →
      programAnd21.fld (reg0 .OPE_CTRL n) F.OPE_CTRL_suspend_req = 0))
      (programAnd21.ring 3).cur =
      true) ∧
    ((programAnd22.ring 3).orphan = false) ∧
    (programAnd22.mbxServed = true) ∧
    (Option.any
      (fun e =>
      decide
      (e.testBit 16 = false ∧
      opcodeOf e = 513 ∧
      reservedByte e [(8, 8), (16, 1), (17, 1), (18, 1), (19, 1), (20, 4)] = none ∧
      arg e 16 1 = 0 ∧
      arg e 17 1 = 2 ∧
      arg e 19 1 = 0 ∧
      arg e 20 4 = 0 ∧
      (∀ (n : Nat),
      n < 64 →
      (arg e 8 8).testBit n = true →
      programAnd22.fld (reg0 .OPE_CTRL n) F.OPE_CTRL_suspend_req = 0) ∧
      Option.any (fun p => decide (p.fst ≠ 0 ∧ p.fst ≠ arg e 8 8)) (programAnd22.ring 3).phase =
      true))
      (programAnd22.ring 3).cur =
      true) ∧
    (Option.any
      (fun e =>
      decide
      (cmdReady 3 514 [(8, 8), (16, 1), (20, 4), (24, 4), (32, 8)] e programAnd26 ∧
      1 ≤ arg e 16 1 ∧ arg e 16 1 ≤ 7 ∧ arg e 32 8 % 2097152 = 0 ∧ 1352914698240 < arg e 32 8 + 524288))
      (programAnd26.ring 3).cur =
      true) ∧
    (Option.any
      (fun e =>
      decide
      (cmdReady 3 514 [(8, 8), (16, 1), (20, 4), (24, 4), (32, 8)] e programAnd23 ∧
      1 ≤ arg e 16 1 ∧
      arg e 16 1 ≤ 7 ∧
      arg e 32 8 % 2097152 = 0 ∧
      arg e 32 8 + 524288 ≤ 1352914698240 ∧
      programAnd23.released (arg e 32 8) = false ∧
      (arg e 8 8).testBit 5 = true ∧
      (if programAnd23.coreStatus 5 ≠ 0 then programAnd23.coreStatus 5
      else
      if 8 ≤ List.length (programAnd23.slice 5).ctxs then 27
      else
      if ((programAnd23.slice 5).ctx (arg e 16 1)).isSome = true then 20
      else
      if
      196608 < arg e 20 4 + arg e 24 4 ∨
      (List.any (programAnd23.slice 5).ctxs fun x =>
      decide (x.fst ≠ 0) && decide (x.snd.first < arg e 20 4 + arg e 24 4) &&
      decide (arg e 20 4 < x.snd.first + x.snd.lines)) =
      true then
      26
      else 0) =
      0 ∧
      5 ≠ arg e 16 1))
      (programAnd23.ring 3).cur =
      true) ∧
    (Option.any
      (fun e =>
      decide
      (cmdReady 3 514 [(8, 8), (16, 1), (20, 4), (24, 4), (32, 8)] e programAnd23 ∧
      1 ≤ arg e 16 1 ∧
      arg e 16 1 ≤ 7 ∧
      arg e 32 8 % 2097152 = 0 ∧
      arg e 32 8 + 524288 ≤ 1352914698240 ∧
      programAnd23.released (arg e 32 8) = false ∧
      ((arg e 8 8).testBit 7 = false ∨
      (if programAnd23.coreStatus 7 ≠ 0 then programAnd23.coreStatus 7
      else
      if 8 ≤ List.length (programAnd23.slice 7).ctxs then 27
      else
      if ((programAnd23.slice 7).ctx (arg e 16 1)).isSome = true then 20
      else
      if
      196608 < arg e 20 4 + arg e 24 4 ∨
      (List.any (programAnd23.slice 7).ctxs fun x =>
      decide (x.fst ≠ 0) && decide (x.snd.first < arg e 20 4 + arg e 24 4) &&
      decide (arg e 20 4 < x.snd.first + x.snd.lines)) =
      true then
      26
      else 0) ≠
      0)))
      (programAnd23.ring 3).cur =
      true) ∧
    (Option.any
      (fun e =>
      decide
      (cmdReady 3 515 [(8, 8), (16, 1)] e programAnd27 ∧
      arg e 16 1 ≤ 7 ∧
      (arg e 8 8).testBit 5 = true ∧
      (if programAnd27.coreStatus 5 ≠ 0 then programAnd27.coreStatus 5
      else
      if
      (programAnd27.slice 5).cur = arg e 16 1 ∨
      Option.any (fun w => decide (w.fst = arg e 16 1)) (programAnd27.slice 5).want = true then
      20
      else if ((programAnd27.slice 5).ctx (arg e 16 1)).isNone = true then 17 else 0) =
      0 ∧
      5 ≠ arg e 16 1))
      (programAnd27.ring 3).cur =
      true) ∧
    (Option.any
      (fun e =>
      decide
      (cmdReady 3 515 [(8, 8), (16, 1)] e programAnd27 ∧
      arg e 16 1 ≤ 7 ∧
      ((arg e 8 8).testBit 6 = false ∨
      (if programAnd27.coreStatus 6 ≠ 0 then programAnd27.coreStatus 6
      else
      if
      (programAnd27.slice 6).cur = arg e 16 1 ∨
      Option.any (fun w => decide (w.fst = arg e 16 1)) (programAnd27.slice 6).want = true then
      20
      else if ((programAnd27.slice 6).ctx (arg e 16 1)).isNone = true then 17 else 0) ≠
      0)))
      (programAnd27.ring 3).cur =
      true) ∧
    (Option.any
      (fun e =>
      decide
      (cmdReady 3 516 [(8, 8), (16, 4), (20, 1), (21, 1)] e programAnd29 ∧
      arg e 20 1 ≤ 1 ∧ arg e 16 4 ≠ 0 ∧ (arg e 16 4 < 100 ∨ 1000000 < arg e 16 4)))
      (programAnd29.ring 3).cur =
      true) ∧
    (Option.any
      (fun e =>
      decide
      (cmdReady 3 516 [(8, 8), (16, 4), (20, 1), (21, 1)] e programAnd28 ∧
      arg e 20 1 ≤ 1 ∧ (arg e 16 4 = 0 ∨ 100 ≤ arg e 16 4 ∧ arg e 16 4 ≤ 1000000)))
      (programAnd28.ring 3).cur =
      true) ∧
    (programAnd30.mbx.bg.length < 64) ∧
    (Option.any
      (fun e =>
      decide
      (cmdReady 3 517 [(8, 8), (16, 1), (17, 1)] e programAnd30 ∧
      arg e 16 1 ≤ 7 ∧
      arg e 17 1 ≤ 1 ∧
      ((upTo 0 64).any (fun k => decide (
      (arg e 8 8).testBit k = true ∧
      (if programAnd30.coreStatus k ≠ 0 then programAnd30.coreStatus k
      else
      if ((programAnd30.slice k).ctx (arg e 16 1)).isNone = true then 17
      else if (programAnd30.slice k).want.isSome = true then 28 else 0) =
      0)) = true) ∧
      (arg e 8 8).testBit 5 = true ∧
      (if programAnd30.coreStatus 5 ≠ 0 then programAnd30.coreStatus 5
      else
      if ((programAnd30.slice 5).ctx (arg e 16 1)).isNone = true then 17
      else if (programAnd30.slice 5).want.isSome = true then 28 else 0) =
      0))
      (programAnd30.ring 3).cur =
      true) ∧
    (Option.any
      (fun e =>
      decide
      (cmdReady 3 517 [(8, 8), (16, 1), (17, 1)] e programAnd30 ∧
      arg e 16 1 ≤ 7 ∧
      arg e 17 1 ≤ 1 ∧
      ((upTo 0 64).any (fun k => decide (
      (arg e 8 8).testBit k = true ∧
      (if programAnd30.coreStatus k ≠ 0 then programAnd30.coreStatus k
      else
      if ((programAnd30.slice k).ctx (arg e 16 1)).isNone = true then 17
      else if (programAnd30.slice k).want.isSome = true then 28 else 0) =
      0)) = true) ∧
      ((arg e 8 8).testBit 6 = false ∨
      (if programAnd30.coreStatus 6 ≠ 0 then programAnd30.coreStatus 6
      else
      if ((programAnd30.slice 6).ctx (arg e 16 1)).isNone = true then 17
      else if (programAnd30.slice 6).want.isSome = true then 28 else 0) ≠
      0)))
      (programAnd30.ring 3).cur =
      true) ∧
    (programAnd31.mbx.bg.length < 64) ∧
    (Option.any
      (fun e =>
      decide
      (cmdReady 3 517 [(8, 8), (16, 1), (17, 1)] e programAnd31 ∧
      arg e 16 1 ≤ 7 ∧
      arg e 17 1 ≤ 1 ∧
      arg e 8 8 ≠ 0 ∧
      ∀ (k : Nat),
      k < 64 →
      (arg e 8 8).testBit k = true →
      (if programAnd31.coreStatus k ≠ 0 then programAnd31.coreStatus k
      else
      if ((programAnd31.slice k).ctx (arg e 16 1)).isNone = true then 17
      else if (programAnd31.slice k).want.isSome = true then 28 else 0) =
      17))
      (programAnd31.ring 3).cur =
      true) ∧
    (Option.any (fun e => decide (cmdReady 3 518 [(8, 8), (16, 4)] e programAnd33 ∧ 5000000 < arg e 16 4))
      (programAnd33.ring 3).cur =
      true) ∧
    (Option.any
      (fun e =>
      decide
      (cmdReady 3 518 [(8, 8), (16, 4)] e programAnd32 ∧
      arg e 16 4 ≤ 5000000 ∧ (arg e 8 8).testBit 5 = true ∧ programAnd32.coreStatus 5 = 0))
      (programAnd32.ring 3).cur =
      true) := by
  decide +kernel

theorem test_ContextsAreSwitched_hypotheses :
    (linkedCore.alive 5 = true) ∧
    ((linkedCore.slice 5).want = none) ∧
    ((linkedCore.slice 5).quantum = 0) ∧
    (contextsAre3.alive 5 = true) ∧
    ((contextsAre3.slice 5).want = none) ∧
    ((contextsAre3.slice 5).quantum ≠ 0) ∧
    ((contextsAre3.slice 5).mask % 256 = 0) ∧
    ((sliceMod 5 twoContexts linkedCore).alive 5 = true) ∧
    (((sliceMod 5 twoContexts linkedCore).slice 5).want = none) ∧
    (((sliceMod 5 twoContexts linkedCore).slice 5).quantum ≠ 0) ∧
    (((sliceMod 5 twoContexts linkedCore).slice 5).hold = none ∧
      ∀ (q : Nat), q < 8 → ((sliceMod 5 twoContexts linkedCore).que 5 q).started = [] ∧ ((sliceMod 5 twoContexts linkedCore).que 5 q).old = []) ∧
    (((sliceMod 5 twoContexts linkedCore).ope 5).switchable false = true) ∧
    (Option.any (fun c => decide (c ≠ ((sliceMod 5 twoContexts linkedCore).slice 5).cur)) ((sliceMod 5 twoContexts linkedCore).slice 5).next = true) ∧
    (contextsAre1.alive 5 = true) ∧
    ((contextsAre1.slice 5).hold = none ∧
      ∀ (q : Nat), q < 8 → (contextsAre1.que 5 q).started = [] ∧ (contextsAre1.que 5 q).old = []) ∧
    ((contextsAre1.ope 5).switchable true = true) ∧
    (Option.any (fun w => decide (w.snd = false ∧ w.fst ≠ (contextsAre1.slice 5).cur)) (contextsAre1.slice 5).want = true) ∧
    (contextsAre4.alive 5 = true) ∧
    ((contextsAre4.slice 5).hold = none ∧
      ∀ (q : Nat), q < 8 → (contextsAre4.que 5 q).started = [] ∧ (contextsAre4.que 5 q).old = []) ∧
    ((contextsAre4.ope 5).switchable true = true) ∧
    ((contextsAre4.ope 5).tile.isSome = true) ∧
    (contextsAre4.engSt false 5 ≠ 3) ∧
    (Option.any (fun w => decide (w.snd = false ∧ w.fst ≠ (contextsAre4.slice 5).cur)) (contextsAre4.slice 5).want = true) := by
  decide +kernel

theorem test_FabricCommandsAct_hypotheses_1 :
    (Option.any (fun e => decide (cmdReady 3 1024 [(8, 2)] e fabricCommands1 ∧ arg e 8 2 = 65535))
      (fabricCommands1.ring 3).cur =
      true) ∧
    (fabricCommands2.fab.id ∈ fabricCommands2.members.ids) ∧
    (Option.any (fun e => decide (cmdReady 3 1024 [(8, 2)] e fabricCommands2 ∧ arg e 8 2 ≠ 65535))
      (fabricCommands2.ring 3).cur =
      true) ∧
    (¬fabricCommands3.fab.id ∈ fabricCommands3.members.ids) ∧
    (fabricCommands3.membersNext = none) ∧
    (Option.any (fun e => decide (cmdReady 3 1024 [(8, 2)] e fabricCommands3 ∧ arg e 8 2 ≠ 65535))
      (fabricCommands3.ring 3).cur =
      true) ∧
    (Option.any
      (fun e =>
      decide
      (cmdReady 3 1025 [(8, 4), (12, 2), (16, 8), (24, 8)] e fabricCommands7 ∧
      1 ≤ arg e 12 2 ∧
      arg e 12 2 ≤ 4096 ∧
      bufGood (arg e 16 8) (2 * arg e 12 2) fabricCommands7 ∧
      ((¬∀ (i : Nat),
      i < arg e 12 2 - 1 →
      (List.drop i
      (List.map (fun i => leNat (bufBytes fabricCommands7 (arg e 16 8 + 2 * i) 2))
      (upTo 0 (arg e 12 2)))).headD
      0 <
      (List.drop (i + 1)
      (List.map (fun i => leNat (bufBytes fabricCommands7 (arg e 16 8 + 2 * i) 2))
      (upTo 0 (arg e 12 2)))).headD
      0) ∨
      65535 ∈
      List.map (fun i => leNat (bufBytes fabricCommands7 (arg e 16 8 + 2 * i) 2))
      (upTo 0 (arg e 12 2)) ∨
      ¬fabricCommands7.fab.id ∈
      List.map (fun i => leNat (bufBytes fabricCommands7 (arg e 16 8 + 2 * i) 2))
      (upTo 0 (arg e 12 2)))))
      (fabricCommands7.ring 3).cur =
      true) ∧
    (Option.any
      (fun e =>
      decide
      (cmdReady 3 1025 [(8, 4), (12, 2), (16, 8), (24, 8)] e fabricCommands6 ∧
      1 ≤ arg e 12 2 ∧
      arg e 12 2 ≤ 4096 ∧
      bufGood (arg e 16 8) (2 * arg e 12 2) fabricCommands6 ∧
      (∀ (i : Nat),
      i < arg e 12 2 - 1 →
      (List.drop i
      (List.map (fun i => leNat (bufBytes fabricCommands6 (arg e 16 8 + 2 * i) 2))
      (upTo 0 (arg e 12 2)))).headD
      0 <
      (List.drop (i + 1)
      (List.map (fun i => leNat (bufBytes fabricCommands6 (arg e 16 8 + 2 * i) 2))
      (upTo 0 (arg e 12 2)))).headD
      0) ∧
      ¬65535 ∈
      List.map (fun i => leNat (bufBytes fabricCommands6 (arg e 16 8 + 2 * i) 2))
      (upTo 0 (arg e 12 2)) ∧
      fabricCommands6.fab.id ∈
      List.map (fun i => leNat (bufBytes fabricCommands6 (arg e 16 8 + 2 * i) 2))
      (upTo 0 (arg e 12 2)) ∧
      arg e 8 4 ≤ fabricCommands6.members.epoch))
      (fabricCommands6.ring 3).cur =
      true) ∧
    (fabricCommands5.surv.plan = none) ∧
    (fabricCommands5.members.ids ≠ []) ∧
    (Option.any
      (fun e =>
      decide
      (cmdReady 3 1025 [(8, 4), (12, 2), (16, 8), (24, 8)] e fabricCommands5 ∧
      1 ≤ arg e 12 2 ∧
      arg e 12 2 ≤ 4096 ∧
      bufGood (arg e 16 8) (2 * arg e 12 2) fabricCommands5 ∧
      (∀ (i : Nat),
      i < arg e 12 2 - 1 →
      (List.drop i
      (List.map (fun i => leNat (bufBytes fabricCommands5 (arg e 16 8 + 2 * i) 2))
      (upTo 0 (arg e 12 2)))).headD
      0 <
      (List.drop (i + 1)
      (List.map (fun i => leNat (bufBytes fabricCommands5 (arg e 16 8 + 2 * i) 2))
      (upTo 0 (arg e 12 2)))).headD
      0) ∧
      ¬65535 ∈
      List.map (fun i => leNat (bufBytes fabricCommands5 (arg e 16 8 + 2 * i) 2))
      (upTo 0 (arg e 12 2)) ∧
      fabricCommands5.fab.id ∈
      List.map (fun i => leNat (bufBytes fabricCommands5 (arg e 16 8 + 2 * i) 2))
      (upTo 0 (arg e 12 2)) ∧
      fabricCommands5.members.epoch < arg e 8 4 ∧ fabricCommands5.train.step < arg e 24 8))
      (fabricCommands5.ring 3).cur =
      true) ∧
    (fabricCommands4.surv.plan = none) ∧
    (Option.any
      (fun e =>
      decide
      (cmdReady 3 1025 [(8, 4), (12, 2), (16, 8), (24, 8)] e fabricCommands4 ∧
      1 ≤ arg e 12 2 ∧
      arg e 12 2 ≤ 4096 ∧
      bufGood (arg e 16 8) (2 * arg e 12 2) fabricCommands4 ∧
      (∀ (i : Nat),
      i < arg e 12 2 - 1 →
      (List.drop i
      (List.map (fun i => leNat (bufBytes fabricCommands4 (arg e 16 8 + 2 * i) 2))
      (upTo 0 (arg e 12 2)))).headD
      0 <
      (List.drop (i + 1)
      (List.map (fun i => leNat (bufBytes fabricCommands4 (arg e 16 8 + 2 * i) 2))
      (upTo 0 (arg e 12 2)))).headD
      0) ∧
      ¬65535 ∈
      List.map (fun i => leNat (bufBytes fabricCommands4 (arg e 16 8 + 2 * i) 2))
      (upTo 0 (arg e 12 2)) ∧
      fabricCommands4.fab.id ∈
      List.map (fun i => leNat (bufBytes fabricCommands4 (arg e 16 8 + 2 * i) 2))
      (upTo 0 (arg e 12 2)) ∧
      fabricCommands4.members.epoch < arg e 8 4 ∧
      (fabricCommands4.members.ids = [] ∨ arg e 24 8 ≤ fabricCommands4.train.step)))
      (fabricCommands4.ring 3).cur =
      true) ∧
    (fabricCommands9.fab.id = 65535) ∧
    (Option.any
      (fun e =>
      decide
      (cmdReady 3 1026 [(8, 2), (10, 1)] e fabricCommands9 ∧
      arg e 10 1 ≤ 1 ∧ arg e 8 2 ≠ 65535 ∧ arg e 8 2 ≠ fabricCommands9.fab.id))
      (fabricCommands9.ring 3).cur =
      true) ∧
    (fabricCommands10.fab.id ≠ 65535) ∧
    (fabricCommands10.mbx.bg.length < 64) ∧
    (fabricCommands10.lnk 11 = 0 ∨ fabricCommands10.lnk 11 = 7) ∧
    (Option.any
      (fun e =>
      decide
      (cmdReady 3 1026 [(8, 2), (10, 1)] e fabricCommands10 ∧
      arg e 10 1 ≤ 1 ∧ arg e 8 2 ≠ 65535 ∧ arg e 8 2 ≠ fabricCommands10.fab.id))
      (fabricCommands10.ring 3).cur =
      true) ∧
    (fabricCommands12.fab.id ≠ 65535) ∧
    (fabricCommands12.mbx.bg.length < 64) ∧
    (fabricCommands12.lnk 11 = 8) ∧
    ((fabricCommands12.port 11).failed = some 5) ∧
    (Option.any
      (fun e =>
      decide
      (cmdReady 3 1026 [(8, 2), (10, 1)] e fabricCommands12 ∧
      arg e 10 1 ≤ 1 ∧ arg e 8 2 ≠ 65535 ∧ arg e 8 2 ≠ fabricCommands12.fab.id ∧ arg e 10 1 = 1))
      (fabricCommands12.ring 3).cur =
      true) ∧
    (fabricCommands11.fab.id ≠ 65535) ∧
    (fabricCommands11.mbx.bg.length < 64) ∧
    (fabricCommands11.lnk 11 ≠ 0) ∧
    (fabricCommands11.lnk 11 ≠ 7) ∧
    (fabricCommands11.lnk 11 ≠ 8) ∧
    (Option.any
      (fun e =>
      decide
      (cmdReady 3 1026 [(8, 2), (10, 1)] e fabricCommands11 ∧
      arg e 10 1 ≤ 1 ∧ arg e 8 2 ≠ 65535 ∧ arg e 8 2 ≠ fabricCommands11.fab.id))
      (fabricCommands11.ring 3).cur =
      true) ∧
    (Option.any
      (fun e => decide (cmdReady 3 1027 [(8, 2), (10, 2), (16, 8)] e fabricCommands16 ∧ 65536 < arg e 8 2 + arg e 10 2))
      (fabricCommands16.ring 3).cur =
      true) := by
  decide +kernel

theorem test_FabricCommandsAct_hypotheses_2 :
    (Option.any
      (fun e =>
      decide
      (cmdReady 3 1027 [(8, 2), (10, 2), (16, 8)] e fabricCommands15 ∧
      arg e 8 2 + arg e 10 2 ≤ 65536 ∧
      bufGood (arg e 16 8) (arg e 10 2) fabricCommands15 ∧
      ((bufBytes fabricCommands15 (arg e 16 8) (arg e 10 2)).any fun x => decide (15 < BitVec.toNat x)) =
      true))
      (fabricCommands15.ring 3).cur =
      true) ∧
    (Option.any
      (fun e =>
      decide
      (cmdReady 3 1027 [(8, 2), (10, 2), (16, 8)] e fabricCommands13 ∧
      arg e 8 2 + arg e 10 2 ≤ 65536 ∧
      bufGood (arg e 16 8) (arg e 10 2) fabricCommands13 ∧
      ((bufBytes fabricCommands13 (arg e 16 8) (arg e 10 2)).any fun x => decide (15 < BitVec.toNat x)) =
      false ∧
      0 < arg e 10 2))
      (fabricCommands13.ring 3).cur =
      true) ∧
    (Option.any
      (fun e =>
      decide
      (cmdReady 3 1027 [(8, 2), (10, 2), (16, 8)] e fabricCommands13 ∧
      arg e 8 2 + arg e 10 2 ≤ 65536 ∧
      bufGood (arg e 16 8) (arg e 10 2) fabricCommands13 ∧
      ((bufBytes fabricCommands13 (arg e 16 8) (arg e 10 2)).any fun x => decide (15 < BitVec.toNat x)) =
      false ∧
      (0 < arg e 8 2 ∨ arg e 8 2 + arg e 10 2 ≤ 0)))
      (fabricCommands13.ring 3).cur =
      true) ∧
    (Option.any
      (fun e =>
      decide
      (cmdReady 3 1028 [(8, 1), (9, 1), (16, 8), (24, 8)] e fabricCommands18 ∧
      arg e 8 1 < 16 ∧ arg e 9 1 ≤ 3 ∧ arg e 16 8 % 4096 ≠ 0))
      (fabricCommands18.ring 3).cur =
      true) ∧
    (Option.any
      (fun e =>
      decide
      (cmdReady 3 1028 [(8, 1), (9, 1), (16, 8), (24, 8)] e fabricCommands19 ∧
      arg e 8 1 < 16 ∧ arg e 9 1 ≤ 3 ∧ arg e 16 8 % 4096 = 0 ∧ arg e 24 8 < 2 ^ 52 ∧ 1352914698240 ≤ arg e 16 8))
      (fabricCommands19.ring 3).cur =
      true) ∧
    (Option.any
      (fun e =>
      decide
      (cmdReady 3 1028 [(8, 1), (9, 1), (16, 8), (24, 8)] e fabricCommands17 ∧
      arg e 8 1 < 16 ∧ arg e 9 1 ≤ 3 ∧ arg e 16 8 % 4096 = 0 ∧ arg e 24 8 < 2 ^ 52 ∧ arg e 16 8 < 1352914698240))
      (fabricCommands17.ring 3).cur =
      true) ∧
    (fabricCommands20.mbx.bg.length < 64) ∧
    (Option.any
      (fun e =>
      decide
      (cmdReady 3 1029 [(8, 1), (9, 1), (10, 1)] e fabricCommands20 ∧
      5 ≤ arg e 8 1 ∧
      arg e 8 1 ≤ 11 ∧
      arg e 9 1 = 0 ∧
      (fabricCommands20.lnk (arg e 8 1) = 0 ∨
      fabricCommands20.lnk (arg e 8 1) = 7 ∨ fabricCommands20.lnk (arg e 8 1) = 8)))
      (fabricCommands20.ring 3).cur =
      true) ∧
    (Option.any
      (fun e =>
      decide
      (cmdReady 3 1029 [(8, 1), (9, 1), (10, 1)] e fabricCommands21 ∧
      5 ≤ arg e 8 1 ∧
      arg e 8 1 ≤ 11 ∧
      (arg e 9 1 = 0 ∧
      fabricCommands21.lnk (arg e 8 1) ≠ 0 ∧
      fabricCommands21.lnk (arg e 8 1) ≠ 7 ∧ fabricCommands21.lnk (arg e 8 1) ≠ 8 ∨
      arg e 9 1 = 2 ∧ fabricCommands21.lnk (arg e 8 1) ≠ 5)))
      (fabricCommands21.ring 3).cur =
      true) ∧
    (Option.any
      (fun e =>
      decide
      (cmdReady 3 1029 [(8, 1), (9, 1), (10, 1)] e fabricCommands22 ∧
      5 ≤ arg e 8 1 ∧ arg e 8 1 ≤ 11 ∧ arg e 9 1 = 1 ∧ fabricCommands22.lnk (arg e 8 1) ≠ 7))
      (fabricCommands22.ring 3).cur =
      true) ∧
    (Option.any
      (fun e =>
      decide
      (cmdReady 3 1029 [(8, 1), (9, 1), (10, 1)] e fabricCommands23 ∧
      5 ≤ arg e 8 1 ∧ arg e 8 1 ≤ 11 ∧ arg e 9 1 = 1 ∧ fabricCommands23.lnk (arg e 8 1) = 7))
      (fabricCommands23.ring 3).cur =
      true) ∧
    (fabricCommands24.mbx.bg.length < 64) ∧
    (Option.any
      (fun e =>
      decide
      (cmdReady 3 1029 [(8, 1), (9, 1), (10, 1)] e fabricCommands24 ∧
      5 ≤ arg e 8 1 ∧ arg e 8 1 ≤ 11 ∧ arg e 9 1 = 2 ∧ fabricCommands24.lnk (arg e 8 1) = 5))
      (fabricCommands24.ring 3).cur =
      true) ∧
    (Option.any
      (fun e =>
      decide
      (cmdReady 3 1030 [(8, 2), (10, 1), (11, 1)] e fabricCommands26 ∧
      arg e 8 2 < 32768 ∧ arg e 10 1 < 16 ∧ arg e 11 1 ≤ 1))
      (fabricCommands26.ring 3).cur =
      true) ∧
    (Option.any
      (fun e =>
      decide
      (cmdReady 3 1031 [(8, 8), (16, 4)] e fabricCommands30 ∧
      bufGood (arg e 8 8) (40 * arg e 16 4) fabricCommands30 ∧
      ∃ i, i < arg e 16 4 ∧ ¬leNat (bufBytes fabricCommands30 (arg e 8 8 + 40 * i) 1) % 16 ∈ [1, 2, 4, 5]))
      (fabricCommands30.ring 3).cur =
      true) ∧
    (fabricCommands28.mbx.bg.length < 64) ∧
    (Option.any
      (fun e =>
      decide
      (cmdReady 3 1031 [(8, 8), (16, 4)] e fabricCommands28 ∧
      bufGood (arg e 8 8) (40 * arg e 16 4) fabricCommands28 ∧
      (∀ (i : Nat),
      i < arg e 16 4 → leNat (bufBytes fabricCommands28 (arg e 8 8 + 40 * i) 1) % 16 ∈ [1, 2, 4, 5]) ∧
      0 < arg e 16 4))
      (fabricCommands28.ring 3).cur =
      true) ∧
    (fabricCommands28.fab.id = 65535) ∧
    (Option.any
      (fun e =>
      decide
      (cmdReady 3 1031 [(8, 8), (16, 4)] e fabricCommands28 ∧
      bufGood (arg e 8 8) (40 * arg e 16 4) fabricCommands28 ∧
      ∀ (i : Nat),
      i < arg e 16 4 → leNat (bufBytes fabricCommands28 (arg e 8 8 + 40 * i) 1) % 16 ∈ [1, 2, 4, 5]))
      (fabricCommands28.ring 3).cur =
      true) ∧
    (Option.any
      (fun e =>
      decide
      (cmdReady 3 1032 [(8, 1), (9, 1), (10, 1)] e fabricCommands32 ∧
      5 ≤ arg e 8 1 ∧
      arg e 8 1 ≤ 11 ∧
      arg e 9 1 ≤ 2 ∧
      arg e 10 1 ≤ 1 ∧
      ((tget [] (fabricCommands32.port (arg e 8 1)).vc (arg e 9 1 * 2 + arg e 10 1)).all (fun y => y.msg.isSome) = true) ∧
      0 ≠ arg e 9 1 * 2 + arg e 10 1))
      (fabricCommands32.ring 3).cur =
      true) ∧
    (Option.any
      (fun e =>
      decide
      (cmdReady 3 1032 [(8, 1), (9, 1), (10, 1)] e fabricCommands32 ∧
      5 ≤ arg e 8 1 ∧
      arg e 8 1 ≤ 11 ∧
      arg e 9 1 ≤ 2 ∧
      arg e 10 1 ≤ 1 ∧
      ((tget [] (fabricCommands32.port (arg e 8 1)).vc (arg e 9 1 * 2 + arg e 10 1)).all (fun y => y.msg.isSome) = true) ∧
      0 ≠ arg e 8 1))
      (fabricCommands32.ring 3).cur =
      true) ∧
    (Sent.mk 3 6 0 0 0 false 0 0 none none ∈ fabricCommands32.fab.sent) ∧
    (Option.any
      (fun e =>
      decide
      (cmdReady 3 1032 [(8, 1), (9, 1), (10, 1)] e fabricCommands32 ∧
      5 ≤ arg e 8 1 ∧
      arg e 8 1 ≤ 11 ∧
      arg e 9 1 ≤ 2 ∧
      arg e 10 1 ≤ 1 ∧
      (tget [] (fabricCommands32.port (arg e 8 1)).vc (arg e 9 1 * 2 + arg e 10 1)).all (fun y => y.msg.isSome) = true))
      (fabricCommands32.ring 3).cur =
      true) ∧
    (fabricCommands31.fab.id ≠ 65535) ∧
    (Option.any
      (fun e =>
      decide
      (cmdReady 3 1032 [(8, 1), (9, 1), (10, 1)] e fabricCommands31 ∧
      5 ≤ arg e 8 1 ∧
      arg e 8 1 ≤ 11 ∧
      arg e 9 1 ≤ 2 ∧
      arg e 10 1 ≤ 1 ∧
      (tget [] (fabricCommands31.port (arg e 8 1)).vc (arg e 9 1 * 2 + arg e 10 1)).length = 1 ∧
      arg e 8 1 ≠ 11 ∧
      Option.any
      (fun y =>
      decide
      (y.msg = none ∧
      5 + fabricCommands31.route y.h.src.toNat % 8 < 11 ∧
      fabricCommands31.lnk (5 + fabricCommands31.route y.h.src.toNat % 8) ≠ 7))
      (tget [] (fabricCommands31.port (arg e 8 1)).vc (arg e 9 1 * 2 + arg e 10 1)).head? =
      true))
      (fabricCommands31.ring 3).cur =
      true) ∧
    (Option.any (fun e => decide (cmdReady 3 1033 [(8, 2)] e fabricCommands33 ∧ arg e 8 2 = 1))
      (fabricCommands33.ring 3).cur =
      true) ∧
    (Option.any
      (fun e =>
      decide
      (cmdReady 3 1034 [(8, 2), (16, 8), (24, 4)] e fabricCommands34 ∧
      (decide (arg e 8 2 < 16) && (fabricCommands34.levelMask fabricCommands34.firm.serve).testBit (arg e 8 2) &&
      (fabricCommands34.levelMask fabricCommands34.firm.stand).testBit (arg e 8 2)) =
      false))
      (fabricCommands34.ring 3).cur =
      true) ∧
    (Option.any
      (fun e =>
      decide
      (cmdReady 3 1034 [(8, 2), (16, 8), (24, 4)] e fabricCommands35 ∧
      (decide (arg e 8 2 < 16) && (fabricCommands35.levelMask fabricCommands35.firm.serve).testBit (arg e 8 2) &&
      (fabricCommands35.levelMask fabricCommands35.firm.stand).testBit (arg e 8 2)) =
      true ∧
      arg e 16 8 ≤ fabricCommands35.train.step))
      (fabricCommands35.ring 3).cur =
      true) ∧
    (Option.any
      (fun e =>
      decide
      (cmdReady 3 1034 [(8, 2), (16, 8), (24, 4)] e fabricCommands36 ∧
      (decide (arg e 8 2 < 16) && (fabricCommands36.levelMask fabricCommands36.firm.serve).testBit (arg e 8 2) &&
      (fabricCommands36.levelMask fabricCommands36.firm.stand).testBit (arg e 8 2)) =
      true ∧
      fabricCommands36.train.step < arg e 16 8 ∧ arg e 24 4 ≠ fabricCommands36.members.epoch))
      (fabricCommands36.ring 3).cur =
      true) ∧
    (Option.any
      (fun e =>
      decide
      (cmdReady 3 1034 [(8, 2), (16, 8), (24, 4)] e fabricCommands37 ∧
      (decide (arg e 8 2 < 16) && (fabricCommands37.levelMask fabricCommands37.firm.serve).testBit (arg e 8 2) &&
      (fabricCommands37.levelMask fabricCommands37.firm.stand).testBit (arg e 8 2)) =
      true ∧
      fabricCommands37.train.step < arg e 16 8 ∧ arg e 24 4 = fabricCommands37.members.epoch))
      (fabricCommands37.ring 3).cur =
      true) := by
  decide +kernel

theorem test_StepCommandsAct_hypotheses_1 :
    (stepCommands4.train.step = 7) ∧
    (Option.any
      (fun e =>
      decide
      (cmdReady 3 1280 [(8, 8), (16, 2), (24, 8)] e stepCommands4 ∧
      1 ≤ arg e 16 2 ∧
      arg e 16 2 ≤ 4096 ∧
      bufGood (arg e 8 8) (32 * arg e 16 2) stepCommands4 ∧
      ¬arg e 24 8 = 2 ^ 64 - 1 ∧
      (arg e 24 8 < 7 ∨ arg e 24 8 = 7 ∧ (stepCommands4.train.buckets.any fun x => x.closed) = true)))
      (stepCommands4.ring 3).cur =
      true) ∧
    (stepCommands21.train.step = 7) ∧
    (Option.any
      (fun e =>
      decide
      (cmdReady 3 1280 [(8, 8), (16, 2), (24, 8)] e stepCommands21 ∧
      1 ≤ arg e 16 2 ∧
      arg e 16 2 ≤ 4096 ∧
      bufGood (arg e 8 8) (32 * arg e 16 2) stepCommands21 ∧
      (arg e 24 8 = 2 ^ 64 - 1 ∨
      7 < arg e 24 8 ∨ arg e 24 8 = 7 ∧ (stepCommands21.train.buckets.any fun x => x.closed) = false) ∧
      (∃ i,
      i < arg e 16 2 ∧
      (bitsOf (leNat (bufBytes stepCommands21 (arg e 8 8 + 32 * i) 32)) 0 52 % 2097152 ≠ 0 ∨
      bitsOf (leNat (bufBytes stepCommands21 (arg e 8 8 + 32 * i) 32)) 192 52 % 2097152 ≠ 0 ∨
      bitsOf (leNat (bufBytes stepCommands21 (arg e 8 8 + 32 * i) 32)) 53 11 ≠ 0 ∨
      bitsOf (leNat (bufBytes stepCommands21 (arg e 8 8 + 32 * i) 32)) 105 7 ≠ 0 ∨
      bitsOf (leNat (bufBytes stepCommands21 (arg e 8 8 + 32 * i) 32)) 244 12 ≠ 0 ∨
      bitsOf (leNat (bufBytes stepCommands21 (arg e 8 8 + 32 * i) 32)) 64 32 % 256 ≠ 0 ∨
      (bitsOf (leNat (bufBytes stepCommands21 (arg e 8 8 + 32 * i) 32)) 64 32 *
      if
      (leNat (bufBytes stepCommands21 (arg e 8 8 + 32 * i) 32)).testBit 52 =
      true then
      12
      else 4) <
      16777216 ∨
      (268435456 <
      bitsOf (leNat (bufBytes stepCommands21 (arg e 8 8 + 32 * i) 32)) 64 32 *
      if
      (leNat (bufBytes stepCommands21 (arg e 8 8 + 32 * i) 32)).testBit 52 =
      true then
      12
      else 4) ∨
      bitsOf (leNat (bufBytes stepCommands21 (arg e 8 8 + 32 * i) 32)) 112 16 = 0 ∨
      bitsOf (leNat (bufBytes stepCommands21 (arg e 8 8 + 32 * i) 32)) 102 3 ≠
      4)) ∧
      arg e 24 8 = 7))
      (stepCommands21.ring 3).cur =
      true) ∧
    (stepCommands1.train.step = 7) ∧
    (stepCommands1.heldSteps = []) ∧
    (Option.any
      (fun e =>
      decide
      (cmdReady 3 1280 [(8, 8), (16, 2), (24, 8)] e stepCommands1 ∧
      1 ≤ arg e 16 2 ∧
      arg e 16 2 ≤ 4096 ∧
      bufGood (arg e 8 8) (32 * arg e 16 2) stepCommands1 ∧
      (arg e 24 8 = 2 ^ 64 - 1 ∨
      7 < arg e 24 8 ∨ arg e 24 8 = 7 ∧ (stepCommands1.train.buckets.any fun x => x.closed) = false) ∧
      (∀ (i : Nat),
      i < arg e 16 2 →
      (stepCommands1.bucketOf (leNat (bufBytes stepCommands1 (arg e 8 8 + 32 * i) 32))).isSome =
      true) ∧
      0 ≠ arg e 24 8))
      (stepCommands1.ring 3).cur =
      true) ∧
    (Option.any
      (fun e =>
      decide
      (cmdReady 3 1280 [(8, 8), (16, 2), (24, 8)] e stepCommands1 ∧
      1 ≤ arg e 16 2 ∧
      arg e 16 2 ≤ 4096 ∧
      bufGood (arg e 8 8) (32 * arg e 16 2) stepCommands1 ∧
      (arg e 24 8 = 2 ^ 64 - 1 ∨
      7 < arg e 24 8 ∨ arg e 24 8 = 7 ∧ (stepCommands1.train.buckets.any fun x => x.closed) = false) ∧
      ∀ (i : Nat),
      i < arg e 16 2 →
      (stepCommands1.bucketOf (leNat (bufBytes stepCommands1 (arg e 8 8 + 32 * i) 32))).isSome =
      true))
      (stepCommands1.ring 3).cur =
      true) ∧
    (stepCommands22.train.step = 7) ∧
    (stepCommands22.heldSteps = []) ∧
    (stepCommands22.train.buckets ≠ []) ∧
    (Option.any
      (fun e =>
      decide
      (cmdReady 3 1280 [(8, 8), (16, 2), (24, 8)] e stepCommands22 ∧
      1 ≤ arg e 16 2 ∧
      arg e 16 2 ≤ 4096 ∧
      bufGood (arg e 8 8) (32 * arg e 16 2) stepCommands22 ∧
      (arg e 24 8 = 2 ^ 64 - 1 ∨
      7 < arg e 24 8 ∨ arg e 24 8 = 7 ∧ (stepCommands22.train.buckets.any fun x => x.closed) = false) ∧
      (∀ (i : Nat),
      i < arg e 16 2 →
      (stepCommands22.bucketOf (leNat (bufBytes stepCommands22 (arg e 8 8 + 32 * i) 32))).isSome =
      true) ∧
      arg e 24 8 ≠ 7))
      (stepCommands22.ring 3).cur =
      true) ∧
    (Option.any
      (fun e =>
      decide
      (cmdReady 3 1280 [(8, 8), (16, 2), (24, 8)] e stepCommands1 ∧
      1 ≤ arg e 16 2 ∧
      arg e 16 2 ≤ 4096 ∧
      bufGood (arg e 8 8) (32 * arg e 16 2) stepCommands1 ∧
      (arg e 24 8 = 2 ^ 64 - 1 ∨
      7 < arg e 24 8 ∨ arg e 24 8 = 7 ∧ (stepCommands1.train.buckets.any fun x => x.closed) = false) ∧
      (∀ (i : Nat),
      i < arg e 16 2 →
      (stepCommands1.bucketOf (leNat (bufBytes stepCommands1 (arg e 8 8 + 32 * i) 32))).isSome =
      true) ∧
      arg e 24 8 = 7))
      (stepCommands1.ring 3).cur =
      true) ∧
    (stepCommands7.train.step = 7) ∧
    (Option.any (fun e => decide (cmdReady 3 1281 [(8, 8), (16, 4), (24, 8), (32, 4)] e stepCommands7 ∧ arg e 8 8 < 7))
      (stepCommands7.ring 3).cur =
      true) ∧
    (stepCommands6.train.step = 7) ∧
    (Option.any
      (fun e =>
      decide
      (cmdReady 3 1281 [(8, 8), (16, 4), (24, 8), (32, 4)] e stepCommands6 ∧
      7 ≤ arg e 8 8 ∧ bufGood (arg e 24 8) (arg e 32 4) stepCommands6 ∧ 0 ≠ arg e 8 8))
      (stepCommands6.ring 3).cur =
      true) ∧
    (stepCommands8.train.step = 7) ∧
    (Option.any (fun e => decide (cmdReady 3 1282 [(8, 8), (16, 4)] e stepCommands8 ∧ arg e 8 8 < 7))
      (stepCommands8.ring 3).cur =
      true) ∧
    (stepCommands10.train.step = 7) ∧
    (Option.any
      (fun e =>
      decide
      (cmdReady 3 1282 [(8, 8), (16, 4)] e stepCommands10 ∧
      7 ≤ arg e 8 8 ∧ (arg e 8 8, arg e 16 4) ∈ stepCommands10.train.drops))
      (stepCommands10.ring 3).cur =
      true) ∧
    (stepCommands9.train.step = 7) ∧
    (Option.any
      (fun e =>
      decide
      (cmdReady 3 1282 [(8, 8), (16, 4)] e stepCommands9 ∧
      7 ≤ arg e 8 8 ∧ ¬(arg e 8 8, arg e 16 4) ∈ stepCommands9.train.drops))
      (stepCommands9.ring 3).cur =
      true) ∧
    (stepCommands12.train.step = 7) ∧
    (Option.any
      (fun e =>
      decide
      (cmdReady 3 1283 [(8, 8), (16, 4)] e stepCommands12 ∧
      bufGood (arg e 8 8) (64 + 64 * arg e 16 4) stepCommands12 ∧
      (bitsOf (leNat (List.take 64 (bufBytes stepCommands12 (arg e 8 8) (64 + 64 * arg e 16 4)))) 0 52 %
      2097152 ≠
      0 ∨
      bitsOf (leNat (List.take 64 (bufBytes stepCommands12 (arg e 8 8) (64 + 64 * arg e 16 4)))) 64 64 %
      4194304 ≠
      0 ∨
      bitsOf (leNat (List.take 64 (bufBytes stepCommands12 (arg e 8 8) (64 + 64 * arg e 16 4)))) 256 256 ≠
      0 ∨
      policyOk (bufBytes stepCommands12 (arg e 8 8) (64 + 64 * arg e 16 4)) (arg e 16 4) = false)))
      (stepCommands12.ring 3).cur =
      true) ∧
    (stepCommands11.train.step = 7) ∧
    (Option.any
      (fun e =>
      decide
      (cmdReady 3 1283 [(8, 8), (16, 4)] e stepCommands11 ∧
      bufGood (arg e 8 8) (64 + 64 * arg e 16 4) stepCommands11 ∧
      policyOk (bufBytes stepCommands11 (arg e 8 8) (64 + 64 * arg e 16 4)) (arg e 16 4) = true))
      (stepCommands11.ring 3).cur =
      true) ∧
    (stepCommands13.train.step = 7) ∧
    (stepCommands13.mbx.bg.length < 64) ∧
    (Option.any
      (fun e =>
      decide
      (cmdReady 3 1284 [(8, 4), (16, 8), (24, 4)] e stepCommands13 ∧
      bufGood (arg e 16 8) (arg e 24 4) stepCommands13 ∧
      stepCommands13.replayOk (bufBytes stepCommands13 (arg e 16 8) (arg e 24 4)) = false ∧ 0 ≠ arg e 8 4))
      (stepCommands13.ring 3).cur =
      true) ∧
    (stepCommands23.train.step = 7) ∧
    (stepCommands23.mbx.bg.length < 64) ∧
    (Option.any
      (fun e =>
      decide
      (cmdReady 3 1284 [(8, 4), (16, 8), (24, 4)] e stepCommands23 ∧
      bufGood (arg e 16 8) (arg e 24 4) stepCommands23 ∧
      stepCommands23.replayOk (bufBytes stepCommands23 (arg e 16 8) (arg e 24 4)) = true ∧ 0 ≠ arg e 8 4))
      (stepCommands23.ring 3).cur =
      true) := by
  decide +kernel

theorem test_StepCommandsAct_hypotheses_2 :
    ((taking 1285 [(8, 1, 31)] atStep7).train.step = 7) ∧
    (Option.any (fun e => decide (cmdReady 3 1285 [(8, 1)] e (taking 1285 [(8, 1, 31)] atStep7) ∧ 30 < arg e 8 1))
      ((taking 1285 [(8, 1, 31)] atStep7).ring 3).cur =
      true) ∧
    ((taking 1285 [(8, 1, 30)] atStep7).train.step = 7) ∧
    (Option.any (fun e => decide (cmdReady 3 1285 [(8, 1)] e (taking 1285 [(8, 1, 30)] atStep7) ∧ arg e 8 1 ≤ 30))
      ((taking 1285 [(8, 1, 30)] atStep7).ring 3).cur =
      true) ∧
    (stepCommands14.train.step = 7) ∧
    (∃ x, x ∈ stepCommands14.mbx.bg ∧ x.opcode = 1286) ∧
    (Option.any (fun e => decide (cmdReady 3 1286 [] e stepCommands14)) (stepCommands14.ring 3).cur = true) ∧
    ((taking 1286 [] atStep7).train.step = 7) ∧
    (∀ (x : Bg), x ∈ (taking 1286 [] atStep7).mbx.bg → x.opcode ≠ 1286) ∧
    ((taking 1286 [] atStep7).mbx.bg.length < 64) ∧
    (Option.any (fun e => decide (cmdReady 3 1286 [] e (taking 1286 [] atStep7))) ((taking 1286 [] atStep7).ring 3).cur = true) ∧
    ((taking 1287 [(8, 8, 7)] atStep7).train.step = 7) ∧
    (Option.any
      (fun e =>
      decide
      (cmdReady 3 1287 [(8, 8)] e (taking 1287 [(8, 8, 7)] atStep7) ∧
      ∀ (r : Nat × Nat), r ∈ (taking 1287 [(8, 8, 7)] atStep7).train.retained → r.fst ≠ arg e 8 8))
      ((taking 1287 [(8, 8, 7)] atStep7).ring 3).cur =
      true) ∧
    (stepCommands16.train.step = 7) ∧
    (stepCommands16.mbx.bg.length < 64) ∧
    (Option.any
      (fun e =>
      decide
      (cmdReady 3 1287 [(8, 8)] e stepCommands16 ∧
      (∃ r, r ∈ stepCommands16.train.retained ∧ r.fst = arg e 8 8) ∧ arg e 8 8 ≠ 7))
      (stepCommands16.ring 3).cur =
      true) ∧
    (stepCommands15.train.step = 7) ∧
    (stepCommands15.mbx.bg.length < 64) ∧
    (Option.any
      (fun e =>
      decide
      (cmdReady 3 1287 [(8, 8)] e stepCommands15 ∧
      (∃ r, r ∈ stepCommands15.train.retained ∧ r.fst = arg e 8 8) ∧ arg e 8 8 = 7))
      (stepCommands15.ring 3).cur =
      true) ∧
    (stepCommands20.train.step = 7) ∧
    (∃ x, x ∈ stepCommands20.mbx.bg ∧ x.opcode = 1288) ∧
    (Option.any (fun e => decide (cmdReady 3 1288 [(8, 8), (16, 4)] e stepCommands20)) (stepCommands20.ring 3).cur = true) ∧
    (stepCommands17.train.step = 7) ∧
    (∀ (x : Bg), x ∈ stepCommands17.mbx.bg → x.opcode ≠ 1288) ∧
    (Option.any
      (fun e =>
      decide
      (cmdReady 3 1288 [(8, 8), (16, 4)] e stepCommands17 ∧
      bufGood (arg e 8 8) (arg e 16 4) stepCommands17 ∧
      (arg e 16 4 < 32 ∨
      arg e 16 4 ≠
      32 + 32 * leNat (List.take 4 (List.drop 4 (bufBytes stepCommands17 (arg e 8 8) (arg e 16 4)))) ∨
      leNat (List.take 16 (List.drop 16 (bufBytes stepCommands17 (arg e 8 8) (arg e 16 4)))) ≠ 0 ∨
      leNat (List.take 4 (bufBytes stepCommands17 (arg e 8 8) (arg e 16 4))) ≤
      stepCommands17.members.epoch)))
      (stepCommands17.ring 3).cur =
      true) ∧
    (stepCommands19.train.step = 7) ∧
    (∀ (x : Bg), x ∈ stepCommands19.mbx.bg → x.opcode ≠ 1288) ∧
    (Option.any
      (fun e =>
      decide
      (cmdReady 3 1288 [(8, 8), (16, 4)] e stepCommands19 ∧
      bufGood (arg e 8 8) (arg e 16 4) stepCommands19 ∧
      stepCommands19.planOk (bufBytes stepCommands19 (arg e 8 8) (arg e 16 4)) (arg e 16 4) = true ∧
      leNat (List.take 8 (List.drop 8 (bufBytes stepCommands19 (arg e 8 8) (arg e 16 4)))) ≤ 7))
      (stepCommands19.ring 3).cur =
      true) ∧
    (stepCommands18.train.step = 7) ∧
    (∀ (x : Bg), x ∈ stepCommands18.mbx.bg → x.opcode ≠ 1288) ∧
    (stepCommands18.mbx.bg.length < 64) ∧
    (Option.any
      (fun e =>
      decide
      (cmdReady 3 1288 [(8, 8), (16, 4)] e stepCommands18 ∧
      bufGood (arg e 8 8) (arg e 16 4) stepCommands18 ∧
      stepCommands18.planOk (bufBytes stepCommands18 (arg e 8 8) (arg e 16 4)) (arg e 16 4) = true ∧
      7 < leNat (List.take 8 (List.drop 8 (bufBytes stepCommands18 (arg e 8 8) (arg e 16 4))))))
      (stepCommands18.ring 3).cur =
      true) := by
  decide +kernel

theorem test_FirmwareCommandsAct_hypotheses :
    (Option.any
      (fun e =>
      decide
      (cmdReady 3 1536 [(8, 1), (12, 4), (16, 8), (24, 4)] e firmwareCommands4 ∧
      arg e 8 1 ≤ 1 ∧ 1048576 < arg e 24 4))
      (firmwareCommands4.ring 3).cur =
      true) ∧
    (Option.any
      (fun e =>
      decide
      (cmdReady 3 1536 [(8, 1), (12, 4), (16, 8), (24, 4)] e firmwareCommands5 ∧
      arg e 8 1 ≤ 1 ∧ arg e 24 4 ≤ 1048576 ∧ 33554432 < arg e 12 4 + arg e 24 4))
      (firmwareCommands5.ring 3).cur =
      true) ∧
    (firmwareCommands3.mode ≠ 4) ∧
    (Option.any
      (fun e =>
      decide
      (cmdReady 3 1536 [(8, 1), (12, 4), (16, 8), (24, 4)] e firmwareCommands3 ∧
      arg e 8 1 ≤ 1 ∧
      arg e 24 4 ≤ 1048576 ∧ arg e 12 4 + arg e 24 4 ≤ 33554432 ∧ firmwareCommands3.firm.serve = arg e 8 1))
      (firmwareCommands3.ring 3).cur =
      true) ∧
    (firmwareCommands2.mbx.bg.length < 64) ∧
    (Option.any
      (fun e =>
      decide
      (cmdReady 3 1536 [(8, 1), (12, 4), (16, 8), (24, 4)] e firmwareCommands2 ∧
      arg e 8 1 ≤ 1 ∧
      arg e 24 4 ≤ 1048576 ∧
      arg e 12 4 + arg e 24 4 ≤ 33554432 ∧
      (firmwareCommands2.mode = 4 ∨ firmwareCommands2.firm.serve ≠ arg e 8 1) ∧
      bufGood (arg e 16 8) (arg e 24 4) firmwareCommands2 ∧
      (0 < arg e 12 4 ∨ arg e 12 4 + arg e 24 4 ≤ 0)))
      (firmwareCommands2.ring 3).cur =
      true) ∧
    (Option.any
      (fun e =>
      decide
      (cmdReady 3 1536 [(8, 1), (12, 4), (16, 8), (24, 4)] e firmwareCommands2 ∧
      arg e 8 1 ≤ 1 ∧
      arg e 24 4 ≤ 1048576 ∧
      arg e 12 4 + arg e 24 4 ≤ 33554432 ∧
      (firmwareCommands2.mode = 4 ∨ firmwareCommands2.firm.serve ≠ arg e 8 1) ∧
      bufGood (arg e 16 8) (arg e 24 4) firmwareCommands2))
      (firmwareCommands2.ring 3).cur =
      true) ∧
    (firmwareCommands6.mbx.bg.length < 64) ∧
    (Option.any
      (fun e =>
      decide
      (cmdReady 3 1537 [(8, 1)] e firmwareCommands6 ∧
      arg e 8 1 ≤ 1 ∧
      (firmwareCommands6.slotField (arg e 8 1) 0 4 ≠ 1464224853 ∨
      firmwareCommands6.slotField (arg e 8 1) 4 2 ≠ 1 ∨ firmwareCommands6.slotField (arg e 8 1) 16 4 = 0)))
      (firmwareCommands6.ring 3).cur =
      true) ∧
    (Option.any (fun e => decide (cmdReady 3 1537 [(8, 1)] e firmwareCommands6 ∧ arg e 8 1 ≤ 1))
      (firmwareCommands6.ring 3).cur =
      true) ∧
    (firmwareCommands9.firm.act ≠ none) ∧
    (Option.any (fun e => decide (cmdReady 3 1538 [(8, 1), (12, 4)] e firmwareCommands9 ∧ arg e 8 1 ≤ 1))
      (firmwareCommands9.ring 3).cur =
      true) ∧
    (firmwareCommands7.firm.act = none) ∧
    (Option.any
      (fun e =>
      decide
      (cmdReady 3 1538 [(8, 1), (12, 4)] e firmwareCommands7 ∧
      arg e 8 1 ≤ 1 ∧
      (¬arg e 8 1 ∈ firmwareCommands7.firm.verified ∨
      firmwareCommands7.fld (reg0 .PCI_MBX_GLOBAL 0) F.PCI_MBX_GLOBAL_standby_ready = 0)))
      (firmwareCommands7.ring 3).cur =
      true) ∧
    (firmwareCommands8.firm.act = none) ∧
    (firmwareCommands8.fld (reg0 .PCI_MBX_GLOBAL 0) F.PCI_MBX_GLOBAL_standby_ready = 1) ∧
    (firmwareCommands8.mbx.bg.length < 64) ∧
    (Option.any
      (fun e =>
      decide
      (cmdReady 3 1538 [(8, 1), (12, 4)] e firmwareCommands8 ∧
      arg e 8 1 ≤ 1 ∧ arg e 8 1 ∈ firmwareCommands8.firm.verified))
      (firmwareCommands8.ring 3).cur =
      true) ∧
    (Option.any
      (fun e =>
      decide
      (cmdReady 3 1539 [(8, 1)] e (taking 1539 [(8, 1, 1)] linked) ∧
      arg e 8 1 ≤ 1 ∧ ¬arg e 8 1 ∈ (taking 1539 [(8, 1, 1)] linked).firm.verified))
      ((taking 1539 [(8, 1, 1)] linked).ring 3).cur =
      true) ∧
    (firmwareCommands10.firm.inUse = 0) ∧
    (Option.any
      (fun e =>
      decide
      (cmdReady 3 1539 [(8, 1)] e firmwareCommands10 ∧
      arg e 8 1 ≤ 1 ∧ arg e 8 1 ∈ firmwareCommands10.firm.verified))
      (firmwareCommands10.ring 3).cur =
      true) ∧
    (firmwareCommands11.firm.inUse ≠ 0) ∧
    (Option.any
      (fun e =>
      decide
      (cmdReady 3 1539 [(8, 1)] e firmwareCommands11 ∧
      arg e 8 1 ≤ 1 ∧ arg e 8 1 ∈ firmwareCommands11.firm.verified))
      (firmwareCommands11.ring 3).cur =
      true) ∧
    (Option.any
      (fun e =>
      decide
      (cmdReady 3 1540 [(8, 1)] e (taking 1540 [(8, 1, 65)] linked) ∧
      (64 < arg e 8 1 ∨
      (taking 1540 [(8, 1, 65)] linked).slotField (taking 1540 [(8, 1, 65)] linked).firm.serve 6 2 < arg e 8 1)))
      ((taking 1540 [(8, 1, 65)] linked).ring 3).cur =
      true) ∧
    (Option.any
      (fun e =>
      decide
      (cmdReady 3 1540 [(8, 1)] e firmwareCommands12 ∧
      arg e 8 1 ≤ 64 ∧
      arg e 8 1 ≤ firmwareCommands12.slotField firmwareCommands12.firm.serve 6 2 ∧
      firmwareCommands12.slotField 1 6 2 < arg e 8 1))
      (firmwareCommands12.ring 3).cur =
      true) ∧
    (Option.any
      (fun e =>
      decide (cmdReady 3 1541 [(8, 32), (40, 4), (48, 8), (56, 4)] e (taking 1541 [(40, 4, 0)] linked) ∧ arg e 40 4 = 0))
      ((taking 1541 [(40, 4, 0)] linked).ring 3).cur =
      true) ∧
    (Option.any
      (fun e =>
      decide
      (cmdReady 3 1541 [(8, 32), (40, 4), (48, 8), (56, 4)] e firmwareCommands14 ∧
      arg e 40 4 ≠ 0 ∧
      arg e 40 4 < 512 ∧
      arg e 56 4 <
      64 +
      48 *
      (List.flatMap (fun k => List.map (fun x => (k + 1, x)) (firmwareCommands14.measures (k + 1)))
      (List.filter (arg e 40 4).testBit (upTo 0 9))).length +
      3309))
      (firmwareCommands14.ring 3).cur =
      true) ∧
    (Option.any
      (fun e =>
      decide
      (cmdReady 3 1541 [(8, 32), (40, 4), (48, 8), (56, 4)] e firmwareCommands15 ∧
      arg e 40 4 ≠ 0 ∧
      arg e 40 4 < 512 ∧
      64 +
      48 *
      (List.flatMap (fun k => List.map (fun x => (k + 1, x)) (firmwareCommands15.measures (k + 1)))
      (List.filter (arg e 40 4).testBit (upTo 0 9))).length +
      3309 ≤
      arg e 56 4 ∧
      bufGood (arg e 48 8)
      (64 +
      48 *
      (List.flatMap
      (fun k => List.map (fun x => (k + 1, x)) (firmwareCommands15.measures (k + 1)))
      (List.filter (arg e 40 4).testBit (upTo 0 9))).length +
      3309)
      firmwareCommands15 ∧
      0 <
      (List.flatMap (fun k => List.map (fun x => (k + 1, x)) (firmwareCommands15.measures (k + 1)))
      (List.filter (arg e 40 4).testBit (upTo 0 9))).length ∧
      (List.flatMap (fun k => List.map (fun x => (k + 1, x)) (firmwareCommands15.measures (k + 1)))
      (List.filter (arg e 40 4).testBit (upTo 0 9)))[0]?.isSome =
      true))
      (firmwareCommands15.ring 3).cur =
      true) ∧
    (Option.any
      (fun e =>
      decide
      (cmdReady 3 2564 [(8, 8)] e firmwareCommands16 ∧
      bufGood (arg e 8 8) (32 * firmwareCommands16.firm.bootLog.length) firmwareCommands16))
      (firmwareCommands16.ring 3).cur =
      true) ∧
    (Option.any (fun e => decide (cmdReady 3 2565 [] e firmwareCommands17)) (firmwareCommands17.ring 3).cur = true) ∧
    (Option.any
      (fun e =>
      decide
      (cmdReady 3 2566 [(8, 2), (10, 2), (16, 8)] e firmwareCommands18 ∧
      [(8, 1), (9, 1), (10, 1), (11, 1), (12, 2), (14, 2), (16, 2), (18, 2), (20, 1)].all (fun x => decide (x.fst ≠ arg e 8 2)) = true))
      (firmwareCommands18.ring 3).cur =
      true) ∧
    (firmwareCommands20.mbx.bg.length < 64) ∧
    (Option.any
      (fun e =>
      decide
      (cmdReady 3 2566 [(8, 2), (10, 2), (16, 8)] e firmwareCommands20 ∧
      (arg e 8 2, arg e 10 2) ∈ [(8, 1), (9, 1), (10, 1), (11, 1), (12, 2), (14, 2), (16, 2), (18, 2), (20, 1)] ∧
      bufGood (arg e 16 8) (arg e 10 2) firmwareCommands20 ∧
      ¬((arg e 8 2 = 8 →
      0 ≤ leNat (bufBytes firmwareCommands20 (arg e 16 8) (arg e 10 2)) ∧
      leNat (bufBytes firmwareCommands20 (arg e 16 8) (arg e 10 2)) ≤ 1) ∧
      (arg e 8 2 = 9 →
      1 ≤ leNat (bufBytes firmwareCommands20 (arg e 16 8) (arg e 10 2)) ∧
      leNat (bufBytes firmwareCommands20 (arg e 16 8) (arg e 10 2)) ≤ 15) ∧
      (arg e 8 2 = 10 →
      0 ≤ leNat (bufBytes firmwareCommands20 (arg e 16 8) (arg e 10 2)) ∧
      leNat (bufBytes firmwareCommands20 (arg e 16 8) (arg e 10 2)) ≤ 3) ∧
      (arg e 8 2 = 11 →
      0 ≤ leNat (bufBytes firmwareCommands20 (arg e 16 8) (arg e 10 2)) ∧
      leNat (bufBytes firmwareCommands20 (arg e 16 8) (arg e 10 2)) ≤ 1) ∧
      (arg e 8 2 = 12 →
      50 ≤ leNat (bufBytes firmwareCommands20 (arg e 16 8) (arg e 10 2)) ∧
      leNat (bufBytes firmwareCommands20 (arg e 16 8) (arg e 10 2)) ≤ 10000) ∧
      (arg e 8 2 = 14 →
      25 ≤ leNat (bufBytes firmwareCommands20 (arg e 16 8) (arg e 10 2)) ∧
      leNat (bufBytes firmwareCommands20 (arg e 16 8) (arg e 10 2)) ≤ 400) ∧
      (arg e 8 2 = 16 →
      5 ≤ leNat (bufBytes firmwareCommands20 (arg e 16 8) (arg e 10 2)) ∧
      leNat (bufBytes firmwareCommands20 (arg e 16 8) (arg e 10 2)) ≤ 100) ∧
      (arg e 8 2 = 18 →
      1000 ≤ leNat (bufBytes firmwareCommands20 (arg e 16 8) (arg e 10 2)) ∧
      leNat (bufBytes firmwareCommands20 (arg e 16 8) (arg e 10 2)) ≤ 3600) ∧
      (arg e 8 2 = 20 →
      0 ≤ leNat (bufBytes firmwareCommands20 (arg e 16 8) (arg e 10 2)) ∧
      leNat (bufBytes firmwareCommands20 (arg e 16 8) (arg e 10 2)) ≤ 6))))
      (firmwareCommands20.ring 3).cur =
      true) ∧
    (firmwareCommands19.mbx.bg.length < 64) ∧
    (firmwareCommands19.firm.inUse = 0) ∧
    (Option.any
      (fun e =>
      decide
      (cmdReady 3 2566 [(8, 2), (10, 2), (16, 8)] e firmwareCommands19 ∧
      (arg e 8 2, arg e 10 2) ∈ [(8, 1), (9, 1), (10, 1), (11, 1), (12, 2), (14, 2), (16, 2), (18, 2), (20, 1)] ∧
      bufGood (arg e 16 8) (arg e 10 2) firmwareCommands19 ∧
      (arg e 8 2 = 8 →
      0 ≤ leNat (bufBytes firmwareCommands19 (arg e 16 8) (arg e 10 2)) ∧
      leNat (bufBytes firmwareCommands19 (arg e 16 8) (arg e 10 2)) ≤ 1) ∧
      (arg e 8 2 = 9 →
      1 ≤ leNat (bufBytes firmwareCommands19 (arg e 16 8) (arg e 10 2)) ∧
      leNat (bufBytes firmwareCommands19 (arg e 16 8) (arg e 10 2)) ≤ 15) ∧
      (arg e 8 2 = 10 →
      0 ≤ leNat (bufBytes firmwareCommands19 (arg e 16 8) (arg e 10 2)) ∧
      leNat (bufBytes firmwareCommands19 (arg e 16 8) (arg e 10 2)) ≤ 3) ∧
      (arg e 8 2 = 11 →
      0 ≤ leNat (bufBytes firmwareCommands19 (arg e 16 8) (arg e 10 2)) ∧
      leNat (bufBytes firmwareCommands19 (arg e 16 8) (arg e 10 2)) ≤ 1) ∧
      (arg e 8 2 = 12 →
      50 ≤ leNat (bufBytes firmwareCommands19 (arg e 16 8) (arg e 10 2)) ∧
      leNat (bufBytes firmwareCommands19 (arg e 16 8) (arg e 10 2)) ≤ 10000) ∧
      (arg e 8 2 = 14 →
      25 ≤ leNat (bufBytes firmwareCommands19 (arg e 16 8) (arg e 10 2)) ∧
      leNat (bufBytes firmwareCommands19 (arg e 16 8) (arg e 10 2)) ≤ 400) ∧
      (arg e 8 2 = 16 →
      5 ≤ leNat (bufBytes firmwareCommands19 (arg e 16 8) (arg e 10 2)) ∧
      leNat (bufBytes firmwareCommands19 (arg e 16 8) (arg e 10 2)) ≤ 100) ∧
      (arg e 8 2 = 18 →
      1000 ≤ leNat (bufBytes firmwareCommands19 (arg e 16 8) (arg e 10 2)) ∧
      leNat (bufBytes firmwareCommands19 (arg e 16 8) (arg e 10 2)) ≤ 3600) ∧
      (arg e 8 2 = 20 →
      0 ≤ leNat (bufBytes firmwareCommands19 (arg e 16 8) (arg e 10 2)) ∧
      leNat (bufBytes firmwareCommands19 (arg e 16 8) (arg e 10 2)) ≤ 6)))
      (firmwareCommands19.ring 3).cur =
      true) ∧
    (firmwareCommands1.mbx.bg.length < 64) ∧
    (firmwareCommands1.firm.inUse ≠ 0) ∧
    (Option.any
      (fun e =>
      decide
      (cmdReady 3 2566 [(8, 2), (10, 2), (16, 8)] e firmwareCommands1 ∧
      (arg e 8 2, arg e 10 2) ∈ [(8, 1), (9, 1), (10, 1), (11, 1), (12, 2), (14, 2), (16, 2), (18, 2), (20, 1)] ∧
      bufGood (arg e 16 8) (arg e 10 2) firmwareCommands1 ∧
      (arg e 8 2 = 8 →
      0 ≤ leNat (bufBytes firmwareCommands1 (arg e 16 8) (arg e 10 2)) ∧
      leNat (bufBytes firmwareCommands1 (arg e 16 8) (arg e 10 2)) ≤ 1) ∧
      (arg e 8 2 = 9 →
      1 ≤ leNat (bufBytes firmwareCommands1 (arg e 16 8) (arg e 10 2)) ∧
      leNat (bufBytes firmwareCommands1 (arg e 16 8) (arg e 10 2)) ≤ 15) ∧
      (arg e 8 2 = 10 →
      0 ≤ leNat (bufBytes firmwareCommands1 (arg e 16 8) (arg e 10 2)) ∧
      leNat (bufBytes firmwareCommands1 (arg e 16 8) (arg e 10 2)) ≤ 3) ∧
      (arg e 8 2 = 11 →
      0 ≤ leNat (bufBytes firmwareCommands1 (arg e 16 8) (arg e 10 2)) ∧
      leNat (bufBytes firmwareCommands1 (arg e 16 8) (arg e 10 2)) ≤ 1) ∧
      (arg e 8 2 = 12 →
      50 ≤ leNat (bufBytes firmwareCommands1 (arg e 16 8) (arg e 10 2)) ∧
      leNat (bufBytes firmwareCommands1 (arg e 16 8) (arg e 10 2)) ≤ 10000) ∧
      (arg e 8 2 = 14 →
      25 ≤ leNat (bufBytes firmwareCommands1 (arg e 16 8) (arg e 10 2)) ∧
      leNat (bufBytes firmwareCommands1 (arg e 16 8) (arg e 10 2)) ≤ 400) ∧
      (arg e 8 2 = 16 →
      5 ≤ leNat (bufBytes firmwareCommands1 (arg e 16 8) (arg e 10 2)) ∧
      leNat (bufBytes firmwareCommands1 (arg e 16 8) (arg e 10 2)) ≤ 100) ∧
      (arg e 8 2 = 18 →
      1000 ≤ leNat (bufBytes firmwareCommands1 (arg e 16 8) (arg e 10 2)) ∧
      leNat (bufBytes firmwareCommands1 (arg e 16 8) (arg e 10 2)) ≤ 3600) ∧
      (arg e 8 2 = 20 →
      0 ≤ leNat (bufBytes firmwareCommands1 (arg e 16 8) (arg e 10 2)) ∧
      leNat (bufBytes firmwareCommands1 (arg e 16 8) (arg e 10 2)) ≤ 6)))
      (firmwareCommands1.ring 3).cur =
      true) ∧
    ((8, 1) ∈ [(8, 1), (9, 1), (10, 1), (11, 1), (12, 2), (14, 2), (16, 2), (18, 2), (20, 1)]) ∧
    (Option.any
      (fun e => decide (cmdReady 3 2567 [(8, 8)] e firmwareCommands21 ∧ bufGood (arg e 8 8) 4096 firmwareCommands21))
      (firmwareCommands21.ring 3).cur =
      true) ∧
    ((activating true false 0 5 linked).fld (reg0 .RST_STATUS 0) F.RST_STATUS_frost = 0) ∧
    ((activating true false 0 5 linked).mode = 1) ∧
    ((activating true false 0 5 linked).quiescent = true) ∧
    (Option.any (fun a => decide (a.loaded = true ∧ a.moved = false)) (activating true false 0 5 linked).firm.act = true) ∧
    (firmwareCommands22.fld (reg0 .RST_STATUS 0) F.RST_STATUS_frost = 0) ∧
    (firmwareCommands22.mode = 1) ∧
    (firmwareCommands22.quiescent = false) ∧
    (Option.any (fun a => decide (a.loaded = true ∧ a.moved = false ∧ a.limit ≤ a.tests + 1)) firmwareCommands22.firm.act =
      true) ∧
    (firmwareCommands23.fld (reg0 .RST_STATUS 0) F.RST_STATUS_frost = 0) ∧
    (firmwareCommands23.mode = 1) ∧
    (firmwareCommands23.quiescent = false) ∧
    (Option.any (fun a => decide (a.loaded = true ∧ a.moved = false ∧ a.tests + 1 < a.limit)) firmwareCommands23.firm.act =
      true) ∧
    ((activating true true 0 5 linked).fld (reg0 .RST_STATUS 0) F.RST_STATUS_frost = 0) ∧
    (Option.any (fun a => decide (a.moved = true)) (activating true true 0 5 linked).firm.act = true) ∧
    (firmwareCommands9.fld (reg0 .RST_STATUS 0) F.RST_STATUS_frost = 0) ∧
    (Option.any (fun a => decide (a.moved = false ∧ a.loaded = false ∧ firmwareCommands9.verifyImage a.slot ≠ 0))
      firmwareCommands9.firm.act =
      true) := by
  decide +kernel

theorem test_TelemetryAndResetCommandsAct_hypotheses_1 :
    (Option.any (fun e => decide (cmdReady 3 1792 [(8, 2), (16, 8)] e (taking 1792 [(8, 2, 5)] linked) ∧ 4 < arg e 8 2))
      ((taking 1792 [(8, 2, 5)] linked).ring 3).cur =
      true) ∧
    (Option.any
      (fun e =>
      decide
      (cmdReady 3 1792 [(8, 2), (16, 8)] e telemetryAnd1 ∧
      arg e 8 2 ≤ 4 ∧ bufGood (arg e 16 8) (8 * (telemetrySet (arg e 8 2)).length) telemetryAnd1))
      (telemetryAnd1.ring 3).cur =
      true) ∧
    ((Ctr.mk (reg0 .LNK_ERR 6) F.LNK_ERR_replays).reg.name ≠ .PWR_STATUS) ∧
    ((Ctr.mk (reg0 .LNK_ERR 6) F.LNK_ERR_replays).reg.name ≠ .PWR_TEMP) ∧
    (Option.any
      (fun e =>
      decide
      (cmdReady 3 1793 [(8, 2)] e telemetryAnd4 ∧
      arg e 8 2 ≤ 4 ∧ Ctr.mk (reg0 .LNK_ERR 6) F.LNK_ERR_replays ∈ telemetrySet (arg e 8 2)))
      (telemetryAnd4.ring 3).cur =
      true) ∧
    ((Ctr.mk pwrStatus F.PWR_STATUS_input_mv).reg.name = .PWR_STATUS) ∧
    (Option.any
      (fun e =>
      decide
      (cmdReady 3 1793 [(8, 2)] e telemetryAnd3 ∧
      arg e 8 2 ≤ 4 ∧ Ctr.mk pwrStatus F.PWR_STATUS_input_mv ∈ telemetrySet (arg e 8 2)))
      (telemetryAnd3.ring 3).cur =
      true) ∧
    ((Ctr.mk (tempReg 3) F.PWR_TEMP_temp).reg.name = .PWR_TEMP) ∧
    (Option.any
      (fun e =>
      decide
      (cmdReady 3 1793 [(8, 2)] e telemetryAnd3 ∧
      arg e 8 2 ≤ 4 ∧ Ctr.mk (tempReg 3) F.PWR_TEMP_temp ∈ telemetrySet (arg e 8 2)))
      (telemetryAnd3.ring 3).cur =
      true) ∧
    (Option.any
      (fun e =>
      decide
      (cmdReady 3 1794 [(8, 2), (10, 2), (16, 8)] e telemetryAnd7 ∧
      arg e 8 2 ≤ 4 ∧ (telemetrySet (arg e 8 2)).length ≤ arg e 10 2))
      (telemetryAnd7.ring 3).cur =
      true) ∧
    (Option.any
      (fun e =>
      decide
      (cmdReady 3 1794 [(8, 2), (10, 2), (16, 8)] e telemetryAnd5 ∧
      arg e 8 2 ≤ 4 ∧ (telemetrySet (arg e 8 2))[arg e 10 2]?.isSome = true ∧ 0 ≠ arg e 8 2 * 65536 + arg e 10 2))
      (telemetryAnd5.ring 3).cur =
      true) ∧
    (Option.any
      (fun e =>
      decide
      (cmdReady 3 2048 [(8, 2), (12, 4), (16, 8), (24, 4), (28, 4)] e (readEntry 0 0 0 0 linkedCore) ∧
      (arg e 8 2 = 0 ∨ 21 < arg e 8 2)))
      ((readEntry 0 0 0 0 linkedCore).ring 3).cur =
      true) ∧
    (Option.any
      (fun e =>
      decide
      (cmdReady 3 2048 [(8, 2), (12, 4), (16, 8), (24, 4), (28, 4)] e (readEntry 3 64 0 0 linkedCore) ∧
      1 ≤ arg e 8 2 ∧
      arg e 8 2 ≤ 21 ∧
      (objIndex (arg e 8 2) (if arg e 8 2 = 1 then arg e 12 4 * 65536 else arg e 12 4) = false ∨
      arg e 8 2 ∈ [3, 5, 6, 15, 18] ∧ 64 ≤ arg e 12 4 ∨
      arg e 8 2 ∈ [8, 9, 10, 13, 16, 21] ∧ arg e 12 4 ≠ 0)))
      ((readEntry 3 64 0 0 linkedCore).ring 3).cur =
      true) ∧
    (Option.any
      (fun e =>
      decide
      (cmdReady 3 2048 [(8, 2), (12, 4), (16, 8), (24, 4), (28, 4)] e (readEntry 5 5 0 0 linkedCore) ∧
      1 ≤ arg e 8 2 ∧
      arg e 8 2 ≤ 21 ∧
      objIndex (arg e 8 2) (if arg e 8 2 = 1 then arg e 12 4 * 65536 else arg e 12 4) = true ∧
      ((readEntry 5 5 0 0 linkedCore).objReady (arg e 8 2) (if arg e 8 2 = 1 then arg e 12 4 * 65536 else arg e 12 4) =
      false ∨
      arg e 8 2 = 5 ∧ (readEntry 5 5 0 0 linkedCore).engSt false (arg e 12 4) ≤ 1 ∨
      arg e 8 2 = 6 ∧ (readEntry 5 5 0 0 linkedCore).engSt true (arg e 12 4) = 1 ∨
      arg e 8 2 = 18 ∧ ((readEntry 5 5 0 0 linkedCore).sca (arg e 12 4)).held = false)))
      ((readEntry 5 5 0 0 linkedCore).ring 3).cur =
      true) ∧
    (Option.any
      (fun e =>
      decide
      (cmdReady 3 2048 [(8, 2), (12, 4), (16, 8), (24, 4), (28, 4)] e (readEntry 8 0 0 512 linkedCore) ∧
      1 ≤ arg e 8 2 ∧
      arg e 8 2 ≤ 21 ∧
      objIndex (arg e 8 2) (if arg e 8 2 = 1 then arg e 12 4 * 65536 else arg e 12 4) = true ∧
      (readEntry 8 0 0 512 linkedCore).objReady (arg e 8 2) (if arg e 8 2 = 1 then arg e 12 4 * 65536 else arg e 12 4) =
      true ∧
      bufGood (arg e 16 8) (arg e 24 4) (readEntry 8 0 0 512 linkedCore) ∧
      (1048576 < arg e 24 4 → (readEntry 8 0 0 512 linkedCore).mbx.bg.length < 64) ∧ arg e 24 4 ≤ 1048576))
      ((readEntry 8 0 0 512 linkedCore).ring 3).cur =
      true) ∧
    (Option.any
      (fun e =>
      decide
      (cmdReady 3 2048 [(8, 2), (12, 4), (16, 8), (24, 4), (28, 4)] e telemetryAnd8 ∧
      1 ≤ arg e 8 2 ∧
      arg e 8 2 ≤ 21 ∧
      objIndex (arg e 8 2) (if arg e 8 2 = 1 then arg e 12 4 * 65536 else arg e 12 4) = true ∧
      telemetryAnd8.objReady (arg e 8 2) (if arg e 8 2 = 1 then arg e 12 4 * 65536 else arg e 12 4) = true ∧
      bufGood (arg e 16 8) (arg e 24 4) telemetryAnd8 ∧
      (1048576 < arg e 24 4 → telemetryAnd8.mbx.bg.length < 64) ∧ 1048576 < arg e 24 4))
      (telemetryAnd8.ring 3).cur =
      true) ∧
    (Option.any
      (fun e =>
      decide
      (cmdReady 3 2048 [(8, 2), (12, 4), (16, 8), (24, 4), (28, 4)] e (readEntry 8 0 0 512 linkedCore) ∧
      1 ≤ arg e 8 2 ∧
      arg e 8 2 ≤ 21 ∧
      objIndex (arg e 8 2) (if arg e 8 2 = 1 then arg e 12 4 * 65536 else arg e 12 4) = true ∧
      (readEntry 8 0 0 512 linkedCore).objReady (arg e 8 2) (if arg e 8 2 = 1 then arg e 12 4 * 65536 else arg e 12 4) =
      true ∧
      bufGood (arg e 16 8) (arg e 24 4) (readEntry 8 0 0 512 linkedCore) ∧
      (1048576 < arg e 24 4 → (readEntry 8 0 0 512 linkedCore).mbx.bg.length < 64) ∧
      arg e 8 2 = 8 ∧ arg e 28 4 = 0 ∧ arg e 24 4 = 512))
      ((readEntry 8 0 0 512 linkedCore).ring 3).cur =
      true) ∧
    (Option.any
      (fun e =>
      decide
      (cmdReady 3 2048 [(8, 2), (12, 4), (16, 8), (24, 4), (28, 4)] e telemetryAnd10 ∧
      1 ≤ arg e 8 2 ∧
      arg e 8 2 ≤ 21 ∧
      objIndex (arg e 8 2) (if arg e 8 2 = 1 then arg e 12 4 * 65536 else arg e 12 4) = true ∧
      telemetryAnd10.objReady (arg e 8 2) (if arg e 8 2 = 1 then arg e 12 4 * 65536 else arg e 12 4) =
      true ∧
      bufGood (arg e 16 8) (arg e 24 4) telemetryAnd10 ∧
      (1048576 < arg e 24 4 → telemetryAnd10.mbx.bg.length < 64) ∧
      arg e 8 2 = 4 ∧ arg e 12 4 < 64 ∧ arg e 28 4 = 0 ∧ arg e 24 4 = 512))
      (telemetryAnd10.ring 3).cur =
      true) ∧
    (telemetryAnd8.badWords = []) ∧
    (Option.any
      (fun e =>
      decide
      (cmdReady 3 2048 [(8, 2), (12, 4), (16, 8), (24, 4), (28, 4)] e telemetryAnd8 ∧
      1 ≤ arg e 8 2 ∧
      arg e 8 2 ≤ 21 ∧
      objIndex (arg e 8 2) (if arg e 8 2 = 1 then arg e 12 4 * 65536 else arg e 12 4) = true ∧
      telemetryAnd8.objReady (arg e 8 2) (if arg e 8 2 = 1 then arg e 12 4 * 65536 else arg e 12 4) = true ∧
      bufGood (arg e 16 8) (arg e 24 4) telemetryAnd8 ∧
      (1048576 < arg e 24 4 → telemetryAnd8.mbx.bg.length < 64) ∧
      arg e 8 2 = 19 ∧ 2147483648 ≤ arg e 12 4 ∧ arg e 28 4 + arg e 24 4 ≤ slotSize))
      (telemetryAnd8.ring 3).cur =
      true) ∧
    (Option.any
      (fun e =>
      decide
      (cmdReady 3 2049 [(8, 2), (12, 4), (16, 8), (24, 4), (28, 4)] e (writeEntry 8 0 0 4 linkedCore) ∧
      1 ≤ arg e 8 2 ∧
      arg e 8 2 ≤ 21 ∧ (¬arg e 8 2 ∈ [2, 4, 5, 6, 7, 18, 19] ∨ objWritable (arg e 8 2) (arg e 12 4) = false)))
      ((writeEntry 8 0 0 4 linkedCore).ring 3).cur =
      true) ∧
    (Option.any
      (fun e =>
      decide
      (cmdReady 3 2049 [(8, 2), (12, 4), (16, 8), (24, 4), (28, 4)] e telemetryAnd14 ∧
      1 ≤ arg e 8 2 ∧
      arg e 8 2 ≤ 21 ∧
      objWritable (arg e 8 2) (arg e 12 4) = true ∧
      objIndex (arg e 8 2) (arg e 12 4) = true ∧
      (telemetryAnd14.objWriteReady (arg e 8 2) (arg e 12 4) = false ∨
      arg e 8 2 = 2 ∧ telemetryAnd14.engSt (decide (arg e 12 4 % 4 = 1)) (arg e 12 4 / 4) ≠ 0 ∨
      arg e 8 2 = 5 ∧ telemetryAnd14.engSt false (arg e 12 4) ≠ 0)))
      (telemetryAnd14.ring 3).cur =
      true) ∧
    (Option.any
      (fun e =>
      decide
      (cmdReady 3 2049 [(8, 2), (12, 4), (16, 8), (24, 4), (28, 4)] e (writeEntry 2 20 0 16 linkedCore) ∧
      1 ≤ arg e 8 2 ∧
      arg e 8 2 ≤ 21 ∧
      objWritable (arg e 8 2) (arg e 12 4) = true ∧
      objIndex (arg e 8 2) (arg e 12 4) = true ∧
      (writeEntry 2 20 0 16 linkedCore).objWriteReady (arg e 8 2) (arg e 12 4) = true ∧
      bufGood (arg e 16 8) (arg e 24 4) (writeEntry 2 20 0 16 linkedCore) ∧
      (1048576 < arg e 24 4 → (writeEntry 2 20 0 16 linkedCore).mbx.bg.length < 64) ∧ arg e 24 4 ≤ 1048576))
      ((writeEntry 2 20 0 16 linkedCore).ring 3).cur =
      true) ∧
    (Option.any
      (fun e =>
      decide
      (cmdReady 3 2049 [(8, 2), (12, 4), (16, 8), (24, 4), (28, 4)] e telemetryAnd9 ∧
      1 ≤ arg e 8 2 ∧
      arg e 8 2 ≤ 21 ∧
      objWritable (arg e 8 2) (arg e 12 4) = true ∧
      objIndex (arg e 8 2) (arg e 12 4) = true ∧
      telemetryAnd9.objWriteReady (arg e 8 2) (arg e 12 4) = true ∧
      bufGood (arg e 16 8) (arg e 24 4) telemetryAnd9 ∧
      (1048576 < arg e 24 4 → telemetryAnd9.mbx.bg.length < 64) ∧ 1048576 < arg e 24 4))
      (telemetryAnd9.ring 3).cur =
      true) ∧
    (Option.any
      (fun e =>
      decide
      (cmdReady 3 2049 [(8, 2), (12, 4), (16, 8), (24, 4), (28, 4)] e (writeEntry 2 20 0 16 linkedCore) ∧
      1 ≤ arg e 8 2 ∧
      arg e 8 2 ≤ 21 ∧
      objWritable (arg e 8 2) (arg e 12 4) = true ∧
      objIndex (arg e 8 2) (arg e 12 4) = true ∧
      (writeEntry 2 20 0 16 linkedCore).objWriteReady (arg e 8 2) (arg e 12 4) = true ∧
      bufGood (arg e 16 8) (arg e 24 4) (writeEntry 2 20 0 16 linkedCore) ∧
      (1048576 < arg e 24 4 → (writeEntry 2 20 0 16 linkedCore).mbx.bg.length < 64) ∧
      arg e 8 2 = 2 ∧ arg e 28 4 = 0 ∧ arg e 24 4 = 16))
      ((writeEntry 2 20 0 16 linkedCore).ring 3).cur =
      true) ∧
    (Option.any
      (fun e =>
      decide
      (cmdReady 3 2049 [(8, 2), (12, 4), (16, 8), (24, 4), (28, 4)] e (writeEntry 4 5 0 512 linkedCore) ∧
      1 ≤ arg e 8 2 ∧
      arg e 8 2 ≤ 21 ∧
      objWritable (arg e 8 2) (arg e 12 4) = true ∧
      objIndex (arg e 8 2) (arg e 12 4) = true ∧
      (writeEntry 4 5 0 512 linkedCore).objWriteReady (arg e 8 2) (arg e 12 4) = true ∧
      bufGood (arg e 16 8) (arg e 24 4) (writeEntry 4 5 0 512 linkedCore) ∧
      (1048576 < arg e 24 4 → (writeEntry 4 5 0 512 linkedCore).mbx.bg.length < 64) ∧
      arg e 8 2 = 4 ∧ arg e 12 4 < 64 ∧ arg e 28 4 = 0 ∧ arg e 24 4 = 512))
      ((writeEntry 4 5 0 512 linkedCore).ring 3).cur =
      true) ∧
    (Option.any
      (fun e =>
      decide
      (cmdReady 3 2049 [(8, 2), (12, 4), (16, 8), (24, 4), (28, 4)] e (writeEntry 7 83 3 9 linkedCore) ∧
      1 ≤ arg e 8 2 ∧
      arg e 8 2 ≤ 21 ∧
      objWritable (arg e 8 2) (arg e 12 4) = true ∧
      objIndex (arg e 8 2) (arg e 12 4) = true ∧
      (writeEntry 7 83 3 9 linkedCore).objWriteReady (arg e 8 2) (arg e 12 4) = true ∧
      bufGood (arg e 16 8) (arg e 24 4) (writeEntry 7 83 3 9 linkedCore) ∧
      (1048576 < arg e 24 4 → (writeEntry 7 83 3 9 linkedCore).mbx.bg.length < 64) ∧ arg e 8 2 = 7))
      ((writeEntry 7 83 3 9 linkedCore).ring 3).cur =
      true) ∧
    (Option.any
      (fun e =>
      decide
      (cmdReady 3 2049 [(8, 2), (12, 4), (16, 8), (24, 4), (28, 4)] e telemetryAnd9 ∧
      1 ≤ arg e 8 2 ∧
      arg e 8 2 ≤ 21 ∧
      objWritable (arg e 8 2) (arg e 12 4) = true ∧
      objIndex (arg e 8 2) (arg e 12 4) = true ∧
      telemetryAnd9.objWriteReady (arg e 8 2) (arg e 12 4) = true ∧
      bufGood (arg e 16 8) (arg e 24 4) telemetryAnd9 ∧
      (1048576 < arg e 24 4 → telemetryAnd9.mbx.bg.length < 64) ∧
      arg e 8 2 = 19 ∧ 2147483648 ≤ arg e 12 4 ∧ arg e 28 4 + arg e 24 4 ≤ slotSize))
      (telemetryAnd9.ring 3).cur =
      true) ∧
    (Option.any (fun e => decide (cmdReady 3 2050 [] e (taking 2050 [] linked))) ((taking 2050 [] linked).ring 3).cur = true) ∧
    (Option.any
      (fun e => decide (cmdReady 3 2304 [(8, 2)] e (taking 2304 [(8, 2, 999)] linked) ∧ (arg e 8 2 < 1000 ∨ 3600 < arg e 8 2)))
      ((taking 2304 [(8, 2, 999)] linked).ring 3).cur =
      true) ∧
    (Option.any (fun e => decide (cmdReady 3 2304 [(8, 2)] e telemetryAnd16 ∧ 1000 ≤ arg e 8 2 ∧ arg e 8 2 ≤ 3600))
      (telemetryAnd16.ring 3).cur =
      true) ∧
    (Option.any (fun e => decide (cmdReady 3 2305 [] e (taking 2305 [] linked))) ((taking 2305 [] linked).ring 3).cur = true) ∧
    (Option.any (fun e => decide (cmdReady 3 2306 [(8, 8), (16, 1)] e telemetryAnd17 ∧ (arg e 16 1 = 0 ∨ 16 < arg e 16 1)))
      (telemetryAnd17.ring 3).cur =
      true) ∧
    (telemetryAnd18.coreStatus 5 = 0) := by
  decide +kernel

theorem test_TelemetryAndResetCommandsAct_hypotheses_2 :
    (Option.any
      (fun e =>
      decide
      (cmdReady 3 2306 [(8, 8), (16, 1)] e telemetryAnd18 ∧
      1 ≤ arg e 16 1 ∧ arg e 16 1 ≤ 16 ∧ (arg e 8 8).testBit 5 = true))
      (telemetryAnd18.ring 3).cur =
      true) ∧
    (Option.any
      (fun e =>
      decide
      (cmdReady 3 2306 [(8, 8), (16, 1)] e telemetryAnd18 ∧
      1 ≤ arg e 16 1 ∧ arg e 16 1 ≤ 16 ∧ ((arg e 8 8).testBit 0 = false ∨ telemetryAnd18.coreStatus 0 ≠ 0)))
      (telemetryAnd18.ring 3).cur =
      true) ∧
    (Option.any
      (fun e =>
      decide
      (cmdReady 3 2560 [(8, 1), (12, 4)] e (resetEntry 0 64 restStopped) ∧
      arg e 8 1 ≤ 6 ∧ (resetEntry 0 64 restStopped).blockOf (arg e 8 1) (arg e 12 4) = none))
      ((resetEntry 0 64 restStopped).ring 3).cur =
      true) ∧
    (Option.any
      (fun e =>
      decide
      (cmdReady 3 2560 [(8, 1), (12, 4)] e telemetryAnd22 ∧
      arg e 8 1 ≤ 6 ∧
      (telemetryAnd22.blockOf (arg e 8 1) (arg e 12 4)).isSome = true ∧
      arg e 8 1 = 0 ∧ 2 ≤ telemetryAnd22.remap (arg e 12 4)))
      (telemetryAnd22.ring 3).cur =
      true) ∧
    (Option.any
      (fun e =>
      decide
      (cmdReady 3 2560 [(8, 1), (12, 4)] e (resetEntry 6 0 restStopped) ∧
      arg e 8 1 ≤ 6 ∧
      (arg e 8 1 = 0 → (resetEntry 6 0 restStopped).remap (arg e 12 4) < 2) ∧
      Option.any
      (fun b =>
      decide
      ((resetEntry 6 0 restStopped).blockFree (arg e 8 1) ((Option.map (fun x => x.snd) (blockKind b)).getD 0) =
      false))
      ((resetEntry 6 0 restStopped).blockOf (arg e 8 1) (arg e 12 4)) =
      true))
      ((resetEntry 6 0 restStopped).ring 3).cur =
      true) ∧
    (Option.any
      (fun e =>
      decide
      (cmdReady 3 2560 [(8, 1), (12, 4)] e telemetryAnd21 ∧
      arg e 8 1 ≤ 6 ∧
      (arg e 8 1 = 0 → telemetryAnd21.remap (arg e 12 4) < 2) ∧
      Option.any
      (fun b =>
      decide
      (telemetryAnd21.blockFree (arg e 8 1) ((Option.map (fun x => x.snd) (blockKind b)).getD 0) =
      true ∧
      telemetryAnd21.fld (reg1 .RST_BLOCK 0 b) F.RST_BLOCK_reset = 1))
      (telemetryAnd21.blockOf (arg e 8 1) (arg e 12 4)) =
      true))
      (telemetryAnd21.ring 3).cur =
      true) ∧
    ((resetEntry 0 5 restStopped).mbx.bg.length < 64) ∧
    (Option.any
      (fun e =>
      decide
      (cmdReady 3 2560 [(8, 1), (12, 4)] e (resetEntry 0 5 restStopped) ∧
      arg e 8 1 ≤ 6 ∧
      (arg e 8 1 = 0 → (resetEntry 0 5 restStopped).remap (arg e 12 4) < 2) ∧
      Option.any
      (fun b =>
      decide
      ((resetEntry 0 5 restStopped).blockFree (arg e 8 1) ((Option.map (fun x => x.snd) (blockKind b)).getD 0) =
      true ∧
      (resetEntry 0 5 restStopped).fld (reg1 .RST_BLOCK 0 b) F.RST_BLOCK_reset = 0 ∧
      (resetEntry 0 5 restStopped).blockSt b = 0))
      ((resetEntry 0 5 restStopped).blockOf (arg e 8 1) (arg e 12 4)) =
      true))
      ((resetEntry 0 5 restStopped).ring 3).cur =
      true) ∧
    (Option.any (fun e => decide (cmdReady 3 2561 [] e (taking 2561 [] linked))) ((taking 2561 [] linked).ring 3).cur = true) ∧
    (Option.any (fun e => decide (cmdReady 3 2562 [] e (taking 2562 [] linked))) ((taking 2562 [] linked).ring 3).cur = true) ∧
    (Option.any
      (fun e =>
      decide
      (cmdReady 3 2563 [(8, 8)] e telemetryAnd20 ∧
      bufGood (arg e 8 8) telemetryAnd20.frost.bytes.length telemetryAnd20))
      (telemetryAnd20.ring 3).cur =
      true) ∧
    (telemetryAnd23.mbxServed = true) ∧
    (telemetryAnd23.hostUp = true) ∧
    (telemetryAnd23.fld (cqCfg 3) F.PCI_MBX_CQ_CFG_enable = 1) ∧
    (2 ^ telemetryAnd23.fld (cqCfg 3) F.PCI_MBX_CQ_CFG_size = 16) ∧
    ((telemetryAnd23.ring 3).idx = 19) ∧
    (ringGap (19 % 65536) (telemetryAnd23.fld (cqHead 3) F.PCI_MBX_CQ_HEAD_head) < 16) ∧
    (hostBase + telemetryAnd23.fld (reg1 .PCI_MBX_CQ_BASE 0 3) F.PCI_MBX_CQ_BASE_base_hi * 64 + 64 * (19 % 16) =
      2251799813685440) ∧
    (region 2251799813685440 = Region.host) ∧
    (region (2251799813685440 + 63) = Region.host) ∧
    (telemetryAnd23.rst.waiting = false) ∧
    (telemetryAnd23.rst.timer = false) ∧
    (Option.any (fun d => decide (d.status = 0 ∧ d.opcode = 2561)) (telemetryAnd23.ring 3).cpl = true) ∧
    (telemetryAnd24.mbxServed = true) ∧
    (telemetryAnd24.hostUp = true) ∧
    (telemetryAnd24.fld (cqCfg 3) F.PCI_MBX_CQ_CFG_enable = 1) ∧
    (2 ^ telemetryAnd24.fld (cqCfg 3) F.PCI_MBX_CQ_CFG_size = 16) ∧
    ((telemetryAnd24.ring 3).idx = 19) ∧
    (ringGap (19 % 65536) (telemetryAnd24.fld (cqHead 3) F.PCI_MBX_CQ_HEAD_head) < 16) ∧
    (hostBase + telemetryAnd24.fld (reg1 .PCI_MBX_CQ_BASE 0 3) F.PCI_MBX_CQ_BASE_base_hi * 64 + 64 * (19 % 16) =
      2251799813685440) ∧
    (telemetryAnd24.fld (reg0 .RST_STATUS 0) F.RST_STATUS_frost = 0) ∧
    (telemetryAnd24.rst.timer = false) ∧
    (Option.any (fun d => decide (d.status = 0 ∧ d.opcode = 2562)) (telemetryAnd24.ring 3).cpl = true) := by
  decide +kernel

/-! Witnesses that `decide` alone does not give. -/

theorem test_StepRunsTheFrontCommand_hypotheses :
    ({ State.reset with pending := [.fence 5, .bootOk] } : State).pending = .fence 5 :: [.bootOk] := rfl

theorem test_CrossingKeepsOrderAndDiscards_entries :
    tget [] busy.cross (5 * 128 + 88) = [.signal ⟨4, 0, 3⟩ 9] ∧ busy.tokCount ⟨4, 0, 3⟩ + 9 ≤ 65535 ∧
      tget [] busy.cross (5 * 128 + 89) = [.wait ⟨⟨4, 0, 3⟩, 80, 5⟩] ∧ busy.clk.stopped.contains 89 = false ∧
      tget [] busy.cross (88 * 128 + 5) = [.grant ⟨⟨4, 0, 3⟩, 80, 5⟩] ∧ busy.clk.stopped.contains 5 = false := by
  and_intros <;> decide +kernel

theorem test_CommandsCheckTheirEntry_hypotheses :
    (inFrost.ring 3).cur = some (entryWord 0x40A 7 []) ∧ cmdTaken 3 (entryWord 0x40A 7 []) inFrost ∧ opcodeOf (entryWord 0x40A 7 []) = 0x040A ∧
      inFrost.served_ (entryWord 0x40A 7 []) = false ∧ opcodeOf (entryWord 0x40A 7 []) ≠ 0x0409 ∧
      (urgentRing.ring 1).cur = some (entryWord 0x40A 7 []) ∧ cmdTaken 1 (entryWord 0x40A 7 []) urgentRing ∧
      urgentRing.served_ (entryWord 0x40A 7 []) = true ∧ urgent (entryWord 0x40A 7 []) = false ∧
      (badByte.ring 3).cur = some (entryWord 0x40A 7 [(60, 1, 2)]) ∧ cmdTaken 3 (entryWord 0x40A 7 [(60, 1, 2)]) badByte ∧
      badByte.served_ (entryWord 0x40A 7 [(60, 1, 2)]) = true ∧
      reservedByte (entryWord 0x40A 7 [(60, 1, 2)]) [(8, 2), (16, 8), (24, 4)] = some 60 := by
  and_intros <;> decide +kernel

theorem test_EmptyQueuePassesOneReferenceCycle_hypotheses : up5.pending = [] ∧ up5.slices = [] ∧ up5.mbx.thresholds = [] :=
  ⟨rfl, rfl, rfl⟩

theorem test_NoCommandTouchesTheQueue_hypotheses : ∃ t, exec (.sliceQuantumExpiry 5) up5 = .next t := ⟨_, rfl⟩

theorem test_EveryStepKeepsMemoryCanonical_hypotheses :
    ({ up5 with pending := [.bootOk] } : State).Canonical ∧ ∃ t, step { up5 with pending := [.bootOk] } = .next t :=
  ⟨by unfold State.Canonical; decide +kernel, _, rfl⟩

theorem test_PowerIsWatchedAndAnnounced_cool : ∀ x : BitVec 16, x ∈ List.replicate 64 900#16 → x.toInt < 1150 := by
  intro x hx; rw [List.eq_of_mem_replicate hx]; decide

/-! What the uninterpreted functions and constants of Config leave open is a hypothesis here: the length of the certificates, the
digest of an image, a slot that verifies. -/

theorem test_GeneralCommandsAnswer_certificates (h : Config.identityCerts = []) : Config.identityCerts.length + 1952 = 1952 := by
  rw [h]; rfl

theorem test_BucketsAreSealedReducedAndCommitted_mirror :
    let s := { mirroring with train := { mirroring.train with mupdated := [(9, 7, 0)] } }
    s.fld (reg0 .RST_STATUS 0) F.RST_STATUS_frost = 0 ∧ s.train.record = some (recordOf 9) ∧ s.partner ≠ 0xFFFF ∧ 7 ∉ s.train.mirrored ∧
      (∃ b, ((recordOf 9).step.toNat, 7, b) ∈ s.train.mupdated) ∧ mirroring.train.record = some (recordOf 9) ∧
      mirroring.partner ≠ 0xFFFF ∧ 7 ∉ mirroring.train.mirrored ∧ ∀ b, ((recordOf 9).step.toNat, 7, b) ∉ mirroring.train.mupdated :=
  ⟨by decide +kernel, rfl, by decide +kernel, by decide, ⟨0, by decide⟩, rfl, by decide +kernel, by decide, fun _ => by
    simp [mirroring, training, State.setF, State.wr, up, State.reset, Train.reset]⟩

theorem test_BucketsAreSealedReducedAndCommitted_span (b : Bucket) (hb : b = bucket true true ∨ b = { bucket true true with reducedCount := 3 }) :
    (withPolicy b).entryOf 7 = some 1 ∧ policyWord (withPolicy b).surv.policy 1 192 64 = 4096 ∧
      ∀ z, spanIn 7 0 (policyWord (withPolicy b).surv.policy 1 192 64) = z → (withPolicy b).pendingAt 1 + z.1 + z.2 ≤ 0x13B00000000 := by
  have h : policyWord (withPolicy b).surv.policy 1 192 64 = 4096 ∧ (withPolicy b).pendingAt 1 ≤ 0xA00000 := by
    rcases hb with rfl | rfl <;> decide +kernel
  refine ⟨by rcases hb with rfl | rfl <;> decide +kernel, h.1, fun z hz => ?_⟩
  rw [h.1] at hz
  subst hz
  have := h.2
  simp only [spanIn]
  omega

theorem test_FailuresAreSurvived_lost :
    member.fld (reg0 .RST_STATUS 0) F.RST_STATUS_frost = 0 ∧ (4#32).toNat = member.members.epoch ∧ (30#16).toNat ≠ member.fab.id ∧
      (30#16).toNat ∈ member.members.ids ∧ (30#16).toNat ∉ member.members.fenced ∧ ∀ p, (member.port p).open_ = [] :=
  ⟨by decide +kernel, rfl, by decide +kernel, by decide +kernel, by decide +kernel, fun _ => rfl⟩

theorem test_FirmwareCommandsAct_verified (h : State.reset.verifyImage 1 = 0) :
    (linked |> taking 0x601 [(8, 1, 1)]).verifyImage 1 = 0 ∧
      (linked |> activating true false 0 5).firm.act.any (fun a => decide (a.slot = 1)) = true ∧
      (linked |> activating false false 0 5).verifyImage 1 = 0 ∧
      (linked |> activating false false 0 5).firm.act.any (fun a => decide (a.moved = false ∧ a.loaded = false ∧ a.slot = 1)) = true :=
  ⟨h, by decide +kernel, h, by decide +kernel⟩

theorem test_FirmwareCommandsAct_levels :
    (linked |> activating false false 0 5).actRefused 1 = 0 ∧
      ((linked |> firmed (fun f => { f with slotB := [(14, 0), (15, 0)] })).levelMask 1).testBit 5 = false := by
  have h1 : ∀ m : Nat, (m ||| 2).testBit 1 = true := fun m => by rw [Nat.testBit_or]; simp; exact Or.inr (by decide)
  have h2 : (linked |> activating false false 0 5).levelOf (linked |> activating false false 0 5).train.step = 1 ∧
      (linked |> activating false false 0 5).fld (reg0 .LNK_LEVEL 0) F.LNK_LEVEL_level_next = 1 ∧
      (upTo 5 7).all (fun p => decide ((linked |> activating false false 0 5).lnk p ≠ 5)) = true := by
    and_intros <;> decide +kernel
  refine ⟨?_, by decide +kernel⟩
  have h3 : ∀ f : Nat → Bool, (upTo 5 7).any (fun p => decide ((linked |> activating false false 0 5).lnk p = 5) && f p) = false := fun f => by
    rw [List.any_eq_false]
    intro p hp
    have := List.all_eq_true.1 h2.2.2 p hp
    simp at this
    simp [this]
  unfold State.actRefused State.levelMask
  simp only [h2.1, h2.2.1, h1, h3]
  simp

theorem test_ResetsAndStartsFollowTheirOrder_verified (h : State.reset.verifyImage 0 = 0) :
    let s := resetting (fun r => { r with timer := true, booted := false, opt := { r.opt with bootSlot := 0 } })
    s.rst.timer = true ∧ s.rst.booted = false ∧ s.rst.opt.bootSlot = 0 ∧ 118 ∉ s.clk.stopped ∧
      s.fld (reg0 .RST_STATUS 0) F.RST_STATUS_frost = 0 ∧ s.verifyImage 0 = 0 :=
  ⟨rfl, rfl, rfl, by decide +kernel, by decide +kernel, h⟩

/-! Commands that cannot be sent. -/

theorem test_wellFormed_refuses_core :
    (Instr.registerWrite ⟨.OPE_STATUS, 64, 0, 0⟩ 0 0).WellFormed = false ∧
      (Instr.registerReadClear ⟨.OPE_STATUS, 0, 1, 0⟩ 0).WellFormed = false ∧
      (Instr.cvt 5 0 9 (.v 5) ⟨1, 2, false, false, 0⟩).WellFormed = false ∧
      (Instr.cvt 5 0 9 (.v 5) ⟨0, 1, false, false, 2⟩).WellFormed = false ∧
      (Instr.tokenSignal ⟨0, 5, 64⟩ 1).WellFormed = false ∧ (Instr.tokenWaitServe ⟨1, 16, 0⟩).WellFormed = false ∧
      (Instr.tokCntWrite ⟨2, 8, 0⟩ 1).WellFormed = false ∧ (Instr.tokSigWrite ⟨3, 0, 16⟩ 1).WellFormed = false ∧
      (Instr.tokenSignal ⟨4, 1, 0⟩ 1).WellFormed = false ∧
      (Instr.stackedAccess 78 [request 0 none] .ok).WellFormed = false ∧
      (Instr.stackedAccess 77 [request 60 (some [1, 2, 3, 4, 5])] .ok).WellFormed = false ∧
      (Instr.stackedAccess 77 [request 60 (some [1, 2, 3, 4])] .ok).WellFormed = true := by
  decide +kernel

theorem test_wellFormed_refuses_outside :
    (Instr.reductionPartReceive ⟨1, 0, 0, 1, 1, 1, false, 2, [7]⟩).WellFormed = false ∧
      (Instr.linkCtrlReceive 1 ⟨[], true, 0, [1, 2, 3], none, none⟩).WellFormed = false ∧
      (Instr.dataFlitReceive 1 ⟨[], [1]⟩).WellFormed = false ∧ (Instr.groupFlitReceive 1 ⟨[], [1]⟩).WellFormed = false ∧
      (Instr.equalizeComplete 1 [] 0).WellFormed = false ∧ (Instr.fenceRecognize 1 []).WellFormed = false ∧ (Instr.put 1 (hdrOf (5 + 3 * 2 ^ 32) 6 7 0) [1, 2]).WellFormed = false ∧
      (Instr.put 1 (hdrOf (5 + 2 * 2 ^ 32) 6 7 0) [1, 2]).WellFormed = true ∧ (Instr.getData 1 (hdrOf (5 + 2 ^ 32) 6 7 0) []).WellFormed = false ∧
      (Instr.control 1 (hdrOf (5 + 2 ^ 32) 6 7 0) []).WellFormed = false ∧
      (Instr.messageForward 1 (hdrOf (5 + 2 ^ 32) 6 7 0) []).WellFormed = false ∧ (Instr.bar2Access 0 (.read 0 .ok)).WellFormed = false ∧
      (Instr.bar2Access 0 (.write [] false)).WellFormed = false ∧
      (Instr.registerApertureAccess 4 ⟨8, none, 0⟩).WellFormed = false ∧
      (Instr.registerApertureAccess 4 ⟨2, none, 0⟩).WellFormed = false ∧
      (Instr.sqDoorbell 3 0 (List.replicate 513 0)).WellFormed = false ∧
      (Instr.sensorReading [900] ⟨0, 0, 0, 0, 0, 0⟩).WellFormed = false ∧ (Instr.entdaa 7).WellFormed = false ∧
      (Instr.setdasa 9 0x7E).WellFormed = false := by
  decide +kernel

/-! Results of single commands, from the numbers of the spec. -/

/-- The state after a command. -/
def after (o : Host.Outcome State Fault Refusal) : State :=
  match o with
  | .next t => t
  | .fault _ => State.reset
  | .refused _ => State.reset

/-- Example — Decoding logical core 45: physical core 47, its tile memory and its register block. -/
theorem test_core45 :
    defaultPhys 45 = 47 ∧ slotBase 45 = 0x20005A000000 ∧ (reg0 .OPE_PC 45).addr / 0x10000 = 0x3000002D := by
  decide +kernel

/-- Example — Locating one byte: channel 633. -/
theorem test_locate_byte : chanOf 0x123456789 = 633 := by decide +kernel

/-- Example — Locating a packed-shape operand byte: panel row 2,121, logical byte 554. -/
theorem test_locate_operand : skewAddr (1024 * 2121) 554 = 2172586 := by decide +kernel

/-- Example — Window rounding in one cell: the window after two steps and the drained FP32 value. -/
theorem test_window :
    let v (b : Nat) := decodeFloat bf16 b
    let c := (Win.zero.step (stepSum 1 [v 0x40A8, v 0x3580] [v 0x3EAB, v 0x3280])).step (stepSum 1 [v 0x35C0, v 0] [v 0x3280, v 0])
    c = ⟨0x381C00000001, false, false⟩ ∧ drainElem 0 false none (c.wide 1) = (0x3FE07000, false) := by
  decide +kernel

/-- Example — An MXFP4 block. -/
theorem test_mxfp4 :
    mxBlock 0xA ([0x41780000, 0x40A00000, 0x3E99999A, 0xC0266666].map (fun b => (decodeFloat fp32 b, none))) =
      (0x80, [7, 4, 0, 0xB], false) := by
  decide +kernel

/-- In E4M3 only magnitudes below 464 round to 448 (R52): 464 is the NaN or saturates, with out_overflow. -/
theorem test_e4m3_threshold :
    cvtFloat e4m3 false none (decodeFloat fp32 0x43E80000) = (0x7F, true) ∧
      cvtFloat e4m3 true none (decodeFloat fp32 0x43E80000) = (0x7E, true) ∧
      cvtFloat e4m3 false none (decodeFloat fp32 0x43E7FFFF) = (0x7E, false) := by
  decide +kernel

/-- Example — A first draw. -/
theorem test_first_draw : Gen.draw ⟨1, 2, 3, 4⟩ = (0xDE68573D, ⟨2, 3, 4, 0x80D⟩) ∧ drawU 0xDE68573D = 0xDE68 := by
  decide +kernel

/-- Example — Encoding one bundle: FFMA v3 = v1 × s0 + v3 with LD v1, [a2 + 3]. -/
theorem test_bundle :
    (decBundle 5 [0x89, 0x00, 0x61, 0x08, 0x00, 0x07, 0x20, 0x90, 0x01, 0x00]).toOption =
      some ⟨[.fp .fma 0 3 (.v 1) (.s 0) (.v 3), .ld 0 1 2 3], false⟩ := by
  decide +kernel

/-- A signal adds its amount (R178). -/
theorem test_tokenSignal : (after (exec (.tokenSignal ⟨0, 5, 3⟩ 9) (waits 2))).tokCount ⟨0, 5, 3⟩ = 11 := by decide +kernel

/-- A wait is served by the counter's decrement: 7 less 5 (R177). -/
theorem test_tokenWaitServe : (after (exec (.tokenWaitServe ⟨0, 5, 3⟩) (waits 7))).tokCount ⟨0, 5, 3⟩ = 2 := by decide +kernel

/-- A supply within its ratings is noted; one beyond them too, and the supply is then out of its operating range. -/
theorem test_supplyRangeChange : (after (exec (.supplyRangeChange 53000) up)).pwr.mv = 53000 ∧
    (after (exec (.supplyRangeChange 65001) up)).pwr.mv = 65001 := by
  and_intros <;> rfl

/-- SHAKE256 of no bytes, and Example digests of FIPS 202 begin so. -/
theorem test_shake256 : (shake256 []).take 4 = [0x46, 0xB9, 0xDD, 0x2B] := by decide +kernel

/-- IDENTIFY returns "KSG-N64-H1" first (R299). -/
theorem test_identify :
    ((after (exec (.identifyCmd 3) (withEntry linked 3 (entryWord 0 7 [])))).ring 3).cpl.map (fun c => c.result.take 10) =
      some [0x4B, 0x53, 0x47, 0x2D, 0x4E, 0x36, 0x34, 0x2D, 0x48, 0x31] := by decide +kernel

/-- An empty queue passes one reference cycle of 10 ns. -/
theorem test_idle : (after (step State.reset)).clk.refTime = 10 ∧ (after (step State.reset)).pending = [] := by
  and_intros <;> decide +kernel

/-- No word spells a command of a table that gives no bits. -/
theorem test_decodeTableWord : decodeTableWord 0 5 = none ∧ State.reset.withFetchWord 32 5 = State.reset := by
  and_intros <;> rfl

end Sys2Proof.Tests
end

namespace Sys2Proof.Machine

/-! The sums of a segment (R41 to R43). -/

/-- A product lands strictly inside the window grid's range: what rounds beyond it is clamped (R42, R43). -/
theorem natAbs_product_lt (anchor : Int) (a b : Val) : (product anchor a b).1.natAbs < 2 ^ 47 := by
  unfold product
  split
  case h_1 n m e n' m' e' =>
    dsimp only
    split
    · dsimp only; split <;> decide
    · next h => exact Nat.lt_of_not_le h
  case h_2 => decide

/-- Two products in turn are their joint sum and events. -/
theorem Win.step_step (c : Win) (p q : Int × Bool × Bool) :
    (c.step p).step q = c.step (p.1 + q.1, p.2.1 || q.2.1, p.2.2 || q.2.2) := by
  simp only [Win.step, BitVec.ofInt_add, BitVec.add_assoc, Bool.or_assoc]

/-- Two products may change places. -/
theorem Win.step_right_comm (c : Win) (p q : Int × Bool × Bool) : (c.step p).step q = (c.step q).step p := by
  rw [Win.step_step, Win.step_step, Int.add_comm, Bool.or_comm p.2.1, Bool.or_comm p.2.2]

/-- The word of a window after a list of products: the sum of the products, taken in the width of the window. -/
theorem Win.foldl_step_s (c : Win) (ps : List (Int × Bool × Bool)) :
    (ps.foldl Win.step c).s = c.s + BitVec.ofInt 64 (ps.map Prod.fst).sum := by
  induction ps generalizing c with
  | nil => simp
  | cons p ps ih => simp [ih, Win.step, BitVec.ofInt_add, BitVec.add_assoc]

/-- A step of the array is its products one after the other (R41). -/
theorem Win.step_stepSum (c : Win) (anchor : Int) (as bs : List Val) :
    c.step (stepSum anchor as bs) = ((as.zip bs).map (fun x => product anchor x.1 x.2)).foldl Win.step c := by
  induction as generalizing c bs with
  | nil => simp [stepSum, Win.step]
  | cons a as ih =>
    cases bs with
    | nil => simp [stepSum, Win.step]
    | cons b bs =>
      simp only [stepSum, List.zip_cons_cons, List.map_cons, List.foldl_cons]
      rw [← ih, Win.step_step]

/-- A sum of integers is at most their number times a bound of their magnitudes. -/
theorem natAbs_sum_le_length_mul {xs : List Int} {m : Nat} (h : ∀ x ∈ xs, x.natAbs ≤ m) :
    xs.sum.natAbs ≤ xs.length * m := by
  induction xs with
  | nil => simp
  | cons x xs ih =>
    obtain ⟨hx, hxs⟩ := List.forall_mem_cons.mp h
    calc (x :: xs).sum.natAbs = (x + xs.sum).natAbs := by rw [List.sum_cons]
      _ ≤ x.natAbs + xs.sum.natAbs := Int.natAbs_add_le ..
      _ ≤ m + xs.length * m := Nat.add_le_add hx (ih hxs)
      _ = (x :: xs).length * m := by rw [List.length_cons, Nat.succ_mul, Nat.add_comm]

/-- A segment of at most 32,768 products stays below 2^62 (R42). -/
theorem natAbs_segment_lt {ps : List (Int × Bool × Bool)} (hb : ∀ p ∈ ps, p.1.natAbs < 2 ^ 47)
    (hl : ps.length ≤ 32768) : (ps.map Prod.fst).sum.natAbs < 2 ^ 62 := by
  have h := natAbs_sum_le_length_mul (xs := ps.map Prod.fst) (m := 2 ^ 47 - 1)
    (List.forall_mem_map.mpr fun p hp => Nat.le_pred_of_lt (hb p hp))
  rw [List.length_map] at h
  omega

/-- The window never wraps within a segment (R42): its word is the exact sum. -/
theorem toInt_segment {ps : List (Int × Bool × Bool)} (h : (ps.map Prod.fst).sum.natAbs < 2 ^ 62) :
    (ps.foldl Win.step Win.zero).s.toInt = (ps.map Prod.fst).sum := by
  have hs : (ps.foldl Win.step Win.zero).s = BitVec.ofInt 64 (ps.map Prod.fst).sum := by
    simp [Win.foldl_step_s, Win.zero]
  rw [hs, BitVec.toInt_ofInt]
  exact Int.bmod_eq_of_le (by omega) (by omega)

/-- Settles O21: the products are clamped, so a segment cannot wrap the window, and adding them is commutative and
associative, in the window's word as in its two flag bits. -/
theorem windowSumsDoNotDependOnOrder : Obligations.WindowSumsDoNotDependOnOrder :=
  ⟨natAbs_product_lt,
    fun _ hb hl => ⟨natAbs_segment_lt hb hl, toInt_segment (natAbs_segment_lt hb hl)⟩,
    fun c _ _ h => h.foldl_eq' (fun _ _ _ _ c => Win.step_right_comm c _ _) c,
    Win.step_stepSum⟩

end Sys2Proof.Machine

namespace Sys2Proof.Machine

/-! Registers of one unit, and what a chain of writes leaves of the register file. -/

/-- Two registers of one window lie at different offsets (R30). -/
abbrev regsApart (a b : RegName) : Prop :=
  a.place.base = b.place.base ∧ a.place.stride = b.place.stride ∧ a.place.off ≠ b.place.off

theorem addr_reg0_ne {a b : RegName} (h : regsApart a b) (n : Nat) : (reg0 a n).addr ≠ (reg0 b n).addr := by
  obtain ⟨hbase, hstride, hoff⟩ := h
  simp only [Reg.addr, reg0, hbase, hstride]
  omega

theorem RegsSameBut.refl (rs : List Reg) (s : State) : RegsSameBut rs s s := fun _ _ => rfl

theorem RegsSameBut.wr {rs : List Reg} {s t : State} (h : RegsSameBut rs s t) {r : Reg} (hr : r ∈ rs) (v : BitVec 64) :
    RegsSameBut rs s (t.wr r v) := fun q hq => by
  rw [State.rd_wr_ne t (hq r hr).symm, h q hq]

theorem RegsSameBut.mono {rs rs' : List Reg} {s t : State} (h : RegsSameBut rs s t) (hs : rs ⊆ rs') :
    RegsSameBut rs' s t := fun q hq => h q fun x hx => hq x (hs hx)

theorem RegsSameBut.trans {rs : List Reg} {s t u : State} (h : RegsSameBut rs s t) (h' : RegsSameBut rs t u) :
    RegsSameBut rs s u := fun q hq => (h' q hq).trans (h q hq)

/-! What changes only the outer-product engine of a core and registers of a list. -/

theorem OpeOnly.refl (n : Nat) (rs : List Reg) (s : State) : OpeOnly n rs s s :=
  ⟨.refl rs s, fun _ _ => rfl, rfl, rfl⟩

theorem OpeOnly.wr {n : Nat} {rs : List Reg} {s t : State} (h : OpeOnly n rs s t) {r : Reg} (hr : r ∈ rs) (v : BitVec 64) :
    OpeOnly n rs s (t.wr r v) := by
  obtain ⟨hregs, hother, hcore, hrest⟩ := h
  exact ⟨hregs.wr hr v, hother, hcore, congrArg (State.wr · r v) hrest⟩

theorem OpeOnly.setF {n : Nat} {rs : List Reg} {s t : State} (h : OpeOnly n rs s t) {r : Reg} (hr : r ∈ rs) (f : Fld)
    (x : Nat) : OpeOnly n rs s (t.setF r f x) := h.wr hr _

theorem OpeOnly.setOpe {n : Nat} {rs : List Reg} {s t : State} (h : OpeOnly n rs s t) (o : Ope) :
    OpeOnly n rs s (t.setOpe n o) := by
  obtain ⟨hregs, hother, hcore, hrest⟩ := h
  refine ⟨hregs, fun k hk => ?_, ?_, congrArg (State.setOpe · n o) hrest⟩
  · rw [State.setOpe, State.core_setCore, if_neg hk, hother k hk]
  · rw [State.ope_setOpe, State.setOpe, State.core_setCore_same, hcore]

theorem OpeOnly.mem_eq {n : Nat} {rs : List Reg} {s t : State} (h : OpeOnly n rs s t) : t.mem = s.mem := by
  obtain ⟨-, -, -, hrest⟩ := h
  rw [hrest]

theorem OpeOnly.regs {n : Nat} {rs : List Reg} {s t : State} (h : OpeOnly n rs s t) : RegsSameBut rs s t := h.1

/-! The engine's status registers (R100, R196). -/

@[simp] theorem State.ope_syncOpe (s : State) (n k : Nat) : (s.syncOpe n).ope k = s.ope k := rfl
@[simp] theorem State.ope_putOpe (s : State) (n : Nat) (o : Ope) : (s.putOpe n o).ope n = o := by simp [State.putOpe]

theorem OpeOnly.putOpe {n : Nat} {rs : List Reg} {s t : State} (h : OpeOnly n rs s t) (hst : reg0 .OPE_STATUS n ∈ rs)
    (hsm : reg0 .OPE_STREAM n ∈ rs) (o : Ope) : OpeOnly n rs s (t.putOpe n o) :=
  ((h.setOpe o).wr hst _).wr hsm _

theorem OpeOnly.reqCpl {n : Nat} {rs : List Reg} {s t : State} (h : OpeOnly n rs s t) (hst : reg0 .OPE_STATUS n ∈ rs)
    (hsm : reg0 .OPE_STREAM n ∈ rs) (c : Cpl) : OpeOnly n rs s (t.reqCpl n c) := h.putOpe hst hsm _

theorem OpeOnly.setEngSt {n : Nat} {rs : List Reg} {s t : State} (h : OpeOnly n rs s t) (hst : reg0 .OPE_STATUS n ∈ rs)
    (x : Nat) : OpeOnly n rs s (t.setEngSt false n x) := h.setF hst _ _

/-- Following the engine leaves the state and the step count of OPE_STATUS. -/
theorem State.fld_syncOpe_status (s : State) (n : Nat) (f : Fld) (h : f.lo + f.w ≤ 2 ∨ 9 ≤ f.lo ∧ f.lo + f.w ≤ 32) :
    (s.syncOpe n).fld (reg0 .OPE_STATUS n) f = s.fld (reg0 .OPE_STATUS n) f := by
  have kept (v : BitVec 64) (g : Fld) (x : Nat) (hg : 2 ≤ g.lo ∧ g.lo + g.w ≤ 9 ∨ 32 ≤ g.lo ∧ g.lo + g.w ≤ 64) :
      fget (fset v g x) f = fget v f := fget_fset_other v g f x (by omega) (by omega)
  unfold State.syncOpe State.fld
  rw [State.rd_wr_ne _ (addr_reg0_ne (by decide) n), State.rd_wr_same]
  simp (disch := decide) only [kept]

/-- The head of the queue issued (R163). -/
theorem State.opePop_eq (s : State) (n : Nat) :
    s.opePop n = (s.putOpe n { s.ope n with st := (s.ope n).st.pop }).setPc false n (s.ope n).st.pop.nextPc := rfl

@[simp] theorem State.ope_opePop (s : State) (n : Nat) :
    (s.opePop n).ope n = { s.ope n with st := (s.ope n).st.pop } := by
  rw [State.opePop_eq, State.setPc, State.ope_setF, State.ope_putOpe]

theorem State.pc_opePop (s : State) (n : Nat) : (s.opePop n).pc false n = (s.ope n).st.pop.nextPc % 2 ^ 25 := by
  rw [State.opePop_eq, State.pc, State.setPc, State.fld_setF_same _ _ _ _ (by decide)]
  rfl

theorem State.fld_opePop_status (s : State) (n : Nat) (f : Fld) (h : f.lo + f.w ≤ 2 ∨ 9 ≤ f.lo ∧ f.lo + f.w ≤ 32) :
    (s.opePop n).fld (reg0 .OPE_STATUS n) f = s.fld (reg0 .OPE_STATUS n) f := by
  rw [State.opePop_eq, State.setPc, pcReg, State.fld_setF_ne _ (addr_reg0_ne (by decide) n), State.putOpe,
    State.fld_syncOpe_status _ n f h, State.fld_setOpe]

theorem OpeOnly.opePop {n : Nat} {rs : List Reg} {s t : State} (h : OpeOnly n rs s t) (hst : reg0 .OPE_STATUS n ∈ rs)
    (hsm : reg0 .OPE_STREAM n ∈ rs) (hpc : reg0 .OPE_PC n ∈ rs) : OpeOnly n rs s (t.opePop n) :=
  (h.putOpe hst hsm _).setF hpc _ _

/-- The word at the head of a queue whose opcode is the one asked for is handed on (R162, R163). -/
theorem State.opeWord_of_opeHead {s : State} {n op : Nat} {q : QEnt} (h : opeHead s n op q)
    (f : State → QEnt → Nat → State) : s.opeWord n op f = f s q q.word := by
  obtain ⟨hready, hhead, hfault, hop⟩ := h
  obtain ⟨qs, hq⟩ := List.head?_eq_some_iff.mp hhead
  simp [State.opeWord, hready, hq, hfault, hop]

/-! A fault of the engine (R95, R100). -/

/-- OPE_FAULT as a fault at address `pc` with record `c` writes it (R100). -/
def Cpl.faultWord (c : Cpl) (pc : Nat) : BitVec 64 :=
  fset (fset (fset 0 F.OPE_FAULT_cause c.cause) F.OPE_FAULT_step_reached c.stepReached) F.OPE_FAULT_fault_pc pc

theorem Cpl.cause_faultWord (c : Cpl) (pc : Nat) : fget (c.faultWord pc) F.OPE_FAULT_cause = c.cause % 256 := by
  rw [Cpl.faultWord, fget_fset_other _ _ _ _ (by decide) (by decide), fget_fset_other _ _ _ _ (by decide) (by decide),
    fget_fset_same _ _ _ (by decide)]
  rfl

theorem Cpl.stepReached_faultWord (c : Cpl) (pc : Nat) :
    fget (c.faultWord pc) F.OPE_FAULT_step_reached = c.stepReached % 65536 := by
  rw [Cpl.faultWord, fget_fset_other _ _ _ _ (by decide) (by decide), fget_fset_same _ _ _ (by decide)]
  rfl

theorem Cpl.pc_faultWord (c : Cpl) (pc : Nat) : fget (c.faultWord pc) F.OPE_FAULT_fault_pc = pc % 2 ^ 32 :=
  fget_fset_same _ _ _ (by decide)

/-- The engine with nothing that issues or waits. -/
def Ope.stopped (o : Ope) : Ope :=
  { o with run := none, cw := none, cwRun := none, susp := none, resume := none, waited := ⟨0, 0, 0⟩ }

/-- What a fault does: it writes the fault register, stops the engine, withdraws its requests, asks for the record, and raises one
event in FAULTED. -/
theorem State.opeFault_eq (s : State) (n pc : Nat) (c : Cpl) : ∃ isl pl, s.opeFault n pc c =
    ((((((s.wr (reg0 .OPE_FAULT n) (c.faultWord pc)).setOpe n (s.ope n).stopped).setF
      (reg0 .OPE_CTRL n) F.OPE_CTRL_suspend_req 0).setF (reg0 .OPE_CTRL n) F.OPE_CTRL_resume_req 0).reqCpl n c).setEngSt
      false n 3).event isl 0x0200 pl := ⟨_, _, rfl⟩

/-- A record requested is one more record of the engine. -/
theorem State.ope_reqCpl (s : State) (n : Nat) (c : Cpl) :
    (s.reqCpl n c).ope n = { s.ope n with cpls := (s.ope n).cpls ++ [c] } := by
  rw [State.reqCpl, State.ope_putOpe]

@[simp] theorem State.opeFault_mem (s : State) (n pc : Nat) (c : Cpl) : (s.opeFault n pc c).mem = s.mem := rfl

@[simp] theorem State.ope_opeFault (s : State) (n pc : Nat) (c : Cpl) :
    (s.opeFault n pc c).ope n = { (s.ope n).stopped with cpls := (s.ope n).cpls ++ [c] } := by
  obtain ⟨isl, pl, hs⟩ := s.opeFault_eq n pc c
  rw [hs, State.ope_event, State.setEngSt, State.ope_setF, State.ope_reqCpl, State.ope_setF, State.ope_setF, State.ope_setOpe]
  rfl

theorem State.opeFault_evq (s : State) (n pc : Nat) (c : Cpl) :
    ∃ e, (s.opeFault n pc c).evq = s.evq ++ [e] ∧ e.code = 0x0200 := ⟨_, rfl, rfl⟩

theorem State.engSt_opeFault (s : State) (n pc : Nat) (c : Cpl) : (s.opeFault n pc c).engSt false n = 3 := by
  obtain ⟨isl, pl, hs⟩ := s.opeFault_eq n pc c
  rw [hs, State.engSt, State.fld_event, State.setEngSt, State.fld_setF_same _ _ _ _ (by decide)]
  rfl

/-- Beside the fault register, a fault writes OPE_CTRL and the status registers alone. -/
theorem regsSameBut_wr_opeFault (s : State) (n pc : Nat) (c : Cpl) :
    RegsSameBut [reg0 .OPE_CTRL n, reg0 .OPE_STATUS n, reg0 .OPE_STREAM n]
      (s.wr (reg0 .OPE_FAULT n) (c.faultWord pc)) (s.opeFault n pc c) := by
  obtain ⟨isl, pl, hs⟩ := s.opeFault_eq n pc c
  have h := OpeOnly.refl n [reg0 .OPE_CTRL n, reg0 .OPE_STATUS n, reg0 .OPE_STREAM n]
    (s.wr (reg0 .OPE_FAULT n) (c.faultWord pc))
  intro r hr
  rw [hs, State.rd_event]
  exact (((((h.setOpe _).setF (by simp) _ _).setF (by simp) _ _).reqCpl (by simp) (by simp) _).setEngSt (by simp) _).regs r hr

theorem State.rd_opeFault_fault (s : State) (n pc : Nat) (c : Cpl) :
    (s.opeFault n pc c).rd (reg0 .OPE_FAULT n) = c.faultWord pc := by
  rw [regsSameBut_wr_opeFault s n pc c _ (by simp (disch := decide) [addr_reg0_ne]), State.rd_wr_same]

theorem regsSameBut_opeFault (s : State) (n pc : Nat) (c : Cpl) :
    RegsSameBut [reg0 .OPE_FAULT n, reg0 .OPE_CTRL n, reg0 .OPE_STATUS n, reg0 .OPE_STREAM n] s (s.opeFault n pc c) :=
  ((RegsSameBut.refl _ s).wr (by simp) _).trans ((regsSameBut_wr_opeFault s n pc c).mono (by simp))

/-- A fault with record `c` at address `pc` is the engine's fault by the cause and the steps that the record names. -/
theorem opeFaults_opeFault (s : State) (n pc : Nat) {c : Cpl} (h : c.cause < 256) :
    OpeFaults n pc c.cause c.stepReached s (s.opeFault n pc c) := by
  refine ⟨State.engSt_opeFault .., ?_, ?_, ?_, State.opeFault_evq .., ⟨c, by simp, rfl, rfl⟩, State.opeFault_mem ..⟩
  · rw [State.fld, State.rd_opeFault_fault, Cpl.cause_faultWord, Nat.mod_eq_of_lt h]
  · rw [State.fld, State.rd_opeFault_fault, Cpl.stepReached_faultWord]
  · rw [State.fld, State.rd_opeFault_fault, Cpl.pc_faultWord]

/-- The engine with an identifier given out to the word at the head of its queue (R97). -/
def Ope.numbered (o : Ope) : Ope := { o with nextId := o.nextId + 1, out := o.out ++ [o.nextId] }

/-- A word that faults at issue takes an identifier, and its record names the cause and no step (R95, R98). -/
theorem State.wordFault_eq (s : State) (n : Nat) (q : QEnt) (cause : Nat) : ∃ c, c.cause = cause ∧ c.stepReached = 0 ∧
    s.wordFault n q cause = (s.setOpe n (s.ope n).numbered).opeFault n q.pc c := ⟨_, rfl, rfl, rfl⟩

theorem opeFaults_wordFault (s : State) (n : Nat) (q : QEnt) {cause : Nat} (h : cause < 256) :
    OpeFaults n q.pc cause 0 s (s.wordFault n q cause) := by
  obtain ⟨c, rfl, hstep, hw⟩ := s.wordFault_eq n q cause
  simpa [hw, hstep, OpeFaults, Ope.numbered] using opeFaults_opeFault (s.setOpe n (s.ope n).numbered) n q.pc h

/-- A word that faults at issue leaves the windows, the gutter slots and the numeric flags alone (R33, R95). -/
theorem State.wordFault_keeps (s : State) (n : Nat) (q : QEnt) (cause : Nat) :
    let t := s.wordFault n q cause
    (t.ope n).run = none ∧ (t.ope n).main = (s.ope n).main ∧ (t.ope n).shadow = (s.ope n).shadow ∧
      (t.ope n).gut0 = (s.ope n).gut0 ∧ (t.ope n).gut1 = (s.ope n).gut1 ∧
      t.rd (reg0 .OPE_NUM_FLAGS n) = s.rd (reg0 .OPE_NUM_FLAGS n) := by
  obtain ⟨c, -, -, hw⟩ := s.wordFault_eq n q cause
  have hflags := regsSameBut_opeFault (s.setOpe n (s.ope n).numbered) n q.pc c (reg0 .OPE_NUM_FLAGS n)
    (by simp (disch := decide) [addr_reg0_ne])
  have hope := (s.setOpe n (s.ope n).numbered).ope_opeFault n q.pc c
  rw [State.ope_setOpe] at hope
  dsimp only
  rw [hw, hope, hflags]
  exact ⟨rfl, rfl, rfl, rfl, rfl, rfl⟩

/-! The checks of a PASS (R76). -/

theorem exec_pass (n : CoreId) (s : State) : exec (.pass n) s = execPass n s := rfl

theorem exec_pass_of_check_ne {s : State} {n : CoreId} {q : QEnt} (h : opeHead s n 0x01 q)
    (hc : s.passCheck n (passOf q.word) ≠ 0) :
    exec (.pass n) s = .next (s.wordFault n q (s.passCheck n (passOf q.word))) := by
  rw [exec_pass, execPass, State.opeWord_of_opeHead h, if_pos hc]

theorem exec_pass_of_check_eq {s : State} {n : CoreId} {q : QEnt} (h : opeHead s n 0x01 q)
    (hc : s.passCheck n (passOf q.word) = 0) : exec (.pass n) s = .next (s.passStart n q (passOf q.word)) := by
  rw [exec_pass, execPass, State.opeWord_of_opeHead h, if_neg (not_not_intro hc)]

/-- The causes of a PASS are 1 to 5. -/
theorem State.passCheck_le (s : State) (n : Nat) (p : PassW) : s.passCheck n p ≤ 5 := by
  unfold State.passCheck
  dsimp only
  repeat' split
  all_goals decide

/-- Cause 1: ranks that differ, a reserved code, or a drain code that is no output format (R33). -/
theorem State.passCheck_eq_one {s : State} {n : Nat} {p : PassW}
    (h : fmtRank p.fmtL ≠ fmtRank p.fmtR ∨ fmtRank p.fmtL = none ∨
      (p.ends = true ∧ isDrainFmt (s.fld (reg1 .OPE_DRAIN n p.dset) F.OPE_DRAIN_fmt_out) = false)) :
    s.passCheck n p = 0x01 := by
  unfold State.passCheck
  dsimp only
  split
  · next r r' hl hr =>
    refine if_pos ?_
    simpa [hl, hr, State.fld] using h
  · rfl

section
variable {s : State} {n k : Nat} {p : PassW}
  (hl : fmtRank p.fmtL = some k) (hr : fmtRank p.fmtR = some k) (he : p.ends = false)
include hl hr he

/-- Cause 2: a spill length of zero, above the bound, or not a multiple of the rank. -/
theorem State.passCheck_eq_two (h : p.spillL = 0 ∨ 32768 < p.spillL ∨ p.spillL % k ≠ 0) : s.passCheck n p = 0x02 := by
  simp only [State.passCheck, hl, hr, he]
  rw [if_neg (by simp), if_pos h]

/-- Cause 3: active lanes beyond the shape. -/
theorem State.passCheck_eq_three (h2 : ¬(p.spillL = 0 ∨ 32768 < p.spillL ∨ p.spillL % k ≠ 0))
    (h : (shapeOf p.shape).h ≤ p.mAct ∨ (shapeOf p.shape).w ≤ p.nAct) : s.passCheck n p = 0x03 := by
  simp only [State.passCheck, hl, hr, he]
  rw [if_neg (by simp), if_neg h2, if_pos (.inr h)]

/-- Cause 4: a PASS that continues where no tile is open. -/
theorem State.passCheck_eq_four (h2 : ¬(p.spillL = 0 ∨ 32768 < p.spillL ∨ p.spillL % k ≠ 0))
    (h3 : ¬((shapeOf p.shape).h ≤ p.mAct ∨ (shapeOf p.shape).w ≤ p.nAct)) (hb : p.begins = false)
    (ht : (s.ope n).tile = none) : s.passCheck n p = 0x04 := by
  simp only [State.passCheck, hl, hr, he, hb, ht]
  rw [if_neg (by simp), if_neg h2, if_neg (by simpa using h3), if_pos (by simp)]

end

/-! A PASS that begins (R74, R76, R77). -/

/-- The counts of the gutter slot and of the segment, cleared for a new tile (R77). -/
def State.tileCounts (s : State) (n : Nat) (p : PassW) : State :=
  if p.begins then (s.setSpills n p.slot 0).setSegLen n 0 else s

theorem OpeOnly.tileCounts {n : Nat} {rs : List Reg} {s t : State} (h : OpeOnly n rs s t) (hr : reg0 .OPE_NUM_STATE n ∈ rs)
    (p : PassW) : OpeOnly n rs s (t.tileCounts n p) := by
  unfold State.tileCounts
  split
  · exact (h.setF hr _ _).setF hr _ _
  · exact h

/-- A PASS that begins: the counts of a new tile are cleared and the step count too, the engine has its tile and its pass, and the
word leaves the queue. -/
theorem State.passStart_eq (s : State) (n : Nat) (q : QEnt) (p : PassW) :
    ∃ o, s.passStart n q p = (((s.tileCounts n p).setF (reg0 .OPE_STATUS n) F.OPE_STATUS_steps_issued 0).setOpe n o).opePop n :=
  ⟨_, rfl⟩

theorem opeIssued_passStart (s : State) (n : Nat) (q : QEnt) (p : PassW) :
    OpeIssued n [reg0 .OPE_NUM_STATE n] s (s.passStart n q p) := by
  obtain ⟨o, ho⟩ := s.passStart_eq n q p
  rw [ho]
  refine ⟨?_, ?_⟩
  · exact ((((OpeOnly.refl n _ s).tileCounts (by simp) p).setF (by simp) _ _).setOpe o).opePop (by simp) (by simp) (by simp)
  · rw [State.pc_opePop, State.ope_opePop]

theorem State.stepsIssued_passStart (s : State) (n : Nat) (q : QEnt) (p : PassW) :
    (s.passStart n q p).fld (reg0 .OPE_STATUS n) F.OPE_STATUS_steps_issued = 0 := by
  obtain ⟨o, ho⟩ := s.passStart_eq n q p
  rw [ho, State.fld_opePop_status _ _ _ (by decide), State.fld_setOpe, State.fld_setF_same _ _ _ _ (by decide), Nat.zero_mod]

/-- The spill counts and the segment length are those that the new tile has. -/
theorem State.rd_numState_passStart (s : State) (n : Nat) (q : QEnt) (p : PassW) :
    (s.passStart n q p).rd (reg0 .OPE_NUM_STATE n) = (s.tileCounts n p).rd (reg0 .OPE_NUM_STATE n) := by
  obtain ⟨o, ho⟩ := s.passStart_eq n q p
  have h := OpeOnly.refl n [reg0 .OPE_STATUS n, reg0 .OPE_STREAM n, reg0 .OPE_PC n] (s.tileCounts n p)
  rw [ho]
  exact (((h.setF (by simp) _ _).setOpe _).opePop (by simp) (by simp) (by simp)).regs _ (by simp (disch := decide) [addr_reg0_ne])

/-- The spill counts lie below the segment length. -/
theorem spillFld_end_le (slot : Nat) : (spillFld slot).lo + (spillFld slot).w ≤ 32 := by
  unfold spillFld
  split <;> decide

theorem State.spills_tileCounts {s : State} {n : Nat} {p : PassW} (h : p.begins = true) :
    (s.tileCounts n p).spills n p.slot = 0 := by
  have hle := spillFld_end_le p.slot
  rw [State.tileCounts, if_pos h, State.spills, State.setSegLen, State.fld_setF_other _ _ _ _ _ (by decide) (.inr hle),
    State.setSpills, State.fld_setF_same _ _ _ _ (by omega), Nat.zero_mod]

theorem State.segLen_tileCounts {s : State} {n : Nat} {p : PassW} (h : p.begins = true) : (s.tileCounts n p).segLen n = 0 := by
  rw [State.tileCounts, if_pos h, State.segLen, State.setSegLen, State.fld_setF_same _ _ _ _ (by decide), Nat.zero_mod]

/-- The array is as it was, and the stream is without the word. -/
theorem State.ope_passStart_kept (s : State) (n : Nat) (q : QEnt) (p : PassW) :
    ((s.passStart n q p).ope n).st = (s.ope n).st.pop ∧ ((s.passStart n q p).ope n).main = (s.ope n).main := by
  simp [State.passStart]

/-- The pass as it begins: at step 0 of its steps, with its word and address. -/
theorem State.run_passStart (s : State) (n : Nat) (q : QEnt) (p : PassW) :
    ((s.passStart n q p).ope n).run.map (fun r => (r.t, r.steps, r.word.toNat, r.pc)) =
      some (0, if p.k = 0 then 1 else (p.k + (fmtRank p.fmtL).getD 1 - 1) / (fmtRank p.fmtL).getD 1, q.word % 2 ^ 128, q.pc) := by
  simp [State.passStart]

theorem State.tile_passStart_begins {s : State} {n : Nat} {p : PassW} (q : QEnt) (h : p.begins = true) :
    ((s.passStart n q p).ope n).tile = some (s.newTile n p) := by
  simp [State.passStart, h]

theorem State.tile_passStart_continues {s : State} {n : Nat} {p : PassW} {x : Tile} (q : QEnt) (h : p.begins = false)
    (hx : (s.ope n).tile = some x) : ((s.passStart n q p).ope n).tile = some { x with
      fmtL := p.fmtL, fmtR := p.fmtR, mAct := p.mAct, nAct := p.nAct, numCtrl := s.rd (reg0 .OPE_NUM_CTRL n) } := by
  simp [State.passStart, h, hx]

/-- Settles O18: the checks are one chain of conditions, a failed one is a fault at issue, which leaves the array alone, and a
PASS that passes them changes the engine and its own registers by `State.passStart`. -/
theorem passChecksAndBegins : Obligations.PassChecksAndBegins := by
  rintro n q s hq p rfl
  refine ⟨?faults, fun h => ?format, fun k hl hr he => ?later, fun hc => ?begins⟩
  case faults =>
    rintro c rfl hc
    have hle := Nat.lt_of_le_of_lt (s.passCheck_le n (passOf q.word)) (by decide : 5 < 256)
    exact ⟨_, exec_pass_of_check_ne hq hc, opeFaults_wordFault s n q hle⟩
  case format =>
    have h1 := State.passCheck_eq_one h
    have hx := exec_pass_of_check_ne hq (by rw [h1]; decide)
    rw [h1] at hx
    exact ⟨h1, _, hx, opeFaults_wordFault s n q (by decide), s.wordFault_keeps n q 0x01⟩
  case later =>
    exact ⟨State.passCheck_eq_two hl hr he, fun h2 =>
      ⟨State.passCheck_eq_three hl hr he h2, State.passCheck_eq_four hl hr he h2⟩⟩
  case begins =>
    have hi := opeIssued_passStart s n q (passOf q.word)
    obtain ⟨hst, hmain⟩ := s.ope_passStart_kept n q (passOf q.word)
    have hnum := s.rd_numState_passStart n q (passOf q.word)
    refine ⟨_, exec_pass_of_check_eq hq hc, hi.1.mem_eq, hi, hst, hmain, State.stepsIssued_passStart .., State.run_passStart ..,
      fun hb => ⟨?_, ?_, ?_⟩, fun hb x hx => ⟨?_, ?_⟩⟩
    · rw [State.spills, State.fld, hnum]
      exact State.spills_tileCounts hb
    · rw [State.segLen, State.fld, hnum]
      exact State.segLen_tileCounts hb
    · rw [State.tile_passStart_begins q hb]
      rfl
    · rw [hnum, State.tileCounts, if_neg (by simp [hb])]
    · rw [State.tile_passStart_continues q hb hx]
      rfl

end Sys2Proof.Machine

namespace Sys2Proof.Machine

/-! Tables and registers that updates leave. -/

/-- A table filtered by its keys. -/
theorem tget_filter {α : Type} (d : α) (p : Nat → Bool) (t : Tbl α) (k : Nat) :
    tget d (t.filter (fun x => p x.1)) k = if p k then tget d t k else d := by
  induction t with
  | nil => simp [tget]
  | cons x t ih =>
    obtain ⟨k', v⟩ := x
    by_cases hk : k' = k
    · subst hk
      cases hp : p k' <;> simp [tget, hp, ih]
    · cases hp : p k' <;> simp [tget, hp, hk, ih]

theorem State.fld_lt (s : State) (r : Reg) (f : Fld) : s.fld r f < 2 ^ f.w := getBits_lt ..

theorem RegsSameBut.of_regs_eq {rs : List Reg} {s t u : State} (h : RegsSameBut rs s t) (hu : u.regs = t.regs) :
    RegsSameBut rs s u := fun r hr => by
  rw [State.rd, hu]
  exact h r hr

theorem RegsSameBut.setF {rs : List Reg} {s t : State} (h : RegsSameBut rs s t) {r : Reg} (hr : r ∈ rs) (f : Fld) (x : Nat) :
    RegsSameBut rs s (t.setF r f x) := h.wr hr _

theorem RegsSameBut.edge {rs : List Reg} {s t : State} (h : RegsSameBut rs s t) {i : Nat} (hr : reg1 .ICU_SRC 0 i ∈ rs) :
    RegsSameBut rs s (t.edge i) := by
  unfold State.edge
  split
  · exact h
  · dsimp only
    split <;> exact h.setF hr _ _

theorem RegsSameBut.foldl {α : Type} {rs : List Reg} {s t : State} (h : RegsSameBut rs s t) (l : List α) (f : State → α → State)
    (hf : ∀ u, RegsSameBut rs s u → ∀ x ∈ l, RegsSameBut rs s (f u x)) : RegsSameBut rs s (l.foldl f t) :=
  List.foldlRecOn l f h hf

theorem RegsSameBut.fld {rs : List Reg} {s t : State} (h : RegsSameBut rs s t) {r : Reg} (hr : ∀ x ∈ rs, x.addr ≠ r.addr)
    (f : Fld) : t.fld r f = s.fld r f := by
  rw [State.fld, h r hr]
  rfl

/-- Only registers change from one state to the other. -/
def OnlyRegs (s t : State) : Prop := t = { s with regs := t.regs }

theorem OnlyRegs.refl (s : State) : OnlyRegs s s := rfl

theorem OnlyRegs.setF {s t : State} (h : OnlyRegs s t) (r : Reg) (f : Fld) (x : Nat) : OnlyRegs s (t.setF r f x) :=
  congrArg (State.setF · r f x) h

theorem OnlyRegs.edge {s t : State} (h : OnlyRegs s t) (i : Nat) : OnlyRegs s (t.edge i) := by
  rw [OnlyRegs, State.edge_eq, h]

theorem OnlyRegs.foldl {α : Type} {s t : State} (h : OnlyRegs s t) (l : List α) (f : State → α → State)
    (hf : ∀ u, OnlyRegs s u → ∀ x ∈ l, OnlyRegs s (f u x)) : OnlyRegs s (l.foldl f t) :=
  List.foldlRecOn l f h hf

theorem OnlyRegs.mem {s t : State} (h : OnlyRegs s t) : t.mem = s.mem := by rw [h]
theorem OnlyRegs.rst {s t : State} (h : OnlyRegs s t) : t.rst = s.rst := by rw [h]
theorem OnlyRegs.clk {s t : State} (h : OnlyRegs s t) : t.clk = s.clk := by rw [h]

/-- An edge of an edge source leaves it pending (R366). -/
theorem State.pending_edge (s : State) {i : Nat} (h : (reservedSource i || levelSource i) = false) :
    (s.edge i).fld (reg1 .ICU_SRC 0 i) F.ICU_SRC_pending = 1 := by
  unfold State.edge
  rw [if_neg (by simp [h])]
  dsimp only
  split
  · next hp => rw [State.fld_setF_other _ _ _ _ _ (by decide) (by decide), hp]
  · rw [State.fld_setF_same _ _ _ _ (by decide)]
    rfl

/-! The mode, the edge sources, LOADSTEP and the flush of the cache: what they leave. -/

theorem State.mgmtNote_eq (s : State) : ∃ m, s.mgmtNote = { s with mgmt := m } := by
  unfold State.mgmtNote
  dsimp only
  split <;> exact ⟨_, rfl⟩

theorem State.setMode_eq (s : State) (x : Nat) : ∃ m, s.setMode x = { s.setF globalReg F.PCI_MBX_GLOBAL_mode x with mgmt := m } :=
  State.mgmtNote_eq _

@[simp] theorem State.setMode_mem (s : State) (x : Nat) : (s.setMode x).mem = s.mem := by
  obtain ⟨m, hm⟩ := s.setMode_eq x
  rw [hm]
  rfl

@[simp] theorem State.setMode_rst (s : State) (x : Nat) : (s.setMode x).rst = s.rst := by
  obtain ⟨m, hm⟩ := s.setMode_eq x
  rw [hm]
  rfl

@[simp] theorem State.setMode_firm (s : State) (x : Nat) : (s.setMode x).firm = s.firm := by
  obtain ⟨m, hm⟩ := s.setMode_eq x
  rw [hm]
  rfl

@[simp] theorem State.setMode_clk (s : State) (x : Nat) : (s.setMode x).clk = s.clk := by
  obtain ⟨m, hm⟩ := s.setMode_eq x
  rw [hm]
  rfl

/-- What a read finds after a change of the mode. -/
theorem State.fld_setMode (s : State) (x : Nat) (r : Reg) (f : Fld) :
    (s.setMode x).fld r f = (s.setF globalReg F.PCI_MBX_GLOBAL_mode x).fld r f := by
  obtain ⟨m, hm⟩ := s.setMode_eq x
  rw [hm]
  rfl

theorem State.mode_setMode (s : State) {x : Nat} (h : x < 8) : (s.setMode x).mode = x := by
  rw [State.mode, State.fld_setMode, ← globalReg, State.fld_setF_same _ _ _ _ (by decide)]
  exact Nat.mod_eq_of_lt h

theorem RegsSameBut.setMode {rs : List Reg} {s t : State} (h : RegsSameBut rs s t) (hr : globalReg ∈ rs) (x : Nat) :
    RegsSameBut rs s (t.setMode x) := by
  obtain ⟨m, hm⟩ := t.setMode_eq x
  rw [hm]
  exact (h.setF hr F.PCI_MBX_GLOBAL_mode x).of_regs_eq rfl

theorem OnlyRegs.setLoadstep {s t : State} (h : OnlyRegs s t) (c : Nat) : OnlyRegs s (t.setLoadstep c) := by
  unfold State.setLoadstep
  split
  · exact h
  · exact (h.setF _ _ _).edge 611

@[simp] theorem State.setLoadstep_mem (s : State) (c : Nat) : (s.setLoadstep c).mem = s.mem := ((OnlyRegs.refl s).setLoadstep c).mem
@[simp] theorem State.setLoadstep_rst (s : State) (c : Nat) : (s.setLoadstep c).rst = s.rst := ((OnlyRegs.refl s).setLoadstep c).rst
@[simp] theorem State.setLoadstep_clk (s : State) (c : Nat) : (s.setLoadstep c).clk = s.clk := ((OnlyRegs.refl s).setLoadstep c).clk

theorem RegsSameBut.setLoadstep {rs : List Reg} {s t : State} (h : RegsSameBut rs s t) (hp : pwrStatus ∈ rs)
    (hi : reg1 .ICU_SRC 0 611 ∈ rs) (c : Nat) : RegsSameBut rs s (t.setLoadstep c) := by
  unfold State.setLoadstep
  split
  · exact h
  · exact (h.setF hp _ _).edge hi

/-! The flush of the cache before a reset: it changes what stands behind memory, not what memory holds (R208, R348). -/

theorem State.setWritten_eq (s : State) (c p : Nat) : s.setWritten c p = { s with hbm := (s.setWritten c p).hbm } := by
  unfold State.setWritten
  dsimp only
  split <;> rfl

theorem State.markWritten_eq (s : State) (a : Nat) : s.markWritten a = { s with hbm := (s.markWritten a).hbm } := by
  unfold State.markWritten
  dsimp only
  split
  · rw [State.setWritten_eq]
  · rw [State.setWritten_eq, State.setWritten_eq s]

theorem State.healBursts_eq (s : State) (bs : List Nat) :
    s.healBursts bs = { s with hbm := (s.healBursts bs).hbm, poison := (s.healBursts bs).poison } := by
  unfold State.healBursts
  dsimp only
  split <;> rfl

theorem State.evict_eq (s : State) (l : CLine) : s.evict l = { s with hbm := (s.evict l).hbm, poison := (s.evict l).poison } := by
  unfold State.evict
  dsimp only
  split
  · rw [State.lineLands, State.healBursts_eq, State.markWritten_eq]
    rfl
  · rfl

theorem State.foldl_evict_eq (s : State) (ls : List CLine) :
    ∃ h p, ls.foldl State.evict s = { s with hbm := h, poison := p } :=
  List.foldlRecOn ls State.evict (motive := fun t => ∃ h p, t = { s with hbm := h, poison := p }) ⟨_, _, rfl⟩
    fun t ht l _ => by
      obtain ⟨h, p, rfl⟩ := ht
      exact ⟨_, _, State.evict_eq _ l⟩

theorem State.mscFlush_eq (s : State) : ∃ h p, s.mscFlush = { s with hbm := h, poison := p } := by
  obtain ⟨h, p, hs⟩ := List.foldlRecOn s.hbm.sets (fun (t : State) (x : Nat × List CLine) => x.2.foldl State.evict t)
    (motive := fun t => ∃ h p, t = { s with hbm := h, poison := p }) (b := s) ⟨_, _, rfl⟩
    fun t ht x _ => by
      obtain ⟨h, p, rfl⟩ := ht
      exact State.foldl_evict_eq _ x.2
  exact ⟨{ h with sets := [] }, p, by rw [State.mscFlush, hs]⟩

/-! The registers that a reset leaves (R11, R344, R347). -/

/-- Whether a reset of a source keeps the contents of stacked memory (R348). -/
def State.keepsStacked (s : State) (src : Nat) : Bool :=
  !(decide (src = 0) || decide (src = 6)) && decide (s.optInUse.ranged.hbmPreserve = 1) && !s.rst.lost

/-- The addresses of the registers that are retained with the contents of stacked memory. -/
def stackedAddr (a : Nat) : Bool :=
  decide ((chReg 0).addr ≤ a) && decide (a < (chReg 0).addr + 8192) || decide (a = (reg0 .HBM_SPARE_STATUS 0).addr)

/-- The reset values, and the registers retained with the contents of stacked memory. -/
def State.resetRegs (s : State) (keep : Bool) : State :=
  { State.reset with regs := if keep then s.regs.filter (fun r => stackedAddr r.1) else [] }

/-- A field as another state has it, where it is kept. -/
def State.takeF (t s : State) (on : Bool) (r : Reg) (f : Fld) : State := if on then t.setF r f (s.fld r f) else t

/-- RST_STATUS after a reset: the source, and the always-on fields (R363). -/
def State.keptStatus (s : State) (src : Nat) (keep : Bool) : State :=
  let clear := decide (src = 0) || decide (src = 6)
  ((((s.resetRegs keep).setF rstStatus F.RST_STATUS_reset_cause src).takeF s (!clear) rstStatus F.RST_STATUS_frost_cause).takeF s
    true rstStatus F.RST_STATUS_start_count).takeF s (decide (src ≠ 0)) rstStatus F.RST_STATUS_ramp_active

/-- The remap counts, kept but at a power-on reset. -/
def State.keptRemaps (s t : State) (src : Nat) : State :=
  if src = 0 then t else
    (upTo 0 64).foldl (fun t n =>
      let c := s.fld (remapReg n) F.CP_CORE_REMAP_remap_count
      if c = 0 then t else t.setF (remapReg n) F.CP_CORE_REMAP_remap_count c) t

/-- The kept fields of the other registers. -/
def State.keptOthers (s t : State) (src : Nat) : State :=
  let ramp := decide (src ≠ 0) && decide (s.frost.ramp ≠ 0)
  let t := t.takeF s (!(decide (src = 0) || decide (src = 6))) (reg0 .RST_FAILOVER 0) F.RST_FAILOVER_failovers
  let t := t.takeF s (decide (src ≠ 0)) evStatus F.PCI_MBX_EV_STATUS_next_seq
  let t := t.takeF s ramp pwrStatus F.PWR_STATUS_loadstep
  s.keptRemaps ((t.takeF s ramp pwrCtrl F.PWR_CTRL_loadstep_lead).takeF s ramp pwrCtrl F.PWR_CTRL_ramp_slope) src

theorem State.rd_afterReset (s : State) (src : Nat) (r : Reg) :
    (s.afterReset src).rd r = (s.keptOthers (s.keptStatus src (s.keepsStacked src)) src).rd r := rfl

theorem RegsSameBut.takeF {rs : List Reg} {s t : State} (h : RegsSameBut rs s t) {r : Reg} (hr : r ∈ rs) (u : State) (on : Bool)
    (f : Fld) : RegsSameBut rs s (t.takeF u on r f) := by
  unfold State.takeF
  split
  · exact h.setF hr _ _
  · exact h

theorem State.fld_takeF_same (t s : State) (on : Bool) (r : Reg) (f : Fld) (h : f.lo + f.w ≤ 64) :
    (t.takeF s on r f).fld r f = if on then s.fld r f else t.fld r f := by
  unfold State.takeF
  split
  · rw [State.fld_setF_same _ _ _ _ h, Nat.mod_eq_of_lt (s.fld_lt r f)]
  · rfl

theorem State.fld_takeF_other (t s : State) (on : Bool) (r : Reg) (f g : Fld) (h : f.lo + f.w ≤ 64)
    (d : f.lo + f.w ≤ g.lo ∨ g.lo + g.w ≤ f.lo) : (t.takeF s on r f).fld r g = t.fld r g := by
  unfold State.takeF
  split
  · exact State.fld_setF_other _ _ _ _ _ h d
  · rfl

theorem State.rd_resetRegs (s : State) (keep : Bool) (r : Reg) :
    (s.resetRegs keep).rd r = if (keep && stackedAddr r.addr) = true then s.rd r else r.reset := by
  cases keep
  · rfl
  · simp only [State.resetRegs, State.rd, if_true, tget_filter, Bool.true_and]

/-- Beside RST_STATUS, a reset keeps fields of these registers. -/
def keptRegisters : List Reg :=
  [reg0 .RST_FAILOVER 0, evStatus, pwrStatus, pwrCtrl] ++ (upTo 0 64).map remapReg

theorem remapReg_mem_keptRegisters {n : Nat} (h : n < 64) : remapReg n ∈ keptRegisters :=
  List.mem_append_right _ (List.mem_map_of_mem ((mem_upTo 0 64 n).mpr ⟨Nat.zero_le n, by omega⟩))

theorem RegsSameBut.keptRemaps {s t : State} (h : RegsSameBut keptRegisters s t) (u : State) (src : Nat) :
    RegsSameBut keptRegisters s (u.keptRemaps t src) := by
  unfold State.keptRemaps
  split
  · exact h
  · refine h.foldl _ _ fun v hv n hn => ?_
    have hn := remapReg_mem_keptRegisters (by simpa [mem_upTo] using hn)
    dsimp only
    split
    · exact hv
    · exact hv.setF hn _ _

theorem regsSameBut_keptOthers (s t : State) (src : Nat) : RegsSameBut keptRegisters t (s.keptOthers t src) := by
  have h := RegsSameBut.refl keptRegisters t
  unfold State.keptOthers
  exact (((((h.takeF (by simp [keptRegisters]) _ _ _).takeF (by simp [keptRegisters]) _ _ _).takeF (by simp [keptRegisters])
    _ _ _).takeF (by simp [keptRegisters]) _ _ _).takeF (by simp [keptRegisters]) _ _ _).keptRemaps _ _

theorem regsSameBut_keptStatus (s : State) (src : Nat) (keep : Bool) :
    RegsSameBut [rstStatus] (s.resetRegs keep) (s.keptStatus src keep) := by
  have h := RegsSameBut.refl [rstStatus] (s.resetRegs keep)
  unfold State.keptStatus
  exact (((h.setF (by simp) _ _).takeF (by simp) _ _ _).takeF (by simp) _ _ _).takeF (by simp) _ _ _

/-- RST_STATUS is what the source and the always-on fields make it. -/
theorem State.fld_afterReset_status (s : State) (src : Nat) (f : Fld) :
    (s.afterReset src).fld rstStatus f = (s.keptStatus src (s.keepsStacked src)).fld rstStatus f :=
  (regsSameBut_keptOthers s _ src).fld (by decide) f

/-- A register of which a reset keeps nothing. -/
theorem State.rd_afterReset_other (s : State) (src : Nat) {r : Reg} (h : ∀ x ∈ keptRegisters, x.addr ≠ r.addr)
    (hst : rstStatus.addr ≠ r.addr) :
    (s.afterReset src).rd r = if (s.keepsStacked src && stackedAddr r.addr) = true then s.rd r else r.reset := by
  rw [State.rd_afterReset, regsSameBut_keptOthers s _ src r h, regsSameBut_keptStatus s src _ r (by simpa using hst),
    State.rd_resetRegs]

theorem State.resetCause_afterReset (s : State) {src : Nat} (h : src < 16) :
    (s.afterReset src).fld rstStatus F.RST_STATUS_reset_cause = src := by
  rw [State.fld_afterReset_status, State.keptStatus]
  simp (disch := decide) only [State.fld_takeF_other, State.fld_setF_same]
  exact Nat.mod_eq_of_lt h

theorem State.fld_resetRegs_status (s : State) (keep : Bool) (f : Fld) :
    (s.resetRegs keep).fld rstStatus f = fget rstStatus.reset f := by
  rw [State.fld, State.rd_resetRegs, if_neg (by simp [show stackedAddr rstStatus.addr = false by decide])]

theorem State.frost_afterReset (s : State) (src : Nat) : (s.afterReset src).fld rstStatus F.RST_STATUS_frost = 0 := by
  rw [State.fld_afterReset_status, State.keptStatus]
  simp (disch := decide) only [State.fld_takeF_other, State.fld_setF_other, State.fld_resetRegs_status]
  decide

theorem State.startCount_afterReset (s : State) (src : Nat) :
    (s.afterReset src).fld rstStatus F.RST_STATUS_start_count = s.fld rstStatus F.RST_STATUS_start_count := by
  rw [State.fld_afterReset_status, State.keptStatus]
  simp (disch := decide) only [State.fld_takeF_other, State.fld_takeF_same, if_true]

theorem State.frostCause_afterReset (s : State) (src : Nat) :
    (s.afterReset src).fld rstStatus F.RST_STATUS_frost_cause =
      if src = 0 ∨ src = 6 then 0 else s.fld rstStatus F.RST_STATUS_frost_cause := by
  have h0 : fget rstStatus.reset F.RST_STATUS_frost_cause = 0 := by decide
  rw [State.fld_afterReset_status, State.keptStatus]
  simp (disch := decide) only [State.fld_takeF_other, State.fld_takeF_same, State.fld_setF_other, State.fld_resetRegs_status, h0]
  by_cases hz : src = 0 <;> by_cases hs : src = 6 <;> simp [hz, hs]

theorem State.mode_afterReset (s : State) (src : Nat) : (s.afterReset src).mode = 0 := by
  rw [State.mode, State.fld, State.rd_afterReset_other _ _ (by decide) (by decide),
    if_neg (by simp [show stackedAddr (reg0 .PCI_MBX_GLOBAL 0).addr = false by decide])]
  decide

/-- The channel states are retained with the contents of stacked memory (R347). -/
theorem State.rd_afterReset_chReg (s : State) {src c : Nat} (hk : s.keepsStacked src = true) (hc : c < 1024) :
    (s.afterReset src).rd (chReg c) = s.rd (chReg c) := by
  have haddr : (chReg c).addr = (chReg 0).addr + c * 8 := by
    simp only [chReg, reg1, Reg.addr, RegName.place]
    omega
  have hout : ∀ x ∈ rstStatus :: keptRegisters, x.addr < (chReg 0).addr ∨ (chReg 0).addr + 8192 ≤ x.addr := by decide
  have hne : ∀ x ∈ rstStatus :: keptRegisters, x.addr ≠ (chReg c).addr := fun x hx => by
    have := hout x hx
    omega
  obtain ⟨hst, hrest⟩ := List.forall_mem_cons.mp hne
  rw [State.rd_afterReset_other _ _ hrest hst, if_pos]
  simp [hk, stackedAddr, haddr]
  omega

end Sys2Proof.Machine

namespace Sys2Proof.Machine

/-! What a reset leaves (R347 to R349). -/

/-- The addresses whose bytes a reset keeps: host and far memory, and stacked memory where its contents are kept. -/
def keptAddr (keep : Bool) (a : Nat) : Bool :=
  match region a with
  | .stacked | .reserve => keep
  | .far | .host => true
  | _ => false

theorem State.cget_afterReset (s : State) (src a : Nat) :
    cget (s.afterReset src).mem a = if keptAddr (s.keepsStacked src) a = true then cget s.mem a else 0 :=
  cget_filter (keptAddr (s.keepsStacked src)) s.mem a

/-- Tile memory is not kept. -/
theorem keptAddr_slot {n a : Nat} (hn : n < 64) (ha : slotBase n ≤ a) (ha' : a < slotBase n + slotSize) (keep : Bool) :
    keptAddr keep a = false := by
  have hr : region a = .slot ((a - 0x200000000000) / 0x2000000) ((a - 0x200000000000) % 0x2000000) := by
    unfold slotBase at ha ha'
    unfold slotSize at ha'
    unfold region
    rw [if_neg (by omega), if_neg (by omega), if_neg (by omega), if_pos (by omega)]
  rw [keptAddr, hr]

/-- A start in progress ends with a reset (R357). -/
def State.startEnded (s : State) : State := if s.rst.timer then s.bootEnd 3 else s

theorem State.startEnded_eq (s : State) : ∃ f r, s.startEnded = { s with firm := f, rst := r } := by
  unfold State.startEnded
  split <;> exact ⟨_, _, rfl⟩

theorem State.startEnded_of_timer {s : State} (h : s.rst.timer = false) : s.startEnded = s := by
  rw [State.startEnded, if_neg (by simp [h])]

/-- A reset that is taken: a start in progress ends, and the cache is written back where its contents matter (R348, R349, R357). -/
theorem State.applyReset_eq {s : State} {src : Nat} (h : s.rst.waiting = true → src = 0) :
    ∃ b p m, s.applyReset src = { ({ s.startEnded with hbm := b, poison := p } : State).afterReset src with mgmt := m } := by
  have hnote (u : State) : ∃ m, (u.afterReset src).mgmtNote = { u.afterReset src with mgmt := m } := State.mgmtNote_eq _
  unfold State.applyReset
  rw [if_neg (fun hw => hw.2 (h hw.1)), ← State.startEnded]
  dsimp only
  split
  · obtain ⟨m, hm⟩ := hnote s.startEnded
    exact ⟨s.startEnded.hbm, s.startEnded.poison, m, hm⟩
  · obtain ⟨b, p, hflush⟩ := s.startEnded.mscFlush_eq
    obtain ⟨m, hm⟩ := hnote { s.startEnded with hbm := b, poison := p }
    exact ⟨b, p, m, by rw [hflush, hm]⟩

/-- What every reset of a source leaves: the release sequence waits, all but the far tier and the host is at its reset value. -/
def ResetLeaves (src : Nat) (s t : State) : Prop :=
  t.rst.waiting = true ∧ t.rst.seq = none ∧ t.rst.booted = false ∧ t.fld rstStatus F.RST_STATUS_reset_cause = src ∧ t.mode = 0 ∧
    t.fld rstStatus F.RST_STATUS_frost = 0 ∧ t.cores = [] ∧ t.fab.ports = [] ∧ t.train = State.reset.train ∧ t.host = .reset ∧
    (∀ n, n < 64 → ∀ a, slotBase n ≤ a → a < slotBase n + slotSize → cget t.mem a = 0) ∧
    (∀ a, region a = .far ∨ region a = .host → cget t.mem a = cget s.mem a)

/-- What a reset that is no power-on reset and no error of the always-on state keeps besides (R347, R348). -/
def ResetKeeps (s t : State) : Prop :=
  t.fld rstStatus F.RST_STATUS_start_count = s.fld rstStatus F.RST_STATUS_start_count ∧
    t.fld rstStatus F.RST_STATUS_frost_cause = s.fld rstStatus F.RST_STATUS_frost_cause ∧ t.frost.cause = s.frost.cause ∧
    t.frost.entries = s.frost.entries ∧
    (s.optInUse.ranged.hbmPreserve = 1 → s.rst.lost = false →
      (∀ a, region a = .stacked → cget t.mem a = cget s.mem a) ∧ ∀ c, c < 1024 → t.chSt c = s.chSt c ∧ t.copyPtr c = s.copyPtr c) ∧
    (s.optInUse.ranged.hbmPreserve = 0 → ∀ a, region a = .stacked → cget t.mem a = 0)

theorem resetLeaves_afterReset (s : State) {src : Nat} (h : src < 16) : ResetLeaves src s (s.afterReset src) := by
  refine ⟨rfl, rfl, rfl, s.resetCause_afterReset h, s.mode_afterReset src, s.frost_afterReset src, rfl, rfl, rfl, rfl,
    fun n hn a ha ha' => ?_, fun a ha => ?_⟩
  · rw [State.cget_afterReset, keptAddr_slot hn ha ha']
    rfl
  · rw [State.cget_afterReset, keptAddr]
    rcases ha with ha | ha <;> rw [ha] <;> rfl

theorem State.cget_afterReset_stacked (s : State) (src : Nat) {a : Nat} (h : region a = .stacked) :
    cget (s.afterReset src).mem a = if s.keepsStacked src = true then cget s.mem a else 0 := by
  rw [State.cget_afterReset, keptAddr, h]

theorem State.keepsStacked_eq_true {s : State} {src : Nat} (h0 : src ≠ 0) (h6 : src ≠ 6)
    (hp : s.optInUse.ranged.hbmPreserve = 1) (hl : s.rst.lost = false) : s.keepsStacked src = true := by
  simp [State.keepsStacked, h0, h6, hp, hl]

theorem State.keepsStacked_eq_false {s : State} {src : Nat} (h : src = 0 ∨ src = 6 ∨ s.optInUse.ranged.hbmPreserve = 0) :
    s.keepsStacked src = false := by
  rcases h with h | h | h <;> simp [State.keepsStacked, h]

theorem resetKeeps_afterReset (s : State) {src : Nat} (h0 : src ≠ 0) (h6 : src ≠ 6) : ResetKeeps s (s.afterReset src) := by
  have hfrost : (s.afterReset src).frost = if s.frost.entered then { s.frost with flags := s.frost.flags ||| 1 } else s.frost := by
    simp [State.afterReset, h0, h6]
  refine ⟨s.startCount_afterReset src, ?_, ?_, ?_, fun hp hl => ⟨fun a ha => ?_, fun c hc => ?_⟩, fun hp a ha => ?_⟩
  · rw [State.frostCause_afterReset, if_neg (by omega)]
  · rw [hfrost]
    split <;> rfl
  · rw [hfrost]
    split <;> rfl
  · rw [State.cget_afterReset_stacked _ _ ha, if_pos (State.keepsStacked_eq_true h0 h6 hp hl)]
  · have hrd := s.rd_afterReset_chReg (State.keepsStacked_eq_true h0 h6 hp hl) hc
    exact ⟨congrArg (fget · _) hrd, congrArg (fget · _) hrd⟩
  · rw [State.cget_afterReset_stacked _ _ ha, State.keepsStacked_eq_false (.inr (.inr hp))]
    rfl

theorem resetLeaves_applyReset {s : State} {src : Nat} (hsrc : src < 16) (h : s.rst.waiting = true → src = 0) :
    ResetLeaves src s (s.applyReset src) := by
  obtain ⟨b, p, m, ht⟩ := State.applyReset_eq h
  obtain ⟨f, r, hs⟩ := s.startEnded_eq
  rw [ht, hs]
  exact resetLeaves_afterReset { s with firm := f, rst := r, hbm := b, poison := p } hsrc

theorem resetKeeps_applyReset {s : State} {src : Nat} (h0 : src ≠ 0) (h6 : src ≠ 6) (hw : s.rst.waiting = false)
    (ht : s.rst.timer = false) : ResetKeeps s (s.applyReset src) := by
  obtain ⟨b, p, m, hr⟩ := State.applyReset_eq (s := s) (src := src) (by simp [hw])
  rw [hr, State.startEnded_of_timer ht]
  exact resetKeeps_afterReset { s with hbm := b, poison := p } h0 h6

/-- Where its contents are lost, stacked memory reads zero (R347), and the cause of a frost state is cleared. -/
theorem reset_loses {s : State} {src : Nat} (hsrc : src = 0 ∨ src = 6) (h : s.rst.waiting = true → src = 0) :
    (s.applyReset src).fld rstStatus F.RST_STATUS_frost_cause = 0 ∧
      (∀ a, region a = .stacked → cget (s.applyReset src).mem a = 0) ∧ (s.applyReset src).frost.entered = false := by
  obtain ⟨b, p, m, ht⟩ := State.applyReset_eq h
  generalize hu : ({ s.startEnded with hbm := b, poison := p } : State) = u at ht
  rw [ht]
  refine ⟨(u.frostCause_afterReset src).trans (if_pos hsrc), fun a ha => ?_, ?_⟩
  · refine (u.cget_afterReset_stacked src ha).trans (if_neg ?_)
    rw [State.keepsStacked_eq_false (hsrc.imp_right .inl)]
    exact Bool.false_ne_true
  · rcases hsrc with rfl | rfl <;> rfl

theorem State.powerOn_clears (s : State) : (s.applyReset 0).frost = .reset ∧ (s.applyReset 0).clk.refTime = 0 := by
  obtain ⟨b, p, m, ht⟩ := State.applyReset_eq (s := s) (src := 0) (fun _ => rfl)
  rw [ht]
  exact ⟨rfl, rfl⟩

/-! A start that failed: the boot watchdog (R357). -/

theorem State.fld_setStartCount (s : State) (n : Nat) :
    (s.setStartCount n).fld rstStatus F.RST_STATUS_start_count = min 15 n := by
  rw [State.setStartCount, State.fld_setF_same _ _ _ _ (by decide)]
  exact Nat.mod_eq_of_lt (Nat.lt_succ_of_le (Nat.min_le_left 15 n))

theorem bootWatchdog_resets {s : State} (ht : s.rst.timer = true) (hw : s.rst.waiting = false) :
    ∃ t, exec .bootWatchdogExpiry s = .next t ∧ ResetLeaves 4 s t ∧ t.firm.startCount = s.firm.startCount + 1 ∧
      t.fld rstStatus F.RST_STATUS_start_count = min 15 (s.firm.startCount + 1) := by
  have hx : exec .bootWatchdogExpiry s = .next (((s.setStartCount (s.firm.startCount + 1)).bootEnd 1).applyReset 4) := by
    show Host.Outcome.next _ = _
    rw [if_neg (by simp [ht])]
  generalize hu : (s.setStartCount (s.firm.startCount + 1)).bootEnd 1 = u at hx
  have hw' : u.rst.waiting = false := by rw [← hu]; exact hw
  have ht' : u.rst.timer = false := by rw [← hu]; rfl
  have hmem : u.mem = s.mem := by rw [← hu]; rfl
  have hcount : u.fld rstStatus F.RST_STATUS_start_count = min 15 (s.firm.startCount + 1) := by
    rw [← hu]
    exact s.fld_setStartCount _
  obtain ⟨hstart, -⟩ := resetKeeps_applyReset (src := 4) (by decide) (by decide) hw' ht'
  refine ⟨_, hx, ?_, ?_, hstart.trans hcount⟩
  · have hl := resetLeaves_applyReset (s := u) (src := 4) (by decide) (by simp [hw'])
    rwa [ResetLeaves, hmem] at hl
  · obtain ⟨b, p, m, hr⟩ := State.applyReset_eq (s := u) (src := 4) (by simp [hw'])
    rw [hr, State.startEnded_of_timer ht', ← hu]
    rfl

end Sys2Proof.Machine

namespace Sys2Proof.Machine

/-! The frost latch, as the start sequence and a failed pair trigger it (R341, R342). -/

/-- The islands of R342 gate, and the cores and dies abandon what was in flight. -/
def State.frostGate (s : State) : State :=
  let s := if s.clk.stopped.contains 90 then s else s.mscFlush
  { s with
    cores := s.cores.map (fun (p : Nat × Core) => (p.1, p.2.abandon)), dies := s.dies.map (fun (p : Nat × Die) => (p.1, p.2.abandon))
    clk := { s.clk with stopped := s.clk.stopped ++ frostIslands.filter (fun i => !s.clk.stopped.contains i) } }

/-- The ports send the fence pattern. -/
def State.fencePorts (s : State) : State :=
  (upTo 5 7).foldl (fun s p => s.setPort p { s.port p with fencing := true, air := (upTo 0 8).map (fun l => (l, fencePeriod l)) }) s

/-- The runtime watchdogs stop. -/
def State.stopWdogs (s : State) : State := (upTo 0 2).foldl (fun s k => s.setF (reg1 .RST_WDOG 0 k) F.RST_WDOG_running 0) s

/-- The host is told by AER, and FAULT_N goes low. -/
def State.showFault (s : State) : State := (s.aerLog 22).setRst { s.rst with faultLow := true }

theorem State.frostEnter_eq (s : State) : s.frostEnter = s.frostGate.fencePorts.stopWdogs.showFault := rfl

theorem State.frostGate_eq (s : State) : ∃ b p cs ds, s.frostGate = { s with
    hbm := b, poison := p, cores := cs, dies := ds
    clk := { s.clk with stopped := s.clk.stopped ++ frostIslands.filter (fun i => !s.clk.stopped.contains i) } } := by
  unfold State.frostGate
  dsimp only
  split
  · exact ⟨_, _, _, _, rfl⟩
  · obtain ⟨b, p, hflush⟩ := s.mscFlush_eq
    rw [hflush]
    exact ⟨_, _, _, _, rfl⟩

theorem State.fencePorts_eq (s : State) : ∃ f, s.fencePorts = { s with fab := f } :=
  List.foldlRecOn (motive := fun t => ∃ f, t = { s with fab := f }) (upTo 5 7) _ ⟨_, rfl⟩ fun t ht p _ => by
    obtain ⟨f, rfl⟩ := ht
    exact ⟨_, rfl⟩

theorem State.stopWdogs_eq (s : State) : s.stopWdogs =
    (s.setF (reg1 .RST_WDOG 0 0) F.RST_WDOG_running 0).setF (reg1 .RST_WDOG 0 1) F.RST_WDOG_running 0 := rfl

/-- On entering frost state FAULT_N goes low, and of the reset state nothing else changes; only the islands of R342 stop. -/
theorem State.frostEnter_rst_stopped (s : State) :
    s.frostEnter.rst = { s.rst with faultLow := true } ∧
      s.frostEnter.clk.stopped = s.clk.stopped ++ frostIslands.filter (fun i => !s.clk.stopped.contains i) := by
  obtain ⟨b, p, cs, ds, hgate⟩ := s.frostGate_eq
  obtain ⟨f, hports⟩ := s.frostGate.fencePorts_eq
  rw [State.frostEnter_eq, hports, hgate]
  simp only [State.showFault, State.setRst, State.aerLog, State.edge_clk, State.stopWdogs_eq, State.setF_rst, State.setF_clk, and_self]

theorem RegsSameBut.aerLog {rs : List Reg} {s t : State} (h : RegsSameBut rs s t) (hr : reg1 .ICU_SRC 0 600 ∈ rs) (b : Nat) :
    RegsSameBut rs s (t.aerLog b) := by
  unfold State.aerLog
  exact (h.of_regs_eq (by rfl)).edge hr

/-- The registers that entering frost state changes. -/
def frostRegs : List Reg := [reg1 .RST_WDOG 0 0, reg1 .RST_WDOG 0 1, reg1 .ICU_SRC 0 600]

theorem regsSameBut_frostEnter (s : State) : RegsSameBut frostRegs s s.frostEnter := by
  obtain ⟨b, p, cs, ds, hgate⟩ := s.frostGate_eq
  obtain ⟨f, hports⟩ := s.frostGate.fencePorts_eq
  have h : RegsSameBut frostRegs s s.frostGate.fencePorts := by
    rw [hports, hgate]
    exact .refl _ s
  have hw : RegsSameBut frostRegs s s.frostGate.fencePorts.stopWdogs := by
    rw [State.stopWdogs_eq]
    exact (h.setF (by simp [frostRegs]) _ _).setF (by simp [frostRegs]) _ _
  rw [State.frostEnter_eq]
  generalize s.frostGate.fencePorts.stopWdogs = u at hw ⊢
  exact (hw.aerLog (by simp [frostRegs]) 22).of_regs_eq rfl

/-- The record of the trigger that latches, and the always-on responder, which serves on where it does (R346, R351). -/
def State.frostRecorded (s : State) (c : Nat) (d : BitVec 128) : State :=
  let alone := !s.rst.booted || decide (c = 2)
  let r := s.frostRecord c d
  let s := { s with frost := if alone then { r with flags := r.flags + 16 } else r, freeIdx := s.freeIdx + 1 }
  s.setRst { s.rst with responder := s.rst.responder || alone, seq := none }

/-- RST_STATUS shows frost state and its cause. -/
def State.frostMarked (s : State) (c : Nat) : State :=
  (s.setF rstStatus F.RST_STATUS_frost 1).setF rstStatus F.RST_STATUS_frost_cause c

/-- LOADSTEP is driven, an announced load change is forgotten, and the mode is FROST. -/
def State.frostDriven (s : State) : State :=
  let s := { s.setLoadstep 3 with pwr := { s.pwr with target := none, ramping := false } }
  s.setMode 3

/-- The host hears of frost state where it can be reached. -/
def State.frostTold (s : State) (c : Nat) : State := if s.hostUp then s.event 120 0x0A01 [(c, 1)] else s

theorem State.frostLatch_eq {s : State} {c : Nat} (d : BitVec 128) (hf : s.fld rstStatus F.RST_STATUS_frost = 0)
    (ht : s.rst.timer = false) (hw : ¬(s.rst.waiting = true ∧ c = 5)) :
    s.frostLatch c d = ((s.frostRecorded c d).frostMarked c).frostEnter.frostDriven.frostTold c := by
  have hfrost : s.frosted = false := by simp [State.frosted, hf]
  unfold State.frostLatch State.frostTold State.frostDriven State.frostMarked State.frostRecorded
  rw [hfrost, ht, if_neg Bool.false_ne_true, if_neg hw, if_neg Bool.false_ne_true]

theorem State.frostDriven_reads (s : State) :
    s.frostDriven.fld rstStatus F.RST_STATUS_frost_cause = s.fld rstStatus F.RST_STATUS_frost_cause ∧
      s.frostDriven.mode = 3 ∧ s.frostDriven.rst = s.rst ∧ s.frostDriven.clk = s.clk := by
  have hload : RegsSameBut [pwrStatus, reg1 .ICU_SRC 0 611] s (s.setLoadstep 3) :=
    (RegsSameBut.refl _ s).setLoadstep (by simp) (by simp) 3
  refine ⟨?_, State.mode_setMode _ (by decide), by simp [State.frostDriven], by simp [State.frostDriven]⟩
  rw [State.frostDriven, State.fld_setMode, State.fld_setF_ne _ (by decide)]
  exact hload.fld (by decide) _

theorem State.fld_frostTold (s : State) (c : Nat) (r : Reg) (f : Fld) : (s.frostTold c).fld r f = s.fld r f := by
  unfold State.frostTold
  split <;> rfl

theorem State.frostTold_rst_clk (s : State) (c : Nat) : (s.frostTold c).rst = s.rst ∧ (s.frostTold c).clk = s.clk := by
  unfold State.frostTold
  split <;> exact ⟨rfl, rfl⟩

/-- A latch that takes: the cause stands in RST_STATUS, the mode is FROST, an always-on responder serves on, and an island that is
none of R342's keeps its clock. -/
theorem State.frostLatch_takes {s : State} {c : Nat} (d : BitVec 128) (hf : s.fld rstStatus F.RST_STATUS_frost = 0)
    (ht : s.rst.timer = false) (hw : ¬(s.rst.waiting = true ∧ c = 5)) (hc : c < 256) :
    (s.frostLatch c d).fld rstStatus F.RST_STATUS_frost_cause = c ∧ (s.frostLatch c d).mode = 3 ∧
      (s.rst.responder = true → (s.frostLatch c d).rst.responder = true) ∧
      ∀ i, i ∉ frostIslands → i ∉ s.clk.stopped → i ∉ (s.frostLatch c d).clk.stopped := by
  have hmark : ((s.frostRecorded c d).frostMarked c).fld rstStatus F.RST_STATUS_frost_cause = c := by
    rw [State.frostMarked, State.fld_setF_same _ _ _ _ (by decide)]
    exact Nat.mod_eq_of_lt hc
  have hresp : s.rst.responder = true → ((s.frostRecorded c d).frostMarked c).rst.responder = true := fun h =>
    congrArg (· || _) h
  have hclk : ((s.frostRecorded c d).frostMarked c).clk = s.clk := rfl
  rw [State.frostLatch_eq d hf ht hw]
  generalize (s.frostRecorded c d).frostMarked c = u at hmark hresp hclk
  obtain ⟨hcause, hmode, hrst, hclk'⟩ := u.frostEnter.frostDriven_reads
  obtain ⟨hrst', hstop⟩ := u.frostEnter_rst_stopped
  obtain ⟨htold, htold'⟩ := u.frostEnter.frostDriven.frostTold_rst_clk c
  refine ⟨?_, (State.fld_frostTold ..).trans hmode, fun h => ?_, fun i hi hs => ?_⟩
  · rw [State.fld_frostTold, hcause, (regsSameBut_frostEnter u).fld (by decide), hmark]
  · rw [htold, hrst, hrst']
    exact hresp h
  · rw [htold', hclk', hstop, hclk]
    simp [hi, hs]

end Sys2Proof.Machine

namespace Sys2Proof.Machine

/-! The release sequence (R350, R351, R353, R354). -/

theorem addr_remapReg (n : Nat) : (remapReg n).addr = 0x301001001000 + 8 * n := by
  simp only [remapReg, reg1, Reg.addr, RegName.place]
  omega

theorem addr_blockReg (b : Nat) : (blockReg b).addr = 0x301001431000 + 8 * b := by
  simp only [blockReg, reg1, Reg.addr, RegName.place]
  omega

/-- What a fold leaves to be read, where one element decides it and no other one touches it. -/
theorem foldl_reads {σ α β : Type} {f : σ → α → σ} {g : σ → β} {v : β} {a : α} (hsame : ∀ s, g (f s a) = v)
    (hother : ∀ s x, x ≠ a → g (f s x) = g s) {l : List α} (ha : a ∈ l) (s : σ) : g (l.foldl f s) = v := by
  have hkeep : ∀ (l : List α) s, g s = v → g (l.foldl f s) = v := fun l s hs =>
    List.foldlRecOn (motive := fun t => g t = v) l f hs fun t ht x _ => by
      by_cases hx : x = a
      · rw [hx, hsame]
      · rw [hother t x hx, ht]
  induction l generalizing s with
  | nil => cases ha
  | cons x l ih =>
    rcases List.mem_cons.mp ha with rfl | ha
    · exact hkeep l _ (hsame s)
    · exact ih ha _

/-- A logical core's entry of the fuse map (R17). -/
def State.fuseRemap (s : State) (n : Nat) : State :=
  let p := (Config.fuseRemap n).toNat % 68
  ((s.setF (remapReg n) F.CP_CORE_REMAP_phys_core p).setF (remapReg n) F.CP_CORE_REMAP_state (Config.fuseRemapState n).toNat).setF
    (remapReg n) F.CP_CORE_REMAP_borrowed (decide (p / 17 ≠ n / 16)).toNat

/-- A physical core's entry of the fuse map (R363). -/
def State.fuseBlock (s : State) (p : Nat) : State :=
  if Config.fuseCoreEnabled p then s else (s.setBlock p F.RST_BLOCK_enable 0).setBlock p F.RST_BLOCK_state 2

theorem State.fuseLoad_eq (s : State) :
    s.fuseLoad = (upTo 0 68).foldl State.fuseBlock ((upTo 0 64).foldl State.fuseRemap s) := rfl

theorem onlyRegs_fuseLoad (s : State) : OnlyRegs s s.fuseLoad := by
  rw [State.fuseLoad_eq]
  refine ((OnlyRegs.refl s).foldl _ _ fun u hu n _ => ((hu.setF _ _ _).setF _ _ _).setF _ _ _).foldl _ _ fun u hu p _ => ?_
  unfold State.fuseBlock
  split
  · exact hu
  · exact (hu.setF _ _ _).setF _ _ _

theorem State.phys_eq (s : State) (n : Nat) : s.phys n = s.fld (remapReg n) F.CP_CORE_REMAP_phys_core := rfl

theorem State.phys_fuseRemap_same (s : State) (n : Nat) : (s.fuseRemap n).phys n = (Config.fuseRemap n).toNat % 68 := by
  simp (disch := decide) only [State.fuseRemap, State.phys_eq, State.fld_setF_other, State.fld_setF_same]
  exact Nat.mod_eq_of_lt (Nat.lt_trans (Nat.mod_lt _ (by decide : 68 > 0)) (by decide : 68 < 2 ^ F.CP_CORE_REMAP_phys_core.w))

theorem State.phys_fuseRemap_ne (s : State) {m n : Nat} (h : m ≠ n) : (s.fuseRemap m).phys n = s.phys n := by
  have haddr : (remapReg n).addr ≠ (remapReg m).addr := by
    rw [addr_remapReg, addr_remapReg]
    omega
  simp only [State.fuseRemap, State.phys_eq, State.fld_setF_ne _ haddr]

theorem State.phys_fuseBlock (s : State) {n : Nat} (h : n < 64) (p : Nat) : (s.fuseBlock p).phys n = s.phys n := by
  have haddr : (remapReg n).addr ≠ (blockReg p).addr := by
    rw [addr_remapReg, addr_blockReg]
    omega
  unfold State.fuseBlock
  split
  · rfl
  · simp only [State.setBlock, State.phys_eq, State.fld_setF_ne _ haddr]

/-- The fuse map gives each logical core its physical core (R17, R350). -/
theorem State.phys_fuseLoad (s : State) {n : Nat} (h : n < 64) : s.fuseLoad.phys n = (Config.fuseRemap n).toNat % 68 := by
  have hremap : ((upTo 0 64).foldl State.fuseRemap s).phys n = (Config.fuseRemap n).toNat % 68 :=
    foldl_reads (g := fun t : State => t.phys n) (State.phys_fuseRemap_same · n) (fun t _ hm => t.phys_fuseRemap_ne hm)
      ((mem_upTo 0 64 n).mpr (by omega)) s
  rw [State.fuseLoad_eq]
  exact List.foldlRecOn (motive := fun t : State => t.phys n = (Config.fuseRemap n).toNat % 68) _ _ hremap
    fun t ht p _ => (t.phys_fuseBlock h p).trans ht

theorem State.mem_stopped_startIslands (s : State) (is : List Nat) (i : Nat) :
    i ∉ (s.startIslands is).clk.stopped ↔ i ∉ s.clk.stopped ∨ i ∈ is := by
  simp only [State.startIslands, List.mem_filter, List.contains_eq_mem, Bool.not_eq_true', decide_eq_false_iff_not]
  rw [Decidable.not_and_iff_not_or_not, Decidable.not_not]

/-- A failure of the fuse map or of the option area (R350, R351). -/
theorem State.loadFails_takes {s : State} {c : Nat} (hf : s.fld rstStatus F.RST_STATUS_frost = 0) (ht : s.rst.timer = false)
    (hw : s.rst.waiting = false) (hc : c < 256) :
    (s.loadFails c).fld rstStatus F.RST_STATUS_frost_cause = c ∧ (s.loadFails c).mode = 3 ∧
      (s.loadFails c).rst.responder = true ∧ 106 ∉ (s.loadFails c).clk.stopped := by
  unfold State.loadFails
  generalize hu : (s.setRst { s.rst with responder := true, seq := none }).startIslands [106] = u
  have hrst : u.rst = { s.rst with responder := true, seq := none } := by rw [← hu]; rfl
  have hfrost : u.fld rstStatus F.RST_STATUS_frost = 0 := by rw [← hu]; exact hf
  have hport : 106 ∉ u.clk.stopped := by
    rw [← hu, State.mem_stopped_startIslands]
    exact .inr (by simp)
  obtain ⟨hcause, hmode, hresp, hstop⟩ :=
    State.frostLatch_takes (s := u) 0 hfrost (by rw [hrst]; exact ht) (by rw [hrst]; simp [hw]) hc
  exact ⟨hcause, hmode, hresp (by rw [hrst]), hstop 106 (by decide) hport⟩

/-- The sequence starts once the frost ramp is over and the supply lies within its range (R344, R354). -/
theorem State.releaseStart_of_supply {s : State} (hw : s.rst.waiting = true) (hr : s.frost.ramp = 0) (hlo : 48000 ≤ s.pwr.mv)
    (hhi : s.pwr.mv ≤ 58000) (ok : Bool) : s.releaseStart ok =
      if ok then (s.setRst { s.rst with waiting := false, seq := some 0 }).fuseLoad
      else (s.setRst { s.rst with waiting := false, seq := some 0 }).loadFails 3 := by
  unfold State.releaseStart
  rw [if_neg (by simp [hw, hr]; omega)]

theorem State.releaseStart_of_low {s : State} (h : s.pwr.mv < 48000) (ok : Bool) : s.releaseStart ok = s := by
  unfold State.releaseStart
  rw [if_pos (by simp [h])]

/-- What the option area sets where a copy is valid (R351). -/
theorem State.optionLoad_of_some {s : State} {k : Nat} {o : OptArea} (hs : s.rst.seq = some 0)
    (hk : newerCopy s.firm.opt0 s.firm.opt1 = some k) (ho : (if k = 0 then s.firm.opt0 else s.firm.opt1).ranged = o) :
    s.optionLoad = (((((((s.setFirm { s.firm with inUse := k }).setRst { s.rst with opt := o, seq := some 1 }).setF rstStatus
      F.RST_STATUS_opt_copy k).setF rstStatus F.RST_STATUS_start_limit o.startLimit).setF rstStatus F.RST_STATUS_start_count
      (min 15 s.firm.startCount)).setF pwrCtrl F.PWR_CTRL_sustained_w o.powerLimit).setF pwrCtrl F.PWR_CTRL_ramp_slope
      o.rampSlope).setF pwrCtrl F.PWR_CTRL_loadstep_lead o.loadstepLead := by
  subst ho
  unfold State.optionLoad
  rw [if_neg (by simp [hs]), hk]
  rfl

theorem State.optionLoad_of_none {s : State} (hs : s.rst.seq = some 0) (hk : newerCopy s.firm.opt0 s.firm.opt1 = none) :
    s.optionLoad = s.loadFails 4 := by
  unfold State.optionLoad
  rw [if_neg (by simp [hs]), hk]

theorem optionAreaLoad_takes {s : State} {k : Nat} {o : OptArea} (hs : s.rst.seq = some 0)
    (hk : newerCopy s.firm.opt0 s.firm.opt1 = some k) (ho : (if k = 0 then s.firm.opt0 else s.firm.opt1).ranged = o) :
    ∃ t, exec .optionAreaLoad s = .next t ∧ t.rst.seq = some 1 ∧ t.rst.opt = o ∧
      t.fld rstStatus F.RST_STATUS_opt_copy = k % 2 ∧
      t.fld pwrCtrl F.PWR_CTRL_ramp_slope = o.rampSlope % 2 ^ F.PWR_CTRL_ramp_slope.w ∧
      RegsSameBut [rstStatus, pwrCtrl] s t ∧ MemSame s t := by
  refine ⟨_, congrArg Host.Outcome.next (State.optionLoad_of_some hs hk ho), rfl, rfl, ?_, ?_, ?_, fun _ => rfl⟩
  · simp (disch := decide) only [State.fld_setF_ne, State.fld_setF_other, State.fld_setF_same]
    rfl
  · simp (disch := decide) only [State.fld_setF_other, State.fld_setF_same]
  · have h : RegsSameBut [rstStatus, pwrCtrl] s ((s.setFirm { s.firm with inUse := k }).setRst { s.rst with opt := o, seq := some 1 }) :=
      .refl _ s
    exact (((((h.setF (by simp) _ _).setF (by simp) _ _).setF (by simp) _ _).setF (by simp) _ _).setF (by simp) _ _).setF (by simp) _ _

end Sys2Proof.Machine

namespace Sys2Proof.Machine

/-! Snowbound recovery mode (R358). -/

theorem State.snowbound_startCount (s : State) (x : Nat) : (s.snowbound x).firm.startCount = s.firm.startCount := by
  rw [State.snowbound, State.setMode_firm]
  rfl

theorem State.snowbound_shows (s : State) (x : Nat) :
    (s.snowbound x).mode = 4 ∧ (s.snowbound x).fld rstStatus F.RST_STATUS_snowbound = 1 := by
  refine ⟨State.mode_setMode _ (by decide), ?_⟩
  rw [State.snowbound, State.fld_setMode]
  simp (disch := decide) only [State.fld_setF_ne, State.fld_setF_same]
  rfl

/-! The release of a domain (R353, R354). -/

/-- What changes only registers and links. -/
def LinksOnly (s t : State) : Prop := ∃ r f, t = { s with regs := r, fab := f }

theorem LinksOnly.foldl {α : Type} {s t : State} (h : LinksOnly s t) (l : List α) (f : State → α → State)
    (hf : ∀ u x, LinksOnly u (f u x)) : LinksOnly s (l.foldl f t) :=
  List.foldlRecOn l f h fun u hu x _ => by
    obtain ⟨r, p, rfl⟩ := hu
    obtain ⟨r', p', hx⟩ := hf { s with regs := r, fab := p } x
    exact ⟨r', p', hx⟩

theorem OnlyRegs.links {s t : State} (h : OnlyRegs s t) : LinksOnly s t := ⟨t.regs, s.fab, h⟩

theorem onlyRegs_cxlTrain (s : State) (k : Nat) : OnlyRegs s (s.cxlTrain k) := by
  unfold State.cxlTrain
  split
  · exact (((OnlyRegs.refl s).setF _ _ _).setF _ _ _).edge _
  · exact .refl s

theorem onlyRegs_setLanes (s : State) (p rx tx : Nat) : OnlyRegs s (s.setLanes p rx tx) :=
  (((OnlyRegs.refl s).setF _ _ _).setF _ _ _).foldl _ _ fun _ hu _ _ => (hu.setF _ _ _).setF _ _ _

theorem linksOnly_lnkTrain (s : State) (p : Nat) : LinksOnly s (s.lnkTrain p) := by
  unfold State.lnkTrain
  split
  · refine ⟨_, _, (onlyRegs_setLanes _ p 0 0).trans rfl⟩
  · exact (OnlyRegs.refl s).links

/-- The Bilpo ports train where the option area says so. -/
def State.autoLinks (s : State) : State :=
  if s.rst.opt.autoTrain % 2 = 1 then (upTo 5 7).foldl State.lnkTrain s else s

/-- The CXL ports train where the option area says so. -/
def State.autoCxl (s : State) : State :=
  if s.rst.opt.autoTrain / 2 % 2 = 1 then (upTo 0 4).foldl State.cxlTrain s else s

theorem linksOnly_autoTrain (s : State) : LinksOnly s s.autoLinks.autoCxl := by
  have hlinks : LinksOnly s s.autoLinks := by
    unfold State.autoLinks
    split
    · exact (OnlyRegs.refl s).links.foldl _ _ linksOnly_lnkTrain
    · exact (OnlyRegs.refl s).links
  unfold State.autoCxl
  split
  · exact hlinks.foldl _ _ fun u k => (onlyRegs_cxlTrain u k).links
  · exact hlinks

/-- The islands that the release of a domain starts outside snowbound recovery mode. -/
def State.domainIslands (s : State) : Domain → List Nat
  | .control => [118, 119]
  | .hostPort => [106]
  | .ioDies => [88, 89]
  | .memory k => [90 + k]
  | .die d => upTo (68 + 5 * d) 5
  | .core p => if s.fld (blockReg p) F.RST_BLOCK_enable = 1 then [p.val] else []
  | .ports => upTo 107 11
  | .pins | .complete => []

/-- What a release keeps and starts: memory and the place in the sequence stay, and the islands named start. -/
def Starts (is : List Nat) (s t : State) : Prop :=
  t.mem = s.mem ∧ t.rst.seq = s.rst.seq ∧ ∀ i, i ∉ t.clk.stopped ↔ i ∉ s.clk.stopped ∨ i ∈ is

theorem starts_startIslands (s : State) (is : List Nat) : Starts is s (s.startIslands is) :=
  ⟨rfl, rfl, s.mem_stopped_startIslands is⟩

theorem starts_nothing {s t : State} (hm : t.mem = s.mem) (hr : t.rst.seq = s.rst.seq) (hc : t.clk.stopped = s.clk.stopped) :
    Starts [] s t := ⟨hm, hr, fun i => by simp [hc]⟩

theorem Starts.congr {is : List Nat} {s t u : State} (h : Starts is s t) (hm : u.mem = t.mem) (hr : u.rst = t.rst)
    (hc : u.clk = t.clk) : Starts is s u := by
  obtain ⟨hmem, hseq, hclk⟩ := h
  exact ⟨hm.trans hmem, (congrArg Rst.seq hr).trans hseq, by rw [hc]; exact hclk⟩

theorem Starts.setLoadstep {is : List Nat} {s t : State} (h : Starts is s t) (c : Nat) : Starts is s (t.setLoadstep c) :=
  h.congr (t.setLoadstep_mem c) (t.setLoadstep_rst c) (t.setLoadstep_clk c)

/-- The release of a domain outside snowbound recovery mode starts its islands, where the control processors may start. -/
theorem starts_release {s : State} (dom : Domain) (straps : Nat) (hm : s.mode ≠ 4)
    (hc : dom = .control → s.firm.startCount < s.rst.opt.startLimit) : Starts (s.domainIslands dom) s (s.release dom straps) := by
  unfold State.release
  dsimp only
  cases dom with
  | pins => exact starts_nothing rfl rfl rfl
  | control =>
    have hlim : ¬s.rst.opt.startLimit ≤ s.firm.startCount := Nat.not_le.mpr (hc rfl)
    dsimp only [State.controlRelease]
    rw [if_neg (by exact hlim)]
    exact ⟨rfl, rfl, s.mem_stopped_startIslands _⟩
  | hostPort => exact starts_startIslands s _
  | ioDies =>
    dsimp only
    rw [if_neg (by simpa using hm)]
    exact (starts_startIslands s _).setLoadstep 1
  | memory k =>
    dsimp only
    split
    · exact (starts_startIslands s _).setLoadstep 0
    · exact starts_startIslands s _
  | die d =>
    dsimp only
    split
    · exact (starts_startIslands s _).setLoadstep 1
    · exact starts_startIslands s _
  | core p =>
    dsimp only [State.domainIslands]
    split
    · exact starts_startIslands s _
    · exact starts_nothing rfl rfl rfl
  | ports =>
    obtain ⟨r, f, hl⟩ := linksOnly_autoTrain (s.startIslands (upTo 107 11))
    show Starts _ s (s.startIslands (upTo 107 11)).autoLinks.autoCxl
    rw [hl]
    exact starts_startIslands s _
  | complete => exact (starts_nothing rfl rfl rfl).setLoadstep 0

theorem State.releaseDue_iff {s : State} {dom : Domain} {k : Nat} (hs : s.rst.seq = some k) (hm : s.mode ≠ 4) :
    s.releaseDue dom = decide (domainPlace dom = k) := by
  simp [State.releaseDue, hs, hm]

/-- The sequence as a released domain leaves it. -/
def State.sequenced (s : State) (dom : Domain) : State :=
  s.setRst { s.rst with seq := if dom = .complete then none else some (domainPlace dom + 1) }

theorem State.domainRelease_of_due {s : State} {dom : Domain} {k : Nat} (hs : s.rst.seq = some k) (hm : s.mode ≠ 4)
    (hk : k = domainPlace dom) (straps : Nat) : s.domainRelease dom straps = (s.sequenced dom).release dom straps := by
  unfold State.domainRelease
  rw [if_neg (by simp [State.releaseDue_iff hs hm, hk])]
  rfl

theorem State.domainRelease_of_not_due {s : State} {dom : Domain} {k : Nat} (hs : s.rst.seq = some k) (hm : s.mode ≠ 4)
    (hk : k ≠ domainPlace dom) (straps : Nat) : s.domainRelease dom straps = s := by
  unfold State.domainRelease
  rw [if_pos (by simp [State.releaseDue_iff hs hm, hk.symm])]

theorem strapValue_toNat (down up : BitVec 16) : strapValue down.toNat up.toNat = if down = up then down.toNat else 0xFFFF := by
  simp only [strapValue, BitVec.toNat_inj]

theorem State.strap_release (s : State) (straps : Nat) : (s.release .pins straps).rst.strap = straps := rfl

theorem State.seqDone_release (s : State) (straps : Nat) : (s.release .complete straps).fld rstStatus F.RST_STATUS_seq_done = 1 := by
  have h : RegsSameBut [pwrStatus, reg1 .ICU_SRC 0 611] (s.setF rstStatus F.RST_STATUS_seq_done 1) (s.release .complete straps) :=
    (RegsSameBut.refl _ _).setLoadstep (by simp) (by simp) 0
  rw [h.fld (by decide), State.fld_setF_same _ _ _ _ (by decide)]
  rfl

/-- Where the failed starts have reached their limit, the release of the control processors is snowbound (R358). -/
theorem State.snowbound_release {s : State} (h : s.rst.opt.startLimit ≤ s.firm.startCount) (straps : Nat) :
    (s.release .control straps).mode = 4 ∧ (s.release .control straps).fld rstStatus F.RST_STATUS_snowbound = 1 := by
  unfold State.release State.controlRelease
  dsimp only
  rw [if_pos (by exact h)]
  exact State.snowbound_shows _ 5

end Sys2Proof.Machine

namespace Sys2Proof.Machine

/-! The boot ROM and BOOT_OK (R353, R355, R356, R362). -/

/-- What an image advertises at the ports (R265, R266). -/
def State.imageCaps (s : State) (slot : Nat) : State :=
  (upTo 5 7).foldl (fun s p =>
    ((s.setF (reg0 .LNK_CAP p) F.LNK_CAP_proto_min (s.slotField slot 0x0C 1)).setF (reg0 .LNK_CAP p) F.LNK_CAP_proto_max
      (s.slotField slot 0x0D 1)).setF (reg0 .LNK_CAP p) F.LNK_CAP_level_mask (s.levelMask slot)) s

theorem onlyRegs_imageCaps (s : State) (slot : Nat) : OnlyRegs s (s.imageCaps slot) :=
  (OnlyRegs.refl s).foldl _ _ fun _ hu _ _ => ((hu.setF _ _ _).setF _ _ _).setF _ _ _

/-- The image of a slot is the one that both processors run. -/
def State.imageChosen (s : State) (slot : Nat) : State :=
  ((s.markVerified slot).setFirm { (s.markVerified slot).firm with serve := slot, stand := slot }).setRst { s.rst with booted := true }

/-- The version of an image is shown, and the objects measured have changed (R288, R313). -/
def State.imageShown (s : State) (version : Nat) : State :=
  ((s.setF globalReg F.PCI_MBX_GLOBAL_fw_version version).changed 4).changed 5

theorem State.bootImage_eq (s : State) (slot : Nat) : s.bootImage slot =
    ((s.imageChosen slot).imageCaps slot).imageShown ((s.imageChosen slot).slotField slot 8 4) := by
  unfold State.bootImage State.imageShown State.imageCaps State.imageChosen
  with_reducible rfl

theorem State.slotField_congr {s t : State} (ha : t.firm.slotA = s.firm.slotA) (hb : t.firm.slotB = s.firm.slotB)
    (slot o n : Nat) : t.slotField slot o n = s.slotField slot o n := by
  have hbyte : t.slotByte slot = s.slotByte slot := funext fun i => by rw [State.slotByte, State.slotByte, ha, hb]
  rw [State.slotField, State.slotBytes, hbyte]
  rfl

theorem State.fld_imageShown (s : State) (v : Nat) :
    (s.imageShown v).fld globalReg F.PCI_MBX_GLOBAL_fw_version = v % 2 ^ 32 := by
  rw [State.imageShown, State.fld_changed, State.fld_changed, State.fld_setF_same _ _ _ _ (by decide)]
  rfl

/-- An image that runs is the serving one and the standby's, with its version shown; memory is as before. -/
theorem bootImage_runs (s : State) (slot : Nat) :
    (s.bootImage slot).rst.booted = true ∧ (s.bootImage slot).firm.serve = slot ∧ (s.bootImage slot).firm.stand = slot ∧
      (s.bootImage slot).fld globalReg F.PCI_MBX_GLOBAL_fw_version = s.slotField slot 8 4 % 2 ^ 32 ∧
      (s.bootImage slot).mem = s.mem := by
  have hversion : (s.imageChosen slot).slotField slot 8 4 = s.slotField slot 8 4 := State.slotField_congr rfl rfl slot 8 4
  have hshown : ∀ u v, OnlyRegs (s.imageChosen slot) u → (u.imageShown v).rst.booted = true ∧ (u.imageShown v).firm.serve = slot ∧
      (u.imageShown v).firm.stand = slot ∧ (u.imageShown v).mem = s.mem := fun u v hu => by
    rw [hu]
    exact ⟨rfl, rfl, rfl, rfl⟩
  obtain ⟨hbooted, hserve, hstand, hmem⟩ := hshown _ ((s.imageChosen slot).slotField slot 8 4) (onlyRegs_imageCaps (s.imageChosen slot) slot)
  rw [State.bootImage_eq]
  refine ⟨hbooted, hserve, hstand, ?_, hmem⟩
  rw [State.fld_imageShown, hversion]

/-- The results of the boot ROM's checks are noted for the boot log (R358). -/
def State.bootChecked (s : State) (a ca cb : Nat) : State :=
  s.setRst { s.rst with check := if a = 0 then (ca, cb) else (cb, ca) }

/-- What follows from the checks of slot `a` and of the other slot (R355). -/
def State.bootDecided (s : State) (a ca cb : Nat) : State :=
  if ca = 0 then (s.bootChecked a ca cb).bootImage a
  else if cb = 0 then (s.bootChecked a ca cb).bootImage (1 - a)
  else ((s.bootChecked a ca cb).setStartCount ((s.bootChecked a ca cb).firm.startCount + 1)).snowbound 2

theorem State.bootRom_eq {s : State} (ht : s.rst.timer = true) (hb : s.rst.booted = false) (hi : 118 ∉ s.clk.stopped)
    (hf : s.fld rstStatus F.RST_STATUS_frost = 0) : s.bootRom = s.bootDecided s.rst.opt.bootSlot
      (s.verifyImage s.rst.opt.bootSlot)
      (if s.verifyImage s.rst.opt.bootSlot = 0 then 0 else s.verifyImage (1 - s.rst.opt.bootSlot)) := by
  unfold State.bootRom
  rw [if_neg (by simp [ht, hb, hi, State.frosted, hf])]
  unfold State.bootDecided State.bootChecked
  with_reducible rfl

theorem State.bootDecided_of_fail {s : State} {a ca cb : Nat} (ha : ca ≠ 0) (hb : cb ≠ 0) :
    (s.bootDecided a ca cb).mode = 4 ∧ (s.bootDecided a ca cb).firm.startCount = s.firm.startCount + 1 ∧
      (s.bootDecided a ca cb).fld rstStatus F.RST_STATUS_snowbound = 1 := by
  rw [State.bootDecided, if_neg ha, if_neg hb]
  obtain ⟨hmode, hsnow⟩ := State.snowbound_shows ((s.bootChecked a ca cb).setStartCount ((s.bootChecked a ca cb).firm.startCount + 1)) 2
  refine ⟨hmode, ?_, hsnow⟩
  rw [State.snowbound_startCount]
  rfl

theorem State.bootDecided_of_pass {s : State} {a ca cb k : Nat} (h : k = a ∧ ca = 0 ∨ k = 1 - a ∧ ca ≠ 0 ∧ cb = 0) :
    s.bootDecided a ca cb = (s.bootChecked a ca cb).bootImage k := by
  rw [State.bootDecided]
  rcases h with ⟨rfl, ha⟩ | ⟨rfl, ha, hb⟩
  · rw [if_pos ha]
  · rw [if_neg ha, if_pos hb]

theorem bootRomCheck_passes {s : State} (ht : s.rst.timer = true) (hb : s.rst.booted = false) (hi : 118 ∉ s.clk.stopped)
    (hf : s.fld rstStatus F.RST_STATUS_frost = 0) {a k : Nat} (ha : s.rst.opt.bootSlot = a)
    (hk : k = a ∧ s.verifyImage a = 0 ∨ k = 1 - a ∧ s.verifyImage a ≠ 0 ∧ s.verifyImage (1 - a) = 0) :
    ∃ t, exec .bootRomCheck s = .next t ∧ t.rst.booted = true ∧ t.firm.serve = k ∧ t.firm.stand = k ∧
      t.fld globalReg F.PCI_MBX_GLOBAL_fw_version = s.slotField k 8 4 % 2 ^ 32 ∧ MemSame s t := by
  refine ⟨_, congrArg Host.Outcome.next (State.bootRom_eq ht hb hi hf), ?_⟩
  rw [ha, State.bootDecided_of_pass (hk.imp_right fun ⟨h1, h2, h3⟩ => ⟨h1, h2, by rw [if_neg h2, h3]⟩)]
  generalize s.verifyImage a = ca
  generalize (if ca = 0 then 0 else s.verifyImage (1 - a)) = cb
  obtain ⟨hbooted, hserve, hstand, hversion, hmem⟩ := bootImage_runs (s.bootChecked a ca cb) k
  have hfield : (s.bootChecked a ca cb).slotField k 8 4 = s.slotField k 8 4 := State.slotField_congr rfl rfl k 8 4
  exact ⟨hbooted, hserve, hstand, by rw [hversion, hfield], fun x => by rw [hmem]; rfl⟩

theorem bootRomCheck_fails {s : State} (ht : s.rst.timer = true) (hb : s.rst.booted = false) (hi : 118 ∉ s.clk.stopped)
    (hf : s.fld rstStatus F.RST_STATUS_frost = 0) {a : Nat} (ha : s.rst.opt.bootSlot = a) (h : s.verifyImage a ≠ 0)
    (h' : s.verifyImage (1 - a) ≠ 0) : ∃ t, exec .bootRomCheck s = .next t ∧ t.mode = 4 ∧
      t.firm.startCount = s.firm.startCount + 1 ∧ t.fld rstStatus F.RST_STATUS_snowbound = 1 := by
  refine ⟨_, congrArg Host.Outcome.next (State.bootRom_eq ht hb hi hf), ?_⟩
  rw [ha, if_neg h]
  exact State.bootDecided_of_fail h h'

/-- The start is over: its count is cleared, the boot log has its entry, and FAULT_N is released (R356). -/
def State.bootNoted (s : State) : State :=
  let s := ((s.setStartCount 0).bootEnd 0).setF rstStatus F.RST_STATUS_boot_ok 1
  s.setRst { s.rst with faultLow := false }

/-- The runtime watchdogs start (R362). -/
def State.startWdogs (s : State) : State :=
  (upTo 0 2).foldl (fun s k =>
    (s.setF (reg1 .RST_WDOG 0 k) F.RST_WDOG_running 1).setF (reg1 .RST_WDOG 0 k) F.RST_WDOG_remaining_ms s.rst.opt.wdPeriod) s

theorem State.startWdogs_eq (s : State) : s.startWdogs =
    (((s.setF (reg1 .RST_WDOG 0 0) F.RST_WDOG_running 1).setF (reg1 .RST_WDOG 0 0) F.RST_WDOG_remaining_ms s.rst.opt.wdPeriod).setF
      (reg1 .RST_WDOG 0 1) F.RST_WDOG_running 1).setF (reg1 .RST_WDOG 0 1) F.RST_WDOG_remaining_ms s.rst.opt.wdPeriod := rfl

theorem onlyRegs_startWdogs (s : State) : OnlyRegs s s.startWdogs :=
  (OnlyRegs.refl s).foldl _ _ fun _ hu _ _ => (hu.setF _ _ _).setF _ _ _

theorem regsSameBut_startWdogs (s : State) : RegsSameBut [reg1 .RST_WDOG 0 0, reg1 .RST_WDOG 0 1] s s.startWdogs := by
  rw [State.startWdogs_eq]
  exact ((((RegsSameBut.refl _ s).setF (by simp) _ _).setF (by simp) _ _).setF (by simp) _ _).setF (by simp) _ _

theorem State.bootDone_eq {s : State} (ht : s.rst.timer = true) (hb : s.rst.booted = true) (hm : s.mode = 0)
    (hl : s.rst.lost = false) : s.bootDone = s.bootNoted.startWdogs.setMode 1 := by
  have hagain : s.bootNoted.startWdogs.retireAgain = s.bootNoted.startWdogs := by
    have hlost : s.bootNoted.startWdogs.rst.lost = false := by
      rw [(onlyRegs_startWdogs _).rst]
      exact hl
    rw [State.retireAgain, if_pos (by rw [hlost]; rfl)]
  unfold State.bootDone
  rw [if_neg (by simp [ht, hb, hm]), ← hagain]
  unfold State.bootNoted State.startWdogs
  with_reducible rfl

theorem bootOk_operational {s : State} (ht : s.rst.timer = true) (hb : s.rst.booted = true) (hm : s.mode = 0)
    (hl : s.rst.lost = false) : ∃ t, exec .bootOk s = .next t ∧ t.mode = 1 ∧
      t.firm.startCount = 0 ∧ t.fld rstStatus F.RST_STATUS_boot_ok = 1 ∧ t.fld rstStatus F.RST_STATUS_start_count = 0 ∧
      t.rst.faultLow = false ∧ t.rst.timer = false ∧ MemSame s t ∧
      RegsSameBut [rstStatus, globalReg, reg1 .RST_WDOG 0 0, reg1 .RST_WDOG 0 1] s t ∧
      (∀ k, k < 2 → t.fld (reg1 .RST_WDOG 0 k) F.RST_WDOG_running = 1) := by
  have hw := onlyRegs_startWdogs s.bootNoted
  have hregs := regsSameBut_startWdogs s.bootNoted
  have hst (f : Fld) : (s.bootNoted.startWdogs.setMode 1).fld rstStatus f = s.bootNoted.fld rstStatus f := by
    rw [State.fld_setMode, State.fld_setF_ne _ (by decide), hregs.fld (by decide)]
  have hnoted : RegsSameBut [rstStatus] s s.bootNoted :=
    (((RegsSameBut.refl _ s).setF (by simp) F.RST_STATUS_start_count 0).setF (by simp) F.RST_STATUS_boot_ok 1).of_regs_eq rfl
  refine ⟨_, congrArg Host.Outcome.next (State.bootDone_eq ht hb hm hl), State.mode_setMode _ (by decide), ?_, ?_, ?_, ?_, ?_,
    fun a => ?_, ?_, fun k hk => ?_⟩
  · rw [State.setMode_firm, hw]
    rfl
  · exact (hst _).trans (State.fld_setF_same ((s.setStartCount 0).bootEnd 0) _ _ _ (by decide))
  · exact (hst _).trans ((State.fld_setF_other ((s.setStartCount 0).bootEnd 0) _ _ _ _ (by decide) (by decide)).trans
      (s.fld_setStartCount 0))
  · rw [State.setMode_rst, hw.rst]
    rfl
  · rw [State.setMode_rst, hw.rst]
    rfl
  · rw [State.setMode_mem, hw.mem]
    rfl
  · exact ((hnoted.mono (by simp)).trans (hregs.mono (by simp))).setMode (by simp) 1
  · rw [State.fld_setMode, State.startWdogs_eq]
    obtain rfl | rfl : k = 0 ∨ k = 1 := by omega
    · simp (disch := decide) only [State.fld_setF_ne, State.fld_setF_other, State.fld_setF_same]
      rfl
    · simp (disch := decide) only [State.fld_setF_ne, State.fld_setF_other, State.fld_setF_same]
      rfl

end Sys2Proof.Machine

namespace Sys2Proof.Machine

/-! The two pairs (R361): a failed one is reset, and the other takes the role. -/

def failoverReg : Reg := reg0 .RST_FAILOVER 0

theorem blockKind_pair {k : Nat} (h : k < 2) : blockKind (124 + k) = some (6, k) := by
  obtain rfl | rfl : k = 0 ∨ k = 1 := by omega
  · rfl
  · rfl

theorem State.servingDie_lt (s : State) : s.servingDie < 2 := s.fld_lt ..

/-- The reset of a pair's block is requested (R360): its bits, and where it runs its shut-down too, which takes the pair's
standby readiness and its watchdog. -/
theorem State.blockResetReq_pair (s : State) {k : Nat} (hk : k < 2) : ∃ u, OnlyRegs s u ∧ RegsSameBut [blockReg (124 + k)] s u ∧
    (s.blockResetReq (124 + k) = u ∨
      s.blockResetReq (124 + k) = (u.setStandby 0).setF (reg1 .RST_WDOG 0 k) F.RST_WDOG_running 0) := by
  have hreq : ∀ f x u, OnlyRegs s u ∧ RegsSameBut [blockReg (124 + k)] s u →
      OnlyRegs s (u.setBlock (124 + k) f x) ∧ RegsSameBut [blockReg (124 + k)] s (u.setBlock (124 + k) f x) :=
    fun f x u hu => ⟨hu.1.setF _ _ _, hu.2.setF (by simp) _ _⟩
  have hset := hreq F.RST_BLOCK_enable 1 _ (hreq F.RST_BLOCK_reset 1 s ⟨.refl s, .refl _ s⟩)
  unfold State.blockResetReq
  rw [blockKind_pair hk]
  dsimp only
  split
  · exact ⟨s, .refl s, .refl _ s, .inl rfl⟩
  generalize (s.setBlock (124 + k) F.RST_BLOCK_reset 1).setBlock (124 + k) F.RST_BLOCK_enable 1 = u at hset
  split
  · have h := hreq F.RST_BLOCK_pending 1 _ (hreq F.RST_BLOCK_state 1 u hset)
    exact ⟨_, h.1, h.2, .inr rfl⟩
  · have h := hreq F.RST_BLOCK_pending 1 u hset
    exact ⟨_, h.1, h.2, .inl rfl⟩
  · have h := hreq F.RST_BLOCK_state 3 u hset
    exact ⟨_, h.1, h.2, .inl rfl⟩
  · have h := hreq F.RST_BLOCK_pending 2 u hset
    exact ⟨_, h.1, h.2, .inl rfl⟩

theorem addr_wdogReg_ne {r : Reg} (h0 : r.addr ≠ (reg1 .RST_WDOG 0 0).addr) (h1 : r.addr ≠ (reg1 .RST_WDOG 0 1).addr) {k : Nat}
    (hk : k < 2) : r.addr ≠ (reg1 .RST_WDOG 0 k).addr := by
  obtain rfl | rfl : k = 0 ∨ k = 1 := by omega
  · exact h0
  · exact h1

theorem State.fld_setStandby_global (s : State) (x : Nat) {f : Fld} (h : f.lo + f.w ≤ 4 ∨ 5 ≤ f.lo) :
    (s.setStandby x).fld globalReg f = s.fld globalReg f := by
  rw [State.setStandby, State.fld_setF_ne _ (by decide)]
  exact State.fld_setF_other _ _ _ _ _ (by decide) h.symm

theorem State.standby_setStandby (s : State) (x : Nat) :
    (s.setStandby x).fld globalReg F.PCI_MBX_GLOBAL_standby_ready = x % 2 ∧
      (s.setStandby x).fld failoverReg F.RST_FAILOVER_standby_ready = x % 2 := by
  rw [State.setStandby, State.fld_setF_ne _ (by decide)]
  exact ⟨State.fld_setF_same _ _ _ _ (by decide), State.fld_setF_same _ _ _ _ (by decide)⟩

theorem State.failovers_setStandby (s : State) (x : Nat) :
    (s.setStandby x).fld failoverReg F.RST_FAILOVER_failovers = s.fld failoverReg F.RST_FAILOVER_failovers := by
  rw [State.setStandby, failoverReg, State.fld_setF_other _ _ _ _ _ (by decide) (by decide), State.fld_setF_ne _ (by decide)]

/-- What the reset of a pair leaves to be read: of the mailbox's and the failover register, it touches the standby bit alone. -/
theorem State.blockResetReq_pair_reads (s : State) {k : Nat} (hk : k < 2) :
    OnlyRegs s (s.blockResetReq (124 + k)) ∧
      (∀ f : Fld, f.lo + f.w ≤ 4 ∨ 5 ≤ f.lo → (s.blockResetReq (124 + k)).fld globalReg f = s.fld globalReg f) ∧
      (s.fld globalReg F.PCI_MBX_GLOBAL_standby_ready = 0 →
        (s.blockResetReq (124 + k)).fld globalReg F.PCI_MBX_GLOBAL_standby_ready = 0) ∧
      (s.blockResetReq (124 + k)).fld failoverReg F.RST_FAILOVER_failovers = s.fld failoverReg F.RST_FAILOVER_failovers := by
  obtain ⟨u, honly, hregs, hu⟩ := s.blockResetReq_pair hk
  have hg : (blockReg (124 + k)).addr ≠ globalReg.addr := by
    rw [addr_blockReg]
    show _ ≠ 0x10000000080800
    omega
  have hf : (blockReg (124 + k)).addr ≠ failoverReg.addr := by
    rw [addr_blockReg]
    show _ ≠ 0x301001432010
    omega
  have hread : ∀ f, u.fld globalReg f = s.fld globalReg f := hregs.fld (by simpa using hg)
  have hread' : ∀ f, u.fld failoverReg f = s.fld failoverReg f := hregs.fld (by simpa using hf)
  have hwg : globalReg.addr ≠ (reg1 .RST_WDOG 0 k).addr := addr_wdogReg_ne (by decide) (by decide) hk
  have hwf : failoverReg.addr ≠ (reg1 .RST_WDOG 0 k).addr := addr_wdogReg_ne (by decide) (by decide) hk
  rcases hu with hu | hu <;> rw [hu]
  · exact ⟨honly, fun f _ => hread f, fun h => (hread _).trans h, hread' _⟩
  · refine ⟨((honly.setF _ _ _).setF _ _ _).setF _ _ _, fun f hd => ?_, fun _ => ?_, ?_⟩
    · rw [State.fld_setF_ne _ hwg, State.fld_setStandby_global _ _ hd, hread]
    · rw [State.fld_setF_ne _ hwg, (u.standby_setStandby 0).1]
    · rw [State.fld_setF_ne _ hwf, State.failovers_setStandby, hread']

/-- The other pair serves, without a standby, and its image's version is shown. -/
def State.roleMoved (s : State) (v : Nat) : State :=
  (((s.setMode 2).setServing (1 - s.servingDie)).setStandby 0).setF globalReg F.PCI_MBX_GLOBAL_fw_version v

theorem State.outageBegin_eq (s : State) (v : Nat) : s.outageBegin v = (s.roleMoved v).edge 627 := rfl

theorem State.fld_outageBegin (s : State) (v : Nat) {r : Reg} (h : (reg1 .ICU_SRC 0 627).addr ≠ r.addr) (f : Fld) :
    (s.outageBegin v).fld r f = (s.roleMoved v).fld r f :=
  ((RegsSameBut.refl [reg1 .ICU_SRC 0 627] (s.roleMoved v)).edge (by simp)).fld (by simpa using h) f

/-- The role moves to the other die (R293): the mode is OUTAGE, the other pair serves, and no standby is ready. -/
theorem State.outageBegin_reads (s : State) (v : Nat) :
    (s.outageBegin v).mem = s.mem ∧ (s.outageBegin v).rst = s.rst ∧ (s.outageBegin v).fld globalReg F.PCI_MBX_GLOBAL_mode = 2 ∧
      (s.outageBegin v).fld globalReg F.PCI_MBX_GLOBAL_serving_die = 1 - s.servingDie ∧
      (s.outageBegin v).fld globalReg F.PCI_MBX_GLOBAL_standby_ready = 0 ∧
      (s.outageBegin v).fld failoverReg F.RST_FAILOVER_failovers = s.fld failoverReg F.RST_FAILOVER_failovers := by
  have hglobal := State.fld_outageBegin s v (r := globalReg) (by decide)
  have hfailover := State.fld_outageBegin s v (r := failoverReg) (by decide)
  have hserving : 1 - s.servingDie < 2 ^ F.PCI_MBX_GLOBAL_serving_die.w := Nat.lt_succ_of_le (Nat.sub_le 1 _)
  refine ⟨?_, ?_, ?_, ?_, ?_, ?_⟩
  · rw [State.outageBegin_eq, State.edge_mem]
    exact s.setMode_mem 2
  · rw [State.outageBegin_eq, State.edge_rst]
    exact s.setMode_rst 2
  · rw [hglobal]
    simp (disch := decide) only [State.roleMoved, State.setStandby, State.setServing, globalReg, State.fld_setF_ne,
      State.fld_setF_other, State.fld_setMode, State.fld_setF_same]
    rfl
  · rw [hglobal]
    simp (disch := decide) only [State.roleMoved, State.setStandby, State.setServing, globalReg, State.fld_setF_ne,
      State.fld_setF_other, State.fld_setF_same]
    exact Nat.mod_eq_of_lt hserving
  · rw [hglobal]
    simp (disch := decide) only [State.roleMoved, State.setStandby, globalReg, State.fld_setF_ne, State.fld_setF_other,
      State.fld_setF_same]
    rfl
  · rw [hfailover]
    simp (disch := decide) only [State.roleMoved, State.setStandby, State.setServing, globalReg, failoverReg, State.fld_setF_ne,
      State.fld_setF_other, State.fld_setMode]

/-- The state as another pair takes over the role. -/
def State.takenOver (s : State) : State :=
  (s.setFirm { s.firm with serve := s.firm.stand }).setRst { s.rst with failover := true }

/-- The serving pair has failed and the standby takes the role (R361). -/
theorem State.servingFails_of_standby {s : State} (hs : s.fld globalReg F.PCI_MBX_GLOBAL_standby_ready = 1)
    (ha : s.firm.act = none) : s.servingFails =
      ((s.takenOver.outageBegin (s.takenOver.slotField s.takenOver.firm.serve 8 4)).bumpF failoverReg
        F.RST_FAILOVER_failovers).blockResetReq (124 + s.servingDie) := by
  have hact : s.actEnds 0x2A = s := by rw [State.actEnds, ha]
  unfold State.servingFails
  dsimp only
  rw [if_neg (by rw [hs]; decide), hact]
  rfl

/-- After a failover the other pair serves in an outage, and the failover is counted. -/
theorem servingFails_hands {s : State} (hs : s.fld globalReg F.PCI_MBX_GLOBAL_standby_ready = 1) (ha : s.firm.act = none) :
    s.servingFails.mode = 2 ∧ s.servingFails.fld globalReg F.PCI_MBX_GLOBAL_serving_die = 1 - s.servingDie ∧
      s.servingFails.fld globalReg F.PCI_MBX_GLOBAL_standby_ready = 0 ∧ MemSame s s.servingFails ∧
      s.servingFails.rst.failover = true ∧
      s.servingFails.fld failoverReg F.RST_FAILOVER_failovers = min (2 ^ F.RST_FAILOVER_failovers.w - 1)
        (s.fld failoverReg F.RST_FAILOVER_failovers + 1) := by
  obtain ⟨hmem, hrst, hmode, hserving, hstandby, hcount⟩ :=
    s.takenOver.outageBegin_reads (s.takenOver.slotField s.takenOver.firm.serve 8 4)
  rw [State.servingFails_of_standby hs ha]
  generalize s.takenOver.outageBegin (s.takenOver.slotField s.takenOver.firm.serve 8 4) = u at hmem hrst hmode hserving hstandby hcount
  have hbump : ∀ f, (u.bumpF failoverReg F.RST_FAILOVER_failovers).fld globalReg f = u.fld globalReg f :=
    fun f => State.fld_setF_ne _ (by decide) _ _ _
  obtain ⟨honly, hglobal, hstandby', hcount'⟩ :=
    (u.bumpF failoverReg F.RST_FAILOVER_failovers).blockResetReq_pair_reads s.servingDie_lt
  refine ⟨?_, ?_, ?_, fun a => ?_, ?_, ?_⟩
  · exact (hglobal _ (by decide)).trans ((hbump _).trans hmode)
  · exact (hglobal _ (by decide)).trans ((hbump _).trans hserving)
  · exact hstandby' ((hbump _).trans hstandby)
  · rw [honly.mem]
    exact congrArg (cget · a) hmem
  · rw [honly.rst]
    exact congrArg Rst.failover hrst
  · rw [hcount', State.bumpF, State.fld_setF_same _ _ _ _ (by decide), hcount, Nat.min_comm]
    exact Nat.mod_eq_of_lt (Nat.lt_of_le_of_lt (Nat.min_le_left _ _) (by decide))

end Sys2Proof.Machine

namespace Sys2Proof.Machine

/-! The watchdogs, a lockstep mismatch and the reload of the standby (R355, R361, R362). -/

theorem State.wdogRuns_iff (s : State) (k : Nat) : s.wdogRuns k = true ↔ s.fld (reg1 .RST_WDOG 0 k) F.RST_WDOG_running = 1 :=
  decide_eq_true_iff

theorem State.wdogExpire_of_stopped {s : State} {k : Nat} (h : s.fld (reg1 .RST_WDOG 0 k) F.RST_WDOG_running = 0) :
    s.wdogExpire k = s := by
  have hr : ¬s.wdogRuns k = true := by
    rw [State.wdogRuns_iff, h]
    decide
  rw [State.wdogExpire, if_pos (by simpa using hr)]

/-- The watchdog of the serving pair expires: a reset without a standby, else a failover (R362). -/
theorem State.wdogExpire_of_serving {s : State} {k : Nat} (h : s.fld (reg1 .RST_WDOG 0 k) F.RST_WDOG_running = 1)
    (hk : k = s.servingDie) : s.wdogExpire k =
      if s.fld globalReg F.PCI_MBX_GLOBAL_standby_ready = 0 then s.applyReset 3 else s.servingFails := by
  rw [State.wdogExpire, (s.wdogRuns_iff k).mpr h, if_neg (by decide), if_pos hk]

theorem watchdogHalfPeriod_raises {s : State} {k : Fin 2} (h : s.fld (reg1 .RST_WDOG 0 k) F.RST_WDOG_running = 1) :
    ∃ t, exec (.watchdogHalfPeriod k) s = .next t ∧ t.fld (reg1 .ICU_SRC 0 625) F.ICU_SRC_pending = 1 ∧
      RegsSameBut [reg1 .ICU_SRC 0 625] s t ∧ t = { s with regs := t.regs } := by
  refine ⟨s.edge 625, ?_, s.pending_edge (by decide), (RegsSameBut.refl _ s).edge (by simp), s.edge_eq 625⟩
  show Host.Outcome.next _ = _
  rw [if_pos ((s.wdogRuns_iff k).mpr h)]

theorem watchdogKick_restarts {s : State} {k : Fin 2} (h : s.fld (reg1 .RST_WDOG 0 k) F.RST_WDOG_running = 1) :
    ∃ t, exec (.watchdogKick k) s = .next t ∧
      t.fld (reg1 .RST_WDOG 0 k) F.RST_WDOG_remaining_ms = s.rst.opt.wdPeriod % 2 ^ F.RST_WDOG_remaining_ms.w ∧
      RegsSameBut [reg1 .RST_WDOG 0 k] s t ∧ t = { s with regs := t.regs } := by
  refine ⟨s.setF (reg1 .RST_WDOG 0 k) F.RST_WDOG_remaining_ms s.rst.opt.wdPeriod, ?_,
    State.fld_setF_same _ _ _ _ (by decide), (RegsSameBut.refl _ s).setF (by simp) _ _, rfl⟩
  show Host.Outcome.next (s.wdogKick k) = _
  rw [State.wdogKick, if_pos ((s.wdogRuns_iff k).mpr h)]
  rfl

/-- A mismatch of an OPERATIONAL module outside frost state (R361). -/
theorem State.mismatch_eq {s : State} (hb : s.rst.booted = true) (hm : s.mode = 1) (hf : s.fld rstStatus F.RST_STATUS_frost = 0)
    (k : Nat) : s.mismatch k = if k = s.servingDie then s.servingFails else (s.edge 624).standbyFails := by
  unfold State.mismatch
  rw [if_neg (by simp [hb, hm]), if_neg (by simp [hm]), if_neg (by simp [State.frosted, hf])]

/-- Without a standby, a failed serving pair is a frost trigger of cause 2. -/
theorem servingFails_frosts {s : State} (hs : s.fld globalReg F.PCI_MBX_GLOBAL_standby_ready = 0)
    (hf : s.fld rstStatus F.RST_STATUS_frost = 0) (ht : s.rst.timer = false) :
    s.servingFails.mode = 3 ∧ s.servingFails.fld rstStatus F.RST_STATUS_frost_cause = 2 := by
  have he : s.servingFails = s.frostLatch 2 0 := by
    rw [State.servingFails]
    exact if_pos hs
  obtain ⟨hcause, hmode, -, -⟩ := State.frostLatch_takes (s := s) (c := 2) 0 hf ht (by simp) (by decide)
  rw [he]
  exact ⟨hmode, hcause⟩

/-- A failed standby is no longer ready, and the serving pair serves on. -/
theorem standbyFails_reads (s : State) :
    s.standbyFails.fld globalReg F.PCI_MBX_GLOBAL_mode = s.fld globalReg F.PCI_MBX_GLOBAL_mode ∧
      s.standbyFails.fld globalReg F.PCI_MBX_GLOBAL_standby_ready = 0 ∧
      s.standbyFails.fld globalReg F.PCI_MBX_GLOBAL_serving_die = s.fld globalReg F.PCI_MBX_GLOBAL_serving_die ∧
      s.standbyFails.mem = s.mem := by
  obtain ⟨honly, hglobal, hstandby, -⟩ := (s.setStandby 0).blockResetReq_pair_reads
    (Nat.lt_succ_of_le (Nat.sub_le 1 s.servingDie))
  refine ⟨?_, ?_, ?_, ?_⟩
  · exact (hglobal _ (by decide)).trans (State.fld_setStandby_global _ _ (by decide))
  · exact hstandby (s.standby_setStandby 0).1
  · exact (hglobal _ (by decide)).trans (State.fld_setStandby_global _ _ (by decide))
  · exact honly.mem

theorem lockstepMismatch_standby {s : State} {k : Fin 2} (hb : s.rst.booted = true) (hm : s.mode = 1)
    (hf : s.fld rstStatus F.RST_STATUS_frost = 0) (hk : k.val ≠ s.servingDie) :
    ∃ t, exec (.lockstepMismatch k) s = .next t ∧ t.mode = 1 ∧ t.fld globalReg F.PCI_MBX_GLOBAL_standby_ready = 0 ∧
      t.fld globalReg F.PCI_MBX_GLOBAL_serving_die = s.servingDie ∧ MemSame s t := by
  obtain ⟨hmode, hstandby, hserving, hmem⟩ := standbyFails_reads (s.edge 624)
  have hedge : ∀ f, (s.edge 624).fld globalReg f = s.fld globalReg f :=
    ((RegsSameBut.refl [reg1 .ICU_SRC 0 624] s).edge (i := 624) (by simp)).fld (by decide)
  refine ⟨_, congrArg Host.Outcome.next ((State.mismatch_eq hb hm hf k).trans (if_neg hk)), ?_, hstandby, ?_, fun a => ?_⟩
  · exact hmode.trans ((hedge _).trans hm)
  · exact hserving.trans (hedge _)
  · rw [hmem, State.edge_mem]

/-- The standby's reload ends where a standby is wanted and its pair is out of reset (R355). -/
theorem State.standbyReload_eq {s : State} (hb : s.rst.booted = true) (hs : s.fld globalReg F.PCI_MBX_GLOBAL_standby_ready = 0)
    (hm : s.mode = 1) (ha : s.firm.act = none) {k : Nat} (hk : k = 1 - s.servingDie) (hst : s.blockSt (124 + k) = 0) :
    s.standbyReload true = (((((s.setFirm { s.firm with stand := s.firm.serve }).changed 5).setStandby 1).setF (reg1 .RST_WDOG 0 k)
        F.RST_WDOG_running 1).setF (reg1 .RST_WDOG 0 k) F.RST_WDOG_remaining_ms s.rst.opt.wdPeriod) ∧
      s.standbyReload false = ((s.setBlock (124 + k) F.RST_BLOCK_state 2).setBlock (124 + k) F.RST_BLOCK_enable 0).stopIslands [118 + k] := by
  have hdue : (!s.rst.booted || decide (s.fld globalReg F.PCI_MBX_GLOBAL_standby_ready = 1) || decide (s.mode ≠ 0 ∧ s.mode ≠ 1) ||
      decide (s.blockSt (124 + k) ≠ 0) || (s.firm.act.any (·.moved))) = false := by
    simp [hb, hs, hm, hst, ha]
  subst hk
  have hmode : (((s.setFirm { s.firm with stand := s.firm.serve }).changed 5).setStandby 1).mode = 1 :=
    (State.fld_setStandby_global _ _ (by decide)).trans hm
  constructor
  · unfold State.standbyReload
    dsimp only
    rw [hdue]
    simp only [hmode]
    rfl
  · unfold State.standbyReload
    dsimp only
    rw [hdue]
    rfl

/-- A reload that passes: the standby runs the serving image and its watchdog starts. -/
theorem standbyReloadDone_passes {s : State} (hb : s.rst.booted = true)
    (hs : s.fld globalReg F.PCI_MBX_GLOBAL_standby_ready = 0) (hm : s.mode = 1) (ha : s.firm.act = none) {k : Nat}
    (hk : k = 1 - s.servingDie) (hst : s.blockSt (124 + k) = 0) :
    ∃ t, exec (.standbyReloadDone true) s = .next t ∧ t.fld globalReg F.PCI_MBX_GLOBAL_standby_ready = 1 ∧
      t.fld failoverReg F.RST_FAILOVER_standby_ready = 1 ∧ t.firm.stand = s.firm.serve ∧ MemSame s t ∧
      RegsSameBut [globalReg, failoverReg, reg1 .RST_WDOG 0 k] s t := by
  have hk2 : k < 2 := hk ▸ Nat.lt_succ_of_le (Nat.sub_le 1 s.servingDie)
  have hwg : globalReg.addr ≠ (reg1 .RST_WDOG 0 k).addr := addr_wdogReg_ne (by decide) (by decide) hk2
  have hwf : failoverReg.addr ≠ (reg1 .RST_WDOG 0 k).addr := addr_wdogReg_ne (by decide) (by decide) hk2
  refine ⟨_, congrArg Host.Outcome.next (State.standbyReload_eq hb hs hm ha hk hst).1, ?_, ?_, rfl, fun _ => rfl, ?_⟩
  · rw [State.fld_setF_ne _ hwg, State.fld_setF_ne _ hwg, (State.standby_setStandby _ 1).1]
  · rw [State.fld_setF_ne _ hwf, State.fld_setF_ne _ hwf, (State.standby_setStandby _ 1).2]
  · have h : RegsSameBut [globalReg, failoverReg, reg1 .RST_WDOG 0 k] s
        ((s.setFirm { s.firm with stand := s.firm.serve }).changed 5) := .refl _ s
    exact (((h.setF (by simp [globalReg]) F.PCI_MBX_GLOBAL_standby_ready 1).setF (by simp [failoverReg]) F.RST_FAILOVER_standby_ready 1).setF
      (by simp) _ _).setF (by simp) _ _

/-- A reload that fails: the standby's pair goes off, and none is ready. -/
theorem standbyReloadDone_fails {s : State} (hb : s.rst.booted = true)
    (hs : s.fld globalReg F.PCI_MBX_GLOBAL_standby_ready = 0) (hm : s.mode = 1) (ha : s.firm.act = none) {k : Nat}
    (hk : k = 1 - s.servingDie) (hst : s.blockSt (124 + k) = 0) :
    ∃ t, exec (.standbyReloadDone false) s = .next t ∧ t.fld globalReg F.PCI_MBX_GLOBAL_standby_ready = 0 ∧
      t.blockSt (124 + k) = 2 ∧ 118 + k ∈ t.clk.stopped ∧ MemSame s t := by
  have hg : globalReg.addr ≠ (blockReg (124 + k)).addr := by
    rw [addr_blockReg]
    show 0x10000000080800 ≠ _
    omega
  refine ⟨_, congrArg Host.Outcome.next (State.standbyReload_eq hb hs hm ha hk hst).2, ?_, ?_, ?_, fun _ => rfl⟩
  · show State.fld (State.setBlock (State.setBlock s _ _ _) _ _ _) _ _ = 0
    rw [State.setBlock, State.setBlock, State.fld_setF_ne _ hg, State.fld_setF_ne _ hg, hs]
  · show State.fld (State.setBlock (State.setBlock s _ _ _) _ _ _) (blockReg (124 + k)) _ = 2
    rw [State.setBlock, State.setBlock, State.fld_setF_other _ _ _ _ _ (by decide) (by decide),
      State.fld_setF_same _ _ _ _ (by decide)]
    rfl
  · show 118 + k ∈ s.clk.stopped ++ [118 + k].filter (fun i => !s.clk.stopped.contains i)
    by_cases h : 118 + k ∈ s.clk.stopped <;> simp [h]

end Sys2Proof.Machine

namespace Sys2Proof.Machine

/-! The resets, the start and the failover, put together (R344 to R362). -/

theorem powerOn_resets (s : State) : ∃ t, exec .powerOn s = .next t ∧ ResetLeaves 0 s t ∧ t.frost = .reset ∧ t.clk.refTime = 0 ∧
    t.fld rstStatus F.RST_STATUS_frost_cause = 0 ∧ (∀ a, region a = .stacked → cget t.mem a = 0) := by
  obtain ⟨hfrost, htime⟩ := s.powerOn_clears
  obtain ⟨hcause, hstacked, -⟩ := reset_loses (s := s) (src := 0) (.inl rfl) (fun _ => rfl)
  exact ⟨_, rfl, resetLeaves_applyReset (by decide) (fun _ => rfl), hfrost, htime, hcause, hstacked⟩

theorem alwaysOnStateError_resets {s : State} (hw : s.rst.waiting = false) :
    ∃ t, exec .alwaysOnStateError s = .next t ∧ ResetLeaves 6 s t ∧ t.frost.entered = false ∧
      t.fld rstStatus F.RST_STATUS_frost_cause = 0 ∧ ∀ a, region a = .stacked → cget t.mem a = 0 := by
  obtain ⟨hcause, hstacked, hentered⟩ := reset_loses (s := s) (src := 6) (.inr rfl) (by simp [hw])
  exact ⟨_, rfl, resetLeaves_applyReset (by decide) (by simp [hw]), hentered, hcause, hstacked⟩

/-- A step that takes a warm reset, with what the reset leaves and what it keeps. -/
theorem warmReset_keeps {s : State} {o : Host.Outcome State Fault Refusal} {src : Nat} (ho : o = .next (s.applyReset src))
    (hsrc : src < 6) (h0 : src ≠ 0) (hw : s.rst.waiting = false) (ht : s.rst.timer = false) :
    ∃ t, o = .next t ∧ ResetLeaves src s t ∧ ResetKeeps s t :=
  ⟨_, ho, resetLeaves_applyReset (by omega) (by simp [hw]), resetKeeps_applyReset h0 (by omega) hw ht⟩

/-- A pulse on a reset pin (R349). -/
theorem pulse_of_long {ns : Nat} (h : 1000 ≤ ns) (x : Bool) : pulse ns x = true := by
  simp [pulse, h]

theorem pulse_of_short {ns : Nat} (h : ns ≤ 100) (x : Bool) : pulse ns x = false := by
  simp [pulse]
  omega

theorem exec_resetNAssert (ns : BitVec 32) (x : Bool) (s : State) :
    exec (.resetNAssert ns x) s = .next (if pulse ns.toNat x then s.applyReset 1 else s) := rfl

theorem exec_perstNAssert (ns : BitVec 32) (x : Bool) (s : State) :
    exec (.perstNAssert ns x) s = .next (if pulse ns.toNat x then s.applyReset 2 else s) := rfl

/-- The release sequence starts, and the fuse map gives the cores (R350, R354). -/
theorem resetReleaseStart_starts {s : State} (hw : s.rst.waiting = true) (hr : s.frost.ramp = 0) (hlo : 48000 ≤ s.pwr.mv)
    (hhi : s.pwr.mv ≤ 58000) : ∃ t, exec (.resetReleaseStart true) s = .next t ∧ t.rst.waiting = false ∧ t.rst.seq = some 0 ∧
      MemSame s t ∧ (∀ n, n < 64 → t.phys n = (Config.fuseRemap n).toNat % 68) := by
  have honly := onlyRegs_fuseLoad (s.setRst { s.rst with waiting := false, seq := some 0 })
  have hx := (State.releaseStart_of_supply hw hr hlo hhi true).trans (if_pos rfl)
  refine ⟨_, congrArg Host.Outcome.next hx, ?_, ?_, fun a => ?_, fun n hn => State.phys_fuseLoad _ hn⟩
  · rw [honly.rst]
    rfl
  · rw [honly.rst]
    rfl
  · rw [honly.mem]
    rfl

theorem resetReleaseStart_fails {s : State} (hw : s.rst.waiting = true) (hr : s.frost.ramp = 0) (hlo : 48000 ≤ s.pwr.mv)
    (hhi : s.pwr.mv ≤ 58000) (hf : s.fld rstStatus F.RST_STATUS_frost = 0) (ht : s.rst.timer = false) :
    ∃ t, exec (.resetReleaseStart false) s = .next t ∧ t.fld rstStatus F.RST_STATUS_frost_cause = 3 ∧ t.mode = 3 ∧
      t.rst.responder = true ∧ 106 ∉ t.clk.stopped :=
  ⟨_, congrArg Host.Outcome.next (State.releaseStart_of_supply hw hr hlo hhi false),
    State.loadFails_takes (s := s.setRst { s.rst with waiting := false, seq := some 0 }) hf ht rfl (by decide)⟩

theorem optionAreaLoad_fails {s : State} (hs : s.rst.seq = some 0) (hk : newerCopy s.firm.opt0 s.firm.opt1 = none)
    (hf : s.fld rstStatus F.RST_STATUS_frost = 0) (ht : s.rst.timer = false) (hw : s.rst.waiting = false) :
    ∃ t, exec .optionAreaLoad s = .next t ∧ t.fld rstStatus F.RST_STATUS_frost_cause = 4 ∧ t.mode = 3 ∧
      t.rst.responder = true := by
  obtain ⟨hcause, hmode, hresp, -⟩ := State.loadFails_takes (c := 4) hf ht hw (by decide)
  exact ⟨_, congrArg Host.Outcome.next (State.optionLoad_of_none hs hk), hcause, hmode, hresp⟩

theorem State.mem_domainIslands_die (s : State) (d : Fin 4) (i : Nat) :
    i ∈ s.domainIslands (.die d) ↔ 68 + 5 * d ≤ i ∧ i < 73 + 5 * d := by
  rw [State.domainIslands, mem_upTo]
  omega

theorem State.mem_domainIslands_ports (s : State) (i : Nat) : i ∈ s.domainIslands .ports ↔ 107 ≤ i ∧ i ≤ 117 := by
  rw [State.domainIslands, mem_upTo]
  omega

/-- A physical core that the fuse map disables stays stopped. -/
theorem State.mem_domainIslands_core (s : State) (p : Fin 68) (i : Nat) :
    i ∈ s.domainIslands (.core p) ↔ i = p ∧ s.fld (blockReg p) F.RST_BLOCK_enable = 1 := by
  rw [State.domainIslands]
  split <;> simp [*]

/-- The release of the domain whose turn it is (R353). -/
theorem domainRelease_starts {s : State} {dom : Domain} {k : Nat} (hs : s.rst.seq = some k) (hm : s.mode ≠ 4)
    (hk : k = domainPlace dom) (hc : s.firm.startCount < s.rst.opt.startLimit) (down up : BitVec 16) :
    ∃ t, exec (.domainRelease dom down up) s = .next t ∧ t.rst.seq = (if dom = .complete then none else some (k + 1)) ∧
      MemSame s t ∧ (∀ i, i ∉ t.clk.stopped ↔ i ∉ s.clk.stopped ∨ i ∈ s.domainIslands dom) ∧
      (dom = .pins → t.rst.strap = if down = up then down.toNat else 0xFFFF) ∧
      (dom = .complete → t.fld rstStatus F.RST_STATUS_seq_done = 1) := by
  obtain ⟨hmem, hseq, hstop⟩ :=
    starts_release (s := s.sequenced dom) dom (strapValue down.toNat up.toNat) hm (fun _ => hc)
  refine ⟨_, congrArg Host.Outcome.next (State.domainRelease_of_due hs hm hk _), ?_, fun a => ?_, hstop, ?_, ?_⟩
  · rw [hseq, hk]
    rfl
  · rw [hmem]
    rfl
  · rintro rfl
    rw [State.strap_release, strapValue_toNat]
  · rintro rfl
    exact State.seqDone_release _ _

theorem domainRelease_snowbound {s : State} (hs : s.rst.seq = some 2) (hm : s.mode ≠ 4)
    (hc : s.rst.opt.startLimit ≤ s.firm.startCount) (down up : BitVec 16) :
    ∃ t, exec (.domainRelease .control down up) s = .next t ∧ t.mode = 4 ∧ t.fld rstStatus F.RST_STATUS_snowbound = 1 :=
  ⟨_, congrArg Host.Outcome.next (State.domainRelease_of_due hs hm rfl _),
    State.snowbound_release (s := s.sequenced .control) hc _⟩

/-- The watchdog of the serving pair expires without a standby: a reset of source 3. -/
theorem runtimeWatchdogExpiry_resets {s : State} {k : Fin 2} (h : s.fld (reg1 .RST_WDOG 0 k) F.RST_WDOG_running = 1)
    (hk : k.val = s.servingDie) (hs : s.fld globalReg F.PCI_MBX_GLOBAL_standby_ready = 0) :
    exec (.runtimeWatchdogExpiry k) s = .next (s.applyReset 3) :=
  congrArg Host.Outcome.next ((State.wdogExpire_of_serving h hk).trans (if_pos hs))

theorem runtimeWatchdogExpiry_hands {s : State} {k : Fin 2} (h : s.fld (reg1 .RST_WDOG 0 k) F.RST_WDOG_running = 1)
    (hk : k.val = s.servingDie) (hs : s.fld globalReg F.PCI_MBX_GLOBAL_standby_ready = 1) :
    exec (.runtimeWatchdogExpiry k) s = .next s.servingFails :=
  congrArg Host.Outcome.next ((State.wdogExpire_of_serving h hk).trans (if_neg (by rw [hs]; decide)))

theorem lockstepMismatch_serving {s : State} {k : Fin 2} (hb : s.rst.booted = true) (hm : s.mode = 1)
    (hf : s.fld rstStatus F.RST_STATUS_frost = 0) (hk : k.val = s.servingDie) :
    exec (.lockstepMismatch k) s = .next s.servingFails :=
  congrArg Host.Outcome.next ((State.mismatch_eq hb hm hf k).trans (if_pos hk))

/-- Settles O48: clause by clause, from what each reset, each domain's release and each failure of a pair leaves. -/
theorem resetsAndStartsFollowTheirOrder : Obligations.ResetsAndStartsFollowTheirOrder := by
  unfold Obligations.ResetsAndStartsFollowTheirOrder
  intro s st g after keeps
  refine ⟨powerOn_resets s, fun hw ht => ⟨fun ns x => ⟨fun hns => ⟨?_, ?_⟩, fun hns => ⟨?_, ?_⟩⟩, alwaysOnStateError_resets hw⟩,
    fun hw hr => ⟨fun hlo hhi => ⟨resetReleaseStart_starts hw hr hlo hhi, resetReleaseStart_fails hw hr hlo hhi⟩, fun hlow => ?_⟩,
    fun hs => ⟨fun k hk o ho => optionAreaLoad_takes hs hk ho, optionAreaLoad_fails hs⟩,
    fun dom down up k hs hm => ⟨fun hk => ?_, fun hk hc => ?_, fun hk hc => ?_⟩,
    fun ht hb hi hf hle a ha => ⟨fun k hk => bootRomCheck_passes ht hb hi hf ha hk, bootRomCheck_fails ht hb hi hf ha⟩,
    bootOk_operational, bootWatchdog_resets, fun k serving hserving => ?_,
    fun hb hs hm ha k hk hst => ⟨standbyReloadDone_passes hb hs hm ha hk hst, standbyReloadDone_fails hb hs hm ha hk hst⟩⟩
  · rw [exec_resetNAssert, pulse_of_long hns, if_pos rfl]
    exact warmReset_keeps rfl (by decide) (by decide) hw ht
  · rw [exec_perstNAssert, pulse_of_long hns, if_pos rfl]
    exact warmReset_keeps rfl (by decide) (by decide) hw ht
  · rw [exec_resetNAssert, pulse_of_short hns, if_neg Bool.false_ne_true]
  · rw [exec_perstNAssert, pulse_of_short hns, if_neg Bool.false_ne_true]
  · exact congrArg Host.Outcome.next (State.releaseStart_of_low hlow true)
  · exact congrArg Host.Outcome.next (State.domainRelease_of_not_due hs hm hk _)
  · obtain ⟨t, hx, hseq, hmem, hstop, hpins, hdone⟩ := domainRelease_starts hs hm hk hc down up
    refine ⟨t, hx, hseq, hmem, fun i => (hstop i).trans (or_congr_right ?_), hpins, hdone⟩
    cases dom with
    | die d => exact s.mem_domainIslands_die d i
    | core p => exact s.mem_domainIslands_core p i
    | ports => exact s.mem_domainIslands_ports i
    | _ => simp [State.domainIslands]
  · subst hk
    exact domainRelease_snowbound hs hm hc down up
  · have hserving : serving = s.servingDie := hserving.symm
    subst hserving
    refine ⟨fun h => congrArg Host.Outcome.next (State.wdogExpire_of_stopped h), fun h => ⟨fun hk hs hw ht => ?_,
      fun hk hs ha => ⟨_, runtimeWatchdogExpiry_hands h hk hs, servingFails_hands hs ha⟩, watchdogHalfPeriod_raises h,
      watchdogKick_restarts h⟩, fun hb hm hf ht => ⟨fun hk hs => ⟨_, lockstepMismatch_serving hb hm hf hk, servingFails_frosts hs hf ht⟩,
      fun hk hs ha => ⟨_, lockstepMismatch_serving hb hm hf hk, servingFails_hands hs ha⟩, lockstepMismatch_standby hb hm hf⟩⟩
    exact warmReset_keeps (runtimeWatchdogExpiry_resets h hk hs) (by decide) (by decide) hw ht

end Sys2Proof.Machine

namespace Sys2Proof.Machine

/-! Interrupt sources: where their registers lie, and what an edge and a look at the line leave (R366). -/

theorem addr_srcReg (i : Nat) : (srcReg i).addr = 0x301001440000 + 8 * i := by
  simp only [srcReg, reg1, Reg.addr, RegName.place]
  omega

theorem addr_groupReg (g : Nat) : (reg1 .ICU_GROUP 0 g).addr = 0x301001442000 + 8 * g := by
  simp only [reg1, Reg.addr, RegName.place]
  omega

theorem addr_alarmCtlReg (k : Nat) : (reg1 .ICU_ALARM_CTL 0 k).addr = 0x301001443208 + 16 * k := by
  simp only [reg1, Reg.addr, RegName.place]
  omega

/-- What lies outside the 768 source registers is none of them. -/
theorem addr_srcReg_ne {i : Nat} (hi : i < 768) {r : Reg} (h : r.addr < 0x301001440000 ∨ 0x301001441800 ≤ r.addr) :
    (srcReg i).addr ≠ r.addr := by
  rw [addr_srcReg]
  omega

/-- An edge of a source that is not pending makes it pending. -/
theorem State.edge_of_idle {s : State} {i : Nat} (h : (reservedSource i || levelSource i) = false)
    (hp : s.fld (srcReg i) F.ICU_SRC_pending = 0) : s.edge i = s.setF (srcReg i) F.ICU_SRC_pending 1 := by
  unfold State.edge
  rw [if_neg (by simp [h])]
  exact if_neg (by rw [← srcReg, hp]; decide)

/-- An edge of a pending source is an overrun. -/
theorem State.edge_of_pending {s : State} {i : Nat} (h : (reservedSource i || levelSource i) = false)
    (hp : s.fld (srcReg i) F.ICU_SRC_pending = 1) : s.edge i = s.setF (srcReg i) F.ICU_SRC_overrun 1 := by
  unfold State.edge
  rw [if_neg (by simp [h])]
  exact if_pos hp

theorem State.sample_of_edgeSource (s : State) {i : Nat} (h : levelSource i = false) : s.sample i = s :=
  if_pos (by simp [h])

theorem State.sample_of_inService {s : State} {i : Nat} (h : s.fld (srcReg i) F.ICU_SRC_in_service = 1) : s.sample i = s :=
  if_pos (by simp [h])

theorem State.sample_of_level {s : State} {i : Nat} (h : levelSource i = true)
    (h0 : s.fld (srcReg i) F.ICU_SRC_in_service = 0) :
    s.sample i = s.setF (srcReg i) F.ICU_SRC_pending (s.line i).toNat :=
  if_neg (by simp [h, h0])

theorem State.pending_setF_bool (s : State) (i : Nat) (b : Bool) :
    (s.setF (srcReg i) F.ICU_SRC_pending b.toNat).fld (srcReg i) F.ICU_SRC_pending = b.toNat := by
  rw [State.fld_setF_same _ _ _ _ (by decide)]
  cases b <;> rfl

/-- The line of a source out of service becomes its pending bit; an edge source keeps its own (R366). -/
theorem State.pending_sample {s : State} {i : Nat} (h0 : s.fld (srcReg i) F.ICU_SRC_in_service = 0) :
    (s.sample i).fld (srcReg i) F.ICU_SRC_pending =
      if levelSource i then (s.line i).toNat else s.fld (srcReg i) F.ICU_SRC_pending := by
  split
  · next h => rw [State.sample_of_level h h0, State.pending_setF_bool]
  · next h => rw [State.sample_of_edgeSource _ (by simpa using h)]

/-- A look at the line changes no other field of the source. -/
theorem State.fld_sample_other (s : State) (i : Nat) {f : Fld} (d : 10 ≤ f.lo ∨ f.lo + f.w ≤ 9) :
    (s.sample i).fld (srcReg i) f = s.fld (srcReg i) f := by
  unfold State.sample
  split
  · rfl
  · exact State.fld_setF_other _ _ _ _ _ (by decide) d

theorem RegsSameBut.sample {rs : List Reg} {s t : State} (h : RegsSameBut rs s t) {i : Nat} (hr : srcReg i ∈ rs) :
    RegsSameBut rs s (t.sample i) := by
  unfold State.sample
  split
  · exact h
  · exact h.setF hr _ _

theorem OnlyRegs.sample {s t : State} (h : OnlyRegs s t) (i : Nat) : OnlyRegs s (t.sample i) := by
  unfold State.sample
  split
  · exact h
  · exact h.setF _ _ _

end Sys2Proof.Machine

namespace Sys2Proof.Machine

/-! The level lines are not read from the source registers (R365). -/

/-- The tokens of a unit of a scope lie in it (R176). -/
theorem wf_of_mem_unitToks {scope : Fin 5} {u : Nat} (hu : (⟨scope, u, 0⟩ : Tok).wf = true) {x : Tok}
    (hx : x ∈ unitToks scope u) : x.wf = true := by
  obtain ⟨k, hk, rfl⟩ := List.mem_map.mp hx
  rw [mem_upTo] at hk
  match scope with
  | 0 | 1 | 2 | 3 | 4 => simp_all [Tok.wf]

theorem addr_tokReg_lt {x : Tok} (h : x.wf = true) : (tokReg x).addr < 0x301001440000 := by
  obtain ⟨scope, u, k⟩ := x
  match scope with
  | 0 | 1 | 2 | 3 | 4 =>
    simp only [Tok.wf, Bool.and_eq_true, decide_eq_true_eq] at h
    simp only [tokReg, reg1, Reg.addr, RegName.place]
    omega

/-- Two tests that agree on the elements of a list. -/
theorem any_congr_mem {α : Type} {l : List α} {p q : α → Bool} (h : ∀ x ∈ l, p x = q x) : l.any p = l.any q := by
  induction l with
  | nil => rfl
  | cons x l ih =>
    obtain ⟨hx, hl⟩ := List.forall_mem_cons.mp h
    rw [List.any_cons, List.any_cons, hx, ih hl]

section
variable {s t : State} {i : Nat} (h : RegsSameBut [srcReg i] s t) (hi : i < 768)
include h hi

/-- A field of a register that is not a source. -/
theorem State.fld_of_source_changed {r : Reg} (hr : r.addr < 0x301001440000 ∨ 0x301001441800 ≤ r.addr) (f : Fld) :
    t.fld r f = s.fld r f := h.fld (by simpa using addr_srcReg_ne hi hr) f

theorem State.ovf_of_source_changed {ts : List Tok} (hts : ∀ x ∈ ts, x.wf = true) : t.ovf ts = s.ovf ts :=
  any_congr_mem fun x hx => by rw [State.fld_of_source_changed h hi (.inl (addr_tokReg_lt (hts x hx)))]

theorem State.engSt_of_source_changed {n : Nat} (hn : n < 64) (ve : Bool) : t.engSt ve n = s.engSt ve n := by
  refine State.fld_of_source_changed h hi (.inl ?_) _
  cases ve
  all_goals
    simp only [stateReg, reg0, Reg.addr, RegName.place, Bool.false_eq_true, if_true, if_false]
    omega

theorem State.qSt_of_source_changed {n m : Nat} (hn : n < 64) (hm : m < 8) : t.qSt n m = s.qSt n m := by
  refine State.fld_of_source_changed h hi (.inl ?_) _
  simp only [qReg, reg1, Reg.addr, RegName.place]
  omega

theorem State.winState_of_source_changed {d : Nat} (hd : d < 4) : t.winState d = s.winState d := by
  refine State.fld_of_source_changed h hi (.inl ?_) _
  simp only [winReg, reg0, Reg.addr, RegName.place]
  omega

/-- A mailbox register lies above every source. -/
theorem State.fld_mailbox_of_source_changed {nm : RegName} (hb : nm.place.base = 0x10000000000000) (m : Nat) (f : Fld) :
    t.fld (reg1 nm 0 m) f = s.fld (reg1 nm 0 m) f := by
  refine State.fld_of_source_changed h hi (.inr ?_) _
  simp only [reg1, Reg.addr, hb]
  omega

/-- A source register feeds no line. -/
theorem State.line_of_source_changed (hp : t.pwr = s.pwr) {j : Nat} (hj : j < 768) : t.line j = s.line j := by
  have htoks {scope : Fin 5} {u : Nat} (hu : (⟨scope, u, 0⟩ : Tok).wf = true) : t.ovf (unitToks scope u) =
      s.ovf (unitToks scope u) := State.ovf_of_source_changed h hi fun x hx => wf_of_mem_unitToks hu hx
  unfold State.line
  split
  case isTrue hcore =>
    have hn : j / 8 < 64 := by omega
    dsimp only
    split
    · rw [State.engSt_of_source_changed h hi hn]
    · rw [State.engSt_of_source_changed h hi hn]
    · exact any_congr_mem fun m hm => by rw [State.qSt_of_source_changed h hi hn (by simpa using (mem_upTo 0 8 m).mp hm)]
    · exact htoks (by simpa [Tok.wf] using hn)
    · rfl
  case isFalse =>
    refine ite_congr rfl (fun _ => ?_) fun _ => ite_congr rfl (fun hw => ?_) fun _ => ite_congr rfl (fun hd => ?_) fun _ =>
      ite_congr rfl (fun _ => ?_) fun _ => ite_congr rfl (fun _ => ?_) fun _ => ?_
    · rw [State.fld_of_source_changed h hi (.inl (by decide))]
    · rw [State.winState_of_source_changed h hi (by omega)]
    · refine State.ovf_of_source_changed h hi fun x hx => ?_
      simp only [List.mem_append, List.mem_flatMap, mem_upTo] at hx
      rcases hx with (⟨u, hu, hx⟩ | ⟨u, hu, hx⟩) | hx
      · exact wf_of_mem_unitToks (by simp [Tok.wf]; omega) hx
      · exact wf_of_mem_unitToks (by simp [Tok.wf]; omega) hx
      · exact wf_of_mem_unitToks (by simp [Tok.wf]; omega) hx
    · exact htoks rfl
    · refine any_congr_mem fun m _ => ?_
      simp only [State.fld_mailbox_of_source_changed h hi (nm := .PCI_MBX_CQ_CFG) rfl,
        State.fld_mailbox_of_source_changed h hi (nm := .PCI_MBX_SQ_HEAD) rfl,
        State.fld_mailbox_of_source_changed h hi (nm := .PCI_MBX_SQ_TAIL) rfl]
    · rw [hp]

end

end Sys2Proof.Machine

namespace Sys2Proof.Machine

/-! The pending sources and the best of them (R369, R370). -/

/-- A table lists what it holds at a key, or holds the default there. -/
theorem tget_eq_or_mem {α : Type} (d : α) (t : Tbl α) (k : Nat) : tget d t k = d ∨ (k, tget d t k) ∈ t := by
  induction t with
  | nil => exact .inl rfl
  | cons x t ih =>
    obtain ⟨k', v⟩ := x
    by_cases hk : k' = k
    · subst hk
      exact .inr (by simp [tget])
    · rw [tget, if_neg hk]
      exact ih.imp_right (List.mem_cons_of_mem _)

theorem pending_reset_srcReg (i : Nat) : fget (srcReg i).reset F.ICU_SRC_pending = 0 := by
  have hboth : ∀ b : Bool, fget (RegName.ICU_SRC.resetBase ||| if b then 0 else 0x100) F.ICU_SRC_pending = 0 := by decide
  exact hboth _

/-- A pending source is listed. -/
theorem State.mem_pendingSources {s : State} {i : Nat} (hi : i < 768) (hp : s.fld (srcReg i) F.ICU_SRC_pending = 1) :
    i ∈ s.pendingSources := by
  have hlisted : ((srcReg i).addr, s.rd (srcReg i)) ∈ s.regs := by
    refine (tget_eq_or_mem _ _ _).resolve_left fun hreset => ?_
    rw [State.fld, State.rd, hreset, pending_reset_srcReg] at hp
    exact absurd hp (by decide)
  refine List.mem_filterMap.mpr ⟨_, hlisted, ?_⟩
  have hrange : (srcReg 0).addr ≤ (srcReg i).addr ∧ (srcReg i).addr < (srcReg 0).addr + 8 * 768 := by
    simp only [addr_srcReg]
    omega
  dsimp only
  rw [if_pos ⟨hrange.1, hrange.2, hp⟩, addr_srcReg, addr_srcReg]
  exact congrArg some (by omega)

/-- The choice between the best source so far and another one: the earlier of two of equal priority stays. -/
def State.better (s : State) (b : Option Nat) (i : Nat) : Option Nat :=
  match b with
  | none => some i
  | some j => if s.prioOf i > s.prioOf j then some i else some j

theorem State.bestSource_eq (s : State) (t : Nat) :
    s.bestSource t = (s.pendingSources.filter (fun i => s.eligible i t)).foldl s.better none := rfl

theorem State.better_eq_or (s : State) (b : Option Nat) (i : Nat) : s.better b i = some i ∨ s.better b i = b := by
  cases b with
  | none => exact .inl rfl
  | some j =>
    by_cases h : s.prioOf i > s.prioOf j
    · exact .inl (if_pos h)
    · exact .inr (if_neg h)

/-- The choice has at least the priority of each of the two. -/
theorem State.better_ge (s : State) {b : Option Nat} {i k : Nat} (h : b = some k ∨ i = k) :
    ∃ j, s.better b i = some j ∧ s.prioOf k ≤ s.prioOf j := by
  cases b with
  | none => exact ⟨i, rfl, Nat.le_of_eq (congrArg s.prioOf (h.resolve_left nofun).symm)⟩
  | some j =>
    by_cases hlt : s.prioOf i > s.prioOf j
    · refine ⟨i, if_pos hlt, ?_⟩
      rcases h with h | rfl
      · cases h
        omega
      · exact Nat.le_refl _
    · refine ⟨j, if_neg hlt, ?_⟩
      rcases h with h | rfl
      · cases h
        exact Nat.le_refl _
      · omega

theorem State.mem_of_foldl_better {s : State} {l : List Nat} {b : Option Nat} {j : Nat} (h : l.foldl s.better b = some j) :
    b = some j ∨ j ∈ l := by
  induction l generalizing b with
  | nil => exact .inl h
  | cons i l ih =>
    rcases ih h with hb | hl
    · rcases s.better_eq_or b i with he | he
      · exact .inr (List.mem_cons.mpr (.inl (by simpa [he, eq_comm] using hb)))
      · exact .inl (he ▸ hb)
    · exact .inr (List.mem_cons_of_mem _ hl)

theorem State.foldl_better_ge (s : State) {l : List Nat} {b : Option Nat} {k : Nat} (h : b = some k ∨ k ∈ l) :
    ∃ j, l.foldl s.better b = some j ∧ s.prioOf k ≤ s.prioOf j := by
  induction l generalizing b k with
  | nil => exact ⟨k, h.resolve_right List.not_mem_nil, Nat.le_refl _⟩
  | cons i l ih =>
    rw [List.mem_cons, ← or_assoc] at h
    rcases h with h | h
    · obtain ⟨m, hm, hkm⟩ := s.better_ge (h.imp_right Eq.symm)
      obtain ⟨j, hj, hmj⟩ := ih (.inl hm)
      exact ⟨j, hj, Nat.le_trans hkm hmj⟩
    · exact ih (.inr h)

/-- The best source is eligible. -/
theorem State.eligible_of_bestSource {s : State} {t i : Nat} (h : s.bestSource t = some i) : s.eligible i t = true :=
  (List.mem_filter.mp ((State.mem_of_foldl_better h).resolve_left nofun)).2

theorem State.pending_of_eligible {s : State} {i t : Nat} (h : s.eligible i t = true) :
    s.fld (srcReg i) F.ICU_SRC_pending = 1 := by
  simp only [State.eligible, Bool.and_eq_true, decide_eq_true_eq] at h
  obtain ⟨⟨⟨hpending, -⟩, -⟩, -⟩ := h
  exact hpending

/-- No eligible source has a higher priority than the best one. -/
theorem State.prioOf_le_bestSource {s : State} {t i j : Nat} (h : s.bestSource t = some i) (hj : j < 768)
    (he : s.eligible j t = true) : s.prioOf j ≤ s.prioOf i := by
  have hmem : j ∈ s.pendingSources.filter (fun i => s.eligible i t) :=
    List.mem_filter.mpr ⟨State.mem_pendingSources hj (State.pending_of_eligible he), he⟩
  obtain ⟨k, hk, hle⟩ := s.foldl_better_ge (b := none) (.inr hmem)
  rw [State.bestSource_eq, hk] at h
  cases h
  exact hle

theorem State.bestSource_of_no_request {s : State} {t : Nat} (h : s.request t = false) : s.bestSource t = none := by
  rw [State.bestSource_eq, List.filter_eq_nil_iff.mpr (List.any_eq_false.mp h)]
  rfl

/-- A source of a group held off, or of priority 0, is eligible nowhere (R369, R372). -/
theorem State.not_eligible {s : State} {i : Nat}
    (h : s.fld (reg1 .ICU_GROUP 0 (i / 16)) F.ICU_GROUP_remaining ≠ 0 ∨ s.prioOf i = 0) (t : Nat) : s.eligible i t = false := by
  rw [State.eligible]
  rcases h with h | h
  · simp [h]
  · simp [h]

end Sys2Proof.Machine

namespace Sys2Proof.Machine

/-! Claims and their ends (R370, R372, R374). -/

/-- The source at its claim: in service at a target. -/
def State.serveSource (s : State) (t i : Nat) : State :=
  ((s.setF (srcReg i) F.ICU_SRC_pending 0).setF (srcReg i) F.ICU_SRC_in_service 1).setF (srcReg i) F.ICU_SRC_holder t

/-- The group at a claim: its timer loaded, its claim counted. -/
def State.loadHoldoff (s : State) (g : Nat) : State :=
  (s.setF (reg1 .ICU_GROUP 0 g) F.ICU_GROUP_remaining (s.fld (reg1 .ICU_GROUP 0 g) F.ICU_GROUP_holdoff)).bumpF
    (reg1 .ICU_GROUP 0 g) F.ICU_GROUP_claims

/-- The claims of every target replaced. -/
def State.putClaims (s : State) (cs : Tbl (List Nat)) : State := { s with claims := cs }

theorem RegsSameBut.putClaims {rs : List Reg} {s u : State} (h : RegsSameBut rs s u) (cs : Tbl (List Nat)) :
    RegsSameBut rs s (u.putClaims cs) := h.of_regs_eq rfl

theorem State.line_putClaims (s : State) (cs : Tbl (List Nat)) {i : Nat} (hi : i < 768) : (s.putClaims cs).line i = s.line i :=
  State.line_of_source_changed ((RegsSameBut.refl _ s).putClaims cs) hi rfl hi

/-- What a read of ICU_CLAIM returns for a source. -/
def claimWord (i p : Nat) : BitVec 64 :=
  fset (fset (fset 0 F.ICU_CLAIM_source i) F.ICU_CLAIM_valid 1) F.ICU_CLAIM_prio p

theorem State.icuClaim_of_none {s : State} {t : Nat} (h : s.bestSource t = none) : s.icuClaim t = (s, 0) := by
  rw [State.icuClaim, h]

theorem State.icuClaim_of_some {s : State} {t i : Nat} (h : s.bestSource t = some i) :
    s.icuClaim t = (((s.serveSource t i).loadHoldoff (i / 16)).putClaims (tput t ((s.prioOf i * 1024 + i) :: s.claimsOf t) s.claims),
      claimWord i (s.prioOf i)) := by
  rw [State.icuClaim, h]
  rfl

theorem claimWord_reads {i p : Nat} (hi : i < 1024) (hp : p < 16) :
    fget (claimWord i p) F.ICU_CLAIM_valid = 1 ∧ fget (claimWord i p) F.ICU_CLAIM_source = i ∧
      fget (claimWord i p) F.ICU_CLAIM_prio = p := by
  unfold claimWord
  refine ⟨?_, ?_, ?_⟩
  · simp (disch := decide) only [fget_fset_other, fget_fset_same]
    rfl
  · simp (disch := decide) only [fget_fset_other, fget_fset_same]
    exact Nat.mod_eq_of_lt hi
  · simp (disch := decide) only [fget_fset_same]
    exact Nat.mod_eq_of_lt hp

theorem State.serveSource_reads (s : State) {t : Nat} (ht : t < 128) (i : Nat) :
    (s.serveSource t i).fld (srcReg i) F.ICU_SRC_pending = 0 ∧ (s.serveSource t i).fld (srcReg i) F.ICU_SRC_in_service = 1 ∧
      (s.serveSource t i).fld (srcReg i) F.ICU_SRC_holder = t := by
  unfold State.serveSource
  refine ⟨?_, ?_, ?_⟩
  · simp (disch := decide) only [State.fld_setF_other, State.fld_setF_same]
    rfl
  · simp (disch := decide) only [State.fld_setF_other, State.fld_setF_same]
    rfl
  · simp (disch := decide) only [State.fld_setF_same]
    exact Nat.mod_eq_of_lt ht

theorem RegsSameBut.serveSource {rs : List Reg} {s u : State} (h : RegsSameBut rs s u) {i : Nat} (hr : srcReg i ∈ rs) (t : Nat) :
    RegsSameBut rs s (u.serveSource t i) := ((h.setF hr _ _).setF hr _ _).setF hr _ _

theorem RegsSameBut.loadHoldoff {rs : List Reg} {s u : State} (h : RegsSameBut rs s u) {g : Nat} (hr : reg1 .ICU_GROUP 0 g ∈ rs) :
    RegsSameBut rs s (u.loadHoldoff g) := (h.setF hr _ _).setF hr _ _

theorem State.remaining_loadHoldoff (s : State) (g : Nat) :
    (s.loadHoldoff g).fld (reg1 .ICU_GROUP 0 g) F.ICU_GROUP_remaining = s.fld (reg1 .ICU_GROUP 0 g) F.ICU_GROUP_holdoff := by
  unfold State.loadHoldoff State.bumpF
  simp (disch := decide) only [State.fld_setF_other, State.fld_setF_same]
  exact Nat.mod_eq_of_lt (s.fld_lt _ F.ICU_GROUP_holdoff)

/-- Source and group registers lie apart. -/
theorem addr_groupReg_ne {i : Nat} (hi : i < 768) (g : Nat) : (reg1 .ICU_GROUP 0 g).addr ≠ (srcReg i).addr := by
  rw [addr_srcReg, addr_groupReg]
  omega

theorem State.level_of_cons {s : State} {t p i : Nat} {cs : List Nat} (hi : i < 1024) (h : s.claimsOf t = (p * 1024 + i) :: cs) :
    s.level t = p := by
  rw [State.level, h]
  show (p * 1024 + i) / 1024 = p
  omega

/-- A register read answered with a value. -/
def State.answered (s : State) (v : BitVec 64) : State := { s with rdata := v, rstatus := .ok }

theorem exec_icuClaim (s : State) (t : Fin 66) : exec (.icuClaim t) s = .next ((s.icuClaim t).1.answered (s.icuClaim t).2) := rfl

theorem RegsSameBut.answered {rs : List Reg} {s u : State} (h : RegsSameBut rs s u) (v : BitVec 64) :
    RegsSameBut rs s (u.answered v) := h.of_regs_eq rfl

theorem State.fld_putClaims_answered (s : State) (cs : Tbl (List Nat)) (v : BitVec 64) (r : Reg) (f : Fld) :
    ((s.putClaims cs).answered v).fld r f = s.fld r f := rfl

theorem State.claimsOf_putClaims_answered (s : State) (t : Nat) (c : List Nat) (cs : Tbl (List Nat)) (v : BitVec 64) :
    ((s.putClaims (tput t c cs)).answered v).claimsOf t = c := tget_tput_same ..

theorem memSame_of_mem_eq {s t : State} (h : t.mem = s.mem) : MemSame s t := fun a => congrArg (cget · a) h

/-- A claim takes the best source into service and holds off its group. -/
theorem icuClaim_takes {s : State} {t : Fin 66} {i : Nat} (h : s.bestSource t = some i) (hi : i < 768) :
    ∃ u, exec (.icuClaim t) s = .next u ∧ fget u.rdata F.ICU_CLAIM_valid = 1 ∧ fget u.rdata F.ICU_CLAIM_source = i ∧
      fget u.rdata F.ICU_CLAIM_prio = s.prioOf i ∧ u.level t = s.prioOf i ∧ u.fld (srcReg i) F.ICU_SRC_pending = 0 ∧
      u.fld (srcReg i) F.ICU_SRC_in_service = 1 ∧ u.fld (srcReg i) F.ICU_SRC_holder = t ∧
      u.claimsOf t = (s.prioOf i * 1024 + i) :: s.claimsOf t ∧
      u.fld (reg1 .ICU_GROUP 0 (i / 16)) F.ICU_GROUP_remaining = s.fld (reg1 .ICU_GROUP 0 (i / 16)) F.ICU_GROUP_holdoff ∧
      RegsSameBut [srcReg i, reg1 .ICU_GROUP 0 (i / 16)] s u ∧ MemSame s u := by
  have hexec := exec_icuClaim s t
  rw [State.icuClaim_of_some h] at hexec
  obtain ⟨hvalid, hsource, hprio⟩ := claimWord_reads (i := i) (by omega) (s.fld_lt (srcReg i) F.ICU_SRC_prio)
  obtain ⟨hpending, hservice, hholder⟩ := s.serveSource_reads (t := t) (by omega) i
  have hsrc (f : Fld) : ((s.serveSource t i).loadHoldoff (i / 16)).fld (srcReg i) f = (s.serveSource t i).fld (srcReg i) f :=
    ((RegsSameBut.refl [reg1 .ICU_GROUP 0 (i / 16)] _).loadHoldoff (by simp)).fld (by simpa using addr_groupReg_ne hi _) f
  have hgroup : (s.serveSource t i).fld (reg1 .ICU_GROUP 0 (i / 16)) F.ICU_GROUP_holdoff =
      s.fld (reg1 .ICU_GROUP 0 (i / 16)) F.ICU_GROUP_holdoff :=
    ((RegsSameBut.refl [srcReg i] s).serveSource (by simp) t).fld (by simpa using (addr_groupReg_ne hi _).symm) _
  have hclaims := State.claimsOf_putClaims_answered ((s.serveSource t i).loadHoldoff (i / 16)) t
    ((s.prioOf i * 1024 + i) :: s.claimsOf t) s.claims (claimWord i (s.prioOf i))
  refine ⟨_, hexec, hvalid, hsource, hprio, State.level_of_cons (by omega) hclaims, ?_, ?_, ?_, hclaims, ?_,
    ((((RegsSameBut.refl _ s).serveSource (by simp) t).loadHoldoff (by simp)).putClaims _).answered _, memSame_of_mem_eq rfl⟩
  · rw [State.fld_putClaims_answered, hsrc, hpending]
  · rw [State.fld_putClaims_answered, hsrc, hservice]
  · rw [State.fld_putClaims_answered, hsrc, hholder]
  · rw [State.fld_putClaims_answered, State.remaining_loadHoldoff, hgroup]

theorem State.dropClaim_reads (s : State) (i : Nat) :
    (s.dropClaim i).fld (srcReg i) F.ICU_SRC_in_service = 0 ∧ (s.dropClaim i).fld (srcReg i) F.ICU_SRC_holder = 0x7F ∧
      (s.dropClaim i).fld (srcReg i) F.ICU_SRC_pending = s.fld (srcReg i) F.ICU_SRC_pending := by
  unfold State.dropClaim
  refine ⟨?_, ?_, ?_⟩
  · simp (disch := decide) only [State.fld_setF_other, State.fld_setF_same]
    rfl
  · simp (disch := decide) only [State.fld_setF_same]
    rfl
  · simp (disch := decide) only [State.fld_setF_other]

theorem RegsSameBut.dropClaim {rs : List Reg} {s u : State} (h : RegsSameBut rs s u) {i : Nat} (hr : srcReg i ∈ rs) :
    RegsSameBut rs s (u.dropClaim i) := (h.setF hr _ _).setF hr _ _

theorem State.line_dropClaim (s : State) {i : Nat} (hi : i < 768) : (s.dropClaim i).line i = s.line i :=
  State.line_of_source_changed ((RegsSameBut.refl _ s).dropClaim (List.mem_singleton_self _)) hi rfl hi

/-- A source whose claim is dropped and whose line is looked at again. -/
theorem State.dropClaim_sample_reads (s : State) {i : Nat} (hi : i < 768) :
    ((s.dropClaim i).sample i).fld (srcReg i) F.ICU_SRC_in_service = 0 ∧
      ((s.dropClaim i).sample i).fld (srcReg i) F.ICU_SRC_holder = 0x7F ∧
      ((s.dropClaim i).sample i).fld (srcReg i) F.ICU_SRC_pending =
        if levelSource i then (s.line i).toNat else s.fld (srcReg i) F.ICU_SRC_pending := by
  obtain ⟨hservice, hholder, hpending⟩ := s.dropClaim_reads i
  refine ⟨(State.fld_sample_other _ i (by decide)).trans hservice, (State.fld_sample_other _ i (by decide)).trans hholder, ?_⟩
  rw [State.pending_sample hservice, s.line_dropClaim hi, hpending]

theorem State.claims_dropClaim_sample (s : State) (i : Nat) : ((s.dropClaim i).sample i).claims = s.claims := by
  rw [(OnlyRegs.refl (s.dropClaim i)).sample i]
  rfl

theorem State.icuComplete_of_innermost {s : State} {t v c : Nat} {cs : List Nat} (h : s.claimsOf t = c :: cs)
    (hc : c % 1024 = v % 1024) :
    s.icuComplete t v = ((s.putClaims (tput t cs s.claims)).dropClaim (c % 1024)).sample (c % 1024) := by
  rw [State.icuComplete, h, hc]
  exact if_pos hc

theorem State.icuComplete_of_other {s : State} {t v : Nat} (h : (s.claimsOf t).head?.map (· % 1024) ≠ some (v % 1024)) :
    s.icuComplete t v = s.setF (icuStatusReg t) F.ICU_STATUS_complete_err 1 := by
  unfold State.icuComplete
  cases hcs : s.claimsOf t with
  | nil => rfl
  | cons c cs =>
    rw [hcs] at h
    exact if_neg fun hc => h (congrArg some hc)

theorem icuComplete_ends {s : State} {t : Fin 66} {v : BitVec 64} {c i : Nat} {cs : List Nat} (h : s.claimsOf t = c :: cs)
    (hc : c % 1024 = v.toNat % 1024) (hci : c % 1024 = i) (hi : i < 768) :
    ∃ u, exec (.icuComplete t v) s = .next u ∧ u.claimsOf t = cs ∧ u.fld (srcReg i) F.ICU_SRC_in_service = 0 ∧
      u.fld (srcReg i) F.ICU_SRC_holder = 0x7F ∧
      u.fld (srcReg i) F.ICU_SRC_pending =
        (if levelSource i then (s.line i).toNat else s.fld (srcReg i) F.ICU_SRC_pending) ∧
      RegsSameBut [srcReg i] s u := by
  subst hci
  obtain ⟨hservice, hholder, hpending⟩ := (s.putClaims (tput t cs s.claims)).dropClaim_sample_reads hi
  rw [s.line_putClaims _ hi] at hpending
  refine ⟨_, congrArg Host.Outcome.next (State.icuComplete_of_innermost h hc), ?_, hservice, hholder, hpending,
    (((RegsSameBut.refl _ s).putClaims _).dropClaim (by simp)).sample (by simp)⟩
  rw [State.claimsOf, State.claims_dropClaim_sample]
  exact tget_tput_same ..

theorem icuComplete_errs {s : State} {t : Fin 66} {v : BitVec 64}
    (h : (s.claimsOf t).head?.map (· % 1024) ≠ some (v.toNat % 1024)) :
    ∃ u, exec (.icuComplete t v) s = .next u ∧ u.claims = s.claims ∧ u.fld (icuStatusReg t) F.ICU_STATUS_complete_err = 1 ∧
      RegsSameBut [icuStatusReg t] s u :=
  ⟨_, congrArg Host.Outcome.next (State.icuComplete_of_other h), rfl, State.fld_setF_same _ _ _ _ (by decide),
    (RegsSameBut.refl _ s).setF (by simp) _ _⟩

/-- A dropped claim of a level source looks at its line; an edge source becomes pending again (R374). -/
def State.abandonClaim (s : State) (c : Nat) : State :=
  if levelSource (c % 1024) then (s.dropClaim (c % 1024)).sample (c % 1024)
  else (s.dropClaim (c % 1024)).setF (srcReg (c % 1024)) F.ICU_SRC_pending 1

theorem State.abandon_eq (s : State) (t : Nat) :
    s.abandon t = (s.claimsOf t).foldl State.abandonClaim (s.putClaims (tdel t s.claims)) := rfl

theorem RegsSameBut.abandonClaim {rs : List Reg} {s u : State} (h : RegsSameBut rs s u) {c : Nat} (hr : srcReg (c % 1024) ∈ rs) :
    RegsSameBut rs s (u.abandonClaim c) := by
  unfold State.abandonClaim
  split
  · exact (h.dropClaim hr).sample hr
  · exact (h.dropClaim hr).setF hr _ _

theorem State.claims_abandonClaim (s : State) (c : Nat) : (s.abandonClaim c).claims = s.claims := by
  unfold State.abandonClaim
  split
  · exact s.claims_dropClaim_sample _
  · rfl

theorem State.abandonClaim_reads (s : State) {c : Nat} (hi : c % 1024 < 768) :
    (s.abandonClaim c).fld (srcReg (c % 1024)) F.ICU_SRC_in_service = 0 ∧
      (s.abandonClaim c).fld (srcReg (c % 1024)) F.ICU_SRC_pending =
        if levelSource (c % 1024) then (s.line (c % 1024)).toNat else 1 := by
  obtain ⟨hservice, -, hpending⟩ := s.dropClaim_sample_reads hi
  unfold State.abandonClaim
  split
  · next hl => exact ⟨hservice, hpending.trans (if_pos hl)⟩
  · obtain ⟨hdropped, -, -⟩ := s.dropClaim_reads (c % 1024)
    exact ⟨(State.fld_setF_other _ _ _ _ _ (by decide) (by decide)).trans hdropped, State.fld_setF_same _ _ _ _ (by decide)⟩

theorem claimAbandon_drops {s : State} {t : Fin 66} {c i : Nat} (h : s.claimsOf t = [c]) (hci : c % 1024 = i) (hi : i < 768) :
    ∃ u, exec (.claimAbandon t) s = .next u ∧ u.claimsOf t = [] ∧ u.fld (srcReg i) F.ICU_SRC_in_service = 0 ∧
      u.fld (srcReg i) F.ICU_SRC_pending = (if levelSource i then (s.line i).toNat else 1) ∧ RegsSameBut [srcReg i] s u := by
  subst hci
  have habandon : s.abandon t = (s.putClaims (tdel t s.claims)).abandonClaim c := by
    rw [s.abandon_eq, h]
    rfl
  obtain ⟨hservice, hpending⟩ := (s.putClaims (tdel t s.claims)).abandonClaim_reads hi
  rw [s.line_putClaims _ hi] at hpending
  refine ⟨_, congrArg Host.Outcome.next habandon, ?_, hservice, hpending,
    ((RegsSameBut.refl _ s).putClaims _).abandonClaim (by simp)⟩
  rw [State.claimsOf, State.claims_abandonClaim]
  exact tget_tdel_same ..

end Sys2Proof.Machine

namespace Sys2Proof.Machine

/-! Hold-off timers, alarms and firmware sources (R372, R373), and the obligation. -/

/-- What a write stores in ICU_GROUP: the hold-off value alone is writable, and a hold-off of 0 stops the timer (R372). -/
theorem regStore_group (g : Nat) (old v : BitVec 64) :
    regStore (reg1 .ICU_GROUP 0 g) old v (BitVec.allOnes 64) =
      regNorm (reg1 .ICU_GROUP 0 g) (fset old F.ICU_GROUP_holdoff (fget v F.ICU_GROUP_holdoff)) := by
  have hrw : RegName.ICU_GROUP.masks.rw = fieldMask 0 16 := by decide
  have hw1c : RegName.ICU_GROUP.masks.w1c = 0 := rfl
  refine congrArg (regNorm (reg1 .ICU_GROUP 0 g)) (BitVec.eq_of_getLsbD_eq fun k hk => ?_)
  simp only [reg1, hrw, hw1c, BitVec.and_allOnes, BitVec.getLsbD_or, BitVec.getLsbD_and,
    BitVec.getLsbD_not, getLsbD_fieldMask 0 16 k (by decide)]
  rw [fset, fget, getLsbD_setBits _ _ _ _ _ (by decide), testBit_getBits]
  by_cases hk16 : k < 16 <;> simp [F.ICU_GROUP_holdoff, hk, hk16]

theorem regNorm_group_reads (g : Nat) (w : BitVec 64) :
    fget (regNorm (reg1 .ICU_GROUP 0 g) w) F.ICU_GROUP_holdoff = fget w F.ICU_GROUP_holdoff ∧
      fget (regNorm (reg1 .ICU_GROUP 0 g) w) F.ICU_GROUP_remaining =
        if fget w F.ICU_GROUP_holdoff = 0 then 0 else fget w F.ICU_GROUP_remaining := by
  have hnorm : regNorm (reg1 .ICU_GROUP 0 g) w =
    if fget w F.ICU_GROUP_holdoff = 0 then fset w F.ICU_GROUP_remaining 0 else w := rfl
  rw [hnorm]
  split
  · exact ⟨fget_fset_other _ _ _ _ (by decide) (by decide), fget_fset_same _ _ _ (by decide)⟩
  · exact ⟨rfl, rfl⟩

theorem valid_groupReg (g : Fin 48) : (reg1 .ICU_GROUP 0 g).valid = true := by
  revert g
  decide

theorem State.hwSet_zero (s : State) (r : Reg) : s.hwSet r 0 = s := if_pos BitVec.zero_and

/-- A register write to a group whose block answers stores the hold-off value and starts nothing. -/
theorem exec_registerWrite_group {s : State} {g : Fin 48} (h : s.regStatus (reg1 .ICU_GROUP 0 g) = .ok) (v : BitVec 64) :
    exec (.registerWrite (reg1 .ICU_GROUP 0 g) v 0) s = .next { s.wr (reg1 .ICU_GROUP 0 g)
      (regStore (reg1 .ICU_GROUP 0 g) (s.rd (reg1 .ICU_GROUP 0 g)) v (BitVec.allOnes 64)) with rstatus := .ok } := by
  show Host.Outcome.next _ = _
  rw [if_neg (by simp [valid_groupReg]), h]
  dsimp only
  rw [if_neg (by decide), State.hwSet_zero]
  rfl

theorem registerWrite_setsHoldoff {s : State} {g : Fin 48} (h : s.regStatus (reg1 .ICU_GROUP 0 g) = .ok) (v : BitVec 64) :
    ∃ t, exec (.registerWrite (reg1 .ICU_GROUP 0 g) v 0) s = .next t ∧
      t.fld (reg1 .ICU_GROUP 0 g) F.ICU_GROUP_holdoff = fget v F.ICU_GROUP_holdoff ∧
      t.fld (reg1 .ICU_GROUP 0 g) F.ICU_GROUP_remaining = (if fget v F.ICU_GROUP_holdoff = 0 then 0 else
        s.fld (reg1 .ICU_GROUP 0 g) F.ICU_GROUP_remaining) := by
  have hread := (s.rd_wr_same (reg1 .ICU_GROUP 0 g) _).trans (regStore_group g (s.rd (reg1 .ICU_GROUP 0 g)) v)
  have hset : fget (fset (s.rd (reg1 .ICU_GROUP 0 g)) F.ICU_GROUP_holdoff (fget v F.ICU_GROUP_holdoff)) F.ICU_GROUP_holdoff =
      fget v F.ICU_GROUP_holdoff :=
    (fget_fset_same _ _ _ (by decide)).trans (Nat.mod_eq_of_lt (getBits_lt ..))
  obtain ⟨hholdoff, hremaining⟩ := regNorm_group_reads g
    (fset (s.rd (reg1 .ICU_GROUP 0 g)) F.ICU_GROUP_holdoff (fget v F.ICU_GROUP_holdoff))
  rw [hset, fget_fset_other _ _ _ _ (by decide) (by decide)] at hremaining
  exact ⟨_, exec_registerWrite_group h v, (congrArg (fget · F.ICU_GROUP_holdoff) hread).trans (hholdoff.trans hset),
    (congrArg (fget · F.ICU_GROUP_remaining) hread).trans hremaining⟩

theorem holdoffExpiry_stops (s : State) (g : Fin 48) :
    ∃ t, exec (.holdoffExpiry g) s = .next t ∧ t.fld (reg1 .ICU_GROUP 0 g) F.ICU_GROUP_remaining = 0 ∧
      t.fld (reg1 .ICU_GROUP 0 g) F.ICU_GROUP_holdoff = s.fld (reg1 .ICU_GROUP 0 g) F.ICU_GROUP_holdoff ∧
      RegsSameBut [reg1 .ICU_GROUP 0 g] s t ∧ t = { s with regs := t.regs } :=
  ⟨_, rfl, State.fld_setF_same _ _ _ _ (by decide), State.fld_setF_other _ _ _ _ _ (by decide) (by decide),
    (RegsSameBut.refl _ s).setF (by simp) _ _, rfl⟩

theorem alarmSource_edge (k : Fin 16) : (reservedSource (752 + k) || levelSource (752 + k)) = false := by
  revert k
  decide

theorem alarmFire_raises {s : State} {k : Fin 16} (ha : s.fld (reg1 .ICU_ALARM_CTL 0 k) F.ICU_ALARM_CTL_armed = 1)
    (ht : s.fld (reg1 .ICU_ALARM 0 k) F.ICU_ALARM_time_ns ≤ s.clk.refTime) :
    ∃ t, exec (.alarmFire k) s = .next t ∧ t.fld (reg1 .ICU_ALARM_CTL 0 k) F.ICU_ALARM_CTL_armed = 0 ∧
      t.fld (srcReg (752 + k)) F.ICU_SRC_pending = 1 ∧ t = { s with regs := t.regs } ∧
      RegsSameBut [reg1 .ICU_ALARM_CTL 0 k, srcReg (752 + k)] s t := by
  have hne : (srcReg (752 + k)).addr ≠ (reg1 .ICU_ALARM_CTL 0 k).addr := by
    rw [addr_srcReg, addr_alarmCtlReg]
    omega
  refine ⟨_, congrArg Host.Outcome.next (if_pos ⟨ha, ht⟩), ?_, State.pending_edge _ (alarmSource_edge k),
    ((OnlyRegs.refl s).setF _ _ _).edge _, ((RegsSameBut.refl _ s).setF (by simp) _ _).edge (by simp [srcReg])⟩
  exact ((RegsSameBut.refl [srcReg (752 + k)] _).edge (by simp [srcReg])).fld (by simpa using hne) _ |>.trans
    (State.fld_setF_same _ _ _ _ (by decide))

/-- The number of firmware sources of a word of ICU_FW_SET. -/
abbrev fwSources (w : Fin 2) : Nat := if w = 0 then 64 else 32

theorem fwSource_edge : ∀ w : Fin 2, ∀ b < fwSources w,
    (reservedSource (656 + 64 * w + b) || levelSource (656 + 64 * w + b)) = false := by decide

/-- The edge of one bit of ICU_FW_SET. -/
def State.fwEdge (v : BitVec 64) (w : Nat) (s : State) (b : Nat) : State :=
  if v.getLsbD b then s.edge (656 + 64 * w + b) else s

theorem State.fwSet_eq (s : State) (w : Fin 2) (v : BitVec 64) :
    s.fwSet w v = (upTo 0 (fwSources w)).foldl (State.fwEdge v w) s := by
  match w with
  | 0 | 1 => rfl

theorem RegsSameBut.fwEdge {rs : List Reg} {s t : State} (h : RegsSameBut rs s t) {w b : Nat}
    (hr : srcReg (656 + 64 * w + b) ∈ rs) (v : BitVec 64) : RegsSameBut rs s (t.fwEdge v w b) := by
  unfold State.fwEdge
  split
  · exact h.edge hr
  · exact h

theorem OnlyRegs.fwEdge {s t : State} (h : OnlyRegs s t) (v : BitVec 64) (w b : Nat) : OnlyRegs s (t.fwEdge v w b) := by
  unfold State.fwEdge
  split
  · exact h.edge _
  · exact h

/-- Another bit of ICU_FW_SET leaves a source as it is. -/
theorem State.fld_fwEdge_ne (s : State) (v : BitVec 64) (w : Nat) {b x : Nat} (h : x ≠ b) (f : Fld) :
    (s.fwEdge v w x).fld (srcReg (656 + 64 * w + b)) f = s.fld (srcReg (656 + 64 * w + b)) f := by
  refine ((RegsSameBut.refl [srcReg (656 + 64 * w + x)] s).fwEdge (by simp) v).fld ?_ f
  simp only [List.mem_singleton, forall_eq, addr_srcReg]
  omega

theorem icuFwSet_raises (s : State) (w : Fin 2) (v : BitVec 64) :
    ∃ t, exec (.icuFwSet w v) s = .next t ∧
      (∀ b, b < fwSources w → v.getLsbD b = true → t.fld (srcReg (656 + 64 * w + b)) F.ICU_SRC_pending = 1) ∧
      RegsSameBut ((upTo 0 (fwSources w)).map (fun b => srcReg (656 + 64 * w + b))) s t ∧ t = { s with regs := t.regs } := by
  refine ⟨_, congrArg Host.Outcome.next (s.fwSet_eq w v), fun b hb hv => ?_, ?_, ?_⟩
  · have hsame (u : State) : (u.fwEdge v w b).fld (srcReg (656 + 64 * w + b)) F.ICU_SRC_pending = 1 := by
      rw [State.fwEdge, if_pos hv]
      exact u.pending_edge (fwSource_edge w b hb)
    have hmem : b ∈ upTo 0 (fwSources w) := (mem_upTo ..).mpr ⟨Nat.zero_le b, by rwa [Nat.zero_add]⟩
    exact foldl_reads (g := fun u => u.fld (srcReg (656 + 64 * w + b)) F.ICU_SRC_pending) hsame
      (fun u x hx => u.fld_fwEdge_ne v w hx _) hmem s
  · exact (RegsSameBut.refl _ s).foldl _ _ fun u hu b hb => hu.fwEdge (List.mem_map_of_mem hb) v
  · exact (OnlyRegs.refl s).foldl _ _ fun u hu b _ => hu.fwEdge v w b

theorem sourceEdge_raises {s : State} {i : Fin 768} (hr : reservedSource i = false) (hl : levelSource i = false)
    (hp : s.fld (srcReg i) F.ICU_SRC_pending = 0) :
    ∃ t, exec (.sourceEdge i) s = .next t ∧ t.fld (srcReg i) F.ICU_SRC_pending = 1 ∧
      t.fld (srcReg i) F.ICU_SRC_overrun = s.fld (srcReg i) F.ICU_SRC_overrun ∧ RegsSameBut [srcReg i] s t ∧
      t = { s with regs := t.regs } :=
  ⟨_, congrArg Host.Outcome.next (State.edge_of_idle (by simp [hr, hl]) hp), State.fld_setF_same _ _ _ _ (by decide),
    State.fld_setF_other _ _ _ _ _ (by decide) (by decide), (RegsSameBut.refl _ s).setF (by simp) _ _, rfl⟩

theorem sourceEdge_overruns {s : State} {i : Fin 768} (hr : reservedSource i = false) (hl : levelSource i = false)
    (hp : s.fld (srcReg i) F.ICU_SRC_pending = 1) :
    ∃ t, exec (.sourceEdge i) s = .next t ∧ t.fld (srcReg i) F.ICU_SRC_pending = 1 ∧
      t.fld (srcReg i) F.ICU_SRC_overrun = 1 ∧ RegsSameBut [srcReg i] s t ∧ t = { s with regs := t.regs } :=
  ⟨_, congrArg Host.Outcome.next (State.edge_of_pending (by simp [hr, hl]) hp),
    (State.fld_setF_other _ _ _ _ _ (by decide) (by decide)).trans hp, State.fld_setF_same _ _ _ _ (by decide),
    (RegsSameBut.refl _ s).setF (by simp) _ _, rfl⟩

theorem levelLineChange_follows {s : State} {i : Fin 768} (hl : levelSource i = true)
    (h0 : s.fld (srcReg i) F.ICU_SRC_in_service = 0) :
    ∃ t, exec (.levelLineChange i) s = .next t ∧ t.fld (srcReg i) F.ICU_SRC_pending = (s.line i).toNat ∧
      RegsSameBut [srcReg i] s t ∧ t = { s with regs := t.regs } :=
  ⟨_, rfl, (State.pending_sample h0).trans (if_pos hl), (RegsSameBut.refl _ s).sample (by simp), (OnlyRegs.refl s).sample i⟩

/-- A claim that finds no request changes nothing but the answer. -/
theorem icuClaim_finds_none {s : State} {t : Fin 66} (h : s.request t = false) :
    ∃ u, exec (.icuClaim t) s = .next u ∧ u = { s with rdata := 0, rstatus := .ok } := by
  refine ⟨_, exec_icuClaim s t, ?_⟩
  rw [State.icuClaim_of_none (State.bestSource_of_no_request h)]
  rfl

/-- Settles O36: clause by clause, from what an edge, a look at the line, a claim and the end of a claim leave. -/
theorem interruptSourcesAreClaimedAndCompleted : Obligations.InterruptSourcesAreClaimedAndCompleted := by
  unfold Obligations.InterruptSourcesAreClaimedAndCompleted
  intro s
  refine ⟨fun i hr hl => ⟨sourceEdge_raises hr hl, sourceEdge_overruns hr hl⟩, fun i => levelLineChange_follows,
    fun i _ h => congrArg Host.Outcome.next (State.sample_of_inService h), fun i t h => ?_,
    fun g v h => registerWrite_setsHoldoff h v, fun t i h p hp hi => ?_, fun t => icuClaim_finds_none,
    fun t v => ⟨fun c cs h hc i hci hi => icuComplete_ends h hc hci hi, icuComplete_errs⟩, holdoffExpiry_stops s,
    fun k => alarmFire_raises, icuFwSet_raises s, fun t c h i hci hi => claimAbandon_drops h hci hi⟩
  · have hne := State.not_eligible h t
    exact ⟨hne, fun hbest => Bool.false_ne_true (hne.symm.trans (State.eligible_of_bestSource hbest))⟩
  · subst hp
    exact ⟨State.eligible_of_bestSource h, fun j hj => State.prioOf_le_bestSource h j.isLt hj, icuClaim_takes h hi⟩

end Sys2Proof.Machine
